-- ==== Sys2Proof/Word.lean ====
section
/-! DEFINITION. The word types of the LD6480: 32-bit register words, octets, and the plainest conversions between them
(R8: least significant octet first). -/

namespace Sys2Proof

/-- A 32-bit register or memory word. -/
abbrev Word := BitVec 32

/-- One octet. -/
abbrev Byte := BitVec 8

/-- The octet of `n` at octet place `i`, least significant first (R8). -/
def byteOf (n i : Nat) : Byte := BitVec.ofNat 8 (n >>> (8 * i))

/-- The `k` octets of `n`, least significant first (R8). -/
def bytesLE (k n : Nat) : List Byte := (List.range k).map (byteOf n)

/-- The number that octets stand for, least significant first (R8). -/
def natLE : List Byte → Nat
  | [] => 0
  | b :: bs => b.toNat + 256 * natLE bs

/-- The number that octets stand for, most significant first (the published standards of R8). -/
def natBE (bs : List Byte) : Nat := bs.foldl (fun a b => a * 256 + b.toNat) 0

/-- The `k` octets of `n`, most significant first. -/
def bytesBE (k n : Nat) : List Byte := (bytesLE k n).reverse

end Sys2Proof
end

