-- ==== Sys2Proof/Syntax.lean ====
section
/-! DEFINITION. The commands of the block: one constructor of `Instr` per row of spec/opcode_table.json, with what the
outside supplies as operands (an address and a value of a write, a core and its registers for a KS32 instruction, a
measured quantity for a physical event). -/

namespace Sys2Proof

/-- The external inputs that SUP guards (R542). -/
inductive GuardedInput where
  | gpio (n samples : Nat) | syncPps | spiHost | uartRx | nReset | bootSel | pmbus | tcxo | xtal32 | vbat
  deriving DecidableEq, Repr

/-- The three PMBus commands of SUP (R533). -/
inductive PmbusCmd where
  | voutCommand | readVout | statusWord
  deriving DecidableEq, Repr

/-- How a PMBus transaction ends (R533): acknowledged with the word read (0 for a write), not acknowledged, a wrong PEC
with SUP.PMB.PEC = 1, or SCL held low for more than 35 ms. -/
inductive PmbusResult where
  | ack (word : Nat)
  | nack
  | badPec (word : Nat)
  | sclLow
  deriving DecidableEq, Repr

/-- The power of one block of 64 ADC samples (R82): above -10 dBFS, between, or below -30 dBFS. -/
inductive AgcPower where
  | loud | middle | quiet
  deriving DecidableEq, Repr

/-- What a detector finds on one branch (R108, R115, R148): the sync-end stamp in eighths, the place, the profile, the branch,
the number of consecutive preamble symbols received, the bits received where the sync word stands (the last one in bit 0),
and the channel power of both branches averaged over the sync word, in 1/100 dBm. -/
structure Detected where
  stamp : Nat
  chain : Nat
  ch : Nat
  prof : Nat
  onB : Bool
  preamble : Nat
  bits : Nat
  powerA : Int
  powerB : Int
  deriving DecidableEq, Repr

/-- What a demodulator has measured when its decoding ends (R142, R149, R150, R573): the end-of-frame stamp of a truncated
take, the frequency estimates of the symbols received after the sync word up to the end-of-frame stamp, the mean carrier
offset in Hz, and the measured symbol rate as the fraction `rateNum / rateDen` of a symbol per second.
DESIGN CHOICE (unsafe), log entry 107. -/
structure Demodulated where
  eof : Nat
  est : List Int
  freq : Int
  rateNum : Nat
  rateDen : Nat
  deriving DecidableEq, Repr

/-- What one symbol period of a take showed (R143): the channel power on the take's branch averaged over it, in 1/100 dBm, and
the frequency estimate at its centre, relative to the tracked carrier, in Hz. -/
structure SymbolSeen where
  power : Int
  freq : Int
  deriving DecidableEq, Repr

/-- The last eight symbol periods of a take, and the end-of-frame stamp that a truncation gives it: the end of the last symbol
before them (R143). -/
structure SymbolRun where
  seen : List SymbolSeen
  eof : Nat
  deriving DecidableEq, Repr

/-- A level that an input pin has shown in `samples` samples in a row (R354). -/
structure PinLevel where
  level : Bool
  samples : Nat
  deriving DecidableEq, Repr

/-- A level that SYNC_PPS has shown in `samples` samples in a row, with the eighth of a tick `frac` of the first (R513). -/
structure PpsLevel where
  level : Bool
  samples : Nat
  frac : Nat
  deriving DecidableEq, Repr

/-- A deadline path that has not finished at its deadline instant (R30): the build of ACK request `id`, the release of the take
of demodulator `d`, the budget check of an ACK request, a schedule entry or a beacon, the dispatch of schedule entry `e`, or
the emission of the beacon of slate second `sec`. -/
inductive DeadlinePath where
  | ackBuild (id : Nat)
  | takeRelease (d : Nat)
  | budgetAck (id : Nat)
  | budgetEntry (e : Nat)
  | budgetBeacon (sec : Nat)
  | dispatch (e : Nat)
  | beacon (sec : Nat)
  deriving DecidableEq, Repr

/-- What the boot ROM meets outside the block at the step that it completes (R60): the level of BOOT_SEL[1:0], read at step
3; the flash devices found at step 4; the DRAM found at step 5, as fitted capacity in GiB, ranks and the rate trained (1, 2
or 3 as MEM.DCFG.RATE, 0 where training failed). -/
structure BootInput where
  bootSel : Nat
  flash : Bool
  dramGib : Nat
  ranks : Nat
  rate : Nat
  deriving DecidableEq, Repr

/-- The commands: those with operands, then those without, each in the order of spec/opcode_table.json. -/
inductive Instr where
  /-- REGISTER_WRITE (R4). A write to a register field that has no row of its own takes effect in its resynchronisation tick according to
  the field's access code. -/
  | registerWrite (req : Nat) (addr : Nat) (val : Word)
  /-- MAIN_SUPPLY_LOSS (R558). VDD_SYN below 1.62 V for 1 us enters BACKUP if VBAT holds, or loses the backup domain if it does not. -/
  | mainSupplyLoss (vbatOk : Bool)
  /-- CORE_RESET_CMD (R403). A keyed write of SYS.RST.KSA resets one application core, which restarts at its recorded entry point. -/
  | coreResetCmd (k : Nat)
  /-- WDOG_WRITE (R421). A keyed write of CPR.WDOG sets the period and restarts the watchdog count. -/
  | wdogWrite (val : Word)
  /-- BOOT_SEQUENCE (R60). After a reset the boot ROM runs steps 1 to 13 in order and enters the target mode. -/
  | bootSequence (x : BootInput)
  /-- MODE_REQUEST (R40). A write of SYS.MODE.REQ is checked and starts a direct, drained or two-step transition, or is refused. -/
  | modeRequest (m : Nat)
  /-- VERIFY_DONE (R62). When the last self-test ends the device moves to STANDBY or to the boot target. -/
  | verifyDone (loop : Nat) (ecc : Bool) (cue : Bool) (reel : Bool) (drifts : List Int)
  /-- ROLE_WRITE (R52). A write of SYS.ROLE changes chain roles for new detections and transmissions, or is refused if no receiving
  chain would remain. -/
  | roleWrite (val : Word)
  /-- LOCK_LOSS (R71). Synthesizer lock loss truncates takes in flight or ends a transmission CHAIN_BUSY and fires RFCn.UNLOCK. -/
  | lockLoss (n : Nat)
  /-- RFC_RELOCK (R71). The synthesizer relocks by itself and detection resumes. -/
  | rfcRelock (n : Nat)
  /-- CAL_DC (R88). A write of RFCn.CALCMD.DC starts or refuses DC-offset calibration. -/
  | calDc (n : Nat)
  /-- CAL_IQ (R88). A write of RFCn.CALCMD.IQ starts or refuses IQ calibration. -/
  | calIq (n : Nat)
  /-- CAL_FC (R88). A write of RFCn.CALCMD.FC starts or refuses filter-corner calibration. -/
  | calFc (n : Nat)
  /-- CAL_PA (R88). A write of RFCn.CALCMD.PA starts PA power calibration through loopback, or refuses it. -/
  | calPa (n : Nat)
  /-- CAL_SUSPEND_START (R89). After the chain's drain ends the chain suspends and runs the requested calibration. -/
  | calSuspendStart (n : Nat)
  /-- CAL_COMPLETE (R90). A calibration ends, setting DONE or FAIL and firing RFCn.CAL_DONE or RFCn.CAL_FAIL, and the chain resumes. -/
  | calComplete (n : Nat) (converged : Bool) (drift : Int)
  /-- AGC_GAIN_STEP (R82). A block above -10 dBFS lowers a branch's gain, or HOLD ms of quiet blocks raise it, at a block boundary. -/
  | agcGainStep (n : Nat) (branchB : Bool) (power : AgcPower)
  /-- TX_RAMP_UP_START (R80). At T0 - R the PA ramp-up and the radiated interval begin, shadowing other chains under their policies. -/
  | txRampUpStart (id : Nat)
  /-- RADIATED_INTERVAL_END (R77). At the end of the ramp-down the transmission's stamps and count are recorded, airtime is charged, its verdict is
  set and RFCn.TX_END fires. -/
  | radiatedIntervalEnd (id : Nat)
  /-- RETUNE_BACK_END (R80). The chain's retune back to RXLO ends and its receiver resumes. -/
  | retuneBackEnd (n : Nat)
  /-- APPLY_GO (R104). A write of CHZ.APPLY.GO validates a staged apply and makes it pending, or refuses it. -/
  | applyGo (val : Word)
  /-- DETECTION (R108). A profile finds its preamble and sync word above threshold on a branch and the detection is stamped. -/
  | detection (d : Detected)
  /-- PROFILE_SEARCH_RESUME (R109). The parked search for a profile on a channel resumes in the tick after its take's release. -/
  | profileSearchResume (chain : Nat) (k : Nat) (p : Nat)
  /-- NOISE_WINDOW_END (R112). At the end of each 1 ms window each branch floor of each channel is updated and occupancy is counted. -/
  | noiseWindowEnd (n : Nat) (powerA : List Int) (powerB : List Int)
  /-- PHR_RECEIVED (R138). When the PHR CRC-8 has been received the header checks run and may end the take. -/
  | phrReceived (d : Nat) (est : List Int) (eof : Nat)
  /-- DEAD_SYMBOL_TRUNCATION (R143). The eighth consecutive dead symbol period ends the take TRUNCATED. -/
  | deadSymbolTruncation (d : Nat) (run : SymbolRun) (till : Nat)
  /-- TAKE_COMPLETE (R139). All B bits of a take have been received and it is decoded and its payload CRC checked. -/
  | takeComplete (d : Nat) (eof : Nat)
  /-- DECODE_DONE (R147). The demodulator completes decoding and the CRC check and hands its result to LNK. -/
  | decodeDone (d : Nat) (r : Demodulated)
  /-- TAKE_READY (R201). At the take's ready instant LNK runs its filter stages against the record and assigns it to a receive lane. -/
  | takeReady (d : Nat)
  /-- SIBLING_RESOLUTION (R195). At the resolution instant stage 5 resolves the take against its siblings and the replay window. -/
  | siblingResolution (d : Nat)
  /-- TAKE_RELEASE (R20). At the release instant the take's record is final, the registry is updated, packets are committed to reels and
  DMD.TAKE_DONE fires. -/
  | takeRelease (d : Nat)
  /-- ACK_COMMIT (R199). At the commit point the ACK request is checked for role, conflict and budget, and latched on its chain. -/
  | ackCommit (id : Nat)
  /-- DEADLINE_MISS (R30). A deadline path not finished at its deadline instant takes its fallback and SUP raises MARGIN_LOST. -/
  | deadlineMiss (path : DeadlinePath)
  /-- SCHEDULE_ARM (R207). A write of LNK.SCMD.ARM sizes and arms a FREE schedule entry or refuses it. -/
  | scheduleArm (val : Word)
  /-- SCHEDULE_CANCEL (R206). A write of LNK.SCMD.CANCEL frees an ARMED entry or refuses a committed one. -/
  | scheduleCancel (val : Word)
  /-- SCHEDULE_DISPATCH (R208). At an entry's dispatch instant its checks run and it is committed, deferred, kept ARMED or freed with a verdict. -/
  | scheduleDispatch (e : Nat)
  /-- DISPATCH_SLACK_EXPIRY (R47). An ARMED entry that could not be dispatched by D + SLACK ends MISSED and is freed. -/
  | dispatchSlackExpiry (e : Nat)
  /-- TX_COUNTER_RESET (R210). A keyed write of LNK.TXRST.GO resets the device transmit counter in STANDBY or SERVICE, or is refused. -/
  | txCounterReset (val : Word)
  /-- ENQUEUE (R219). An ENQUEUE command appends a downlink slot to its bucket chain and increments the pending count, or is refused. -/
  | enqueue (val : Word)
  /-- WITHDRAW (R220). A WITHDRAW command removes a queued unheld slot and decrements the pending count, or is refused. -/
  | withdraw (val : Word)
  /-- BEACON_COMMIT (R232). A due beacon commits at T0 - T_setup after its checks, first in commit order. -/
  | beaconCommit (sec : Nat)
  /-- BEACON_DUE_BOUNDARY (R232). At each due slate-second boundary the beacon sequence advances and a skipped beacon is counted. -/
  | beaconDueBoundary (sec : Nat)
  /-- BUDGET_ACCOUNT_ENABLE (R252). A write setting a DCB account's EN is validated and starts the account, cold or empty. -/
  | budgetAccountEnable (dwell : Bool) (n : Nat) (val : Word)
  /-- PRESET_LOAD (R254). A write of PRESET.LOAD loads a regulatory preset into a disabled account. -/
  | presetLoad (dwell : Bool) (n : Nat) (val : Word)
  /-- SHEET_SUBMIT (R271). A call sheet submitted by the host or a core is checked for causes decided at submission and made pending. -/
  | sheetSubmit (src : Nat)
  /-- RANGE_SAVE_START (R279). A dirty range whose sheet or period delay has passed is captured and its segment written. -/
  | rangeSaveStart (r : Nat)
  /-- RANGE_SAVED (R280). A range's directory write completes, the old segment is freed and EPR.RANGE_SAVED fires. -/
  | rangeSaved (retired : List Nat)
  /-- RANGE_LOADED (R283). A range's last snapshot unit is written to DRAM and it becomes LOADED, or FAILED. -/
  | rangeLoaded (r : Nat) (good : Bool)
  /-- RANGE_RELEASE (R285). A write of EPR.LOADCMD.RELEASE makes one or all FAILED ranges LOADED and empty. -/
  | rangeRelease (val : Word)
  /-- GENERATION_SEED (R285). A keyed write of EPR.GENCMD.GO sets EPR.GEN to GENSET when the registry is empty, or is refused. -/
  | generationSeed (val : Word)
  /-- RECORD_CAPTURE (R265). A write of EPR.RECSEL captures a record into RECDATA without changing cache order. -/
  | recordCapture (addr : Nat)
  /-- CIP_SUBMIT (R311). A write of CIP.SUB submits a descriptor to the core's queue or ends FULL. -/
  | cipSubmit (core : Nat) (val : Word)
  /-- KEY_LOAD (R300). A write of CIP.KLOAD.GO submits a KW-UNWRAP of the staged blob into a HOST slot. -/
  | keyLoad (core : Nat) (val : Word)
  /-- SLOT_CLEAR (R301). A write of CIP.SLOTCMD.CLEAR clears a key slot to EMPTY and drops dependent transient slots. -/
  | slotClear (val : Word)
  /-- CIP_REQUEST_PUBLISH (R309). At its modelled finish a request's status, outputs and slot change are published and CIP.DONEq fires, or it ends
  MARGIN. -/
  | cipRequestPublish (finished : Bool)
  /-- REEL_ENABLE (R323). A write setting REL.CFGn.EN validates and starts the reel empty, or is refused. -/
  | reelEnable (n : Nat) (val : Word)
  /-- REEL_DISABLE (R324). A write clearing REL.CFGn.EN discards both banks and any open packet. -/
  | reelDisable (n : Nat) (val : Word)
  /-- ROUTE_ENABLE (R333). A write setting REL.ROUTEi.EN enables a route or is refused. -/
  | routeEnable (r : Nat) (val : Word)
  /-- PACKET_OPEN (R337). A write of REL.PCTLn.SOP opens a core packet, restarting any open one. -/
  | packetOpen (req : Nat) (n : Nat)
  /-- PACKET_CLOSE (R337). A write of REL.PCTLn.END appends the trailer and closes the open packet. -/
  | packetClose (req : Nat) (n : Nat)
  /-- REEL_PUSH (R339). A write of REL.PUSHn appends a word to the open packet, or drops it or ends the packet badly. -/
  | reelPush (req : Nat) (n : Nat) (val : Word)
  /-- REEL_POP (R340). A read of REL.POPn returns and removes the head word, or returns a stale word and sets UNDERRUN. -/
  | reelPop (req : Nat) (n : Nat)
  /-- PRODUCER_STALL (R339). An open core packet with no write for REL.PTO ticks is rewound or error-closed. -/
  | producerStall (n : Nat)
  /-- POINTER_FAULT (R344). A mismatch between duplicated reel pointers resets the reel empty and fires REL.PTR_FAULT. -/
  | pointerFault (n : Nat)
  /-- CUE_FIRE (R361). A write of CUE.FIREw emits a generation-0 cue on each written route. -/
  | cueFire (w : Nat) (val : Word)
  /-- INT_TRIGGER (R359). A cue trigger at an INT input sets its IPEND bit. -/
  | intTrigger (inp : Nat) (count : Nat)
  /-- GPO_SET (R356). A trigger at GPOn.SET drives the output latch by its mode. -/
  | gpoSet (n : Nat) (count : Nat)
  /-- GPO_CLR (R356). A trigger at GPOn.CLR drives the output latch by its mode. -/
  | gpoClr (n : Nat) (count : Nat)
  /-- GPO_PULSE_END (R356). A pulse-mode output returns inactive after PW ticks. -/
  | gpoPulseEnd (n : Nat)
  /-- GPIO_INPUT_EDGE (R354). A filtered level change matching EDGE emits GPIOn.IN. -/
  | gpioInputEdge (n : Nat) (shown : PinLevel)
  /-- GPIO_STUCK (R355). An input held beyond its stuck limit sets STUCK and emits SUP.INPUT_STUCK once. -/
  | gpioStuck (n : Nat)
  /-- SYS_WAKE_TRIGGER (R359). A trigger at SYS.WAKE in HIBERNATE starts the wake sequence. -/
  | sysWakeTrigger (sources : Nat) (count : Nat) (gen : Nat)
  /-- SLCAP_TRIGGER (R381). A trigger at SYS.SLCAP captures the cue's emission tick into SYS.SLCAP. -/
  | slcapTrigger (em : Nat) (count : Nat)
  /-- ETH_FLUSH (R502). A trigger at ETHk.FLUSH closes every open batch of the port. -/
  | ethFlush (k : Nat) (count : Nat)
  /-- TMR_COUNT_TRIGGER (R372). A trigger at TMRn.COUNT steps the timer by the cue's count. -/
  | tmrCountTrigger (n : Nat) (count : Nat) (gen : Nat)
  /-- TMR_CAPT_TRIGGER (R376). A trigger at TMRn.CAPT captures the count and the emission tick. -/
  | tmrCaptTrigger (n : Nat) (count : Nat) (gen : Nat) (em : Nat)
  /-- TMR_CAPTURE_CMD (R376). A write of TMRn.CMD.CAPT captures the count and the tick. -/
  | tmrCaptureCmd (n : Nat)
  /-- GROUP_START (R379). A group start by TMR.GCMD.GO or a TMR.GSTART trigger loads and restarts the selected timers. -/
  | groupStart (count : Nat)
  /-- TMR_MATCH (R369). A step into a compare value sets MATCHk and emits the match cue. -/
  | tmrMatch (n : Nat) (k : Nat)
  /-- TMR_OVERFLOW (R364). A step at TOP wraps the counter to 0, sets OVF and emits the overflow cue, stopping a one-shot timer. -/
  | tmrOverflow (n : Nat)
  /-- TMR_CTL_WRITE (R366). A write of TMRn.CTL sets the source and run state and sets the start tick. -/
  | tmrCtlWrite (n : Nat) (val : Word)
  /-- TMR_CNT_WRITE (R368). A write of TMRn.CNT loads the count and suppresses that tick's slate step. -/
  | tmrCntWrite (n : Nat) (val : Word)
  /-- TMR_CMP_WRITE (R370). A write of TMRn.CMPk sets a compare value before the tick's step. -/
  | tmrCmpWrite (n : Nat) (k : Nat) (val : Word)
  /-- TMR_TOP_WRITE (R371). A write of TMRn.TOP sets the top value, forcing a wrap if below the count. -/
  | tmrTopWrite (n : Nat) (val : Word)
  /-- INTERRUPT_ENTRY (R411). A cue or message interrupt with IE = 1 saves state to the stack and enters its vector. -/
  | interruptEntry (core : Nat)
  /-- MSG_SEND (R418). A store to CPR.MSGSENDd sends a two-word message into the receiver's channel or stalls. -/
  | msgSend (core : Nat)
  /-- MSG_SEND_STALL_END (R418). A stalled send completes when the receiver frees room in the channel. -/
  | msgSendStallEnd (core : Nat)
  /-- MSG_RECV (R419). A load of CPR.MSGRECVs removes the oldest message of a core channel or stalls. -/
  | msgRecv (core : Nat)
  /-- MSG_RECV_CIPHER (R419). A load of CPR.MSGRECVC removes the oldest cipher-channel message or stalls. -/
  | msgRecvCipher (core : Nat)
  /-- MSG_RECV_ANY (R419). A load of CPR.MSGANY removes the earliest-sent message of any core channel or stalls. -/
  | msgRecvAny (core : Nat)
  /-- MSG_RECV_STALL_END (R419). A stalled receive completes when a message becomes visible. -/
  | msgRecvStallEnd (core : Nat)
  /-- DWIN_WRITE (R417). A core's write of MEM.DWIN changes only its own window bank field. -/
  | dwinWrite (core : Nat) (val : Word)
  /-- WAIT_COMPLETE (R432). A stalled WAIT completes when the cue line asserts or an enabled channel becomes non-empty. -/
  | waitComplete (core : Nat)
  /-- ADD (R437). ADD writes rs1 + rs2 and the arithmetic flags. -/
  | add (core : Nat)
  /-- SUB (R437). SUB writes rs1 - rs2 and the arithmetic flags. -/
  | sub (core : Nat)
  /-- NEG (R437). NEG writes 0 - rs1 and the arithmetic flags. -/
  | neg (core : Nat)
  /-- CMP (R437). CMP sets the arithmetic flags from rs1 - rs2. -/
  | cmp (core : Nat)
  /-- AND (R437). AND writes the bitwise AND and N and Z. -/
  | and (core : Nat)
  /-- OR (R437). OR writes the bitwise OR and N and Z. -/
  | or (core : Nat)
  /-- XOR (R437). XOR writes the bitwise XOR and N and Z. -/
  | xor (core : Nat)
  /-- NOT (R437). NOT writes the bitwise complement and N and Z. -/
  | not (core : Nat)
  /-- MOV (R437). MOV copies rs1 to rd. -/
  | mov (core : Nat)
  /-- LSL (R439). LSL shifts left by a register count. -/
  | lsl (core : Nat)
  /-- LSR (R439). LSR shifts right logically by a register count. -/
  | lsr (core : Nat)
  /-- ASR (R439). ASR shifts right arithmetically by a register count. -/
  | asr (core : Nat)
  /-- ROR (R439). ROR rotates right by a register count. -/
  | ror (core : Nat)
  /-- LSLI (R439). LSLI shifts left by an immediate count. -/
  | lsli (core : Nat)
  /-- LSRI (R439). LSRI shifts right logically by an immediate count. -/
  | lsri (core : Nat)
  /-- ASRI (R439). ASRI shifts right arithmetically by an immediate count. -/
  | asri (core : Nat)
  /-- RORI (R439). RORI rotates right by an immediate count. -/
  | rori (core : Nat)
  /-- CLZ (R437). CLZ writes the number of leading zero bits. -/
  | clz (core : Nat)
  /-- SEXTB (R437). SEXTB sign-extends bits 7:0. -/
  | sextb (core : Nat)
  /-- SEXTH (R437). SEXTH sign-extends bits 15:0. -/
  | sexth (core : Nat)
  /-- ZEXTB (R437). ZEXTB zero-extends bits 7:0. -/
  | zextb (core : Nat)
  /-- ZEXTH (R437). ZEXTH zero-extends bits 15:0. -/
  | zexth (core : Nat)
  /-- ADDI (R437). ADDI adds a signed immediate with arithmetic flags. -/
  | addi (core : Nat)
  /-- ANDI (R437). ANDI ANDs a zero-extended immediate. -/
  | andi (core : Nat)
  /-- ORI (R437). ORI ORs a zero-extended immediate. -/
  | ori (core : Nat)
  /-- XORI (R437). XORI XORs a zero-extended immediate. -/
  | xori (core : Nat)
  /-- CMPI (R437). CMPI sets the arithmetic flags from rs1 minus an immediate. -/
  | cmpi (core : Nat)
  /-- LIH (R437). LIH loads an immediate into the upper halfword and clears the lower. -/
  | lih (core : Nat)
  /-- LIL (R437). LIL loads an immediate into the lower halfword. -/
  | lil (core : Nat)
  /-- LD (R433). LD loads zero-extended with a delay slot and the addressing mode's update. -/
  | ld (core : Nat)
  /-- LDS (R433). LDS loads sign-extended with a delay slot. -/
  | lds (core : Nat)
  /-- ST (R433). ST stores the low SZ octets of rd with the addressing mode's update. -/
  | st (core : Nat)
  /-- BCC (R429). Bcc branches by a displacement when its condition holds. -/
  | bcc (core : Nat)
  /-- CALL (R430). CALL pushes the return address and jumps by a displacement. -/
  | call (core : Nat)
  /-- JMP (R430). JMP jumps by a displacement. -/
  | jmp (core : Nat)
  /-- JR (R431). JR jumps to the address in rs1. -/
  | jr (core : Nat)
  /-- CALLR (R431). CALLR pushes the return address and jumps to rs1. -/
  | callr (core : Nat)
  /-- RET (R409). RET pops PC from the stack. -/
  | ret (core : Nat)
  /-- RETI (R411). RETI restores PC, STATUS and a pending load from the stack. -/
  | reti (core : Nat)
  /-- TRAP (R431). TRAP takes vector 4. -/
  | trap (core : Nat)
  /-- FEAT (R415). FEAT reads a feature word of the executing core. -/
  | feat (core : Nat)
  /-- WAIT (R432). WAIT completes at once or stalls until a cue or message is pending. -/
  | wait (core : Nat)
  /-- MUL (R440). MUL writes the low 32 bits of the product. -/
  | mul (core : Nat)
  /-- MULHS (R440). MULHS writes the high half of the signed product. -/
  | mulhs (core : Nat)
  /-- MULHU (R440). MULHU writes the high half of the unsigned product. -/
  | mulhu (core : Nat)
  /-- DIVS (R441). DIVS writes the signed quotient and remainder, with the divide trap on zero if enabled. -/
  | divs (core : Nat)
  /-- DIVU (R441). DIVU writes the unsigned quotient and remainder, with the divide trap on zero if enabled. -/
  | divu (core : Nat)
  /-- ADDSAT (R442). ADDSAT writes the saturated 32-bit sum. -/
  | addsat (core : Nat)
  /-- SUBSAT (R442). SUBSAT writes the saturated 32-bit difference. -/
  | subsat (core : Nat)
  /-- NEGSAT (R442). NEGSAT writes the saturated negation. -/
  | negsat (core : Nat)
  /-- ADDSAT_H (R442). ADDSAT.H adds saturating halfword lanes. -/
  | addsatH (core : Nat)
  /-- SUBSAT_H (R442). SUBSAT.H subtracts saturating halfword lanes. -/
  | subsatH (core : Nat)
  /-- CLAMP_H (R442). CLAMP.H clamps to S16 and sign-extends. -/
  | clampH (core : Nat)
  /-- MAC_L (R442). MAC.L accumulates the product of the low halfwords. -/
  | macL (core : Nat)
  /-- MAC_U (R442). MAC.U accumulates the product of the high halfwords. -/
  | macU (core : Nat)
  /-- MSB_L (R442). MSB.L subtracts the product of the low halfwords. -/
  | msbL (core : Nat)
  /-- MSB_U (R442). MSB.U subtracts the product of the high halfwords. -/
  | msbU (core : Nat)
  /-- MACF (R442). MACF accumulates a fractional S32 product. -/
  | macf (core : Nat)
  /-- AZERO (R442). AZERO clears an accumulator. -/
  | azero (core : Nat)
  /-- ALOAD (R442). ALOAD loads an accumulator from a register. -/
  | aload (core : Nat)
  /-- ARND (R442). ARND writes the rounded, shifted, saturated accumulator. -/
  | arnd (core : Nat)
  /-- AGETL (R442). AGETL reads accumulator bits 31:0. -/
  | agetl (core : Nat)
  /-- AGETH (R442). AGETH reads accumulator bits 39:32 sign-extended. -/
  | ageth (core : Nat)
  /-- APUT (R442). APUT writes an accumulator from two registers. -/
  | aput (core : Nat)
  /-- C_MOV (R443). C.MOV executes as MOV. -/
  | cMov (core : Nat)
  /-- C_ADD (R443). C.ADD executes as ADD r1, r1, r2. -/
  | cAdd (core : Nat)
  /-- C_SUB (R443). C.SUB executes as SUB r1, r1, r2. -/
  | cSub (core : Nat)
  /-- C_ADDI (R443). C.ADDI executes as ADDI with a 5-bit immediate. -/
  | cAddi (core : Nat)
  /-- C_CMP (R443). C.CMP executes as CMP. -/
  | cCmp (core : Nat)
  /-- C_LDWSP (R443). C.LDWSP loads a word from sp plus an offset. -/
  | cLdwsp (core : Nat)
  /-- C_STWSP (R443). C.STWSP stores a word at sp plus an offset. -/
  | cStwsp (core : Nat)
  /-- C_LDW (R443). C.LDW loads a word from [r2]. -/
  | cLdw (core : Nat)
  /-- C_STW (R443). C.STW stores a word at [r2]. -/
  | cStw (core : Nat)
  /-- C_LSLI (R443). C.LSLI executes as LSLI r1, r1. -/
  | cLsli (core : Nat)
  /-- C_LSRI (R443). C.LSRI executes as LSRI r1, r1. -/
  | cLsri (core : Nat)
  /-- C_ASRI (R443). C.ASRI executes as ASRI r1, r1. -/
  | cAsri (core : Nat)
  /-- C_AND (R443). C.AND executes as AND r1, r1, r2. -/
  | cAnd (core : Nat)
  /-- C_OR (R443). C.OR executes as OR r1, r1, r2. -/
  | cOr (core : Nat)
  /-- C_B (R443). C.B branches always by a 10-bit displacement. -/
  | cB (core : Nat)
  /-- C_BEQ (R443). C.BEQ branches on EQ. -/
  | cBeq (core : Nat)
  /-- C_BNE (R443). C.BNE branches on NE. -/
  | cBne (core : Nat)
  /-- C_RET (R443). C.RET executes as RET. -/
  | cRet (core : Nat)
  /-- C_JR (R443). C.JR executes as JR. -/
  | cJr (core : Nat)
  /-- C_CALLR (R443). C.CALLR executes as CALLR. -/
  | cCallr (core : Nat)
  /-- SCRUBBER_VISIT (R458). The scrubber visits one ECC word, repairing, counting or reporting it. -/
  | scrubberVisit (m : Nat)
  /-- LEAKY_BUCKET_LEAK (R456). At each leak interval a memory's bucket level falls by 1 and re-arms at 0. -/
  | leakyBucketLeak (m : Nat)
  /-- NOTIFICATION_SAMPLE (R486). At a periodic or on-change sample tick a subscription's value is sampled and a notification is tagged. -/
  | notificationSample (k : Nat)
  /-- SUBSCRIPTION_LAPSE (R486). A subscription lapses without notice at the end of its lease. -/
  | subscriptionLapse (k : Nat)
  /-- PSTORE_SAVE_COMPLETE (R473). The new store copy's CRC is written and it becomes current, or the save fails. -/
  | pstoreSaveComplete (good : Bool)
  /-- FW_ACTION_DONE (R493). A write of ODX.FWDONE completes a pending firmware ACTION. -/
  | fwActionDone (val : Word)
  /-- ETH_FRAME_RECEIVE (R497). A received Ethernet frame is classified and answered, passed to ODX or placed in the receive ring. -/
  | ethFrameReceive (k : Nat) (frame : List Nat) (fcs : Bool) (stamp : Nat)
  /-- ETH_FRAME_TRANSMIT (R499). A frame from the transmit ring is sent and its transmit stamp written. -/
  | ethFrameTransmit (k : Nat) (stamp : Nat)
  /-- ETH_LINK_CHANGE (R496). A port's link comes up or goes down. -/
  | ethLinkChange (k : Nat) (up : Bool) (speed : Nat) (halfOnly : Bool)
  /-- BATCH_AGE_EXPIRY (R502). An open batch closes BTO ms after it opened. -/
  | batchAgeExpiry (k : Nat) (n : Nat)
  /-- BATCH_SEND (R503). A closed batch is tagged if needed and sent, or discarded. -/
  | batchSend (k : Nat)
  /-- SPH_WRITE_FRAME (R505). A WRITE-FRAME transaction delivers one ODP message to ODX at nCS rising. -/
  | sphWriteFrame (len : Nat) (octets : List Nat)
  /-- SPH_READ_FRAME (R505). A READ-FRAME transaction returns and removes the oldest waiting response. -/
  | sphReadFrame (clocked : Nat)
  /-- SPH_READ_REEL (R504). A READ-REEL transaction returns and removes whole packets of a reel. -/
  | sphReadReel (n : Nat) (maxw : Nat) (clocked : Nat)
  /-- SPH_UNKNOWN_COMMAND (R504). A transaction with an unknown command is ignored and sets FRAMEERR. -/
  | sphUnknownCommand (clocked : Nat)
  /-- UART_RECEIVE (R508). A received octet enters the receive FIFO or is lost. -/
  | uartReceive (octet : Nat) (stop : Bool)
  /-- UART_TX_WRITE (R508). A write of UAT.DATA pushes an octet into the transmit FIFO. -/
  | uartTxWrite (val : Word)
  /-- PPS_EDGE (R513). A filtered SYNC_PPS edge is accepted as a sample or rejected on spacing. -/
  | ppsEdge (shown : PpsLevel)
  /-- PTP_OFFSET_WRITE (R510). A write of SYN.PTPOFF is a sample when SRC = 2. -/
  | ptpOffsetWrite (val : Word)
  /-- SYN_SECOND (R514). At every slate-second boundary SYN.SECOND fires and PPS_OUT starts. -/
  | synSecond (sec : Nat)
  /-- STAGE_BEGIN (R522). BEGIN checks an image header and starts a staging session. -/
  | stageBegin (src : Nat) (hdr : List Nat)
  /-- STAGE_CHUNK (R522). CHUNK hashes and programs the next body octets. -/
  | stageChunk (src : Nat) (ofs : Nat) (data : List Nat)
  /-- STAGE_FINISH (R522). FINISH starts verification of the staged body. -/
  | stageFinish (src : Nat)
  /-- STAGE_ABORT (R522). ABORT ends the session. -/
  | stageAbort (src : Nat)
  /-- UNSTAGE (R522). UNSTAGE clears a component's STAGED bit. -/
  | unstage (c : Nat)
  /-- REVOKE_KEY (R519). The revoke-key ACTION revokes a signing key by fuse, or is refused. -/
  | revokeKey (key : Nat)
  /-- SENTINEL_WINDOW_END (R530). At the end of each 1 ms window sentinel margins are computed and plan triggers tested. -/
  | sentinelWindowEnd (counts : List Nat) (temp : Nat)
  /-- CHAIN_POWER_UP_COMPLETE (R70). A chain powered up from OFF finishes its 9,600-tick power-up with DC calibration and starts receiving. -/
  | chainPowerUpComplete (n : Nat)
  /-- SYNTHESIZER_RETUNE_COMPLETE (R69). A chain retuned to a new RXLO by an apply regains lock after the retune time and may detect again. -/
  | synthesizerRetuneComplete (n : Nat)
  /-- FEM_PIN_CHANGE (R80). At T0 - R - LEAD and T1 + R + LAG the FEMn_PA, FEMn_TR and FEMn_LNA pins change state. -/
  | femPinChange (n : Nat)
  /-- LATE_TAKE_COMMIT (R30). A take whose release missed its deadline is committed, with its fallback verdict, at the first tick at which its
  work is complete. -/
  | lateTakeCommit (d : Nat)
  /-- INPUT_GLITCH (R542). A pulse on a guarded input that is shorter than its filter is discarded and counted as a glitch. -/
  | inputGlitch (input : GuardedInput)
  /-- STAGE_FLASH_COMPLETE (R522). A rough-cut erase or chunk program on QSPI0 completes, freeing the chunk buffer, or fails with cause 9. -/
  | stageFlashComplete (good : Bool)
  /-- PMBUS_TRANSACTION_END (R533). A PMBus VOUT_COMMAND or READ_VOUT transaction is acknowledged, confirmed, retried or fails, which can end a plan
  run with PLANFAIL. -/
  | pmbusTransactionEnd (cmd : PmbusCmd) (result : PmbusResult)
  /-- POWER_ON_RESET (R56). Power-on with the backup domain starting cold resets every domain, clears the calendar and starts the boot
  sequence. -/
  | powerOnReset
  /-- PIN_RESET (R555). A filtered low level on nRESET causes a PIN reset of the always-on, main and RF domains. -/
  | pinReset
  /-- BROWN_OUT_RESET (R558). VDD_CORE below 500 mV for 1 us while the main supplies are present causes a BOD reset. -/
  | brownOutReset
  /-- MAIN_SUPPLY_RETURN (R37). The main supplies return during BACKUP and the device leaves BACKUP with reset cause BKUP. -/
  | mainSupplyReturn
  /-- SYSTEM_RESET_CMD (R56). A keyed write of SYS.RST.SYS resets the always-on, main and RF domains. -/
  | systemResetCmd
  /-- MAIN_RESET_CMD (R57). A keyed write of SYS.RST.MAIN writes back the hot cache, puts DRAM in self-refresh and resets the main and RF
  domains, resuming at boot step 9. -/
  | mainResetCmd
  /-- WATCHDOG_EXPIRY (R421). PERIOD ms pass without a keyed write of CPR.WDOG and a WDOG reset follows. -/
  | watchdogExpiry
  /-- DRAIN_END (R46). A drain ends when every draining take is released and its ACK ended, or at the drain limit, which truncates the
  remaining takes; the next step follows. -/
  | drainEnd
  /-- TRANSITION_SECOND_STEP (R572). The step from STANDBY into the target mode of an S or SD transition completes in the tick after the first step. -/
  | transitionSecondStep
  /-- WAKE_COMPLETE (R54). When wake steps 1 to 4 have ended the device enters STANDBY and goes on to WAKEMODE. -/
  | wakeComplete
  /-- APPLY_INSTANT (R105). At the apply instant the apply is revalidated and the active copy changes, the epoch increases and CHZ.APPLIED
  fires. -/
  | applyInstant
  /-- DEMOD_ALLOCATION (R117). 64 ticks after its stamp a detection receives the lowest free demodulator and becomes a take, or is lost. -/
  | demodAllocation
  /-- SURVEY_INTERVAL_END (R114). At the end of each survey interval the occupancy count is stored and CHZ.SURV_DONE fires. -/
  | surveyIntervalEnd
  /-- BEACON_MISS_DECISION (R236). No hit by the decision instant counts a miss, widens the window and at the third miss enters HOLD. -/
  | beaconMissDecision
  /-- HOLDOVER_EXPIRED (R237). HOLD.SECS after holdover start, EXPIRED is set and later ORIGIN 0 entries end HOLDOVER_EXPIRED. -/
  | holdoverExpired
  /-- SCAN_STEP (R236). In ACQUIRE or HOLD the cue LNK.SCAN_STEP fires every SCAN.DWELL seconds. -/
  | scanStep
  /-- SHEET_APPLY (R274). At its apply tick a verified call sheet is checked and applied whole, or refused. -/
  | sheetApply
  /-- SAVE_ALL (R279). A write of EPR.SNAPCMD.ALL saves every present range. -/
  | saveAll
  /-- CIP_REQUEST_START (R319). At its modelled start a request on engine 3 is checked in order and its operation begins. -/
  | cipRequestStart
  /-- SLATE_CAPTURE_CMD (R381). A write of SYS.SLCMD.CAPT captures the slate into SYS.SLCAP. -/
  | slateCaptureCmd
  /-- CAL_FREEZE (R388). A read of CAL.SUBSEC outside a freeze copies the calendar into shadows and starts a freeze. -/
  | calFreeze
  /-- CAL_YEAR_READ (R388). A read of CAL.YEAR returns its shadow and ends the freeze. -/
  | calYearRead
  /-- FREEZE_TIMEOUT (R389). A freeze not ended within 64,000 ticks ends and sets FREEZE_TO. -/
  | freezeTimeout
  /-- CAL_COMMIT (R390). A write of CAL.COMMIT.GO applies the staged date and time at its crystal edge, or is refused. -/
  | calCommit
  /-- CAL_CAPTURE (R399). A write of CAL.CAPCMD.CAPT captures the calendar count and its slate tick. -/
  | calCapture
  /-- CAL_WAKE (R396). A step into a qualifying sub-second or second fires the periodic wake. -/
  | calWake
  /-- CAL_ALARM (R397). A step into a second matching every unmasked alarm field fires the alarm. -/
  | calAlarm
  /-- CALENDAR_WRAP (R385). The step after 2399-12-31 23:59:59 gives 2000-01-01 and sets WRAP. -/
  | calendarWrap
  /-- OSC_STOP_DETECT (R392). No crystal edge for 1 ms stops the calendar and sets OSF. -/
  | oscStopDetect
  /-- VBAT_LOW (R393). VBAT below 1.75 V sets VBATLOW and LBV. -/
  | vbatLow
  /-- TEST_RAW_WRITE (R461). MEM.TCMD.RAWWR writes data, check and valid bits as given. -/
  | testRawWrite
  /-- TEST_RAW_READ (R461). MEM.TCMD.RAWRD loads a word's raw data, check and valid bits. -/
  | testRawRead
  /-- TEST_DECODED_READ (R461). MEM.TCMD.DECRD reads a word through the decoder and reports its class and syndrome. -/
  | testDecodedRead
  /-- ODP_READ (R482). A verified READ at its effect tick returns an entry's value or descriptor. -/
  | odpRead
  /-- ODP_WRITE (R483). A verified WRITE at its effect tick checks and writes an entry. -/
  | odpWrite
  /-- ODP_READ_BLOCK (R484). A verified READ-BLOCK captures sub-entries or returns a segment of the capture. -/
  | odpReadBlock
  /-- ODP_WRITE_BLOCK (R485). A verified WRITE-BLOCK segment extends the write buffer and the LAST segment writes the entry. -/
  | odpWriteBlock
  /-- ODP_SUBSCRIBE (R486). A verified SUBSCRIBE creates, renews or cancels a subscription. -/
  | odpSubscribe
  /-- ODP_ACTION (R487). A verified ACTION invokes a hardware or firmware action. -/
  | odpAction
  /-- ODP_RESPONSE_SEND (R478). When a response or notification tag is ready the message is sent on its port. -/
  | odpResponseSend
  /-- PSTORE_SAVE_DELAY (R473). DELAY ms after the last persistent write a save of the persistent store starts. -/
  | pstoreSaveDelay
  /-- PSTORE_SAVE_CMD (R473). A write of ODX.PSTORE.SAVE starts a save. -/
  | pstoreSaveCmd
  /-- FW_ACTION_TIMEOUT (R493). FWTO ms pass with a firmware ACTION pending and it ends FW_TIMEOUT. -/
  | fwActionTimeout
  /-- SPH_STATUS (R504). A STATUS transaction returns SPH.STAT. -/
  | sphStatus
  /-- SPH_ABANDONED (R506). No SCK edge for SPH.TOUT with nCS low abandons the transaction. -/
  | sphAbandoned
  /-- UART_BREAK (R508). A line held low for 20 bit times sets BREAK. -/
  | uartBreak
  /-- UART_RX_POP (R508). A read of UAT.DATA pops an octet from the receive FIFO. -/
  | uartRxPop
  /-- PPS_STUCK (R513). SYNC_PPS held active beyond PPSCFG.STUCK raises INPUT_STUCK once. -/
  | ppsStuck
  /-- SYN_HOLD_TIMEOUT (R511). HOLDTO seconds without a sample end LOCKED and enter holdover. -/
  | synHoldTimeout
  /-- SLATE_STEP (R512). With AUTOSTEP in STANDBY or SERVICE a large negative sample steps the slate forward in the next tick. -/
  | slateStep
  /-- PPS_OUT_END (R514). PPS_OUT becomes inactive W ticks after the boundary. -/
  | ppsOutEnd
  /-- STAGE_VERIFY_DONE (R522). The digest and section check ends and the session becomes DONE with STAGED set, or FAILED. -/
  | stageVerifyDone
  /-- STAGE_STALL (R523). No accepted command for UPD.TOUT while RECEIVING fails the session. -/
  | stageStall
  /-- PLAN_CMD (R531). A write of SUP.PLANCMD.GO requests a margin plan run. -/
  | planCmd
  /-- PLAN_RUN_START (R532). A requested plan run starts from the last commanded voltage. -/
  | planRunStart
  /-- PLAN_STEP_MEASURED (R532). After a voltage step settles, the next whole window's margin decides another step or the end of the run. -/
  | planStepMeasured
  /-- PMBUS_ALERT (R533). ALERT held low makes SUP read STATUS_WORD and count the event. -/
  | pmbusAlert
  /-- TCXO_LOSS (R541). TCXO loss powers the RF domain down, holds the slate and raises MARGIN_LOST. -/
  | tcxoLoss
  /-- TCXO_RECOVERY (R541). TCXO_IN in range for 10 ms causes a MAIN reset. -/
  | tcxoRecovery
  /-- TCXO_HOUR_END (R538). At the end of a locked slate hour the mean TCXO error and ageing are stored. -/
  | tcxoHourEnd
  /-- XTAL_WINDOW_END (R539). At the end of a locked trim window the crystal error and suggested trim are stored. -/
  | xtalWindowEnd
  /-- THERMAL_SHUTDOWN (R548). A junction at 125 C powers the RF domain down and truncates takes. -/
  | thermalShutdown
  /-- THERMAL_RECOVERY (R548). A junction below 115 C powers the chains up again. -/
  | thermalRecovery
  /-- CLEAR_HIGH_WATER (R164). A write of DMD.CTL.CLRHW sets HIWATER to the present INUSE. -/
  | clearHighWater
  /-- TRIM_WINDOW_START (R395). At each 1,024 s calendar window start, a written trim takes effect and CAL.TRIM.ACTIVE changes. -/
  | trimWindowStart
  /-- OSCILLATOR_RESTART (R392). Crystal edges return after a stop and the calendar resumes counting from where it stopped, with OSF still set. -/
  | oscillatorRestart
  /-- VBAT_RECOVERY (R393). VBAT rises back above 1.75 V and VBATLOW clears, so LBV becomes clearable. -/
  | vbatRecovery
  /-- BACKUP_DOMAIN_LOSS (R394). VBAT falls below 1.60 V while the main supplies are absent and the backup domain is lost, so the next start is a
  POR. -/
  | backupDomainLoss
  /-- UART_TRANSMIT (R508). The UART finishes sending an octet from its transmit FIFO and TXLVL falls. -/
  | uartTransmit
  deriving DecidableEq, Repr

end Sys2Proof
end

