-- ==== Sys2Proof/Decode.lean ====
section
/-! DEFINITION. The command that a word spells by the opcode table: no row of the table gives bits, so no word spells a
command. (The instruction encodings of the Keasuric cores, which the block itself fetches, are in Machine/Ks32Decode.lean.) -/

namespace Sys2Proof

/-- The command whose bits are `w`: none.
DESIGN CHOICE (safe), log entry 2. -/
def decodeTableWord (_nbits _w : Nat) : Option Instr := none

end Sys2Proof
end

