-- ==== Sys2Proof/Machine/Bits.lean ====
section
/-! DEFINITION. Bit fields of a word, sign extension, rounding, and the sparse maps that hold every indexed collection of
the state (a list of index and value pairs, indices strictly rising). -/

namespace Sys2Proof.Machine

/-- Field [hi:lo] of a natural number. -/
def nfld (n hi lo : Nat) : Nat := (n >>> lo) % 2 ^ (hi + 1 - lo)

/-- Field [hi:lo] of a word (inclusive bit range, bit 0 least significant). -/
def fld (w : Word) (hi lo : Nat) : Nat := nfld w.toNat hi lo

/-- `w` with field [hi:lo] replaced by the low bits of `v`. -/
def setFld (w : Word) (hi lo v : Nat) : Word :=
  BitVec.ofNat 32 (w.toNat - (fld w hi lo <<< lo) + ((v % 2 ^ (hi + 1 - lo)) <<< lo))

/-- Bit `b` of a word. -/
def bit (w : Word) (b : Nat) : Bool := w.toNat.testBit b

/-- A word from a natural number, modulo 2^32. -/
def word (n : Nat) : Word := BitVec.ofNat 32 n

/-- A Boolean as 0 or 1. -/
def b2n (b : Bool) : Nat := if b then 1 else 0

/-- The signed value of the low `k` bits of `n`. -/
def sext (k n : Nat) : Int :=
  let m := n % 2 ^ k
  if m < 2 ^ (k - 1) then (m : Int) else (m : Int) - (2 ^ k : Nat)

/-- The low `k` bits of a signed value, in two's complement. -/
def toU (k : Nat) (i : Int) : Nat := (i % (2 ^ k : Nat)).toNat

/-- Division rounded up; 0 when the divisor is 0. -/
def cdiv (a b : Nat) : Nat := if b = 0 then 0 else (a + b - 1) / b

/-- Signed division rounded to nearest, halves away from zero; 0 when the divisor is 0.
DEDUCED (safe), log entry 42. -/
def rdiv (a b : Int) : Int :=
  if b = 0 then 0
  else
    let n := a.natAbs; let d := b.natAbs
    let q := (2 * n + d) / (2 * d)
    if (0 ≤ a) = (0 ≤ b) then (q : Int) else -(q : Int)

/-- A value limited to [lo, hi]. -/
def clampI (lo hi v : Int) : Int := if v < lo then lo else if hi < v then hi else v

/-- A value limited to [lo, hi]. -/
def clampN (lo hi v : Nat) : Nat := if v < lo then lo else if hi < v then hi else v

/-- The largest of a list of numbers, 0 for none. -/
def maxL (l : List Nat) : Nat := l.foldl max 0

/-- A sparse map: index and value pairs, indices strictly rising. -/
abbrev SMap (α : Type) := List (Nat × α)

/-- The entry at `k`. -/
def SMap.find {α : Type} : SMap α → Nat → Option α
  | [], _ => none
  | (i, v) :: m, k => if i = k then some v else SMap.find m k

/-- The entry at `k`, or `d`. -/
def SMap.get {α : Type} (m : SMap α) (k : Nat) (d : α) : α := (m.find k).getD d

/-- The map with `v` at `k`. -/
def SMap.put {α : Type} : SMap α → Nat → α → SMap α
  | [], k, v => [(k, v)]
  | (i, w) :: m, k, v =>
    if k < i then (k, v) :: (i, w) :: m
    else if i = k then (k, v) :: m
    else (i, w) :: SMap.put m k v

/-- The map with nothing at `k`. -/
def SMap.del {α : Type} : SMap α → Nat → SMap α
  | [], _ => []
  | (i, w) :: m, k => if i = k then SMap.del m k else (i, w) :: SMap.del m k

/-- The map with `v` at `k`, where `dflt` is what an unlisted index stands for: storing it removes the entry. -/
def SMap.store {α : Type} [DecidableEq α] (dflt : α) (m : SMap α) (k : Nat) (v : α) : SMap α :=
  if v = dflt then m.del k else m.put k v

/-- Indices strictly rising, all above `lo`. -/
def SMap.risingFrom {α : Type} : Nat → SMap α → Bool
  | _, [] => true
  | lo, (i, _) :: m => decide (lo ≤ i) && SMap.risingFrom (i + 1) m

/-- The canonical form of a map: indices strictly rising, and no entry equal to what an unlisted index stands for. -/
def SMap.wf {α : Type} [DecidableEq α] (dflt : Nat → α) (m : SMap α) : Bool :=
  SMap.risingFrom 0 m && m.all (fun e => decide (e.2 ≠ dflt e.1))

/-- The indices in use. -/
def SMap.keys {α : Type} (m : SMap α) : List Nat := m.map Prod.fst

/-- The lowest of the first `n` indices for which `p` holds. -/
def lowest (n : Nat) (p : Nat → Bool) : Option Nat := (List.range n).find? p

/-- The list with element `i` replaced (unchanged when there is none). -/
def listSet {α : Type} (l : List α) (i : Nat) (v : α) : List α := l.set i v

/-- Insertion of an element into a list ordered by `le`, after the elements equal to it. -/
def insertBy {α : Type} (le : α → α → Bool) (x : α) : List α → List α
  | [] => [x]
  | y :: ys => if le y x then y :: insertBy le x ys else x :: y :: ys

/-- The list in the order of `le`, equal elements keeping their order. -/
def sortBy {α : Type} (le : α → α → Bool) (l : List α) : List α := l.foldl (fun acc x => insertBy le x acc) []

end Sys2Proof.Machine
end

