-- ==== Sys2Proof/Machine/Crypto.lean ====
section
/-! DEFINITION. The published-standard functions that the spec names: AES (FIPS 197), the modes of R313-R316 (SP 800-38A,
38B, 38C), RFC 3394 key wrap, and the key derivation of R297. Octets are natural numbers below
256 here. -/

namespace Sys2Proof.Machine

/-- Octets as numbers. -/
def octs (bs : List Byte) : List Nat := bs.map BitVec.toNat

/-- Numbers as octets. -/
def ofOcts (ns : List Nat) : List Byte := ns.map fun n => BitVec.ofNat 8 n

/-- Octet-wise XOR, as long as the shorter list. -/
def xorO (a b : List Nat) : List Nat := List.zipWith (fun x y => x ^^^ y) a b

/-- The AES S-box. -/
def aesSbox (x : Nat) : Nat :=
  ((match x / 64 with
    | 0 => 0x75b227ebe28012079a059618c323c7041531d871f1e5a534ccf73f362693fdb7c072a49cafa2d4adf04759fa7dc982ca76abd7fe2b670130c56f6bf27b777c63
    | 1 => 0xd2f3ff1021dab6bcf5389d928f40a351a89f3c507f02f94585334d43fbaaefd0cf584c4a39becb6a5bb1fc20ed00d153842fe329b3d63b52a05a6e1b1a2c8309
    | 2 => 0x8ae7a65eaf4566ca94ed58d6d37c8e779e4959162acd3c25c2406490a3a32e0db0b5ede14b8ee4688902a22dc4f816073195d643d7ea7c41744975fec130ccd
    | _ => 0x16bb54b00f2d99416842e6bf0d89a18cdf2855cee9871e9b948ed9691198f8e19e1dc186b95735610ef6034866b53e708a8bbd4b1f74dde8c6b4a61c2e2578ba) >>> (8 * (x % 64))) % 256

/-- The inverse AES S-box. -/
def aesInvSbox (x : Nat) : Nat :=
  ((match x / 64 with
    | 0 => 0x25d18b6d49a25b76b224d92866a12e084ec3fa420b954cee3d23c2a632947b54cbe9dec444438e3487ff2f9b8239e37cfbd7f3819ea340bf38a53630d56a0952
    | 1 => 0x6b8a130103bdafc1020f3fca8f1e2cd00645b3b80558e4f70ad3bc8c00abd890849d8da75746155edab9edfd5048706c92b6655dcc5ca4d41698688664f6f872
    | 2 => 0xf45acd78fec0db9a2079d2c64b3e56fc1bbe18aa0e62b76f89c5291d711af1476edf751ce837f9e28535ade72274ac9673e6b4f0cecff297eadc674f4111913a
    | _ => 0x7d0c2155631469e126d677ba7e042b17619953833cbbebc8b0f52aae4d3be0a0ef9cc9939f7ae52d0d4ab519a97f51605fec8027591012b131c7078833a8dd1f) >>> (8 * (x % 64))) % 256

/-- Multiplication by x in GF(2^8). -/
def xtime (b : Nat) : Nat := if b < 128 then 2 * b else (2 * b) ^^^ 0x11b

/-- Multiplication by a small constant in GF(2^8). -/
def gmul (c b : Nat) : Nat :=
  let b2 := xtime b
  let b4 := xtime b2
  let b8 := xtime b4
  (if c.testBit 0 then b else 0) ^^^ (if c.testBit 1 then b2 else 0) ^^^ (if c.testBit 2 then b4 else 0)
    ^^^ (if c.testBit 3 then b8 else 0)

/-- The k-th round constant. -/
def aesRcon : Nat → Nat
  | 0 => 1
  | k + 1 => xtime (aesRcon k)

/-- Key expansion: `n` further words; `ws` holds the words so far, latest first, `nk` the key's words. -/
def aesExpand (nk : Nat) : Nat → Nat → List (List Nat) → List (List Nat)
  | 0, _, ws => ws
  | n + 1, i, ws =>
    let t := ws.headD []
    let t := if i % nk = 0 then
        xorO ((t.drop 1 ++ t.take 1).map aesSbox) [aesRcon (i / nk - 1), 0, 0, 0]
      else if nk = 8 ∧ i % nk = 4 then t.map aesSbox else t
    aesExpand nk n (i + 1) (xorO (ws.getD (nk - 1) []) t :: ws)

/-- Consecutive pieces of `k` elements. -/
def chunks {α : Type} (k : Nat) (l : List α) : List (List α) :=
  (List.range (cdiv l.length k)).map fun i => (l.drop (i * k)).take k

/-- The round keys of a 16- or 32-octet key. -/
def aesRoundKeys (key : List Nat) : List (List Nat) :=
  let nk := if key.length = 32 then 8 else 4
  let ws := (aesExpand nk (4 * (nk + 7) - nk) nk (chunks 4 key).reverse).reverse
  (chunks 4 ws).map List.flatten

/-- The octets of a block in the order of a row rotation by `f`. -/
def aesShift (f : Nat → Nat) (b : List Nat) : List Nat := (List.range 16).map fun i => b.getD (f i) 0

/-- MixColumns with the coefficients of the first row. -/
def aesMix (c0 c1 c2 c3 : Nat) (b : List Nat) : List Nat :=
  (chunks 4 b).flatMap fun
    | [p, q, r, t] =>
      [gmul c0 p ^^^ gmul c1 q ^^^ gmul c2 r ^^^ gmul c3 t, gmul c3 p ^^^ gmul c0 q ^^^ gmul c1 r ^^^ gmul c2 t,
        gmul c2 p ^^^ gmul c3 q ^^^ gmul c0 r ^^^ gmul c1 t, gmul c1 p ^^^ gmul c2 q ^^^ gmul c3 r ^^^ gmul c0 t]
    | l => l

/-- The rounds after the first key addition. -/
def aesRounds : List (List Nat) → List Nat → List Nat
  | [], b => b
  | [k], b => xorO (aesShift (fun i => (i + 4 * (i % 4)) % 16) (b.map aesSbox)) k
  | k :: ks, b => aesRounds ks (xorO (aesMix 2 3 1 1 (aesShift (fun i => (i + 4 * (i % 4)) % 16) (b.map aesSbox))) k)

/-- AES encryption of one block. -/
def aesEnc (key b : List Nat) : List Nat :=
  match aesRoundKeys key with
  | [] => b
  | k :: ks => aesRounds ks (xorO b k)

/-- The inverse rounds. -/
def aesInvRounds : List (List Nat) → List Nat → List Nat
  | [], b => b
  | [k], b => xorO ((aesShift (fun i => (i + 12 * (i % 4)) % 16) b).map aesInvSbox) k
  | k :: ks, b =>
    aesInvRounds ks (aesMix 14 11 13 9 (xorO ((aesShift (fun i => (i + 12 * (i % 4)) % 16) b).map aesInvSbox) k))

/-- AES decryption of one block. -/
def aesDec (key b : List Nat) : List Nat :=
  match (aesRoundKeys key).reverse with
  | [] => b
  | k :: ks => aesInvRounds ks (xorO b k)

/-- A list padded with zeros to a whole number of blocks. -/
def pad16 (l : List Nat) : List Nat := l ++ List.replicate ((16 - l.length % 16) % 16) 0

/-- The number of octets, most significant first. -/
def numBE (l : List Nat) : Nat := l.foldl (fun a b => a * 256 + b) 0

/-- `k` octets of a number, most significant first. -/
def octsBE (k n : Nat) : List Nat := ((List.range k).map fun i => (n >>> (8 * i)) % 256).reverse

/-- CBC-MAC of whole blocks. -/
def cbcMac (key : List Nat) (blocks : List (List Nat)) (iv : List Nat) : List Nat :=
  blocks.foldl (fun x b => aesEnc key (xorO x b)) iv

/-- A zero block. -/
def zero16 : List Nat := List.replicate 16 0

/-- Doubling of a block in GF(2^128), for CMAC's subkeys. -/
def cmacDouble (b : List Nat) : List Nat :=
  let n := numBE b
  octsBE 16 (if n < 2 ^ 127 then 2 * n else (2 * n - 2 ^ 128) ^^^ 0x87)

/-- AES-CMAC (SP 800-38B). -/
def cmac (key m : List Nat) : List Nat :=
  let k1 := cmacDouble (aesEnc key zero16)
  let bs := chunks 16 m
  let n := max 1 bs.length
  let last := bs.getD (n - 1) []
  let last := if last.length = 16 then xorO last k1
    else xorO (last ++ [0x80] ++ List.replicate (15 - last.length) 0) (cmacDouble k1)
  cbcMac key (bs.take (n - 1) ++ [last]) zero16

/-- The keystream of `n` blocks from a counter block, octets 12-15 counting (R314). -/
def ctrStream (key ctr : List Nat) (n : Nat) : List Nat :=
  (List.range n).flatMap fun i => aesEnc key (ctr.take 12 ++ octsBE 4 (numBE (ctr.drop 12) + i))

/-- CTR (R314). -/
def ctrCrypt (key ctr m : List Nat) : List Nat := xorO m (ctrStream key ctr (cdiv m.length 16))

/-- CBC encryption. -/
def cbcEnc (key : List Nat) : List (List Nat) → List Nat → List Nat
  | [], _ => []
  | b :: bs, iv =>
    let c := aesEnc key (xorO b iv)
    c ++ cbcEnc key bs c

/-- CBC decryption. -/
def cbcDec (key : List Nat) : List (List Nat) → List Nat → List Nat
  | [], _ => []
  | b :: bs, iv => xorO (aesDec key b) iv ++ cbcDec key bs b

/-- CFB-128, encryption or decryption.
DESIGN CHOICE (unsafe), log entry 60. -/
def cfb (key : List Nat) (dec : Bool) : List (List Nat) → List Nat → List Nat
  | [], _ => []
  | b :: bs, iv =>
    let o := xorO b (aesEnc key iv)
    o ++ cfb key dec bs (if dec then b else o)

/-- The CCM tag of plaintext `m` under nonce `n` and associated data `a` (R315). -/
def ccmTag (key n a m : List Nat) (tlen : Nat) : List Nat :=
  let b0 := [64 * b2n (!a.isEmpty) + 8 * ((tlen - 2) / 2) + 1] ++ n ++ octsBE 2 m.length
  let ad := if a.isEmpty then [] else pad16 (octsBE 2 a.length ++ a)
  let x := cbcMac key (chunks 16 (b0 ++ ad ++ pad16 m)) zero16
  (xorO x (aesEnc key ([1] ++ n ++ [0, 0]))).take tlen

/-- CCM's counter-mode part, from A_1 on (R315). -/
def ccmStream (key n m : List Nat) : List Nat :=
  xorO m ((List.range (cdiv m.length 16)).flatMap fun i => aesEnc key ([1] ++ n ++ octsBE 2 (i + 1)))

/-- CCM decryption: the plaintext where the tag agrees. -/
def ccmOpen (key n a c tag : List Nat) : Option (List Nat) :=
  let m := ccmStream key n c
  if ccmTag key n a m tag.length = tag then some m else none

/-- The initial value of RFC 3394. -/
def kwIv : List Nat := List.replicate 8 0xA6

/-- One wrapping step. -/
def kwStep (key : List Nat) (s : List Nat × List (List Nat)) (t : Nat) : List Nat × List (List Nat) :=
  match s.2 with
  | [] => s
  | r :: rs =>
    let b := aesEnc key (s.1 ++ r)
    (xorO (b.take 8) (octsBE 8 t), rs ++ [b.drop 8])

/-- RFC 3394 wrap of whole 64-bit blocks. -/
def kwWrap (key p : List Nat) : List Nat :=
  let r := chunks 8 p
  let s := (List.range (6 * r.length)).foldl (fun s t => kwStep key s (t + 1)) (kwIv, r)
  s.1 ++ s.2.flatten

/-- One unwrapping step; the blocks stand in reverse order. -/
def kwUnStep (key : List Nat) (s : List Nat × List (List Nat)) (t : Nat) : List Nat × List (List Nat) :=
  match s.2 with
  | [] => s
  | r :: rs =>
    let b := aesDec key (xorO s.1 (octsBE 8 t) ++ r)
    (b.take 8, rs ++ [b.drop 8])

/-- RFC 3394 unwrap: the data, none where the integrity check fails. -/
def kwUnwrap (key c : List Nat) : Option (List Nat) :=
  let r := (chunks 8 (c.drop 8)).reverse
  let n := 6 * r.length
  let s := (List.range n).foldl (fun s t => kwUnStep key s (n - t)) (c.take 8, r)
  if s.1 = kwIv then some s.2.reverse.flatten else none

/-- The counter-mode KDF of R297, of 16 or 32 octets. -/
def kdf (ki label context : List Nat) (len : Nat) : List Nat :=
  (List.range (len / 16)).flatMap fun i => cmac ki ([i + 1] ++ label ++ [0] ++ context ++ octsBE 2 (8 * len))

/-- The key check value (R293). -/
def kcv (key : List Nat) : List Nat := (aesEnc key zero16).take 3

end Sys2Proof.Machine
end

