-- ==== Sys2Proof/Machine/Frames.lean ====
section
/-! DEFINITION. PHY and MAC frame formats (spec/06_frame_formats.md): frame control, the MAC headers, and the protection of
a PSDU, over octets as numbers. -/

namespace Sys2Proof.Machine

/-- `n` octets of a PSDU from offset `o`, least significant first (R166). -/
def field (p : List Nat) (o n : Nat) : Nat := natLE (ofOcts ((p.drop o).take n))

/-- `v` as `n` octets, least significant first (R166). -/
def le (n v : Nat) : List Nat := octs (bytesLE n v)

/-! ### Frame control (R167) -/

/-- FC of a PSDU of two octets or more. -/
def fcOf (p : List Nat) : Nat := field p 0 2

def fcType (fc : Nat) : Nat := nfld fc 15 13
def fcSec (fc : Nat) : Nat := nfld fc 12 11
def fcAckReq (fc : Nat) : Bool := fc.testBit 10
def fcPend (fc : Nat) : Bool := fc.testBit 9
def fcLong (fc : Nat) : Bool := fc.testBit 8
def fcTcp (fc : Nat) : Bool := fc.testBit 3
def fcVer (fc : Nat) : Nat := nfld fc 2 0

/-- A frame control word of version 1. -/
def mkFc (type sec : Nat) (ackReq pend long : Bool) (repeat_ : Nat) (tcp : Bool) : Nat :=
  type * 2 ^ 13 + sec * 2 ^ 11 + b2n ackReq * 2 ^ 10 + b2n pend * 2 ^ 9 + b2n long * 2 ^ 8 + repeat_ * 16 + b2n tcp * 8 + 1

/-- The type, version and security level of a received frame are ones that R168 and R169 allow. -/
def fcAllowed (fc : Nat) : Bool :=
  fcVer fc == 1 && decide (fcType fc ≤ 4) && (fcType fc != 2 || decide (fcSec fc ≤ 1)) && (fcType fc != 3 || fcSec fc == 2)

/-- A received frame of this type comes from an endpoint and has the uplink layout (R176). -/
def fcUplink (fc : Nat) : Bool := fcType fc == 0 || fcType fc == 4

/-- H of a received frame (R177). -/
def mhrLen (fc : Nat) : Nat :=
  match fcType fc with
  | 1 => 16
  | 2 => if fcTcp fc then 14 else 12
  | 3 => 28
  | _ => if fcLong fc then 26 else 18

/-- M by security level (R177). -/
def micLen (sec : Nat) : Nat := match sec with | 0 => 0 | 1 => 4 | _ => 8

/-- The frame counter of a PSDU. -/
def frameCounter (p : List Nat) : Nat := field p 4 4

/-- The endpoint short address a received frame carries as its source, bits [24:0] (R155, R171): of an uplink or command
the source, of an ACK none. -/
def sourceShort (p : List Nat) : Nat := field p 8 4 % 2 ^ 25

/-- The wake counter of an uplink or command. -/
def wakeCounter (p : List Nat) : Nat := field p (if fcLong (fcOf p) then 24 else 16) 2

/-! ### Protection (R178-R180) -/

/-- The CCM nonce (R179). -/
def ccmNonce (long counter fc : Nat) : List Nat := octsBE 8 long ++ octsBE 4 counter ++ [fc / 256 % 256]

/-- The associated data of a header: FC bits [7:4] are taken as 0 (R178). -/
def ccmAad (mhr : List Nat) : List Nat :=
  match mhr with
  | [] => []
  | a :: rest => a % 16 :: rest

/-- The octets after the header of a protected frame: payload or ciphertext, then the MIC, the CCM tag's first octet first (R166, R178).
DESIGN CHOICE (unsafe), log entry 109. -/
def protect (key : List Nat) (long : Nat) (mhr payload : List Nat) : List Nat :=
  let fc := fcOf mhr
  let sec := fcSec fc
  if sec = 0 then payload
  else
    let n := ccmNonce long (frameCounter mhr) fc
    (if sec = 3 then ccmStream key n payload else payload) ++ ccmTag key n (ccmAad mhr) payload (micLen sec)

/-- The PSDU of a frame (R165). -/
def buildPsdu (key : List Nat) (long : Nat) (mhr payload : List Nat) : List Nat := mhr ++ protect key long mhr payload

/-- The MAC payload of a received PSDU in the clear, none where the MIC check fails (R178). -/
def openPsdu (key : List Nat) (long : Nat) (p : List Nat) : Option (List Nat) :=
  let fc := fcOf p
  let sec := fcSec fc
  let h := mhrLen fc
  let m := micLen sec
  let body := (p.drop h).take (p.length - h - m)
  if sec = 0 then some body
  else
    let n := ccmNonce long (frameCounter p) fc
    let tag := p.drop (p.length - m)
    if sec = 3 then ccmOpen key n (ccmAad (p.take h)) body tag
    else if ccmTag key n (ccmAad (p.take h)) body m = tag then some body else none

/-! ### Headers that the LD6480 sends (R176) -/

/-- The header of a downlink or command. -/
def downMhr (fc net counter src dst : Nat) : List Nat := le 2 fc ++ le 2 net ++ le 4 counter ++ le 4 src ++ le 4 dst

/-- The header of an ACK, with its time correction if it carries one. -/
def ackMhr (fc net counter dst : Nat) (tc : Option Int) : List Nat :=
  le 2 fc ++ le 2 net ++ le 4 counter ++ le 4 dst ++ (match tc with | some c => le 2 (toU 16 c) | none => [])

/-- The header of a beacon. -/
def beaconMhr (fc net counter src long seq second off : Nat) : List Nat :=
  le 2 fc ++ le 2 net ++ le 4 counter ++ le 4 src ++ le 8 long ++ le 2 seq ++ le 4 second ++ le 2 off

/-- The header with its frame counter set (R174, R175). -/
def setCounter (mhr : List Nat) (c : Nat) : List Nat := mhr.take 4 ++ le 4 c ++ mhr.drop 8

/-- The header with its REPEAT countdown set (R181). -/
def setRepeat (mhr : List Nat) (n : Nat) : List Nat :=
  match mhr with
  | [] => []
  | a :: rest => (a % 16 + 16 * (n % 16)) :: rest

end Sys2Proof.Machine
end

