-- ==== Sys2Proof/Config.lean ====
section
/-! DEFINITION. What the spec leaves open: values without a body, so that every statement holds whatever they are. -/

namespace Sys2Proof

/-- Octet `o` of the `n`-th stretch of memory whose contents the spec leaves undefined (R309, R310, R319: the destination of
a cipher request before its finish, after MARGIN and after ECC).
DESIGN CHOICE (safe), log entry 15. -/
opaque Config.freeByte (n o : Nat) : Byte

/-- The slowdown of sentinel `n` against the reference count fused at test, in per mille, from its count, the voltage in mV
and the junction temperature in 1/16 °C (R537): the fused coefficients are not given.
DESIGN CHOICE (safe), log entry 16. -/
opaque Config.slowdown (n count mv temp : Nat) : Nat

/-- Octet `i` of the fused device root (R296), which no requester can read.
DESIGN CHOICE (safe), log entry 16. -/
opaque Config.rootOctet (i : Nat) : Nat

/-- The fused EUI-64 of the part (R172, OD 0x1000.03).
DESIGN CHOICE (safe), log entry 16. -/
opaque Config.eui64 : Nat

/-- Octet `o` of the boot ROM (R11): its contents are not given.
DESIGN CHOICE (unsafe), log entry 14. -/
opaque Config.romByte (o : Nat) : Byte

/-- The Harkeash public key `i` (R519), a point of P-256: the keys are not given.
DESIGN CHOICE (safe), log entry 16. -/
opaque Config.signKey (i : Nat) : Nat × Nat

/-- The live calibration value that the RF calibration tables of the final cut, the octets `body`, give chain n for calibration k
(R60 step 9: 1 IQ correction, 2 filter corner, 3 PA power table): the layout of the tables is not given.
DESIGN CHOICE (safe), log entry 91. -/
opaque Config.rfTable (body : List Nat) (n k : Nat) : Nat

/-- The live calibration value that the `i`-th calibration run measured (R90).
DESIGN CHOICE (safe), log entry 91. -/
opaque Config.calMeasured (i : Nat) : Nat

/-- The internal PA setting that the PA power table `table` gives a drive level in 0.25 dBm (R79): the table's contents are not
given.
DESIGN CHOICE (safe), log entry 91. -/
opaque Config.paSetting (table : Nat) (drive : Int) : Nat

/-- The VDDIO banks that sense 3.3 V at the `i`-th power-on reset, bit b for bank b (R552): the board's choice.
DESIGN CHOICE (unsafe), log entry 85. -/
opaque Config.bankSupply (i : Nat) : Nat

/-- TEST is high at the `i`-th power-on reset (R555): the board's choice.
DESIGN CHOICE (unsafe), log entry 87. -/
opaque Config.testPin (i : Nat) : Bool

end Sys2Proof
end

