-- ==== Sys2Proof/Machine/RegMap.lean ====
section
/-! DEFINITION. The register map: for every register of the spec's tables its address (R10 gives the block bases; the
chapters give the offsets), its reset value, and the bits that a plain write sets (RW) or clears by writing 1 (W1C)
(R4). A register with several instances takes its instance numbers as arguments. Bits in neither mask read as stored and
ignore a plain write (RO, reserved, and the trigger bits of W1S, which read 0; R3, R4). -/

namespace Sys2Proof.Machine

/-- SYS.MODE (spec/02_modes_reset_boot.md). -/
def Reg.SYS_MODE : Nat := 0x40000010

/-- SYS.DRAIN (spec/02_modes_reset_boot.md). -/
def Reg.SYS_DRAIN : Nat := 0x40000018

/-- SYS.ROLE (spec/02_modes_reset_boot.md). -/
def Reg.SYS_ROLE : Nat := 0x40000014

/-- SYS.HIBCTL (spec/02_modes_reset_boot.md). -/
def Reg.SYS_HIBCTL : Nat := 0x4000001C

/-- SYS.WAKESRC (spec/02_modes_reset_boot.md). -/
def Reg.SYS_WAKESRC : Nat := 0x40000020

/-- SYS.RSTCAUSE (spec/02_modes_reset_boot.md). -/
def Reg.SYS_RSTCAUSE : Nat := 0x40000030

/-- SYS.RST (spec/02_modes_reset_boot.md). -/
def Reg.SYS_RST : Nat := 0x40000034

/-- SYS.BOOTSTAT (spec/02_modes_reset_boot.md). -/
def Reg.SYS_BOOTSTAT : Nat := 0x40000038

/-- SYS.VSTAT (spec/02_modes_reset_boot.md). -/
def Reg.SYS_VSTAT : Nat := 0x4000003C

/-- RFCn.CTL (spec/03_rf_chains.md). -/
def Reg.RFC_CTL (n : Nat) : Nat := 0x40100000 + 0x2000 * n

/-- RFCn.STAT (spec/03_rf_chains.md). -/
def Reg.RFC_STAT (n : Nat) : Nat := 0x40100004 + 0x2000 * n

/-- RFCn.RXLO (spec/03_rf_chains.md). -/
def Reg.RFC_RXLO (n : Nat) : Nat := 0x40100010 + 0x2000 * n

/-- RFCn.TXLO (spec/03_rf_chains.md). -/
def Reg.RFC_TXLO (n : Nat) : Nat := 0x40100014 + 0x2000 * n

/-- RFCn.TXPWR (spec/03_rf_chains.md). -/
def Reg.RFC_TXPWR (n : Nat) : Nat := 0x40100020 + 0x2000 * n

/-- RFCn.EXTPA (spec/03_rf_chains.md). -/
def Reg.RFC_EXTPA (n : Nat) : Nat := 0x40100024 + 0x2000 * n

/-- RFCn.RAMP (spec/03_rf_chains.md). -/
def Reg.RFC_RAMP (n : Nat) : Nat := 0x40100028 + 0x2000 * n

/-- RFCn.FEMCFG (spec/03_rf_chains.md). -/
def Reg.RFC_FEMCFG (n : Nat) : Nat := 0x40100030 + 0x2000 * n

/-- RFCn.FEMPA (spec/03_rf_chains.md). -/
def Reg.RFC_FEMPA (n : Nat) : Nat := 0x40100034 + 0x2000 * n

/-- RFCn.FEMTR (spec/03_rf_chains.md). -/
def Reg.RFC_FEMTR (n : Nat) : Nat := 0x40100038 + 0x2000 * n

/-- RFCn.AGC (spec/03_rf_chains.md). -/
def Reg.RFC_AGC (n : Nat) : Nat := 0x40100040 + 0x2000 * n

/-- RFCn.GAIN (spec/03_rf_chains.md). -/
def Reg.RFC_GAIN (n : Nat) : Nat := 0x40100044 + 0x2000 * n

/-- RFCn.CALCMD (spec/03_rf_chains.md). -/
def Reg.RFC_CALCMD (n : Nat) : Nat := 0x40100050 + 0x2000 * n

/-- RFCn.CALSTAT (spec/03_rf_chains.md). -/
def Reg.RFC_CALSTAT (n : Nat) : Nat := 0x40100054 + 0x2000 * n

/-- RFCn.LOOP (spec/03_rf_chains.md). -/
def Reg.RFC_LOOP (n : Nat) : Nat := 0x40100060 + 0x2000 * n

/-- RFCn.TXCNT (spec/03_rf_chains.md). -/
def Reg.RFC_TXCNT (n : Nat) : Nat := 0x40100070 + 0x2000 * n

/-- RFCn.TXRS (spec/03_rf_chains.md). -/
def Reg.RFC_TXRS (n : Nat) (m : Nat) : Nat := 0x40100078 + 0x2000 * n + 0x4 * m

/-- RFCn.TXRE (spec/03_rf_chains.md). -/
def Reg.RFC_TXRE (n : Nat) (m : Nat) : Nat := 0x40100080 + 0x2000 * n + 0x4 * m

/-- CHZ.APPLY (spec/04_channelizer_detection.md). -/
def Reg.CHZ_APPLY : Nat := 0x40200000

/-- CHZ.APPLYAT (spec/04_channelizer_detection.md). -/
def Reg.CHZ_APPLYAT (n : Nat) : Nat := 0x40200008 + 0x4 * n

/-- CHZ.APPLYSTAT (spec/04_channelizer_detection.md). -/
def Reg.CHZ_APPLYSTAT : Nat := 0x40200010

/-- CHZ.EPOCH (spec/04_channelizer_detection.md). -/
def Reg.CHZ_EPOCH : Nat := 0x40200014

/-- CHZ.FENCE (spec/04_channelizer_detection.md). -/
def Reg.CHZ_FENCE : Nat := 0x40200018

/-- CHZ.OLDEP (spec/04_channelizer_detection.md). -/
def Reg.CHZ_OLDEP : Nat := 0x4020001C

/-- CHZ.LASTDRN (spec/04_channelizer_detection.md). -/
def Reg.CHZ_LASTDRN : Nat := 0x40200020

/-- CHZ.SURVINT (spec/04_channelizer_detection.md). -/
def Reg.CHZ_SURVINT : Nat := 0x40200024

/-- CHZ.PCENTREn (spec/04_channelizer_detection.md). -/
def Reg.CHZ_PCENTRE (n : Nat) : Nat := 0x40200100 + 0x20 * n

/-- CHZ.PCFGn (spec/04_channelizer_detection.md). -/
def Reg.CHZ_PCFG (n : Nat) : Nat := 0x40200104 + 0x20 * n

/-- CHZ.PMASKLOn (spec/04_channelizer_detection.md). -/
def Reg.CHZ_PMASKLO (n : Nat) : Nat := 0x40200108 + 0x20 * n

/-- CHZ.PMASKHIn (spec/04_channelizer_detection.md). -/
def Reg.CHZ_PMASKHI (n : Nat) : Nat := 0x4020010C + 0x20 * n

/-- CHZ.ASSIGNc (spec/04_channelizer_detection.md). -/
def Reg.CHZ_ASSIGN (n : Nat) : Nat := 0x40200800 + 0x4 * n

/-- CHZ.PROFp.CFG (spec/04_channelizer_detection.md). -/
def Reg.CHZ_PROF_CFG (n : Nat) : Nat := 0x40201000 + 0x20 * n

/-- CHZ.PROFp.RATE (spec/04_channelizer_detection.md). -/
def Reg.CHZ_PROF_RATE (n : Nat) : Nat := 0x40201004 + 0x20 * n

/-- CHZ.PROFp.DEV (spec/04_channelizer_detection.md). -/
def Reg.CHZ_PROF_DEV (n : Nat) : Nat := 0x40201008 + 0x20 * n

/-- CHZ.PROFp.PRE (spec/04_channelizer_detection.md). -/
def Reg.CHZ_PROF_PRE (n : Nat) : Nat := 0x4020100C + 0x20 * n

/-- CHZ.PROFp.SYNC0 (spec/04_channelizer_detection.md). -/
def Reg.CHZ_PROF_SYNC0 (n : Nat) : Nat := 0x40201010 + 0x20 * n

/-- CHZ.PROFp.SYNC1 (spec/04_channelizer_detection.md). -/
def Reg.CHZ_PROF_SYNC1 (n : Nat) : Nat := 0x40201014 + 0x20 * n

/-- CHZ.PROFp.SLEN (spec/04_channelizer_detection.md). -/
def Reg.CHZ_PROF_SLEN (n : Nat) : Nat := 0x40201018 + 0x20 * n

/-- CHZ.PROFp.DET (spec/04_channelizer_detection.md). -/
def Reg.CHZ_PROF_DET (n : Nat) : Nat := 0x4020101C + 0x20 * n

/-- CHZ.FLOORc (spec/04_channelizer_detection.md). -/
def Reg.CHZ_FLOOR (n : Nat) : Nat := 0x40202000 + 0x4 * n

/-- CHZ.OCCc (spec/04_channelizer_detection.md). -/
def Reg.CHZ_OCC (n : Nat) : Nat := 0x40202800 + 0x4 * n

/-- DMD.STAT (spec/05_demodulation_coding.md). -/
def Reg.DMD_STAT : Nat := 0x40300000

/-- DMD.CTL (spec/05_demodulation_coding.md). -/
def Reg.DMD_CTL : Nat := 0x40300004

/-- DMD.ERR (spec/05_demodulation_coding.md). -/
def Reg.DMD_ERR : Nat := 0x40300008

/-- DMD.BUSYj (spec/05_demodulation_coding.md). -/
def Reg.DMD_BUSY (n : Nat) : Nat := 0x40300010 + 0x4 * n

/-- DMD.CNTi (spec/05_demodulation_coding.md). -/
def Reg.DMD_CNT (n : Nat) : Nat := 0x40300040 + 0x4 * n

/-- DMD.POOL_MISSc (spec/05_demodulation_coding.md). -/
def Reg.DMD_POOL_MISS (n : Nat) : Nat := 0x40301000 + 0x4 * n

/-- DMD.TRECd (spec/05_demodulation_coding.md). -/
def Reg.DMD_TREC (n : Nat) (m : Nat) : Nat := 0x40304000 + 0x20 * n + 0x4 * m

/-- DMD.EOFd (spec/05_demodulation_coding.md). -/
def Reg.DMD_EOF (n : Nat) (m : Nat) : Nat := 0x40306000 + 0x8 * n + 0x4 * m

/-- LNK.CTL (spec/07_link_timing_engine.md). -/
def Reg.LNK_CTL : Nat := 0x40400000

/-- LNK.STAT (spec/07_link_timing_engine.md). -/
def Reg.LNK_STAT : Nat := 0x40400004

/-- LNK.ADDR (spec/07_link_timing_engine.md). -/
def Reg.LNK_ADDR : Nat := 0x40400008

/-- LNK.NETIDi (spec/07_link_timing_engine.md). -/
def Reg.LNK_NETID (n : Nat) : Nat := 0x40400010 + 0x4 * n

/-- LNK.TYPEACC (spec/07_link_timing_engine.md). -/
def Reg.LNK_TYPEACC : Nat := 0x40400020

/-- LNK.SLACK (spec/07_link_timing_engine.md). -/
def Reg.LNK_SLACK : Nat := 0x40400024

/-- LNK.SAMEWIN (spec/07_link_timing_engine.md). -/
def Reg.LNK_SAMEWIN : Nat := 0x40400028

/-- LNK.TACKp (spec/07_link_timing_engine.md). -/
def Reg.LNK_TACK (n : Nat) : Nat := 0x40400040 + 0x4 * n

/-- LNK.TXCTR (spec/07_link_timing_engine.md). -/
def Reg.LNK_TXCTR : Nat := 0x40400080

/-- LNK.TXRST (spec/07_link_timing_engine.md). -/
def Reg.LNK_TXRST : Nat := 0x40400084

/-- LNK.SHPOLt (spec/07_link_timing_engine.md). -/
def Reg.LNK_SHPOL (n : Nat) : Nat := 0x40400100 + 0x10 * n

/-- LNK.SHGDLOt (spec/07_link_timing_engine.md). -/
def Reg.LNK_SHGDLO (n : Nat) : Nat := 0x40400104 + 0x10 * n

/-- LNK.SHGDHIt (spec/07_link_timing_engine.md). -/
def Reg.LNK_SHGDHI (n : Nat) : Nat := 0x40400108 + 0x10 * n

/-- LNK.REJs (spec/07_link_timing_engine.md). -/
def Reg.LNK_REJ (n : Nat) : Nat := 0x40400200 + 0x4 * n

/-- LNK.SIDX (spec/07_link_timing_engine.md). -/
def Reg.LNK_SIDX : Nat := 0x40400300

/-- LNK.STIME (spec/07_link_timing_engine.md). -/
def Reg.LNK_STIME (n : Nat) : Nat := 0x40400304 + 0x4 * n

/-- LNK.SROUTE (spec/07_link_timing_engine.md). -/
def Reg.LNK_SROUTE : Nat := 0x4040030C

/-- LNK.SCTRL (spec/07_link_timing_engine.md). -/
def Reg.LNK_SCTRL : Nat := 0x40400310

/-- LNK.SCMD (spec/07_link_timing_engine.md). -/
def Reg.LNK_SCMD : Nat := 0x40400314

/-- LNK.SSTAT (spec/07_link_timing_engine.md). -/
def Reg.LNK_SSTAT : Nat := 0x40400318

/-- LNK.DSETi.A (spec/08_sleepy_downlink_beacons.md). -/
def Reg.LNK_DSET_A (n : Nat) : Nat := 0x40400800 + 0x8 * n

/-- LNK.DSETi.B (spec/08_sleepy_downlink_beacons.md). -/
def Reg.LNK_DSET_B (n : Nat) : Nat := 0x40400804 + 0x8 * n

/-- LNK.DLQ (spec/08_sleepy_downlink_beacons.md). -/
def Reg.LNK_DLQ : Nat := 0x40400900

/-- LNK.DLSTAT (spec/08_sleepy_downlink_beacons.md). -/
def Reg.LNK_DLSTAT : Nat := 0x40400904

/-- LNK.BCNCFG (spec/08_sleepy_downlink_beacons.md). -/
def Reg.LNK_BCNCFG : Nat := 0x40400A00

/-- LNK.BCNTIM (spec/08_sleepy_downlink_beacons.md). -/
def Reg.LNK_BCNTIM : Nat := 0x40400A04

/-- LNK.BCNPL (spec/08_sleepy_downlink_beacons.md). -/
def Reg.LNK_BCNPL : Nat := 0x40400A08

/-- LNK.BSEQ (spec/08_sleepy_downlink_beacons.md). -/
def Reg.LNK_BSEQ : Nat := 0x40400A0C

/-- LNK.PADDR (spec/08_sleepy_downlink_beacons.md). -/
def Reg.LNK_PADDR : Nat := 0x40400B00

/-- LNK.PKEY (spec/08_sleepy_downlink_beacons.md). -/
def Reg.LNK_PKEY : Nat := 0x40400B04

/-- LNK.PEUI (spec/08_sleepy_downlink_beacons.md). -/
def Reg.LNK_PEUI (n : Nat) : Nat := 0x40400B08 + 0x4 * n

/-- LNK.PCHj (spec/08_sleepy_downlink_beacons.md). -/
def Reg.LNK_PCH (n : Nat) : Nat := 0x40400B10 + 0x4 * n

/-- LNK.BWIN (spec/08_sleepy_downlink_beacons.md). -/
def Reg.LNK_BWIN : Nat := 0x40400B20

/-- LNK.HOLD (spec/08_sleepy_downlink_beacons.md). -/
def Reg.LNK_HOLD : Nat := 0x40400B24

/-- LNK.BDEC (spec/08_sleepy_downlink_beacons.md). -/
def Reg.LNK_BDEC : Nat := 0x40400B28

/-- LNK.SCAN (spec/08_sleepy_downlink_beacons.md). -/
def Reg.LNK_SCAN : Nat := 0x40400B2C

/-- LNK.PSTAT (spec/08_sleepy_downlink_beacons.md). -/
def Reg.LNK_PSTAT : Nat := 0x40400B30

/-- DCB.CTL (spec/09_duty_budget.md). -/
def Reg.DCB_CTL : Nat := 0x40500000

/-- DCB.STAT (spec/09_duty_budget.md). -/
def Reg.DCB_STAT : Nat := 0x40500004

/-- DCB.BCFGn (spec/09_duty_budget.md). -/
def Reg.DCB_BCFG (n : Nat) : Nat := 0x40500100 + 0x20 * n

/-- DCB.DCFGm (spec/09_duty_budget.md). -/
def Reg.DCB_DCFG (n : Nat) : Nat := 0x40500400 + 0x20 * n

/-- DCB.BSEL (spec/09_duty_budget.md). -/
def Reg.DCB_BSEL : Nat := 0x40500800

/-- EPR.STAT (spec/10_endpoint_registry.md). -/
def Reg.EPR_STAT : Nat := 0x40600000

/-- EPR.LIMIT (spec/10_endpoint_registry.md). -/
def Reg.EPR_LIMIT : Nat := 0x40600004

/-- EPR.GEN (spec/10_endpoint_registry.md). -/
def Reg.EPR_GEN (n : Nat) : Nat := 0x40600008 + 0x4 * n

/-- EPR.GENSET (spec/10_endpoint_registry.md). -/
def Reg.EPR_GENSET (n : Nat) : Nat := 0x40600010 + 0x4 * n

/-- EPR.GENCMD (spec/10_endpoint_registry.md). -/
def Reg.EPR_GENCMD : Nat := 0x40600018

/-- EPR.KEKG (spec/10_endpoint_registry.md). -/
def Reg.EPR_KEKG : Nat := 0x40600020

/-- EPR.CSKEY (spec/10_endpoint_registry.md). -/
def Reg.EPR_CSKEY : Nat := 0x40600024

/-- EPR.CSADDR (spec/10_endpoint_registry.md). -/
def Reg.EPR_CSADDR (n : Nat) : Nat := 0x40600028 + 0x4 * n

/-- EPR.CSCMD (spec/10_endpoint_registry.md). -/
def Reg.EPR_CSCMD : Nat := 0x40600030

/-- EPR.CSSTAT (spec/10_endpoint_registry.md). -/
def Reg.EPR_CSSTAT : Nat := 0x40600034

/-- EPR.CSAT (spec/10_endpoint_registry.md). -/
def Reg.EPR_CSAT (n : Nat) : Nat := 0x40600038 + 0x4 * n

/-- EPR.RSEL (spec/10_endpoint_registry.md). -/
def Reg.EPR_RSEL : Nat := 0x40600040

/-- EPR.RINFO (spec/10_endpoint_registry.md). -/
def Reg.EPR_RINFO : Nat := 0x40600044

/-- EPR.RGEN (spec/10_endpoint_registry.md). -/
def Reg.EPR_RGEN (n : Nat) : Nat := 0x40600048 + 0x4 * n

/-- EPR.LOADCMD (spec/10_endpoint_registry.md). -/
def Reg.EPR_LOADCMD : Nat := 0x40600050

/-- EPR.SNAPCFG (spec/10_endpoint_registry.md). -/
def Reg.EPR_SNAPCFG : Nat := 0x40600060

/-- EPR.SNAPCMD (spec/10_endpoint_registry.md). -/
def Reg.EPR_SNAPCMD : Nat := 0x40600064

/-- EPR.SNAPSTAT (spec/10_endpoint_registry.md). -/
def Reg.EPR_SNAPSTAT : Nat := 0x40600068

/-- EPR.RECSEL (spec/10_endpoint_registry.md). -/
def Reg.EPR_RECSEL : Nat := 0x40600080

/-- EPR.RECDATAi (spec/10_endpoint_registry.md). -/
def Reg.EPR_RECDATA (n : Nat) : Nat := 0x40600090 + 0x4 * n

/-- CIP.STAT (spec/11_cipher_engine.md). -/
def Reg.CIP_STAT : Nat := 0x40700000

/-- CIP.SUB (spec/11_cipher_engine.md). -/
def Reg.CIP_SUB : Nat := 0x40700004

/-- CIP.QSTATq (spec/11_cipher_engine.md). -/
def Reg.CIP_QSTAT (n : Nat) : Nat := 0x40700010 + 0x4 * n

/-- CIP.DONECNTq (spec/11_cipher_engine.md). -/
def Reg.CIP_DONECNT (n : Nat) : Nat := 0x40700040 + 0x4 * n

/-- CIP.FREEe (spec/11_cipher_engine.md). -/
def Reg.CIP_FREE (n : Nat) (m : Nat) : Nat := 0x40700080 + 0x8 * n + 0x4 * m

/-- CIP.SLOTSEL (spec/11_cipher_engine.md). -/
def Reg.CIP_SLOTSEL : Nat := 0x40700100

/-- CIP.SLOTINFO (spec/11_cipher_engine.md). -/
def Reg.CIP_SLOTINFO : Nat := 0x40700104

/-- CIP.SLOTKCV (spec/11_cipher_engine.md). -/
def Reg.CIP_SLOTKCV : Nat := 0x40700108

/-- CIP.SLOTTAG (spec/11_cipher_engine.md). -/
def Reg.CIP_SLOTTAG : Nat := 0x4070010C

/-- CIP.KBLOBi (spec/11_cipher_engine.md). -/
def Reg.CIP_KBLOB (n : Nat) : Nat := 0x40700110 + 0x4 * n

/-- CIP.KLOAD (spec/11_cipher_engine.md). -/
def Reg.CIP_KLOAD : Nat := 0x40700140

/-- CIP.KLSTAT (spec/11_cipher_engine.md). -/
def Reg.CIP_KLSTAT : Nat := 0x40700144

/-- CIP.SLOTCMD (spec/11_cipher_engine.md). -/
def Reg.CIP_SLOTCMD : Nat := 0x40700148

/-- REL.STAT (spec/12_reels.md). -/
def Reg.REL_STAT : Nat := 0x40800000

/-- REL.PTO (spec/12_reels.md). -/
def Reg.REL_PTO : Nat := 0x40800004

/-- REL.PKSEL (spec/12_reels.md). -/
def Reg.REL_PKSEL : Nat := 0x40800020

/-- REL.CFGn (spec/12_reels.md). -/
def Reg.REL_RCFG (n : Nat) : Nat := 0x40800100 + 0x40 * n

/-- REL.MAXn (spec/12_reels.md). -/
def Reg.REL_RMAX (n : Nat) : Nat := 0x40800104 + 0x40 * n

/-- REL.STATn (spec/12_reels.md). -/
def Reg.REL_RSTAT (n : Nat) : Nat := 0x40800108 + 0x40 * n

/-- REL.LEVELn (spec/12_reels.md). -/
def Reg.REL_RLEVEL (n : Nat) : Nat := 0x4080010C + 0x40 * n

/-- REL.PKTn (spec/12_reels.md). -/
def Reg.REL_RPKT (n : Nat) : Nat := 0x40800110 + 0x40 * n

/-- REL.TAGn (spec/12_reels.md). -/
def Reg.REL_RTAG (n : Nat) : Nat := 0x4080011C + 0x40 * n

/-- REL.PCTLn (spec/12_reels.md). -/
def Reg.REL_RPCTL (n : Nat) : Nat := 0x40800120 + 0x40 * n

/-- REL.PUSHn (spec/12_reels.md). -/
def Reg.REL_RPUSH (n : Nat) : Nat := 0x40800124 + 0x40 * n

/-- REL.ROUTEi.A (spec/12_reels.md). -/
def Reg.REL_ROUTE_A (n : Nat) : Nat := 0x40800A00 + 0x8 * n

/-- REL.ROUTEi.B (spec/12_reels.md). -/
def Reg.REL_ROUTE_B (n : Nat) : Nat := 0x40800A04 + 0x8 * n

/-- CUE.STAT (spec/13_cue_fabric.md). -/
def Reg.CUE_STAT : Nat := 0x40020000

/-- CUE.LOOPCNT (spec/13_cue_fabric.md). -/
def Reg.CUE_LOOPCNT : Nat := 0x40020004

/-- CUE.EN0 (spec/13_cue_fabric.md). -/
def Reg.CUE_EN0 : Nat := 0x40020010

/-- CUE.EN1 (spec/13_cue_fabric.md). -/
def Reg.CUE_EN1 : Nat := 0x40020014

/-- CUE.EN2 (spec/13_cue_fabric.md). -/
def Reg.CUE_EN2 : Nat := 0x40020018

/-- CUE.EN3 (spec/13_cue_fabric.md). -/
def Reg.CUE_EN3 : Nat := 0x4002001C

/-- CUE.EN4 (spec/13_cue_fabric.md). -/
def Reg.CUE_EN4 : Nat := 0x40020020

/-- CUE.EN5 (spec/13_cue_fabric.md). -/
def Reg.CUE_EN5 : Nat := 0x40020024

/-- CUE.EN6 (spec/13_cue_fabric.md). -/
def Reg.CUE_EN6 : Nat := 0x40020028

/-- CUE.FIREw (spec/13_cue_fabric.md). -/
def Reg.CUE_FIRE (n : Nat) : Nat := 0x40020030 + 0x4 * n

/-- CUE.LOOPw (spec/13_cue_fabric.md). -/
def Reg.CUE_LOOP (n : Nat) : Nat := 0x40020050 + 0x4 * n

/-- CUE.IPENDw (spec/13_cue_fabric.md). -/
def Reg.CUE_IPEND (n : Nat) : Nat := 0x40020080 + 0x4 * n

/-- CUE.IMASKc.w (spec/13_cue_fabric.md). -/
def Reg.CUE_IMASK (n : Nat) (m : Nat) : Nat := 0x40020100 + 0x20 * n + 0x4 * m

/-- CUE.CNTi (spec/13_cue_fabric.md). -/
def Reg.CUE_CNT (n : Nat) : Nat := 0x40020400 + 0x4 * n

/-- CUE.GPIOn.CFG (spec/13_cue_fabric.md). -/
def Reg.CUE_GPIO_CFG (n : Nat) : Nat := 0x40020800 + 0x10 * n

/-- CUE.GPIOn.STUCK (spec/13_cue_fabric.md). -/
def Reg.CUE_GPIO_STUCK (n : Nat) : Nat := 0x40020804 + 0x10 * n

/-- CUE.GPIOn.NOISE (spec/13_cue_fabric.md). -/
def Reg.CUE_GPIO_NOISE (n : Nat) : Nat := 0x40020808 + 0x10 * n

/-- CUE.GPIOn.STATE (spec/13_cue_fabric.md). -/
def Reg.CUE_GPIO_STATE (n : Nat) : Nat := 0x4002080C + 0x10 * n

/-- TMR.GSEL (spec/14_timers.md). -/
def Reg.TMR_GSEL : Nat := 0x40030000

/-- TMR.GCMD (spec/14_timers.md). -/
def Reg.TMR_GCMD : Nat := 0x40030004

/-- TMR.GLAST (spec/14_timers.md). -/
def Reg.TMR_GLAST (n : Nat) : Nat := 0x40030008 + 0x4 * n

/-- TMR.GCNT (spec/14_timers.md). -/
def Reg.TMR_GCNT : Nat := 0x40030010

/-- TMR.PHASEn (spec/14_timers.md). -/
def Reg.TMR_PHASE (n : Nat) : Nat := 0x40030040 + 0x4 * n

/-- TMRn.CTL (spec/14_timers.md). -/
def Reg.TMRN_CTL (n : Nat) : Nat := 0x40030100 + 0x40 * n

/-- TMRn.CAP (spec/14_timers.md). -/
def Reg.TMRN_CAP (n : Nat) : Nat := 0x4003011C + 0x40 * n

/-- TMRn.CAPSL (spec/14_timers.md). -/
def Reg.TMRN_CAPSL (n : Nat) (m : Nat) : Nat := 0x40030120 + 0x40 * n + 0x4 * m

/-- TMRn.FLAG (spec/14_timers.md). -/
def Reg.TMRN_FLAG (n : Nat) : Nat := 0x40030128 + 0x40 * n

/-- TMRn.IE (spec/14_timers.md). -/
def Reg.TMRN_IE (n : Nat) : Nat := 0x4003012C + 0x40 * n

/-- TMRn.CMD (spec/14_timers.md). -/
def Reg.TMRN_CMD (n : Nat) : Nat := 0x40030130 + 0x40 * n

/-- SYS.SLCMD (spec/14_timers.md). -/
def Reg.SYS_SLCMD : Nat := 0x40000040

/-- SYS.SLSTAT (spec/14_timers.md). -/
def Reg.SYS_SLSTAT : Nat := 0x40000044

/-- SYS.SLCAP (spec/14_timers.md). -/
def Reg.SYS_SLCAP (n : Nat) : Nat := 0x40000048 + 0x4 * n

/-- CAL.STAT (spec/15_calendar.md). -/
def Reg.CAL_STAT : Nat := 0x40040000

/-- CAL.SUBSEC (spec/15_calendar.md). -/
def Reg.CAL_SUBSEC : Nat := 0x40040010

/-- CAL.COMMIT (spec/15_calendar.md). -/
def Reg.CAL_COMMIT : Nat := 0x4004002C

/-- CAL.TRIM (spec/15_calendar.md). -/
def Reg.CAL_TRIM : Nat := 0x40040030

/-- CAL.WAKECFG (spec/15_calendar.md). -/
def Reg.CAL_WAKECFG : Nat := 0x40040034

/-- CAL.ALMTIME (spec/15_calendar.md). -/
def Reg.CAL_ALMTIME : Nat := 0x40040038

/-- CAL.ALMDATE (spec/15_calendar.md). -/
def Reg.CAL_ALMDATE : Nat := 0x4004003C

/-- CAL.CAPCMD (spec/15_calendar.md). -/
def Reg.CAL_CAPCMD : Nat := 0x40040040

/-- CAL.CAPT (spec/15_calendar.md). -/
def Reg.CAL_CAPT (n : Nat) : Nat := 0x40040048 + 0x4 * n

/-- CAL.CAPSL (spec/15_calendar.md). -/
def Reg.CAL_CAPSL (n : Nat) : Nat := 0x40040050 + 0x4 * n

/-- CAL.BKRAMi (spec/15_calendar.md). -/
def Reg.CAL_BKRAM (n : Nat) : Nat := 0x40040100 + 0x4 * n

/-- CPR.STATUS (core k) (spec/16_keasuric_model.md). -/
def Reg.CPR_STATUS (n : Nat) : Nat := 0xF0000004 + 0x10000 * n

/-- CPR.CTL (core k) (spec/16_keasuric_model.md). -/
def Reg.CPR_CTL (n : Nat) : Nat := 0xF0000000 + 0x10000 * n

/-- SYS.CORESTAT (spec/16_keasuric_model.md). -/
def Reg.SYS_CORESTAT : Nat := 0x40000050

/-- CPR.FAULTCAUSE (core k) (spec/16_keasuric_model.md). -/
def Reg.CPR_FAULTCAUSE (n : Nat) : Nat := 0xF0000018 + 0x10000 * n

/-- MEM.DWIN (spec/16_keasuric_model.md). -/
def Reg.MEM_DWIN : Nat := 0x40050080

/-- CPR.MSGCNT (core k) (spec/16_keasuric_model.md). -/
def Reg.CPR_MSGCNT (n : Nat) : Nat := 0xF0000084 + 0x10000 * n

/-- CPR.MSGIE (core k) (spec/16_keasuric_model.md). -/
def Reg.CPR_MSGIE (n : Nat) : Nat := 0xF0000088 + 0x10000 * n

/-- CPR.WDOG (spec/16_keasuric_model.md). -/
def Reg.CPR_WDOG : Nat := 0xF0040090

/-- CPR.MBASEj (core k) (spec/17_keasuric_instructions.md). -/
def Reg.CPR_MBASE (n : Nat) (m : Nat) : Nat := 0xF00000A0 + 0x10000 * n + 0x8 * m

/-- CPR.MLENj (core k) (spec/17_keasuric_instructions.md). -/
def Reg.CPR_MLEN (n : Nat) (m : Nat) : Nat := 0xF00000A4 + 0x10000 * n + 0x8 * m

/-- MEM.STAT (spec/18_memory_ecc.md). -/
def Reg.MEM_STAT : Nat := 0x40050000

/-- MEM.DCFG (spec/18_memory_ecc.md). -/
def Reg.MEM_DCFG : Nat := 0x40050004

/-- MEM.LEAK (spec/18_memory_ecc.md). -/
def Reg.MEM_LEAK : Nat := 0x40050020

/-- MEM.UEADDR (spec/18_memory_ecc.md). -/
def Reg.MEM_UEADDR (n : Nat) : Nat := 0x40050028 + 0x4 * n

/-- MEM.UESRC (spec/18_memory_ecc.md). -/
def Reg.MEM_UESRC : Nat := 0x40050030

/-- MEM.UECNT (spec/18_memory_ecc.md). -/
def Reg.MEM_UECNT : Nat := 0x40050034

/-- MEM.LEVELm (spec/18_memory_ecc.md). -/
def Reg.MEM_LEVEL (n : Nat) : Nat := 0x40050180 + 0x4 * n

/-- MEM.SCRUBm (m = 0–13) (spec/18_memory_ecc.md). -/
def Reg.MEM_SCRUB (n : Nat) : Nat := 0x40050200 + 0x10 * n

/-- MEM.SCRUB14 (spec/18_memory_ecc.md). -/
def Reg.MEM_SCRUB14 : Nat := 0x400502E0

/-- MEM.TSEL (low) (spec/18_memory_ecc.md). -/
def Reg.MEM_TSEL : Nat := 0x40050300

/-- MEM.TSEL (high) (spec/18_memory_ecc.md). -/
def Reg.MEM_TSELH : Nat := 0x40050304

/-- MEM.TCMD (spec/18_memory_ecc.md). -/
def Reg.MEM_TCMD : Nat := 0x4005031C

/-- MEM.TRES (spec/18_memory_ecc.md). -/
def Reg.MEM_TRES : Nat := 0x40050320

/-- MEM.TSYN (spec/18_memory_ecc.md). -/
def Reg.MEM_TSYN : Nat := 0x40050324

/-- ODX.CTL (spec/19_object_dictionary.md). -/
def Reg.ODX_CTL : Nat := 0x40060000

/-- ODX.STAT (spec/19_object_dictionary.md). -/
def Reg.ODX_STAT : Nat := 0x40060004

/-- ODX.PSTORE (spec/19_object_dictionary.md). -/
def Reg.ODX_PSTORE : Nat := 0x40060008

/-- ODX.FWTAB (spec/19_object_dictionary.md). -/
def Reg.ODX_FWTAB : Nat := 0x40060010

/-- ODX.FWCNT (spec/19_object_dictionary.md). -/
def Reg.ODX_FWCNT : Nat := 0x40060014

/-- ODX.FWPEND (spec/19_object_dictionary.md). -/
def Reg.ODX_FWPEND : Nat := 0x40060018

/-- ODX.FWDONE (spec/19_object_dictionary.md). -/
def Reg.ODX_FWDONE : Nat := 0x4006001C

/-- ODX.FWTO (spec/19_object_dictionary.md). -/
def Reg.ODX_FWTO : Nat := 0x40060020

/-- ODX.FWCHGj (j = 0–15) (spec/19_object_dictionary.md). -/
def Reg.ODX_FWCHG_LO (n : Nat) : Nat := 0x40060040 + 0x4 * n

/-- ODX.FWCHGj (j = 21–31) (spec/19_object_dictionary.md). -/
def Reg.ODX_FWCHG_HI (n : Nat) : Nat := 0x40060094 + 0x4 * n

/-- ODX.P0.CFG (spec/19_object_dictionary.md). -/
def Reg.ODX_P0_CFG : Nat := 0x40060100

/-- ODX.Pn.CFG (n = 1–15) (spec/19_object_dictionary.md). -/
def Reg.ODX_P_CFG1 (n : Nat) : Nat := 0x40060110 + 0x10 * n

/-- UPD.STAT (spec/21_firmware_update.md). -/
def Reg.UPD_STAT : Nat := 0x400E0000

/-- UPD.RXOFS (spec/21_firmware_update.md). -/
def Reg.UPD_RXOFS : Nat := 0x400E0004

/-- UPD.SRC (spec/21_firmware_update.md). -/
def Reg.UPD_SRC (n : Nat) : Nat := 0x400E0008 + 0x4 * n

/-- UPD.LEN (spec/21_firmware_update.md). -/
def Reg.UPD_LEN : Nat := 0x400E0010

/-- UPD.CMD (spec/21_firmware_update.md). -/
def Reg.UPD_CMD : Nat := 0x400E0014

/-- UPD.TOUT (spec/21_firmware_update.md). -/
def Reg.UPD_TOUT : Nat := 0x400E0018

/-- UPD.KEYS (spec/21_firmware_update.md). -/
def Reg.UPD_KEYS : Nat := 0x400E001C

/-- LNK.PASS (spec/07_link_timing_engine.md). -/
def Reg.LNK_PASS : Nat := 0x40400218

/-- LNK.ACKCNT (spec/07_link_timing_engine.md). -/
def Reg.LNK_ACKCNT : Nat := 0x40400220

/-- LNK.REACKCNT (spec/07_link_timing_engine.md). -/
def Reg.LNK_REACKCNT : Nat := 0x40400224

/-- LNK.OVRCNT (spec/07_link_timing_engine.md). -/
def Reg.LNK_OVRCNT : Nat := 0x40400228

/-- LNK.RPLCNT (spec/08_sleepy_downlink_beacons.md). -/
def Reg.LNK_RPLCNT : Nat := 0x40400910

/-- LNK.RPLMISS (spec/08_sleepy_downlink_beacons.md). -/
def Reg.LNK_RPLMISS : Nat := 0x40400914

/-- LNK.RSYNCNT (spec/08_sleepy_downlink_beacons.md). -/
def Reg.LNK_RSYNCNT : Nat := 0x40400918

/-- LNK.BSKIP (spec/08_sleepy_downlink_beacons.md). -/
def Reg.LNK_BSKIP : Nat := 0x4040091C

/-- LNK.PMISSCNT (spec/08_sleepy_downlink_beacons.md). -/
def Reg.LNK_PMISSCNT : Nat := 0x40400920

/-- LNK.PLAST (spec/08_sleepy_downlink_beacons.md). -/
def Reg.LNK_PLAST (n : Nat) : Nat := 0x40400B38 + 0x4 * n

/-- LNK.PNEXT (spec/08_sleepy_downlink_beacons.md). -/
def Reg.LNK_PNEXT (n : Nat) : Nat := 0x40400B40 + 0x4 * n

/-- LNK.HSTART (spec/08_sleepy_downlink_beacons.md). -/
def Reg.LNK_HSTART (n : Nat) : Nat := 0x40400B48 + 0x4 * n

/-- LNK.PRH (spec/08_sleepy_downlink_beacons.md). -/
def Reg.LNK_PRH : Nat := 0x40400B50

/-- LNK.PRW (spec/08_sleepy_downlink_beacons.md). -/
def Reg.LNK_PRW : Nat := 0x40400B54

/-- DCB.REFCNT (spec/09_duty_budget.md). -/
def Reg.DCB_REFCNT : Nat := 0x40500010

/-- DCB.DEFCNT (spec/09_duty_budget.md). -/
def Reg.DCB_DEFCNT : Nat := 0x40500014

/-- DCB.ACKRESCNT (spec/09_duty_budget.md). -/
def Reg.DCB_ACKRESCNT : Nat := 0x40500018

/-- DCB.BFLO (spec/09_duty_budget.md). -/
def Reg.DCB_BFLO (n : Nat) : Nat := 0x40500104 + 0x20 * n

/-- DCB.BFHI (spec/09_duty_budget.md). -/
def Reg.DCB_BFHI (n : Nat) : Nat := 0x40500108 + 0x20 * n

/-- DCB.BLIM (spec/09_duty_budget.md). -/
def Reg.DCB_BLIM (n : Nat) : Nat := 0x4050010C + 0x20 * n

/-- DCB.BAUX (spec/09_duty_budget.md). -/
def Reg.DCB_BAUX (n : Nat) : Nat := 0x40500110 + 0x20 * n

/-- DCB.BUSED (spec/09_duty_budget.md). -/
def Reg.DCB_BUSED (n : Nat) : Nat := 0x40500114 + 0x20 * n

/-- DCB.BRSVD (spec/09_duty_budget.md). -/
def Reg.DCB_BRSVD (n : Nat) : Nat := 0x40500118 + 0x20 * n

/-- DCB.BPRESET (spec/09_duty_budget.md). -/
def Reg.DCB_BPRESET (n : Nat) : Nat := 0x4050011C + 0x20 * n

/-- DCB.DFLO (spec/09_duty_budget.md). -/
def Reg.DCB_DFLO (n : Nat) : Nat := 0x40500404 + 0x20 * n

/-- DCB.DFHI (spec/09_duty_budget.md). -/
def Reg.DCB_DFHI (n : Nat) : Nat := 0x40500408 + 0x20 * n

/-- DCB.DLIM (spec/09_duty_budget.md). -/
def Reg.DCB_DLIM (n : Nat) : Nat := 0x4050040C + 0x20 * n

/-- DCB.DAUX (spec/09_duty_budget.md). -/
def Reg.DCB_DAUX (n : Nat) : Nat := 0x40500410 + 0x20 * n

/-- DCB.DUSED (spec/09_duty_budget.md). -/
def Reg.DCB_DUSED (n : Nat) : Nat := 0x40500414 + 0x20 * n

/-- DCB.DRSVD (spec/09_duty_budget.md). -/
def Reg.DCB_DRSVD (n : Nat) : Nat := 0x40500418 + 0x20 * n

/-- DCB.DPRESET (spec/09_duty_budget.md). -/
def Reg.DCB_DPRESET (n : Nat) : Nat := 0x4050041C + 0x20 * n

/-- DCB.BVAL (spec/09_duty_budget.md). -/
def Reg.DCB_BVAL : Nat := 0x40500804

/-- DCB.BIDX (spec/09_duty_budget.md). -/
def Reg.DCB_BIDX : Nat := 0x40500808

/-- EPR.SNAPCAP (spec/10_endpoint_registry.md). -/
def Reg.EPR_SNAPCAP : Nat := 0x4060006C

/-- EPR.LOADADV (spec/10_endpoint_registry.md). -/
def Reg.EPR_LOADADV : Nat := 0x40600070

/-- EPR.ERRADDR (spec/10_endpoint_registry.md). -/
def Reg.EPR_ERRADDR : Nat := 0x40600078

/-- EPR.LOADMAP (spec/10_endpoint_registry.md). -/
def Reg.EPR_LOADMAP (n : Nat) : Nat := 0x40600100 + 0x4 * n

/-- EPR.FAILMAP (spec/10_endpoint_registry.md). -/
def Reg.EPR_FAILMAP (n : Nat) : Nat := 0x40600140 + 0x4 * n

/-- EPR.HITCNT (spec/10_endpoint_registry.md). -/
def Reg.EPR_HITCNT : Nat := 0x40600180

/-- EPR.MISSCNT (spec/10_endpoint_registry.md). -/
def Reg.EPR_MISSCNT : Nat := 0x40600184

/-- EPR.WBCNT (spec/10_endpoint_registry.md). -/
def Reg.EPR_WBCNT : Nat := 0x40600188

/-- EPR.SHEETCNT (spec/10_endpoint_registry.md). -/
def Reg.EPR_SHEETCNT : Nat := 0x4060018C

/-- EPR.SREFCNT (spec/10_endpoint_registry.md). -/
def Reg.EPR_SREFCNT : Nat := 0x40600190

/-- EPR.SAVECNT (spec/10_endpoint_registry.md). -/
def Reg.EPR_SAVECNT : Nat := 0x40600194

/-- CIP.ERRCNT (spec/11_cipher_engine.md). -/
def Reg.CIP_ERRCNT : Nat := 0x40700060

/-- CIP.TCHIT (spec/11_cipher_engine.md). -/
def Reg.CIP_TCHIT : Nat := 0x40700064

/-- CIP.TCMISS (spec/11_cipher_engine.md). -/
def Reg.CIP_TCMISS : Nat := 0x40700068

/-- CIP.TCFAIL (spec/11_cipher_engine.md). -/
def Reg.CIP_TCFAIL : Nat := 0x4070006C

/-- REL.FAULTCNT (spec/12_reels.md). -/
def Reg.REL_FAULTCNT : Nat := 0x40800008

/-- REL.ROUTEDROP (spec/12_reels.md). -/
def Reg.REL_ROUTEDROP : Nat := 0x4080000C

/-- REL.NOROUTE (spec/12_reels.md). -/
def Reg.REL_NOROUTE : Nat := 0x40800010

/-- REL.PKDATA (spec/12_reels.md). -/
def Reg.REL_PKDATA : Nat := 0x40800024

/-- REL.PKTAG (spec/12_reels.md). -/
def Reg.REL_PKTAG : Nat := 0x40800028

/-- REL.POPn (spec/12_reels.md). -/
def Reg.REL_RPOP (n : Nat) : Nat := 0x40800114 + 0x40 * n

/-- REL.PEEKn (spec/12_reels.md). -/
def Reg.REL_RPEEK (n : Nat) : Nat := 0x40800118 + 0x40 * n

/-- REL.OVFCNTn (spec/12_reels.md). -/
def Reg.REL_ROVFCNT (n : Nat) : Nat := 0x40800128 + 0x40 * n

/-- REL.REWCNTn (spec/12_reels.md). -/
def Reg.REL_RREWCNT (n : Nat) : Nat := 0x4080012C + 0x40 * n

/-- REL.DROPCNTn (spec/12_reels.md). -/
def Reg.REL_RDROPCNT (n : Nat) : Nat := 0x40800130 + 0x40 * n

/-- REL.UNDCNTn (spec/12_reels.md). -/
def Reg.REL_RUNDCNT (n : Nat) : Nat := 0x40800134 + 0x40 * n

/-- TMR.TMRn.CNT (spec/14_timers.md). -/
def Reg.TMRN_CNT (n : Nat) : Nat := 0x40030104 + 0x40 * n

/-- TMR.TMRn.TOP (spec/14_timers.md). -/
def Reg.TMRN_TOP (n : Nat) : Nat := 0x40030108 + 0x40 * n

/-- TMR.TMRn.CMPk (spec/14_timers.md). -/
def Reg.TMRN_CMP (n : Nat) (m : Nat) : Nat := 0x4003010C + 0x40 * n + 0x4 * m

/-- CAL.TIME (spec/15_calendar.md). -/
def Reg.CAL_TIME : Nat := 0x40040014

/-- CAL.STIME (spec/15_calendar.md). -/
def Reg.CAL_STIME : Nat := 0x40040020

/-- CAL.DATE (spec/15_calendar.md). -/
def Reg.CAL_DATE : Nat := 0x40040018

/-- CAL.SDATE (spec/15_calendar.md). -/
def Reg.CAL_SDATE : Nat := 0x40040024

/-- CAL.YEAR (spec/15_calendar.md). -/
def Reg.CAL_YEAR : Nat := 0x4004001C

/-- CAL.SYEAR (spec/15_calendar.md). -/
def Reg.CAL_SYEAR : Nat := 0x40040028

/-- CPR.VBASE (KSA0–3) (spec/16_keasuric_model.md). -/
def Reg.CPR_VBASE_A (n : Nat) : Nat := 0xF0000008 + 0x10000 * n

/-- CPR.VBASE (KSS) (spec/16_keasuric_model.md). -/
def Reg.CPR_VBASE_S : Nat := 0xF0040008

/-- CPR.SPLIM (spec/16_keasuric_model.md). -/
def Reg.CPR_SPLIM (n : Nat) : Nat := 0xF000000C + 0x10000 * n

/-- CPR.FAULTADDR (spec/16_keasuric_model.md). -/
def Reg.CPR_FAULTADDR (n : Nat) : Nat := 0xF0000010 + 0x10000 * n

/-- CPR.FAULTPC (spec/16_keasuric_model.md). -/
def Reg.CPR_FAULTPC (n : Nat) : Nat := 0xF0000014 + 0x10000 * n

/-- CPR.MSGDATA0 (spec/16_keasuric_model.md). -/
def Reg.CPR_MSGDATA0 (n : Nat) : Nat := 0xF0000040 + 0x10000 * n

/-- CPR.MSGSEND (spec/16_keasuric_model.md). -/
def Reg.CPR_MSGSEND (n : Nat) (m : Nat) : Nat := 0xF0000044 + 0x10000 * n + 0x4 * m

/-- CPR.MSGRECV (spec/16_keasuric_model.md). -/
def Reg.CPR_MSGRECV (n : Nat) (m : Nat) : Nat := 0xF0000060 + 0x10000 * n + 0x4 * m

/-- CPR.MSGRECVC (spec/16_keasuric_model.md). -/
def Reg.CPR_MSGRECVC (n : Nat) : Nat := 0xF0000074 + 0x10000 * n

/-- CPR.MSGANY (spec/16_keasuric_model.md). -/
def Reg.CPR_MSGANY (n : Nat) : Nat := 0xF0000078 + 0x10000 * n

/-- CPR.MSGW1 (spec/16_keasuric_model.md). -/
def Reg.CPR_MSGW1 (n : Nat) : Nat := 0xF000007C + 0x10000 * n

/-- CPR.MSGFROM (spec/16_keasuric_model.md). -/
def Reg.CPR_MSGFROM (n : Nat) : Nat := 0xF0000080 + 0x10000 * n

/-- MEM.RGSIZE (spec/18_memory_ecc.md). -/
def Reg.MEM_RGSIZE : Nat := 0x40050010

/-- MEM.WINBASE (spec/18_memory_ecc.md). -/
def Reg.MEM_WINBASE : Nat := 0x40050014

/-- MEM.WINSIZE (spec/18_memory_ecc.md). -/
def Reg.MEM_WINSIZE : Nat := 0x40050018

/-- MEM.CECNT (spec/18_memory_ecc.md). -/
def Reg.MEM_CECNT (n : Nat) : Nat := 0x40050100 + 0x4 * n

/-- MEM.UECNTM (spec/18_memory_ecc.md). -/
def Reg.MEM_UECNTM (n : Nat) : Nat := 0x40050140 + 0x4 * n

/-- MEM.SCRPOS (spec/18_memory_ecc.md). -/
def Reg.MEM_SCRPOS (n : Nat) : Nat := 0x40050204 + 0x10 * n

/-- MEM.SCRPASS (spec/18_memory_ecc.md). -/
def Reg.MEM_SCRPASS (n : Nat) : Nat := 0x40050208 + 0x10 * n

/-- MEM.TDATA (spec/18_memory_ecc.md). -/
def Reg.MEM_TDATA (n : Nat) : Nat := 0x40050308 + 0x4 * n

/-- MEM.TCHK (spec/18_memory_ecc.md). -/
def Reg.MEM_TCHK : Nat := 0x40050318

/-- ODX.REQCNT (spec/19_object_dictionary.md). -/
def Reg.ODX_REQCNT : Nat := 0x40060080

/-- ODX.AUTHCNT (spec/19_object_dictionary.md). -/
def Reg.ODX_AUTHCNT : Nat := 0x40060084

/-- ODX.REPLAYCNT (spec/19_object_dictionary.md). -/
def Reg.ODX_REPLAYCNT : Nat := 0x40060088

/-- ODX.DROPCNT (spec/19_object_dictionary.md). -/
def Reg.ODX_DROPCNT : Nat := 0x4006008C

/-- ODX.NSKIP (spec/19_object_dictionary.md). -/
def Reg.ODX_NSKIP : Nat := 0x40060090

/-- ODX.Pn.H (spec/19_object_dictionary.md). -/
def Reg.ODX_P_H (n : Nat) : Nat := 0x40060104 + 0x10 * n

/-- ODX.Pn.W (spec/19_object_dictionary.md). -/
def Reg.ODX_P_W (n : Nat) : Nat := 0x40060108 + 0x10 * n

/-- ODX.Pn.NCTR (spec/19_object_dictionary.md). -/
def Reg.ODX_P_NCTR (n : Nat) : Nat := 0x4006010C + 0x10 * n

/-- SYN.CFG (spec/20_host_sync_interfaces.md). -/
def Reg.SYN_CFG : Nat := 0x400D0000

/-- SYN.STAT (spec/20_host_sync_interfaces.md). -/
def Reg.SYN_STAT : Nat := 0x400D0004

/-- SYN.FREQ (spec/20_host_sync_interfaces.md). -/
def Reg.SYN_FREQ : Nat := 0x400D0008

/-- SYN.RATE (spec/20_host_sync_interfaces.md). -/
def Reg.SYN_RATE : Nat := 0x400D000C

/-- SYN.LASTERR (spec/20_host_sync_interfaces.md). -/
def Reg.SYN_LASTERR : Nat := 0x400D0010

/-- SYN.LOCK (spec/20_host_sync_interfaces.md). -/
def Reg.SYN_LOCK : Nat := 0x400D0014

/-- SYN.STEPTH (spec/20_host_sync_interfaces.md). -/
def Reg.SYN_STEPTH : Nat := 0x400D0018

/-- SYN.PPSCFG (spec/20_host_sync_interfaces.md). -/
def Reg.SYN_PPSCFG : Nat := 0x400D0020

/-- SYN.PPSOFS (spec/20_host_sync_interfaces.md). -/
def Reg.SYN_PPSOFS : Nat := 0x400D0024

/-- SYN.PPSOUT (spec/20_host_sync_interfaces.md). -/
def Reg.SYN_PPSOUT : Nat := 0x400D0028

/-- SYN.PTPOFF (spec/20_host_sync_interfaces.md). -/
def Reg.SYN_PTPOFF : Nat := 0x400D0030

/-- SYN.PPSCNT (spec/20_host_sync_interfaces.md). -/
def Reg.SYN_PPSCNT : Nat := 0x400D0040

/-- SYN.PPSBAD (spec/20_host_sync_interfaces.md). -/
def Reg.SYN_PPSBAD : Nat := 0x400D0044

/-- SYN.SAMPCNT (spec/20_host_sync_interfaces.md). -/
def Reg.SYN_SAMPCNT : Nat := 0x400D0048

/-- ETH.CTL (spec/20_host_sync_interfaces.md). -/
def Reg.ETH_CTL (n : Nat) : Nat := 0x40070000 + 0x10000 * n

/-- ETH.STAT (spec/20_host_sync_interfaces.md). -/
def Reg.ETH_STAT (n : Nat) : Nat := 0x40070004 + 0x10000 * n

/-- ETH.MACLO (spec/20_host_sync_interfaces.md). -/
def Reg.ETH_MACLO (n : Nat) : Nat := 0x40070008 + 0x10000 * n

/-- ETH.MACHI (spec/20_host_sync_interfaces.md). -/
def Reg.ETH_MACHI (n : Nat) : Nat := 0x4007000C + 0x10000 * n

/-- ETH.IP4 (spec/20_host_sync_interfaces.md). -/
def Reg.ETH_IP4 (n : Nat) : Nat := 0x40070010 + 0x10000 * n

/-- ETH.IP6 (spec/20_host_sync_interfaces.md). -/
def Reg.ETH_IP6 (n : Nat) (m : Nat) : Nat := 0x40070014 + 0x10000 * n + 0x4 * m

/-- ETH.BCFG (spec/20_host_sync_interfaces.md). -/
def Reg.ETH_BCFG (n : Nat) : Nat := 0x40070030 + 0x10000 * n

/-- ETH.BDST (spec/20_host_sync_interfaces.md). -/
def Reg.ETH_BDST (n : Nat) : Nat := 0x40070034 + 0x10000 * n

/-- ETH.BDIP4 (spec/20_host_sync_interfaces.md). -/
def Reg.ETH_BDIP4 (n : Nat) : Nat := 0x40070038 + 0x10000 * n

/-- ETH.BDIP6 (spec/20_host_sync_interfaces.md). -/
def Reg.ETH_BDIP6 (n : Nat) (m : Nat) : Nat := 0x4007003C + 0x10000 * n + 0x4 * m

/-- ETH.BDMACLO (spec/20_host_sync_interfaces.md). -/
def Reg.ETH_BDMACLO (n : Nat) : Nat := 0x4007004C + 0x10000 * n

/-- ETH.BDMACHI (spec/20_host_sync_interfaces.md). -/
def Reg.ETH_BDMACHI (n : Nat) : Nat := 0x40070050 + 0x10000 * n

/-- ETH.LAT (spec/20_host_sync_interfaces.md). -/
def Reg.ETH_LAT (n : Nat) : Nat := 0x40070060 + 0x10000 * n

/-- ETH.RXRING (spec/20_host_sync_interfaces.md). -/
def Reg.ETH_RXRING (n : Nat) : Nat := 0x40070070 + 0x10000 * n

/-- ETH.TXRING (spec/20_host_sync_interfaces.md). -/
def Reg.ETH_TXRING (n : Nat) : Nat := 0x40070074 + 0x10000 * n

/-- ETH.RINGLEN (spec/20_host_sync_interfaces.md). -/
def Reg.ETH_RINGLEN (n : Nat) : Nat := 0x40070078 + 0x10000 * n

/-- ETH.RXCNT (spec/20_host_sync_interfaces.md). -/
def Reg.ETH_RXCNT (n : Nat) : Nat := 0x40070080 + 0x10000 * n

/-- ETH.TXCNT (spec/20_host_sync_interfaces.md). -/
def Reg.ETH_TXCNT (n : Nat) : Nat := 0x40070084 + 0x10000 * n

/-- ETH.DROPCNT (spec/20_host_sync_interfaces.md). -/
def Reg.ETH_DROPCNT (n : Nat) : Nat := 0x40070088 + 0x10000 * n

/-- ETH.BATCHCNT (spec/20_host_sync_interfaces.md). -/
def Reg.ETH_BATCHCNT (n : Nat) : Nat := 0x4007008C + 0x10000 * n

/-- SPH.CTL (spec/20_host_sync_interfaces.md). -/
def Reg.SPH_CTL : Nat := 0x400A0000

/-- SPH.TOUT (spec/20_host_sync_interfaces.md). -/
def Reg.SPH_TOUT : Nat := 0x400A0004

/-- SPH.STAT (spec/20_host_sync_interfaces.md). -/
def Reg.SPH_STAT : Nat := 0x400A0008

/-- SPH.ABNCNT (spec/20_host_sync_interfaces.md). -/
def Reg.SPH_ABNCNT : Nat := 0x400A000C

/-- SPH.FRMCNT (spec/20_host_sync_interfaces.md). -/
def Reg.SPH_FRMCNT : Nat := 0x400A0010

/-- UAT.CTL (spec/20_host_sync_interfaces.md). -/
def Reg.UAT_CTL : Nat := 0x400C0000

/-- UAT.STAT (spec/20_host_sync_interfaces.md). -/
def Reg.UAT_STAT : Nat := 0x400C0004

/-- UAT.DATA (spec/20_host_sync_interfaces.md). -/
def Reg.UAT_DATA : Nat := 0x400C0008

/-- SUP.STAT (spec/22_supervision_ageing.md). -/
def Reg.SUP_STAT : Nat := 0x40010000

/-- SUP.PLANCMD (spec/22_supervision_ageing.md). -/
def Reg.SUP_PLANCMD : Nat := 0x40010004

/-- SUP.PLANCFG (spec/22_supervision_ageing.md). -/
def Reg.SUP_PLANCFG : Nat := 0x40010008

/-- SUP.PLANLIM (spec/22_supervision_ageing.md). -/
def Reg.SUP_PLANLIM : Nat := 0x4001000C

/-- SUP.VOUT (spec/22_supervision_ageing.md). -/
def Reg.SUP_VOUT : Nat := 0x40010010

/-- SUP.MARGIN (spec/22_supervision_ageing.md). -/
def Reg.SUP_MARGIN : Nat := 0x40010014

/-- SUP.TEMP (spec/22_supervision_ageing.md). -/
def Reg.SUP_TEMP : Nat := 0x40010018

/-- SUP.AGE (spec/22_supervision_ageing.md). -/
def Reg.SUP_AGE : Nat := 0x4001001C

/-- SUP.PLANLAST (spec/22_supervision_ageing.md). -/
def Reg.SUP_PLANLAST (n : Nat) : Nat := 0x40010020 + 0x4 * n

/-- SUP.PLANCAUSE (spec/22_supervision_ageing.md). -/
def Reg.SUP_PLANCAUSE : Nat := 0x40010028

/-- SUP.MLSTART (spec/22_supervision_ageing.md). -/
def Reg.SUP_MLSTART (n : Nat) : Nat := 0x40010030 + 0x4 * n

/-- SUP.MLEND (spec/22_supervision_ageing.md). -/
def Reg.SUP_MLEND (n : Nat) : Nat := 0x40010038 + 0x4 * n

/-- SUP.MLSRC (spec/22_supervision_ageing.md). -/
def Reg.SUP_MLSRC : Nat := 0x40010040

/-- SUP.MLCNT (spec/22_supervision_ageing.md). -/
def Reg.SUP_MLCNT : Nat := 0x40010044

/-- SUP.PMB (spec/22_supervision_ageing.md). -/
def Reg.SUP_PMB : Nat := 0x40010050

/-- SUP.PMBSTAT (spec/22_supervision_ageing.md). -/
def Reg.SUP_PMBSTAT : Nat := 0x40010054

/-- SUP.PATH (spec/22_supervision_ageing.md). -/
def Reg.SUP_PATH : Nat := 0x40010060

/-- SUP.TCXO (spec/22_supervision_ageing.md). -/
def Reg.SUP_TCXO : Nat := 0x40010064

/-- SUP.TCXOAGE (spec/22_supervision_ageing.md). -/
def Reg.SUP_TCXOAGE : Nat := 0x40010068

/-- SUP.XTAL (spec/22_supervision_ageing.md). -/
def Reg.SUP_XTAL : Nat := 0x4001006C

/-- SUP.XTALTRIM (spec/22_supervision_ageing.md). -/
def Reg.SUP_XTALTRIM : Nat := 0x40010070

/-- SUP.PADRIFT (spec/22_supervision_ageing.md). -/
def Reg.SUP_PADRIFT (n : Nat) : Nat := 0x40010080 + 0x4 * n

/-- SUP.SENT (spec/22_supervision_ageing.md). -/
def Reg.SUP_SENT (n : Nat) : Nat := 0x40010100 + 0x4 * n

/-- SUP.SDC (spec/22_supervision_ageing.md). -/
def Reg.SUP_SDC (n : Nat) : Nat := 0x40010140 + 0x4 * n

/-- SUP.VIOL (spec/22_supervision_ageing.md). -/
def Reg.SUP_VIOL (n : Nat) : Nat := 0x40010200 + 0x4 * n

/-- SUP.CRPC (spec/22_supervision_ageing.md). -/
def Reg.SUP_CRPC (n : Nat) : Nat := 0x40010240 + 0x10 * n

/-- SUP.CRAD (spec/22_supervision_ageing.md). -/
def Reg.SUP_CRAD (n : Nat) : Nat := 0x40010244 + 0x10 * n

/-- SUP.CRCA (spec/22_supervision_ageing.md). -/
def Reg.SUP_CRCA (n : Nat) : Nat := 0x40010248 + 0x10 * n

/-- SUP.CRCNT (spec/22_supervision_ageing.md). -/
def Reg.SUP_CRCNT (n : Nat) : Nat := 0x4001024C + 0x10 * n

/-- SUP.WDPC (spec/22_supervision_ageing.md). -/
def Reg.SUP_WDPC : Nat := 0x40010290

/-- CHZ.PCENTREn (active copy) (spec/04_channelizer_detection.md). -/
def Reg.CHZ_PCENTRE_A (n : Nat) : Nat := 0x40204100 + 0x20 * n

/-- CHZ.PCFGn (active copy) (spec/04_channelizer_detection.md). -/
def Reg.CHZ_PCFG_A (n : Nat) : Nat := 0x40204104 + 0x20 * n

/-- CHZ.PMASKLOn (active copy) (spec/04_channelizer_detection.md). -/
def Reg.CHZ_PMASKLO_A (n : Nat) : Nat := 0x40204108 + 0x20 * n

/-- CHZ.PMASKHIn (active copy) (spec/04_channelizer_detection.md). -/
def Reg.CHZ_PMASKHI_A (n : Nat) : Nat := 0x4020410C + 0x20 * n

/-- CHZ.ASSIGNc (active copy) (spec/04_channelizer_detection.md). -/
def Reg.CHZ_ASSIGN_A (n : Nat) : Nat := 0x40204800 + 0x4 * n

/-- CHZ.PROFp.CFG (active copy) (spec/04_channelizer_detection.md). -/
def Reg.CHZ_PROF_CFG_A (n : Nat) : Nat := 0x40205000 + 0x20 * n

/-- CHZ.PROFp.RATE (active copy) (spec/04_channelizer_detection.md). -/
def Reg.CHZ_PROF_RATE_A (n : Nat) : Nat := 0x40205004 + 0x20 * n

/-- CHZ.PROFp.DEV (active copy) (spec/04_channelizer_detection.md). -/
def Reg.CHZ_PROF_DEV_A (n : Nat) : Nat := 0x40205008 + 0x20 * n

/-- CHZ.PROFp.PRE (active copy) (spec/04_channelizer_detection.md). -/
def Reg.CHZ_PROF_PRE_A (n : Nat) : Nat := 0x4020500C + 0x20 * n

/-- CHZ.PROFp.SYNC0 (active copy) (spec/04_channelizer_detection.md). -/
def Reg.CHZ_PROF_SYNC0_A (n : Nat) : Nat := 0x40205010 + 0x20 * n

/-- CHZ.PROFp.SYNC1 (active copy) (spec/04_channelizer_detection.md). -/
def Reg.CHZ_PROF_SYNC1_A (n : Nat) : Nat := 0x40205014 + 0x20 * n

/-- CHZ.PROFp.SLEN (active copy) (spec/04_channelizer_detection.md). -/
def Reg.CHZ_PROF_SLEN_A (n : Nat) : Nat := 0x40205018 + 0x20 * n

/-- CHZ.PROFp.DET (active copy) (spec/04_channelizer_detection.md). -/
def Reg.CHZ_PROF_DET_A (n : Nat) : Nat := 0x4020501C + 0x20 * n

/-- CUE_EN, all instances. -/
def Reg.CUE_EN (n : Nat) : Nat := 0x40020010 + 0x4 * n

/-- ODX_FWCHG, all instances. -/
def Reg.ODX_FWCHG (n : Nat) : Nat := 0x40060040 + 0x4 * n

/-- ODX_P_CFG, all instances. -/
def Reg.ODX_P_CFG (n : Nat) : Nat := 0x40060100 + 0x10 * n

/-- CPR_VBASE, all instances. -/
def Reg.CPR_VBASE (n : Nat) : Nat := 0xF0000008 + 0x10000 * n

/-- One row of the register map: first address, two levels of repetition (count and stride), the reset value, the
bits a plain write sets, and the bits a write of 1 clears. -/
structure RegRow where
  base : Nat
  count : Nat
  stride : Nat
  count2 : Nat
  stride2 : Nat
  reset : Nat
  rw : Nat
  w1c : Nat
  deriving DecidableEq, Repr

/-- Registers of SYS. -/
def regRowsSYS : List RegRow := [
  ⟨0x40000010, 1, 0x1000000, 1, 0x4, 0x303, 0xF00, 0x10000⟩,
  ⟨0x40000018, 1, 0x1000000, 1, 0x4, 0xF424000, 0xFFFFFFFF, 0x0⟩,
  ⟨0x40000014, 1, 0x1000000, 1, 0x4, 0x33333333, 0xFFFFFFFF, 0x0⟩,
  ⟨0x4000001C, 1, 0x1000000, 1, 0x4, 0xF21, 0xFF1, 0x0⟩,
  ⟨0x40000020, 1, 0x1000000, 1, 0x4, 0x0, 0x0, 0xF⟩,
  ⟨0x40000030, 1, 0x1000000, 1, 0x4, 0x1, 0x0, 0xF7F⟩,
  ⟨0x40000034, 1, 0x1000000, 1, 0x4, 0x0, 0xFFFF0000, 0x0⟩,
  ⟨0x40000038, 1, 0x1000000, 1, 0x4, 0x0, 0x0, 0x0⟩,
  ⟨0x4000003C, 1, 0x1000000, 1, 0x4, 0x0, 0x0, 0x0⟩,
  ⟨0x40000040, 1, 0x1000000, 1, 0x4, 0x0, 0x0, 0x0⟩,
  ⟨0x40000044, 1, 0x1000000, 1, 0x4, 0x0, 0x0, 0x0⟩,
  ⟨0x40000048, 2, 0x4, 1, 0x4, 0x0, 0x0, 0x0⟩,
  ⟨0x40000050, 1, 0x1000000, 1, 0x4, 0x0, 0x0, 0x0⟩]

/-- Registers of RFC. -/
def regRowsRFC : List RegRow := [
  ⟨0x40100000, 8, 0x2000, 1, 0x4, 0x100, 0x110, 0x0⟩,
  ⟨0x40100004, 8, 0x2000, 1, 0x4, 0x0, 0x0, 0xE000⟩,
  ⟨0x40100010, 8, 0x2000, 1, 0x4, 0x0, 0x0, 0x0⟩,
  ⟨0x40100014, 8, 0x2000, 1, 0x4, 0x0, 0x0, 0x0⟩,
  ⟨0x40100020, 8, 0x2000, 1, 0x4, 0x0, 0xFF, 0x0⟩,
  ⟨0x40100024, 8, 0x2000, 1, 0x4, 0x0, 0xFF, 0x0⟩,
  ⟨0x40100028, 8, 0x2000, 1, 0x4, 0x10, 0x7F, 0x0⟩,
  ⟨0x40100030, 8, 0x2000, 1, 0x4, 0x0, 0x37, 0x0⟩,
  ⟨0x40100034, 8, 0x2000, 1, 0x4, 0x400040, 0x7FF07FF, 0x0⟩,
  ⟨0x40100038, 8, 0x2000, 1, 0x4, 0x400040, 0x7FF07FF, 0x0⟩,
  ⟨0x40100040, 8, 0x2000, 1, 0x4, 0x100000, 0xFF0F01, 0x0⟩,
  ⟨0x40100044, 8, 0x2000, 1, 0x4, 0x0, 0x0, 0x0⟩,
  ⟨0x40100050, 8, 0x2000, 1, 0x4, 0x0, 0x0, 0x0⟩,
  ⟨0x40100054, 8, 0x2000, 1, 0x4, 0x0, 0x0, 0xFFF0⟩,
  ⟨0x40100060, 8, 0x2000, 1, 0x4, 0x5000, 0xFF01, 0x0⟩,
  ⟨0x40100070, 8, 0x2000, 1, 0x4, 0x0, 0x0, 0x0⟩,
  ⟨0x40100078, 8, 0x2000, 2, 0x4, 0x0, 0x0, 0x0⟩,
  ⟨0x40100080, 8, 0x2000, 2, 0x4, 0x0, 0x0, 0x0⟩]

/-- Registers of CHZ. -/
def regRowsCHZ : List RegRow := [
  ⟨0x40200000, 1, 0x1000000, 1, 0x4, 0x0, 0x1FF, 0x0⟩,
  ⟨0x40200008, 2, 0x4, 1, 0x4, 0x0, 0xFFFFFFFF, 0x0⟩,
  ⟨0x40200010, 1, 0x1000000, 1, 0x4, 0x0, 0x0, 0xD⟩,
  ⟨0x40200014, 1, 0x1000000, 1, 0x4, 0x0, 0x0, 0x0⟩,
  ⟨0x40200018, 1, 0x1000000, 1, 0x4, 0x30D400, 0xFFFFFFFF, 0x0⟩,
  ⟨0x4020001C, 1, 0x1000000, 1, 0x4, 0x0, 0x0, 0x0⟩,
  ⟨0x40200020, 1, 0x1000000, 1, 0x4, 0x0, 0x0, 0x0⟩,
  ⟨0x40200024, 1, 0x1000000, 1, 0x4, 0x1403E8, 0xFFFFFF, 0x0⟩,
  ⟨0x40200100, 8, 0x20, 1, 0x4, 0x33BCA100, 0xFFFFFFFF, 0x0⟩,
  ⟨0x40200104, 8, 0x20, 1, 0x4, 0x1012, 0x37, 0x0⟩,
  ⟨0x40200108, 8, 0x20, 1, 0x4, 0x0, 0xFFFFFFFF, 0x0⟩,
  ⟨0x4020010C, 8, 0x20, 1, 0x4, 0x0, 0xFFFFFFFF, 0x0⟩,
  ⟨0x40200800, 512, 0x4, 1, 0x4, 0x0, 0xFFFFF, 0x0⟩,
  ⟨0x40201000, 16, 0x20, 1, 0x4, 0x1FF0000, 0x1FF01FF, 0x0⟩,
  ⟨0x40201004, 16, 0x20, 1, 0x4, 0x0, 0x3FFFF, 0x0⟩,
  ⟨0x40201008, 16, 0x20, 1, 0x4, 0x0, 0x3FFFF, 0x0⟩,
  ⟨0x4020100C, 16, 0x20, 1, 0x4, 0x1055, 0xF0FFFFF, 0x0⟩,
  ⟨0x40201010, 16, 0x20, 1, 0x4, 0x0, 0xFFFFFFFF, 0x0⟩,
  ⟨0x40201014, 16, 0x20, 1, 0x4, 0x0, 0xFFFFFFFF, 0x0⟩,
  ⟨0x40201018, 16, 0x20, 1, 0x4, 0x10, 0x3F3F, 0x0⟩,
  ⟨0x4020101C, 16, 0x20, 1, 0x4, 0x14, 0x7F, 0x0⟩,
  ⟨0x40202000, 512, 0x4, 1, 0x4, 0x80008000, 0x0, 0x0⟩,
  ⟨0x40202800, 512, 0x4, 1, 0x4, 0x0, 0x0, 0x0⟩,
  ⟨0x40204100, 8, 0x20, 1, 0x4, 0x33BCA100, 0x0, 0x0⟩,
  ⟨0x40204104, 8, 0x20, 1, 0x4, 0x1012, 0x0, 0x0⟩,
  ⟨0x40204108, 8, 0x20, 1, 0x4, 0x0, 0x0, 0x0⟩,
  ⟨0x4020410C, 8, 0x20, 1, 0x4, 0x0, 0x0, 0x0⟩,
  ⟨0x40204800, 512, 0x4, 1, 0x4, 0x0, 0x0, 0x0⟩,
  ⟨0x40205000, 16, 0x20, 1, 0x4, 0x1FF0000, 0x0, 0x0⟩,
  ⟨0x40205004, 16, 0x20, 1, 0x4, 0x0, 0x0, 0x0⟩]

/-- Registers of CHZ. -/
def regRowsCHZ1 : List RegRow := [
  ⟨0x40205008, 16, 0x20, 1, 0x4, 0x0, 0x0, 0x0⟩,
  ⟨0x4020500C, 16, 0x20, 1, 0x4, 0x1055, 0x0, 0x0⟩,
  ⟨0x40205010, 16, 0x20, 1, 0x4, 0x0, 0x0, 0x0⟩,
  ⟨0x40205014, 16, 0x20, 1, 0x4, 0x0, 0x0, 0x0⟩,
  ⟨0x40205018, 16, 0x20, 1, 0x4, 0x10, 0x0, 0x0⟩,
  ⟨0x4020501C, 16, 0x20, 1, 0x4, 0x14, 0x0, 0x0⟩]

/-- Registers of DMD. -/
def regRowsDMD : List RegRow := [
  ⟨0x40300000, 1, 0x1000000, 1, 0x4, 0x0, 0x0, 0x0⟩,
  ⟨0x40300004, 1, 0x1000000, 1, 0x4, 0x0, 0x0, 0x0⟩,
  ⟨0x40300008, 1, 0x1000000, 1, 0x4, 0x0, 0x0, 0x1⟩,
  ⟨0x40300010, 6, 0x4, 1, 0x4, 0x0, 0x0, 0x0⟩,
  ⟨0x40300040, 8, 0x4, 1, 0x4, 0x0, 0x0, 0x0⟩,
  ⟨0x40301000, 512, 0x4, 1, 0x4, 0x0, 0x0, 0x0⟩,
  ⟨0x40304000, 192, 0x20, 8, 0x4, 0x0, 0x0, 0x0⟩,
  ⟨0x40306000, 192, 0x8, 2, 0x4, 0x0, 0x0, 0x0⟩]

/-- Registers of LNK. -/
def regRowsLNK : List RegRow := [
  ⟨0x40400000, 1, 0x1000000, 1, 0x4, 0x11, 0x31, 0x0⟩,
  ⟨0x40400004, 1, 0x1000000, 1, 0x4, 0x0, 0x0, 0x7⟩,
  ⟨0x40400008, 1, 0x1000000, 1, 0x4, 0x0, 0x1FFFFFF, 0x0⟩,
  ⟨0x40400010, 4, 0x4, 1, 0x4, 0x0, 0x1FFFF, 0x0⟩,
  ⟨0x40400020, 1, 0x1000000, 1, 0x4, 0x3, 0x3F, 0x0⟩,
  ⟨0x40400024, 1, 0x1000000, 1, 0x4, 0x140, 0xFFFF, 0x0⟩,
  ⟨0x40400028, 1, 0x1000000, 1, 0x4, 0xA0, 0xFF, 0x0⟩,
  ⟨0x40400040, 16, 0x4, 1, 0x4, 0x7D00, 0xFFFFF, 0x0⟩,
  ⟨0x40400080, 1, 0x1000000, 1, 0x4, 0x0, 0x0, 0x0⟩,
  ⟨0x40400084, 1, 0x1000000, 1, 0x4, 0x0, 0xFFFF0000, 0x0⟩,
  ⟨0x40400100, 8, 0x10, 1, 0x4, 0x0, 0xFF, 0x0⟩,
  ⟨0x40400104, 8, 0x10, 1, 0x4, 0x10101010, 0xFFFFFFFF, 0x0⟩,
  ⟨0x40400108, 8, 0x10, 1, 0x4, 0x10101010, 0xFFFFFFFF, 0x0⟩,
  ⟨0x40400200, 6, 0x4, 1, 0x4, 0x0, 0x0, 0x0⟩,
  ⟨0x40400300, 1, 0x1000000, 1, 0x4, 0x0, 0xFFF, 0x0⟩,
  ⟨0x40400304, 2, 0x4, 1, 0x4, 0x0, 0xFFFFFFFF, 0x0⟩,
  ⟨0x4040030C, 1, 0x1000000, 1, 0x4, 0x0, 0xFFFFFFFF, 0x0⟩,
  ⟨0x40400310, 1, 0x1000000, 1, 0x4, 0x0, 0xFFFFFFFF, 0x0⟩,
  ⟨0x40400314, 1, 0x1000000, 1, 0x4, 0x0, 0x0, 0x0⟩,
  ⟨0x40400318, 1, 0x1000000, 1, 0x4, 0x0, 0x0, 0x1⟩,
  ⟨0x40400800, 16, 0x8, 1, 0x4, 0xF0140FFF, 0xF0FF0FFF, 0x0⟩,
  ⟨0x40400804, 16, 0x8, 1, 0x4, 0x75300005, 0xFFFF00FF, 0x0⟩,
  ⟨0x40400900, 1, 0x1000000, 1, 0x4, 0x0, 0x3FFFF, 0x0⟩,
  ⟨0x40400904, 1, 0x1000000, 1, 0x4, 0x0, 0x0, 0x80000000⟩,
  ⟨0x40400A00, 1, 0x1000000, 1, 0x4, 0x0, 0x87FFCFFF, 0x0⟩,
  ⟨0x40400A04, 1, 0x1000000, 1, 0x4, 0x100000, 0x1FF00FF, 0x0⟩,
  ⟨0x40400A08, 1, 0x1000000, 1, 0x4, 0x0, 0x8003FFFF, 0x0⟩,
  ⟨0x40400A0C, 1, 0x1000000, 1, 0x4, 0x0, 0x0, 0x0⟩,
  ⟨0x40400B00, 1, 0x1000000, 1, 0x4, 0x0, 0x1FFFFFF, 0x0⟩,
  ⟨0x40400B04, 1, 0x1000000, 1, 0x4, 0x0, 0xFFF0FFF, 0x0⟩]

/-- Registers of LNK. -/
def regRowsLNK1 : List RegRow := [
  ⟨0x40400B08, 2, 0x4, 1, 0x4, 0x0, 0xFFFFFFFF, 0x0⟩,
  ⟨0x40400B10, 4, 0x4, 1, 0x4, 0x0, 0x8000F73F, 0x0⟩,
  ⟨0x40400B20, 1, 0x1000000, 1, 0x4, 0x3E8001F4, 0xFFFFFFFF, 0x0⟩,
  ⟨0x40400B24, 1, 0x1000000, 1, 0x4, 0x2580005, 0xFFFF00FF, 0x0⟩,
  ⟨0x40400B28, 1, 0x1000000, 1, 0x4, 0x30D400, 0xFFFFFFFF, 0x0⟩,
  ⟨0x40400B2C, 1, 0x1000000, 1, 0x4, 0x0, 0xFFFF, 0x0⟩,
  ⟨0x40400B30, 1, 0x1000000, 1, 0x4, 0x0, 0x0, 0x0⟩,
  ⟨0x40400218, 1, 0x1000000, 1, 0x4, 0x0, 0x0, 0x0⟩,
  ⟨0x40400220, 1, 0x1000000, 1, 0x4, 0x0, 0x0, 0x0⟩,
  ⟨0x40400224, 1, 0x1000000, 1, 0x4, 0x0, 0x0, 0x0⟩,
  ⟨0x40400228, 1, 0x1000000, 1, 0x4, 0x0, 0x0, 0x0⟩,
  ⟨0x40400910, 1, 0x1000000, 1, 0x4, 0x0, 0x0, 0x0⟩,
  ⟨0x40400914, 1, 0x1000000, 1, 0x4, 0x0, 0x0, 0x0⟩,
  ⟨0x40400918, 1, 0x1000000, 1, 0x4, 0x0, 0x0, 0x0⟩,
  ⟨0x4040091C, 1, 0x1000000, 1, 0x4, 0x0, 0x0, 0x0⟩,
  ⟨0x40400920, 1, 0x1000000, 1, 0x4, 0x0, 0x0, 0x0⟩,
  ⟨0x40400B38, 2, 0x4, 1, 0x4, 0x0, 0x0, 0x0⟩,
  ⟨0x40400B40, 2, 0x4, 1, 0x4, 0x0, 0x0, 0x0⟩,
  ⟨0x40400B48, 2, 0x4, 1, 0x4, 0x0, 0x0, 0x0⟩,
  ⟨0x40400B50, 1, 0x1000000, 1, 0x4, 0x0, 0xFFFFFFFF, 0x0⟩,
  ⟨0x40400B54, 1, 0x1000000, 1, 0x4, 0x0, 0xFFFFFFFF, 0x0⟩]

/-- Registers of DCB. -/
def regRowsDCB : List RegRow := [
  ⟨0x40500000, 1, 0x1000000, 1, 0x4, 0x1, 0x1, 0x0⟩,
  ⟨0x40500004, 1, 0x1000000, 1, 0x4, 0x0, 0x0, 0x3⟩,
  ⟨0x40500100, 16, 0x20, 1, 0x4, 0x20000E10, 0xF0FF0FFF, 0x0⟩,
  ⟨0x40500400, 16, 0x20, 1, 0x4, 0x20000E10, 0xE0FF0FFF, 0x0⟩,
  ⟨0x40500800, 1, 0x1000000, 1, 0x4, 0x0, 0x8F1FF03F, 0x0⟩,
  ⟨0x40500010, 1, 0x1000000, 1, 0x4, 0x0, 0x0, 0x0⟩,
  ⟨0x40500014, 1, 0x1000000, 1, 0x4, 0x0, 0x0, 0x0⟩,
  ⟨0x40500018, 1, 0x1000000, 1, 0x4, 0x0, 0x0, 0x0⟩,
  ⟨0x40500104, 16, 0x20, 1, 0x4, 0x0, 0xFFFFFFFF, 0x0⟩,
  ⟨0x40500108, 16, 0x20, 1, 0x4, 0x0, 0xFFFFFFFF, 0x0⟩,
  ⟨0x4050010C, 16, 0x20, 1, 0x4, 0x0, 0xFFFFF, 0x0⟩,
  ⟨0x40500110, 16, 0x20, 1, 0x4, 0x0, 0xFFFFF, 0x0⟩,
  ⟨0x40500114, 16, 0x20, 1, 0x4, 0x0, 0x0, 0x0⟩,
  ⟨0x40500118, 16, 0x20, 1, 0x4, 0x0, 0x0, 0x0⟩,
  ⟨0x4050011C, 16, 0x20, 1, 0x4, 0x0, 0xF, 0x0⟩,
  ⟨0x40500404, 16, 0x20, 1, 0x4, 0x0, 0xFFFFFFFF, 0x0⟩,
  ⟨0x40500408, 16, 0x20, 1, 0x4, 0x0, 0xFFFFFFFF, 0x0⟩,
  ⟨0x4050040C, 16, 0x20, 1, 0x4, 0x0, 0xFFFFFFFF, 0x0⟩,
  ⟨0x40500410, 16, 0x20, 1, 0x4, 0x0, 0xFFFFFFFF, 0x0⟩,
  ⟨0x40500414, 16, 0x20, 1, 0x4, 0x0, 0x0, 0x0⟩,
  ⟨0x40500418, 16, 0x20, 1, 0x4, 0x0, 0x0, 0x0⟩,
  ⟨0x4050041C, 16, 0x20, 1, 0x4, 0x0, 0xF, 0x0⟩,
  ⟨0x40500804, 1, 0x1000000, 1, 0x4, 0x0, 0x0, 0x0⟩,
  ⟨0x40500808, 1, 0x1000000, 1, 0x4, 0x0, 0x0, 0x0⟩]

/-- Registers of EPR. -/
def regRowsEPR : List RegRow := [
  ⟨0x40600000, 1, 0x1000000, 1, 0x4, 0x0, 0x0, 0xF8⟩,
  ⟨0x40600004, 1, 0x1000000, 1, 0x4, 0x0, 0x0, 0x0⟩,
  ⟨0x40600008, 2, 0x4, 1, 0x4, 0x0, 0x0, 0x0⟩,
  ⟨0x40600010, 2, 0x4, 1, 0x4, 0x0, 0xFFFFFFFF, 0x0⟩,
  ⟨0x40600018, 1, 0x1000000, 1, 0x4, 0x0, 0xFFFF0000, 0x0⟩,
  ⟨0x40600020, 1, 0x1000000, 1, 0x4, 0x0, 0xFFFF, 0x0⟩,
  ⟨0x40600024, 1, 0x1000000, 1, 0x4, 0x0, 0xFFF, 0x0⟩,
  ⟨0x40600028, 2, 0x4, 1, 0x4, 0x0, 0xFFFFFFFF, 0x0⟩,
  ⟨0x40600030, 1, 0x1000000, 1, 0x4, 0x0, 0x0, 0x0⟩,
  ⟨0x40600034, 1, 0x1000000, 1, 0x4, 0x0, 0x0, 0xE0000000⟩,
  ⟨0x40600038, 2, 0x4, 1, 0x4, 0x0, 0x0, 0x0⟩,
  ⟨0x40600040, 1, 0x1000000, 1, 0x4, 0x0, 0x1FF, 0x0⟩,
  ⟨0x40600044, 1, 0x1000000, 1, 0x4, 0x0, 0x0, 0x0⟩,
  ⟨0x40600048, 2, 0x4, 1, 0x4, 0x0, 0x0, 0x0⟩,
  ⟨0x40600050, 1, 0x1000000, 1, 0x4, 0x0, 0x400001FF, 0x0⟩,
  ⟨0x40600060, 1, 0x1000000, 1, 0x4, 0xE10000A, 0xFFFFFFFF, 0x0⟩,
  ⟨0x40600064, 1, 0x1000000, 1, 0x4, 0x0, 0x0, 0x0⟩,
  ⟨0x40600068, 1, 0x1000000, 1, 0x4, 0x0, 0x0, 0x0⟩,
  ⟨0x40600080, 1, 0x1000000, 1, 0x4, 0x0, 0x1FFFFFF, 0x0⟩,
  ⟨0x40600090, 16, 0x4, 1, 0x4, 0x0, 0x0, 0x0⟩,
  ⟨0x4060006C, 1, 0x1000000, 1, 0x4, 0x0, 0x0, 0x0⟩,
  ⟨0x40600070, 1, 0x1000000, 1, 0x4, 0x0, 0xFFFF, 0x0⟩,
  ⟨0x40600078, 1, 0x1000000, 1, 0x4, 0x0, 0x0, 0x0⟩,
  ⟨0x40600100, 16, 0x4, 1, 0x4, 0x0, 0x0, 0x0⟩,
  ⟨0x40600140, 16, 0x4, 1, 0x4, 0x0, 0x0, 0x0⟩,
  ⟨0x40600180, 1, 0x1000000, 1, 0x4, 0x0, 0x0, 0x0⟩,
  ⟨0x40600184, 1, 0x1000000, 1, 0x4, 0x0, 0x0, 0x0⟩,
  ⟨0x40600188, 1, 0x1000000, 1, 0x4, 0x0, 0x0, 0x0⟩,
  ⟨0x4060018C, 1, 0x1000000, 1, 0x4, 0x0, 0x0, 0x0⟩,
  ⟨0x40600190, 1, 0x1000000, 1, 0x4, 0x0, 0x0, 0x0⟩]

/-- Registers of EPR. -/
def regRowsEPR1 : List RegRow := [
  ⟨0x40600194, 1, 0x1000000, 1, 0x4, 0x0, 0x0, 0x0⟩]

/-- Registers of CIP. -/
def regRowsCIP : List RegRow := [
  ⟨0x40700000, 1, 0x1000000, 1, 0x4, 0x0, 0x0, 0xF⟩,
  ⟨0x40700004, 1, 0x1000000, 1, 0x4, 0x0, 0xFFFFFFFF, 0x0⟩,
  ⟨0x40700010, 8, 0x4, 1, 0x4, 0x0, 0x0, 0x3⟩,
  ⟨0x40700040, 8, 0x4, 1, 0x4, 0x0, 0x0, 0x0⟩,
  ⟨0x40700080, 4, 0x8, 2, 0x4, 0x0, 0x0, 0x0⟩,
  ⟨0x40700100, 1, 0x1000000, 1, 0x4, 0x0, 0xFFF, 0x0⟩,
  ⟨0x40700104, 1, 0x1000000, 1, 0x4, 0x0, 0x0, 0x0⟩,
  ⟨0x40700108, 1, 0x1000000, 1, 0x4, 0x0, 0x0, 0x0⟩,
  ⟨0x4070010C, 1, 0x1000000, 1, 0x4, 0x0, 0x0, 0x0⟩,
  ⟨0x40700110, 10, 0x4, 1, 0x4, 0x0, 0x0, 0x0⟩,
  ⟨0x40700140, 1, 0x1000000, 1, 0x4, 0x0, 0x7E00FFFF, 0x0⟩,
  ⟨0x40700144, 1, 0x1000000, 1, 0x4, 0x0, 0x0, 0x0⟩,
  ⟨0x40700148, 1, 0x1000000, 1, 0x4, 0x0, 0xFFF, 0x0⟩,
  ⟨0x40700060, 1, 0x1000000, 1, 0x4, 0x0, 0x0, 0x0⟩,
  ⟨0x40700064, 1, 0x1000000, 1, 0x4, 0x0, 0x0, 0x0⟩,
  ⟨0x40700068, 1, 0x1000000, 1, 0x4, 0x0, 0x0, 0x0⟩,
  ⟨0x4070006C, 1, 0x1000000, 1, 0x4, 0x0, 0x0, 0x0⟩]

/-- Registers of REL. -/
def regRowsREL : List RegRow := [
  ⟨0x40800000, 1, 0x1000000, 1, 0x4, 0x0, 0x0, 0x1F⟩,
  ⟨0x40800004, 1, 0x1000000, 1, 0x4, 0x4E200, 0xFFFFFFFF, 0x0⟩,
  ⟨0x40800020, 1, 0x1000000, 1, 0x4, 0x0, 0x1F007FFF, 0x0⟩,
  ⟨0x40800100, 32, 0x40, 1, 0x4, 0x200, 0xC7707FFF, 0x0⟩,
  ⟨0x40800104, 32, 0x40, 1, 0x4, 0x8B, 0x3FFF, 0x0⟩,
  ⟨0x40800108, 32, 0x40, 1, 0x4, 0x0, 0x0, 0xF0⟩,
  ⟨0x4080010C, 32, 0x40, 1, 0x4, 0x0, 0x0, 0x0⟩,
  ⟨0x40800110, 32, 0x40, 1, 0x4, 0x0, 0x0, 0x0⟩,
  ⟨0x4080011C, 32, 0x40, 1, 0x4, 0x0, 0x0, 0x0⟩,
  ⟨0x40800120, 32, 0x40, 1, 0x4, 0x0, 0x0, 0x0⟩,
  ⟨0x40800124, 32, 0x40, 1, 0x4, 0x0, 0xFFFFFFFF, 0x0⟩,
  ⟨0x40800A00, 16, 0x8, 1, 0x4, 0x4C01, 0xF81F7FFF, 0x0⟩,
  ⟨0x40800A04, 16, 0x8, 1, 0x4, 0xFF00FFFF, 0xFF00FFFF, 0x0⟩,
  ⟨0x40800008, 1, 0x1000000, 1, 0x4, 0x0, 0x0, 0x0⟩,
  ⟨0x4080000C, 1, 0x1000000, 1, 0x4, 0x0, 0x0, 0x0⟩,
  ⟨0x40800010, 1, 0x1000000, 1, 0x4, 0x0, 0x0, 0x0⟩,
  ⟨0x40800024, 1, 0x1000000, 1, 0x4, 0x0, 0x0, 0x0⟩,
  ⟨0x40800028, 1, 0x1000000, 1, 0x4, 0x0, 0x0, 0x0⟩,
  ⟨0x40800114, 32, 0x40, 1, 0x4, 0x0, 0x0, 0x0⟩,
  ⟨0x40800118, 32, 0x40, 1, 0x4, 0x0, 0x0, 0x0⟩,
  ⟨0x40800128, 32, 0x40, 1, 0x4, 0x0, 0x0, 0x0⟩,
  ⟨0x4080012C, 32, 0x40, 1, 0x4, 0x0, 0x0, 0x0⟩,
  ⟨0x40800130, 32, 0x40, 1, 0x4, 0x0, 0x0, 0x0⟩,
  ⟨0x40800134, 32, 0x40, 1, 0x4, 0x0, 0x0, 0x0⟩]

/-- Registers of CUE. -/
def regRowsCUE : List RegRow := [
  ⟨0x40020000, 1, 0x1000000, 1, 0x4, 0x0, 0x0, 0x3⟩,
  ⟨0x40020004, 1, 0x1000000, 1, 0x4, 0x0, 0x0, 0x0⟩,
  ⟨0x40020010, 1, 0x1000000, 1, 0x4, 0xFFFFFFFF, 0xFFFFFFFF, 0x0⟩,
  ⟨0x40020014, 1, 0x1000000, 1, 0x4, 0xFFFFFFFF, 0xFFFFFFFF, 0x0⟩,
  ⟨0x40020018, 1, 0x1000000, 1, 0x4, 0xFFFFFFFF, 0xFFFFFFFF, 0x0⟩,
  ⟨0x4002001C, 1, 0x1000000, 1, 0x4, 0xFFFFFFFF, 0xFFFFFFFF, 0x0⟩,
  ⟨0x40020020, 1, 0x1000000, 1, 0x4, 0x7FFFF, 0xFFFFFFFF, 0x0⟩,
  ⟨0x40020024, 1, 0x1000000, 1, 0x4, 0x0, 0xFFFFFFFF, 0x0⟩,
  ⟨0x40020028, 1, 0x1000000, 1, 0x4, 0x1E00000, 0xFFFFFFFF, 0x0⟩,
  ⟨0x40020030, 7, 0x4, 1, 0x4, 0x0, 0x0, 0x0⟩,
  ⟨0x40020050, 7, 0x4, 1, 0x4, 0x0, 0x0, 0xFFFFFFFF⟩,
  ⟨0x40020080, 5, 0x4, 1, 0x4, 0x0, 0x0, 0xFFFFFFFF⟩,
  ⟨0x40020100, 6, 0x20, 5, 0x4, 0x0, 0xFFFFFFFF, 0x0⟩,
  ⟨0x40020400, 217, 0x4, 1, 0x4, 0x0, 0x0, 0x0⟩,
  ⟨0x40020800, 16, 0x10, 1, 0x4, 0x10000, 0xFCFFFFFF, 0x0⟩,
  ⟨0x40020804, 16, 0x10, 1, 0x4, 0x0, 0xFFFF, 0x0⟩,
  ⟨0x40020808, 16, 0x10, 1, 0x4, 0x0, 0x0, 0x0⟩,
  ⟨0x4002080C, 16, 0x10, 1, 0x4, 0x0, 0x0, 0x4⟩]

/-- Registers of TMR. -/
def regRowsTMR : List RegRow := [
  ⟨0x40030000, 1, 0x1000000, 1, 0x4, 0x0, 0xFFFF, 0x0⟩,
  ⟨0x40030004, 1, 0x1000000, 1, 0x4, 0x0, 0x0, 0x0⟩,
  ⟨0x40030008, 2, 0x4, 1, 0x4, 0x0, 0x0, 0x0⟩,
  ⟨0x40030010, 1, 0x1000000, 1, 0x4, 0x0, 0x0, 0x0⟩,
  ⟨0x40030040, 16, 0x4, 1, 0x4, 0x0, 0xFFFFFFFF, 0x0⟩,
  ⟨0x40030100, 16, 0x40, 1, 0x4, 0x0, 0xFFFF001D, 0x0⟩,
  ⟨0x4003011C, 16, 0x40, 1, 0x4, 0x0, 0x0, 0x0⟩,
  ⟨0x40030120, 16, 0x40, 2, 0x4, 0x0, 0x0, 0x0⟩,
  ⟨0x40030128, 16, 0x40, 1, 0x4, 0x0, 0x0, 0x7F⟩,
  ⟨0x4003012C, 16, 0x40, 1, 0x4, 0x0, 0x7F, 0x0⟩,
  ⟨0x40030130, 16, 0x40, 1, 0x4, 0x0, 0x0, 0x0⟩,
  ⟨0x40030104, 16, 0x40, 1, 0x4, 0x0, 0xFFFFFFFF, 0x0⟩,
  ⟨0x40030108, 16, 0x40, 1, 0x4, 0xFFFFFFFF, 0xFFFFFFFF, 0x0⟩,
  ⟨0x4003010C, 16, 0x40, 4, 0x4, 0xFFFFFFFF, 0xFFFFFFFF, 0x0⟩]

/-- Registers of CAL. -/
def regRowsCAL : List RegRow := [
  ⟨0x40040000, 1, 0x1000000, 1, 0x4, 0x1, 0x0, 0xC7A⟩,
  ⟨0x40040010, 1, 0x1000000, 1, 0x4, 0x0, 0x0, 0x0⟩,
  ⟨0x4004002C, 1, 0x1000000, 1, 0x4, 0x0, 0x0, 0x0⟩,
  ⟨0x40040030, 1, 0x1000000, 1, 0x4, 0x0, 0x1FFF, 0x0⟩,
  ⟨0x40040034, 1, 0x1000000, 1, 0x4, 0x1, 0xC701FFFF, 0x0⟩,
  ⟨0x40040038, 1, 0x1000000, 1, 0x4, 0x70000000, 0xF01F3F3F, 0x0⟩,
  ⟨0x4004003C, 1, 0x1000000, 1, 0x4, 0x70000000, 0x77000F1F, 0x0⟩,
  ⟨0x40040040, 1, 0x1000000, 1, 0x4, 0x0, 0x0, 0x0⟩,
  ⟨0x40040048, 2, 0x4, 1, 0x4, 0x0, 0x0, 0x0⟩,
  ⟨0x40040050, 2, 0x4, 1, 0x4, 0x0, 0x0, 0x0⟩,
  ⟨0x40040100, 64, 0x4, 1, 0x4, 0x0, 0xFFFFFFFF, 0x0⟩,
  ⟨0x40040014, 1, 0x1000000, 1, 0x4, 0x0, 0x0, 0x0⟩,
  ⟨0x40040020, 1, 0x1000000, 1, 0x4, 0x0, 0x1F3F3F, 0x0⟩,
  ⟨0x40040018, 1, 0x1000000, 1, 0x4, 0x6000101, 0x0, 0x0⟩,
  ⟨0x40040024, 1, 0x1000000, 1, 0x4, 0x101, 0xF1F, 0x0⟩,
  ⟨0x4004001C, 1, 0x1000000, 1, 0x4, 0x7D0, 0x0, 0x0⟩,
  ⟨0x40040028, 1, 0x1000000, 1, 0x4, 0x7D0, 0xFFF, 0x0⟩]

/-- Registers of CPR. -/
def regRowsCPR : List RegRow := [
  ⟨0xF0000004, 5, 0x10000, 1, 0x4, 0x0, 0xF0000301, 0x0⟩,
  ⟨0xF0000000, 5, 0x10000, 1, 0x4, 0x0, 0x1, 0x0⟩,
  ⟨0xF0000018, 5, 0x10000, 1, 0x4, 0x0, 0x0, 0x0⟩,
  ⟨0xF0000084, 5, 0x10000, 1, 0x4, 0x0, 0x0, 0x80000000⟩,
  ⟨0xF0000088, 5, 0x10000, 1, 0x4, 0x0, 0x3F, 0x0⟩,
  ⟨0xF0040090, 1, 0x1000000, 1, 0x4, 0x7D0, 0xFFFFFFFF, 0x0⟩,
  ⟨0xF00000A0, 5, 0x10000, 4, 0x8, 0x0, 0xFFFFFFFF, 0x0⟩,
  ⟨0xF00000A4, 5, 0x10000, 4, 0x8, 0x0, 0xFFFFFFFF, 0x0⟩,
  ⟨0xF0000008, 4, 0x10000, 1, 0x4, 0x0, 0xFFFFFFFF, 0x0⟩,
  ⟨0xF0040008, 1, 0x1000000, 1, 0x4, 0x20000000, 0xFFFFFFFF, 0x0⟩,
  ⟨0xF000000C, 5, 0x10000, 1, 0x4, 0x0, 0xFFFFFFFF, 0x0⟩,
  ⟨0xF0000010, 5, 0x10000, 1, 0x4, 0x0, 0x0, 0x0⟩,
  ⟨0xF0000014, 5, 0x10000, 1, 0x4, 0x0, 0x0, 0x0⟩,
  ⟨0xF0000040, 5, 0x10000, 1, 0x4, 0x0, 0xFFFFFFFF, 0x0⟩,
  ⟨0xF0000044, 5, 0x10000, 5, 0x4, 0x0, 0x0, 0x0⟩,
  ⟨0xF0000060, 5, 0x10000, 5, 0x4, 0x0, 0x0, 0x0⟩,
  ⟨0xF0000074, 5, 0x10000, 1, 0x4, 0x0, 0x0, 0x0⟩,
  ⟨0xF0000078, 5, 0x10000, 1, 0x4, 0x0, 0x0, 0x0⟩,
  ⟨0xF000007C, 5, 0x10000, 1, 0x4, 0x0, 0x0, 0x0⟩,
  ⟨0xF0000080, 5, 0x10000, 1, 0x4, 0x0, 0x0, 0x0⟩]

/-- Registers of MEM. -/
def regRowsMEM : List RegRow := [
  ⟨0x40050080, 1, 0x1000000, 1, 0x4, 0x0, 0xFFFFF, 0x0⟩,
  ⟨0x40050000, 1, 0x1000000, 1, 0x4, 0x0, 0x0, 0xE⟩,
  ⟨0x40050004, 1, 0x1000000, 1, 0x4, 0x0, 0x0, 0x0⟩,
  ⟨0x40050020, 1, 0x1000000, 1, 0x4, 0x1003E8, 0xFFFFFF, 0x0⟩,
  ⟨0x40050028, 2, 0x4, 1, 0x4, 0x0, 0x0, 0x0⟩,
  ⟨0x40050030, 1, 0x1000000, 1, 0x4, 0x0, 0x0, 0x0⟩,
  ⟨0x40050034, 1, 0x1000000, 1, 0x4, 0x0, 0x0, 0x0⟩,
  ⟨0x40050180, 15, 0x4, 1, 0x4, 0x100, 0x0, 0x0⟩,
  ⟨0x40050200, 14, 0x10, 1, 0x4, 0x80000008, 0x8000001F, 0x0⟩,
  ⟨0x400502E0, 1, 0x1000000, 1, 0x4, 0x0, 0x8000001F, 0x0⟩,
  ⟨0x40050300, 1, 0x1000000, 1, 0x4, 0x0, 0xFFFFFFF, 0x0⟩,
  ⟨0x40050304, 1, 0x1000000, 1, 0x4, 0x0, 0xF0000000, 0x0⟩,
  ⟨0x4005031C, 1, 0x1000000, 1, 0x4, 0x0, 0x0, 0x0⟩,
  ⟨0x40050320, 1, 0x1000000, 1, 0x4, 0x0, 0x0, 0x0⟩,
  ⟨0x40050324, 1, 0x1000000, 1, 0x4, 0x0, 0x0, 0x0⟩,
  ⟨0x40050010, 1, 0x1000000, 1, 0x4, 0x0, 0x0, 0x0⟩,
  ⟨0x40050014, 1, 0x1000000, 1, 0x4, 0x0, 0x0, 0x0⟩,
  ⟨0x40050018, 1, 0x1000000, 1, 0x4, 0x0, 0x0, 0x0⟩,
  ⟨0x40050100, 15, 0x4, 1, 0x4, 0x0, 0x0, 0x0⟩,
  ⟨0x40050140, 15, 0x4, 1, 0x4, 0x0, 0x0, 0x0⟩,
  ⟨0x40050204, 15, 0x10, 1, 0x4, 0x0, 0x0, 0x0⟩,
  ⟨0x40050208, 15, 0x10, 1, 0x4, 0x0, 0x0, 0x0⟩,
  ⟨0x40050308, 4, 0x4, 1, 0x4, 0x0, 0xFFFFFFFF, 0x0⟩,
  ⟨0x40050318, 1, 0x1000000, 1, 0x4, 0x0, 0xFFFFFFFF, 0x0⟩]

/-- Registers of ODX. -/
def regRowsODX : List RegRow := [
  ⟨0x40060000, 1, 0x1000000, 1, 0x4, 0xF, 0x10F, 0x0⟩,
  ⟨0x40060004, 1, 0x1000000, 1, 0x4, 0x0, 0x0, 0xC⟩,
  ⟨0x40060008, 1, 0x1000000, 1, 0x4, 0x7D0, 0xFFFF, 0x0⟩,
  ⟨0x40060010, 1, 0x1000000, 1, 0x4, 0x0, 0xFFFFFFFF, 0x0⟩,
  ⟨0x40060014, 1, 0x1000000, 1, 0x4, 0x0, 0x800007FF, 0x0⟩,
  ⟨0x40060018, 1, 0x1000000, 1, 0x4, 0x0, 0x0, 0x0⟩,
  ⟨0x4006001C, 1, 0x1000000, 1, 0x4, 0x0, 0xFF3FFF, 0x0⟩,
  ⟨0x40060020, 1, 0x1000000, 1, 0x4, 0x64, 0xFFFF, 0x0⟩,
  ⟨0x40060040, 16, 0x4, 1, 0x4, 0x0, 0x0, 0xFFFFFFFF⟩,
  ⟨0x40060094, 11, 0x4, 1, 0x4, 0x0, 0x0, 0xFFFFFFFF⟩,
  ⟨0x40060100, 1, 0x1000000, 1, 0x4, 0xA00003FF, 0xB0000FFF, 0x0⟩,
  ⟨0x40060110, 15, 0x10, 1, 0x4, 0x0, 0xB0000FFF, 0x0⟩,
  ⟨0x40060080, 1, 0x1000000, 1, 0x4, 0x0, 0x0, 0x0⟩,
  ⟨0x40060084, 1, 0x1000000, 1, 0x4, 0x0, 0x0, 0x0⟩,
  ⟨0x40060088, 1, 0x1000000, 1, 0x4, 0x0, 0x0, 0x0⟩,
  ⟨0x4006008C, 1, 0x1000000, 1, 0x4, 0x0, 0x0, 0x0⟩,
  ⟨0x40060090, 1, 0x1000000, 1, 0x4, 0x0, 0x0, 0x0⟩,
  ⟨0x40060104, 16, 0x10, 1, 0x4, 0x0, 0x0, 0x0⟩,
  ⟨0x40060108, 16, 0x10, 1, 0x4, 0x0, 0x0, 0x0⟩,
  ⟨0x4006010C, 16, 0x10, 1, 0x4, 0x0, 0x0, 0x0⟩]

/-- Registers of UPD. -/
def regRowsUPD : List RegRow := [
  ⟨0x400E0000, 1, 0x1000000, 1, 0x4, 0x0, 0x0, 0x0⟩,
  ⟨0x400E0004, 1, 0x1000000, 1, 0x4, 0x0, 0x0, 0x0⟩,
  ⟨0x400E0008, 2, 0x4, 1, 0x4, 0x0, 0xFFFFFFFF, 0x0⟩,
  ⟨0x400E0010, 1, 0x1000000, 1, 0x4, 0x0, 0xFFFFFFFF, 0x0⟩,
  ⟨0x400E0014, 1, 0x1000000, 1, 0x4, 0x0, 0xC0, 0x0⟩,
  ⟨0x400E0018, 1, 0x1000000, 1, 0x4, 0x3C, 0xFFFF, 0x0⟩,
  ⟨0x400E001C, 1, 0x1000000, 1, 0x4, 0x0, 0x0, 0x0⟩]

/-- Registers of SYN. -/
def regRowsSYN : List RegRow := [
  ⟨0x400D0000, 1, 0x1000000, 1, 0x4, 0x646200, 0xFFFFFF07, 0x0⟩,
  ⟨0x400D0004, 1, 0x1000000, 1, 0x4, 0x0, 0x0, 0x4⟩,
  ⟨0x400D0008, 1, 0x1000000, 1, 0x4, 0x0, 0x0, 0x0⟩,
  ⟨0x400D000C, 1, 0x1000000, 1, 0x4, 0x0, 0x0, 0x0⟩,
  ⟨0x400D0010, 1, 0x1000000, 1, 0x4, 0x0, 0x0, 0x0⟩,
  ⟨0x400D0014, 1, 0x1000000, 1, 0x4, 0x4000040, 0xFFFFFFFF, 0x0⟩,
  ⟨0x400D0018, 1, 0x1000000, 1, 0x4, 0x7D00, 0xFFFFFFFF, 0x0⟩,
  ⟨0x400D0020, 1, 0x1000000, 1, 0x4, 0x44C0008, 0xFFFF01FF, 0x0⟩,
  ⟨0x400D0024, 1, 0x1000000, 1, 0x4, 0x0, 0xFFFFFFFF, 0x0⟩,
  ⟨0x400D0028, 1, 0x1000000, 1, 0x4, 0x30D400, 0x80FFFFFF, 0x0⟩,
  ⟨0x400D0030, 1, 0x1000000, 1, 0x4, 0x0, 0xFFFFFFFF, 0x0⟩,
  ⟨0x400D0040, 1, 0x1000000, 1, 0x4, 0x0, 0x0, 0x0⟩,
  ⟨0x400D0044, 1, 0x1000000, 1, 0x4, 0x0, 0x0, 0x0⟩,
  ⟨0x400D0048, 1, 0x1000000, 1, 0x4, 0x0, 0x0, 0x0⟩]

/-- Registers of ETH. -/
def regRowsETH : List RegRow := [
  ⟨0x40070000, 3, 0x10000, 1, 0x4, 0x0, 0xEFFF0333, 0x0⟩,
  ⟨0x40070004, 3, 0x10000, 1, 0x4, 0x0, 0x0, 0x18⟩,
  ⟨0x40070008, 3, 0x10000, 1, 0x4, 0x0, 0xFFFFFFFF, 0x0⟩,
  ⟨0x4007000C, 3, 0x10000, 1, 0x4, 0x0, 0xFFFF, 0x0⟩,
  ⟨0x40070010, 3, 0x10000, 1, 0x4, 0x0, 0xFFFFFFFF, 0x0⟩,
  ⟨0x40070014, 3, 0x10000, 4, 0x4, 0x0, 0xFFFFFFFF, 0x0⟩,
  ⟨0x40070030, 3, 0x10000, 1, 0x4, 0x64, 0xEFFFFFFF, 0x0⟩,
  ⟨0x40070034, 3, 0x10000, 1, 0x4, 0x5AC, 0xFFFF3FFF, 0x0⟩,
  ⟨0x40070038, 3, 0x10000, 1, 0x4, 0x0, 0xFFFFFFFF, 0x0⟩,
  ⟨0x4007003C, 3, 0x10000, 4, 0x4, 0x0, 0xFFFFFFFF, 0x0⟩,
  ⟨0x4007004C, 3, 0x10000, 1, 0x4, 0x0, 0xFFFFFFFF, 0x0⟩,
  ⟨0x40070050, 3, 0x10000, 1, 0x4, 0x0, 0xFFFF, 0x0⟩,
  ⟨0x40070060, 3, 0x10000, 1, 0x4, 0x0, 0xFFFFFFFF, 0x0⟩,
  ⟨0x40070070, 3, 0x10000, 1, 0x4, 0x0, 0xFFFFFFF0, 0x0⟩,
  ⟨0x40070074, 3, 0x10000, 1, 0x4, 0x0, 0xFFFFFFF0, 0x0⟩,
  ⟨0x40070078, 3, 0x10000, 1, 0x4, 0x0, 0xFFFFFFFF, 0x0⟩,
  ⟨0x40070080, 3, 0x10000, 1, 0x4, 0x0, 0x0, 0x0⟩,
  ⟨0x40070084, 3, 0x10000, 1, 0x4, 0x0, 0x0, 0x0⟩,
  ⟨0x40070088, 3, 0x10000, 1, 0x4, 0x0, 0x0, 0x0⟩,
  ⟨0x4007008C, 3, 0x10000, 1, 0x4, 0x0, 0x0, 0x0⟩]

/-- Registers of SPH. -/
def regRowsSPH : List RegRow := [
  ⟨0x400A0000, 1, 0x1000000, 1, 0x4, 0x0, 0x100, 0x0⟩,
  ⟨0x400A0004, 1, 0x1000000, 1, 0x4, 0x4E200, 0xFFFFFFFF, 0x0⟩,
  ⟨0x400A0008, 1, 0x1000000, 1, 0x4, 0x0, 0x0, 0xC⟩,
  ⟨0x400A000C, 1, 0x1000000, 1, 0x4, 0x0, 0x0, 0x0⟩,
  ⟨0x400A0010, 1, 0x1000000, 1, 0x4, 0x0, 0x0, 0x0⟩]

/-- Registers of UAT. -/
def regRowsUAT : List RegRow := [
  ⟨0x400C0000, 1, 0x1000000, 1, 0x4, 0x80000116, 0x8000FFFF, 0x0⟩,
  ⟨0x400C0004, 1, 0x1000000, 1, 0x4, 0x0, 0x0, 0x7⟩,
  ⟨0x400C0008, 1, 0x1000000, 1, 0x4, 0x0, 0x0, 0x0⟩]

/-- Registers of SUP. -/
def regRowsSUP : List RegRow := [
  ⟨0x40010000, 1, 0x1000000, 1, 0x4, 0x0, 0x0, 0xF0⟩,
  ⟨0x40010004, 1, 0x1000000, 1, 0x4, 0x0, 0x0, 0x0⟩,
  ⟨0x40010008, 1, 0x1000000, 1, 0x4, 0x180F2800, 0xFFFFFF00, 0x0⟩,
  ⟨0x4001000C, 1, 0x1000000, 1, 0x4, 0x8CAA0A19, 0xFFFFFFFF, 0x0⟩,
  ⟨0x40010010, 1, 0x1000000, 1, 0x4, 0x0, 0x0, 0x0⟩,
  ⟨0x40010014, 1, 0x1000000, 1, 0x4, 0x0, 0x0, 0x0⟩,
  ⟨0x40010018, 1, 0x1000000, 1, 0x4, 0x0, 0x0, 0x0⟩,
  ⟨0x4001001C, 1, 0x1000000, 1, 0x4, 0x0, 0x0, 0x0⟩,
  ⟨0x40010020, 2, 0x4, 1, 0x4, 0x0, 0x0, 0x0⟩,
  ⟨0x40010028, 1, 0x1000000, 1, 0x4, 0x0, 0x0, 0x0⟩,
  ⟨0x40010030, 2, 0x4, 1, 0x4, 0x0, 0x0, 0x0⟩,
  ⟨0x40010038, 2, 0x4, 1, 0x4, 0x0, 0x0, 0x0⟩,
  ⟨0x40010040, 1, 0x1000000, 1, 0x4, 0x0, 0x0, 0x0⟩,
  ⟨0x40010044, 1, 0x1000000, 1, 0x4, 0x0, 0x0, 0x0⟩,
  ⟨0x40010050, 1, 0x1000000, 1, 0x4, 0x11440, 0x31F7F, 0x0⟩,
  ⟨0x40010054, 1, 0x1000000, 1, 0x4, 0x0, 0x0, 0x0⟩,
  ⟨0x40010060, 1, 0x1000000, 1, 0x4, 0x64, 0xFFFF, 0x0⟩,
  ⟨0x40010064, 1, 0x1000000, 1, 0x4, 0x0, 0x0, 0x0⟩,
  ⟨0x40010068, 1, 0x1000000, 1, 0x4, 0x0, 0x0, 0x0⟩,
  ⟨0x4001006C, 1, 0x1000000, 1, 0x4, 0x0, 0x0, 0x0⟩,
  ⟨0x40010070, 1, 0x1000000, 1, 0x4, 0x0, 0x0, 0x0⟩,
  ⟨0x40010080, 8, 0x4, 1, 0x4, 0x0, 0x0, 0x0⟩,
  ⟨0x40010100, 16, 0x4, 1, 0x4, 0x0, 0x0, 0x0⟩,
  ⟨0x40010140, 16, 0x4, 1, 0x4, 0x2E630, 0x0, 0x0⟩,
  ⟨0x40010200, 8, 0x4, 1, 0x4, 0x0, 0x0, 0x0⟩,
  ⟨0x40010240, 5, 0x10, 1, 0x4, 0x0, 0x0, 0x0⟩,
  ⟨0x40010244, 5, 0x10, 1, 0x4, 0x0, 0x0, 0x0⟩,
  ⟨0x40010248, 5, 0x10, 1, 0x4, 0x0, 0x0, 0x0⟩,
  ⟨0x4001024C, 5, 0x10, 1, 0x4, 0x0, 0x0, 0x0⟩,
  ⟨0x40010290, 1, 0x1000000, 1, 0x4, 0x0, 0x0, 0x0⟩]

/-- The row list of the block that holds an address (R10); none outside every block. -/
def regBlock (a : Nat) : List RegRow :=
  if 0xF0000000 ≤ a then regRowsCPR
  else if a < 0x40100000 then
    match a / 0x10000 with
    | 0x4000 => regRowsSYS
    | 0x4001 => regRowsSUP
    | 0x4002 => regRowsCUE
    | 0x4003 => regRowsTMR
    | 0x4004 => regRowsCAL
    | 0x4005 => regRowsMEM
    | 0x4006 => regRowsODX
    | 0x4007 => regRowsETH
    | 0x4008 => regRowsETH
    | 0x4009 => regRowsETH
    | 0x400A => regRowsSPH
    | 0x400C => regRowsUAT
    | 0x400D => regRowsSYN
    | 0x400E => regRowsUPD
    | _ => []
  else
    match a / 0x100000 with
    | 0x401 => regRowsRFC
    | 0x402 => regRowsCHZ ++ regRowsCHZ1
    | 0x403 => regRowsDMD
    | 0x404 => regRowsLNK ++ regRowsLNK1
    | 0x405 => regRowsDCB
    | 0x406 => regRowsEPR ++ regRowsEPR1
    | 0x407 => regRowsCIP
    | 0x408 => regRowsREL
    | _ => []

/-- Does the row hold address `a`? -/
def RegRow.holds (r : RegRow) (a : Nat) : Bool :=
  decide (r.base ≤ a) && decide ((a - r.base) / r.stride < r.count)
    && decide (((a - r.base) % r.stride) % r.stride2 = 0)
    && decide (((a - r.base) % r.stride) / r.stride2 < r.count2)

/-- The row of the register at address `a`; none where the address holds no register (R7).
DEDUCED (safe), log entry 6. -/
def regRow (a : Nat) : Option RegRow := (regBlock a).find? (fun r => r.holds a)

/-- The value of the register at `a` after a reset that reaches its domain; 0 where there is no register (R7).
DEDUCED (safe), log entry 6. DESIGN CHOICE (unsafe), log entry 17. -/
def regReset (a : Nat) : Word := word (((regRow a).map RegRow.reset).getD 0)

/-- The bits a plain write sets. -/
def regRW (a : Nat) : Nat := ((regRow a).map RegRow.rw).getD 0

/-- The bits a write of 1 clears. -/
def regW1C (a : Nat) : Nat := ((regRow a).map RegRow.w1c).getD 0

/-- The power domains (R10). -/
inductive Domain where
  | backup | alwaysOn | main | rf
  deriving DecidableEq, Repr

/-- The domain of the register at address `a` (R10). Core-private registers of KSS (core 4) are always-on, those of the
four application cores are main. -/
def regDomain (a : Nat) : Domain :=
  if 0xF0040000 ≤ a then .alwaysOn
  else if 0xF0000000 ≤ a then .main
  else if a < 0x40100000 then
    match a / 0x10000 with
    | 0x4000 => .alwaysOn
    | 0x4001 => .alwaysOn
    | 0x4004 => .backup
    | 0x4006 => .alwaysOn
    | 0x400A => .alwaysOn
    | 0x400C => .alwaysOn
    | 0x400D => .alwaysOn
    | _ => .main
  else if a < 0x40200000 then .rf
  else .main

end Sys2Proof.Machine
end

