-- ==== Sys2Proof/Machine/State.lean ====
section
/-! DEFINITION. The state of the block as plain data: the register file (every register of the spec's tables), the
internal state the spec gives each engine, the memories, the queue of waiting commands; the reasons a step can stop; and
the state after a power-on reset. -/

namespace Sys2Proof.Machine

/-- Why a step stops with a fault.
DESIGN CHOICE (unsafe), log entry 4. -/
inductive Fault where
  /-- Raised by REGISTER_WRITE: an access in 0x4000_0000-0x4FFF_FFFF outside every block's range, or outside the
  peripheral and core-private ranges altogether, ends in a bus error to the requester (R7). Safe: the spec gives the write
  no effect on the block. -/
  | busError (addr : Nat)
  deriving DecidableEq, Repr

/-- Why a command has no meaning.
DESIGN CHOICE (unsafe), log entry 4. -/
inductive Refusal where
  /-- Raised by no meaning: a command without a meaning yet. Safe. -/
  | notModelled (mnemonic : String)
  /-- Raised by every meaning whose operands name nothing in the block (chain 9, timer 16, a schedule entry above 4,095):
  no such command exists. Safe. -/
  | illFormed
  deriving DecidableEq, Repr

/-! ### The cue fabric -/

/-- A cue on its way to a consumer input (R346, R350). -/
structure PendingCue where
  /-- Route (R360). -/
  route : Nat
  /-- Consumer input (R359). -/
  input : Nat
  /-- Effect tick E + Δ. -/
  effect : Nat
  count : Nat
  gen : Nat
  /-- Emission tick E. -/
  em : Nat
  /-- Fired by software (R361). -/
  fired : Bool := false
  deriving DecidableEq, Repr

/-- A producer event whose emission tick is still to come (R348): its routes with their counts, and the generation its
cues would carry. -/
structure CueEvent where
  routes : List (Nat × Nat)
  gen : Nat
  em : Nat
  deriving DecidableEq, Repr

/-- One GPIO pin (R354-R356). -/
structure GpioPin where
  /-- Output latch, inactive at reset. -/
  latch : Bool := false
  /-- Accepted input level. -/
  level : Bool := false
  /-- Tick of the last accepted level change, none since the pin was powered up. -/
  since : Option Nat := none
  /-- A stuck cue was emitted for the present level. -/
  stuckSent : Bool := false
  /-- End tick of a running pulse. -/
  pulseEnd : Option Nat := none
  /-- Ticks of the last SET and CLR triggers, which settle a SET and a CLR of one tick. -/
  lastSet : Option Nat := none
  lastClr : Option Nat := none
  deriving DecidableEq, Repr

structure CueState where
  /-- Emitted cues not yet delivered. -/
  pending : List PendingCue := []
  /-- Events whose emission tick is still to come. -/
  deferred : List CueEvent := []
  /-- Triggers that commands brought to the capture inputs in the present tick; they take their place among its triggers (R348, R368). -/
  brought : List PendingCue := []
  gpio : SMap GpioPin := []
  /-- Ticks in which the always-on pins GPIO0 and GPIO1, and the other pins, were powered up. -/
  aonAt : Nat := 0
  mainAt : Nat := 0
  deriving DecidableEq, Repr

/-! ### Timers -/

/-- What a timer holds beside its registers. -/
structure TmrState where
  /-- Start tick t0 (R366). -/
  t0 : Nat := 0
  /-- Tick of the last CNT write (R368). -/
  cntWrite : Option Nat := none
  /-- Emission tick of the last TMRn.IRQ (R375: one per emission tick). -/
  irqAt : Option Nat := none
  /-- Tick of the last time-driven step (R364). -/
  stepAt : Option Nat := none
  /-- Software captures of this tick that wait for the tick's steps (R368, R377); tick of the last cue capture. -/
  capWait : Nat := 0
  cueCap : Option Nat := none
  deriving DecidableEq, Repr

/-! ### Calendar -/

/-- A register write on its way to the crystal clock (R387). -/
structure CalWrite where
  addr : Nat
  val : Word
  /-- The bits that the write carries: every bit, or those of the octets of a narrower store. -/
  mask : Word := 0xFFFFFFFF
  deriving DecidableEq, Repr

/-- PRESUMED (unsafe), log entry 19. -/
structure CalState where
  /-- Writes waiting for their crystal edge, oldest first (R387). -/
  writes : List CalWrite := []
  /-- Freeze shadows of SUBSEC, TIME, DATE and YEAR (R388). -/
  shSub : Word := 0
  shTime : Word := 0
  shDate : Word := 0
  shYear : Word := 0
  /-- Tick in which the freeze in force started. -/
  freezeAt : Option Nat := none
  /-- The oscillator runs (R392). -/
  running : Bool := true
  /-- An accepted commit set the count at the present edge (R390, R391). -/
  set : Bool := false
  /-- The skipped pulse of the present correction has been taken (R395). -/
  skipped : Bool := false
  /-- The backup domain was lost (R394): the next start is a POR. -/
  lost : Bool := false
  /-- Ticks without a crystal edge since the last one, and whether the detector of R392 has met 1 ms of them. -/
  idle : Nat := 0
  stopped : Bool := false
  /-- Start tick of the present 1,024 s window, its crystal edges so far, and whether SYN stayed LOCKED since (R539). -/
  winTick : Nat := 0
  winEdges : Nat := 0
  winOk : Bool := false
  /-- The crystal edge of the present tick has come, made by a command. -/
  ticked : Bool := false
  /-- Phase of the crystal against the slate: an edge falls in each tick in which the phase reaches 32,000,000, `rate`
  being added per tick. Environment data, the model's own: 32,768 is the nominal crystal. -/
  phase : Nat := 0
  rate : Nat := 32768
  deriving DecidableEq, Repr

/-! ### Memories -/

/-- What an ECC word holds beside its data (R445, R447): its stored check bits, as the difference from the check bits of
its stored data (0 for a word written by anything but a raw test write), and the three copies of each valid bit. A word
without an entry is unwritten: every copy 0. -/
structure EccMark where
  syn : Nat := 0
  /-- Copies of V0 (of the one valid bit, outside DRAM). -/
  v0 : Nat := 0
  /-- Copies of V1 (DRAM). -/
  v1 : Nat := 0
  deriving DecidableEq, Repr

/-- A stretch of a memory whose contents the spec leaves undefined (R309, R310, R319): `len` octets from octet `lo` of
memory `m`, whose octets are those of the free values numbered `seed`.
DESIGN CHOICE (safe), log entry 15. -/
structure UndefRange where
  m : Nat
  lo : Nat
  len : Nat
  seed : Nat
  off : Nat
  deriving DecidableEq, Repr

/-! ### Reels -/

/-- The pointers of a reel's two banks (R331, R344): which bank is drained, the drain bank's read and write pointers, and
the fill bank's visible and written words. -/
structure ReelPtrs where
  /-- Bank being drained: false A, true B. -/
  drainB : Bool := true
  rd : Nat := 0
  wr : Nat := 0
  vis : Nat := 0
  fill : Nat := 0
  deriving DecidableEq, Repr

/-- An open core packet (R337, R339): words so far and the tick of its last write. -/
structure OpenPacket where
  words : Nat
  last : Nat
  deriving DecidableEq, Repr

structure Reel where
  p : ReelPtrs := {}
  /-- The second copy of the pointers (R344). -/
  q : ReelPtrs := {}
  /-- Packets waiting: trailers not yet popped (R329). -/
  pkts : Nat := 0
  opened : Option OpenPacket := none
  /-- The word and END bit of the last pop since enable (R340). -/
  last : Word := 0
  lastEnd : Bool := false
  /-- A write clearing EN waits for the end of its tick (R324, R342). -/
  off : Option Word := none
  /-- The two copies of the pointers were found to differ: the reset waits for the end of the tick (R344). -/
  fault : Bool := false
  /-- Batches closed on this reel since it was enabled (R501). -/
  seq : Nat := 0
  deriving DecidableEq, Repr

/-! ### Supervision -/

/-- What a margin plan run waits for (R532, R533). -/
inductive PlanPhase where
  /-- The end of a VOUT_COMMAND transaction. -/
  | write
  /-- The end of a READ_VOUT transaction, which starts at tick `since` (after SETTLE). -/
  | read (since : Nat)
  /-- The end of the first whole window that starts after tick `since`, in which READ_VOUT confirmed the voltage. -/
  | window (since : Nat)
  deriving DecidableEq, Repr

/-- A margin plan run in progress (R532). -/
structure PlanRun where
  /-- Triggers, as the bits of SUP.PLANCAUSE. -/
  cause : Nat
  raised : Bool
  /-- The voltage being commanded, and the last confirmed one, in mV. -/
  v : Nat
  conf : Nat
  phase : PlanPhase
  /-- The transaction in progress is the retry (R533). -/
  retry : Bool
  /-- The voltage that the run starts from is still to be read (R532). -/
  base : Bool := false
  /-- The margin, the end tick and the temperature of the last window of the run. -/
  m : Int := 0
  at_ : Nat := 0
  temp : Nat := 0
  deriving DecidableEq, Repr

structure SupState where
  /-- Triggers of the requested run (R531); START is requested by the release of the always-on reset. -/
  req : Nat := 16
  run : Option PlanRun := none
  /-- The START run has ended, so KSS may leave reset (R536). -/
  started : Bool := false
  /-- A read of STATUS_WORD is in progress, and it is the retry (R533). -/
  status : Bool := false
  statusRetry : Bool := false
  /-- Tick of the last window end, none before the first (R530). -/
  winTick : Option Nat := none
  /-- End tick of the last completed run's last window, as the trigger PERIOD counts from it (R531). -/
  planTick : Nat := 0
  /-- OD 0x1230.03, the TCXO baseline (R538). -/
  baseline : Word := 0x80000000
  /-- A locked hour has ended since the last POR (R538). -/
  hourSeen : Bool := false
  /-- The present slate hour stayed LOCKED so far; sum and number of its SYN.FREQ values. -/
  hourOk : Bool := false
  hourSum : Int := 0
  hourN : Nat := 0
  /-- Slate hours whose end has come. -/
  hourAt : Nat := 0
  /-- TCXO_IN is lost and the slate held (R541). -/
  held : Bool := false
  /-- The thermal guard keeps the RF domain down (R548). -/
  hot : Bool := false
  deriving DecidableEq, Repr

/-! ### The cipher engine -/

/-- A key slot (R292). -/
structure KeySlot where
  /-- 0 EMPTY, 1 LOADED, 2 DERIVED. -/
  st : Nat := 0
  /-- The key's 16 or 32 octets. -/
  key : List Nat := []
  /-- E, D, M, W, K from bit 4. -/
  usage : Nat := 0
  kcv : List Nat := []
  /-- The blob of a LOADED slot. -/
  blob : List Nat := []
  /-- Wrapping slot (LOADED) or source slot (DERIVED), 0xFFF for the root. -/
  source : Nat := 0
  /-- Label and context of a DERIVED slot. -/
  label : List Nat := []
  context : List Nat := []
  deriving DecidableEq, Repr

/-- A TRANSIENT slot in use (R303): its number, the endpoint key's address and generation, the KEK slot that unwrapped it,
and the key. -/
structure CachedKey where
  slot : Nat
  addr : Nat
  gen : Nat
  kek : Nat
  key : List Nat
  /-- The wrapped key that it was unwrapped from. -/
  blob : List Nat := []
  deriving DecidableEq, Repr

/-- The fields of a request descriptor (R311). -/
structure CipDesc where
  mode : Nat := 0
  dir : Nat := 0
  cls : Nat := 0
  key : Nat := 0
  dst : Nat := 0
  toSlot : Bool := false
  len256 : Bool := false
  usage : Nat := 0
  tlen : Nat := 0
  alen : Nat := 0
  len : Nat := 0
  srcA : Nat := 0
  dstA : Nat := 0
  auxA : Nat := 0
  iv : List Nat := []
  deriving DecidableEq, Repr

/-- Where a request comes from. -/
inductive CipOrigin where
  /-- A core's descriptor at an octet offset of shared SRAM (R311). -/
  | desc (addr : Nat)
  /-- CIP.KLOAD, with the staged blob (R300). -/
  | kload (blob : List Nat)
  /-- A request formed by ODX or UPD with its descriptor inline (R311): what it serves, the source octets, and the label
  and context (of a KDF) or the tag to compare (a CMAC verification) in `context`. -/
  | inline (job : Nat) (src label context : List Nat)
  /-- A clear of a slot (R301, R302): no request of R307, but a place in service order. -/
  | clear (slot : Nat)
  deriving DecidableEq, Repr

/-- A request that waits (R307). -/
structure CipReq where
  /-- Queue, 1-7; 8 for a clear. -/
  q : Nat
  /-- Submission tick. -/
  sub : Nat
  origin : CipOrigin
  /-- The descriptor of a request formed inside the block. -/
  d : CipDesc := {}
  /-- Place among the requests of one tick in one queue: the port of a verification (R479), 4 for every other request. -/
  rank : Nat := 4
  deriving DecidableEq, Repr

/-- The request that engine 3 runs (R308, R309), with what it publishes at its finish. -/
structure CipRun where
  req : CipReq
  /-- Modelled start and finish. -/
  start : Nat
  finish : Nat
  code : Nat
  /-- The memory, offset and octets written at the finish. -/
  out : Option (Nat × Nat × List Nat) := none
  /-- The initial vector or counter block written back. -/
  iv : Option (List Nat) := none
  slot : Option (Nat × KeySlot) := none
  /-- The octets that an inline request gives its requester. -/
  give : List Nat := []
  deriving DecidableEq, Repr

/-- An inline request published and not yet collected by its requester. -/
structure CipDone where
  job : Nat
  code : Nat
  /-- Tick of the publication, F_j. -/
  tick : Nat
  give : List Nat := []
  deriving DecidableEq, Repr

structure CipState where
  /-- The fuses hold a valid root (R296). -/
  rootOk : Bool := true
  slots : SMap KeySlot := []
  /-- Endpoint keys, most recently used first (R303). -/
  cache : List CachedKey := []
  /-- Waiting requests in service order. -/
  wait : List CipReq := []
  run : Option CipRun := none
  /-- Staged blob of KLOAD. -/
  staged : List Word := [0, 0, 0, 0, 0, 0, 0, 0, 0, 0]
  /-- Inline requests published and not yet collected by their requester, in service order. -/
  done : List CipDone := []
  /-- Modelled finishes of the requests of queue 0 on the transmit lane, which occupy its entries, and on the receive lanes (R306). -/
  laneTx : List Nat := []
  laneRx : List Nat := []
  deriving DecidableEq, Repr

/-! ### The endpoint registry -/

/-- A line of the hot cache (R263). -/
structure CacheLine where
  way : Nat
  addr : Nat
  dirty : Bool
  deriving DecidableEq, Repr

/-- A range of the registry (R261, R275, R279, R283). -/
structure EprRange where
  /-- 0 UNLOADED, 1 LOADING, 2 LOADED, 3 FAILED. -/
  st : Nat := 0
  /-- RGEN. -/
  gen : Nat := 0
  /-- Tick of the first change since the last capture. -/
  dirty : Option Nat := none
  /-- Tick of the first change by a call sheet since the last capture. -/
  sheet : Option Nat := none
  deriving DecidableEq, Repr

/-- A call sheet that waits (R273). -/
structure Sheet where
  /-- Its octets, none where they could not be read (cause 8). -/
  octets : Option (List Nat)
  /-- Submission tick, apply tick, generation and entries. -/
  sub : Nat
  at_ : Nat
  gen : Nat
  count : Nat
  deriving DecidableEq, Repr

/-- A range's segment on the NAND (R277). -/
structure Segment where
  /-- Save sequence, SGEN and unit locations. -/
  seq : Nat
  gen : Nat
  locs : List Nat
  deriving DecidableEq, Repr

/-- A directory copy on the NAND (R277), in format version 1. -/
structure DirCopy where
  /-- 0 erased, 1 its CRC-32 is right, 2 it is not. -/
  st : Nat := 0
  version : Nat := 1
  /-- The save sequence of the write. -/
  seq : Nat := 0
  /-- What it lists for each range that has been saved. -/
  segs : SMap Segment := []
  deriving DecidableEq, Repr

/-- A range save in progress (R280). -/
structure RangeSave where
  range : Nat
  seg : Segment
  /-- The dirty marks before the capture, restored if the save is abandoned. -/
  dirty : Option Nat
  sheet : Option Nat
  deriving DecidableEq, Repr

structure EprState where
  ranges : SMap EprRange := []
  tags : SMap (List CacheLine) := []
  sheet : Option Sheet := none
  save : Option RangeSave := none
  /-- Ranges of a SNAPCMD.ALL still to save. -/
  saveAll : List Nat := []
  /-- The snapshot NAND on QSPI1 (R277, R278): its two directory copies, its good units, and the units of 2,048 octets written, by
  location. -/
  dirA : DirCopy := {}
  dirB : DirCopy := {}
  units : Nat := 262144
  /-- Unit locations in blocks that EPR has retired (R281): no unit is written there any more. -/
  retired : List Nat := []
  nand : SMap (List Nat) := []
  deriving DecidableEq, Repr

/-! ### Budgets -/

/-- A stored bucket (R243, R244). -/
structure Bucket where
  acc : Nat
  bin : Nat
  idx : Nat
  us : Nat
  deriving DecidableEq, Repr

/-- Airtime reserved for a transmission at an account (R247). -/
structure Reservation where
  id : Nat
  acc : Nat
  bin : Nat
  us : Nat
  /-- WIN of the account, by which the charge finds its buckets. -/
  win : Nat := 3600
  deriving DecidableEq, Repr

structure DcbState where
  buckets : List Bucket := []
  reserved : List Reservation := []
  /-- Accounts that were enabled when the main domain went down: their next enable continues from their state in DRAM (R54, R253). -/
  kept : List Nat := []
  deriving DecidableEq, Repr

/-! ### Modes (R38-R48, R53-R55, R60-R63) -/

/-- A mode transition in progress (R42, R572). -/
structure Transition where
  target : Nat
  /-- Request tick T_req; of a transition whose first step is done, the tick of that step. -/
  since : Nat
  /-- It drains (R45, R46). -/
  drain : Bool := false
  /-- The step into STANDBY is done; the second step follows in the next tick. -/
  second : Bool := false
  deriving DecidableEq, Repr

/-- DESIGN CHOICE (unsafe), log entry 85. -/
structure SysState where
  trans : Option Transition := none
  /-- BOOT_SEL[1:0], as read at boot step 3. -/
  bootSel : Nat := 0
  /-- The boot step that completes next, 0 when the boot ROM has ended or stopped (R60). -/
  boot : Nat := 1
  /-- The boot in progress resumed at step 9 after a MAIN reset (R60). -/
  mainBoot : Bool := false
  /-- The link microcode is loaded (boot step 9). -/
  microcode : Bool := false
  /-- OD 0x1100.03, the boot target. -/
  bootTarget : Nat := 4
  /-- VERIFY runs its tests, and goes on to the boot target (R62). -/
  testing : Bool := false
  testToBoot : Bool := false
  /-- Self-tests of VERIFY that have ended, in the order of R62. -/
  tested : Nat := 0
  /-- A wake source fired during the entry into HIBERNATE (R55), and the generation of its trigger. -/
  wakeDue : Bool := false
  wakeDueGen : Option Nat := none
  /-- The wake in progress was started by a mode request, which R43 has let pass (R572). -/
  wakeReq : Bool := false
  /-- Tick in which the present wake sequence started (R54), and the mode it goes on to. -/
  wakeAt : Option Nat := none
  wakeTo : Nat := 2
  /-- Generation of the SYS.WAKE trigger that started the present change of mode (R360). -/
  wakeGen : Option Nat := none
  /-- Tick of the last keyed write of CPR.WDOG, or of the reset that started the count (R421). -/
  wdogAt : Nat := 0
  /-- The VDDIO banks that sensed 3.3 V at POR, bit b for bank b (R552). Environment data. -/
  volt33 : Nat := 0
  /-- TEST was high at POR, which prevents boot (R555). Environment data. -/
  testPin : Bool := false
  /-- nRESET is low in the present tick, so the part stays in reset (R555). -/
  pinLow : Bool := false
  deriving DecidableEq, Repr

/-! ### The RF chains -/

/-- What keeps a chain from receiving. -/
inductive OutKind where
  /-- The chain's own transmission (R84). -/
  | own
  /-- A transmission of another chain under policy BLANK (R85). -/
  | shadow
  | retune
  | powerUp
  /-- Suspended for a calibration (R89). -/
  | cal
  /-- Synthesizer lock lost (R71). -/
  | unlock
  /-- The chain is a loopback source (R91). -/
  | loop
  deriving DecidableEq, Repr

/-- An interval in which a chain does not receive, from tick `since` to before tick `till` (none: not ended yet). -/
structure Outage where
  chain : Nat
  kind : OutKind
  since : Nat
  till : Option Nat
  /-- The transmission that shadows the chain (R85). -/
  id : Nat := 0
  deriving DecidableEq, Repr

/-- Calibrations of a chain (R88-R90): commands still to run (0 DC, 1 IQ, 2 FC, 3 PA), in run order. -/
structure CalRun where
  /-- Tick of the command. -/
  since : Nat
  /-- The chain drains before the first one runs. -/
  drain : Bool
  todo : List Nat
  /-- End tick of the running one, the first of `todo`. -/
  till : Option Nat := none
  deriving DecidableEq, Repr

structure Chain where
  on : Bool := false
  /-- Tick in which the power-up ends (R70). -/
  upAt : Option Nat := none
  locked : Bool := false
  /-- Tick in which the synthesizer has relocked by itself (R71). -/
  relockAt : Option Nat := none
  /-- Tick in which the retune to a new RXLO ends (R69). -/
  retuneAt : Option Nat := none
  /-- Tick in which the DC calibration that follows a retune ends (R87). -/
  dcTill : Option Nat := none
  /-- The floors wait for the first complete window after this tick (R113). -/
  fresh : Option Nat := none
  cal : Option CalRun := none
  /-- FEMn_PA is active; FEMn_TR is in its TX state (R80). -/
  pa : Bool := false
  tr : Bool := false
  /-- Start of the quiet time of branches A and B (R82). -/
  quietA : Nat := 0
  quietB : Nat := 0
  deriving DecidableEq, Repr

/-- What a transmission is. -/
inductive TxWhat where
  /-- The ACK of a take: re-ACK, endpoint address, PEND, and the channel and profile of the take. -/
  | ack (reack : Bool) (addr : Nat) (pend : Bool)
  /-- A schedule entry with its slot and the slot's recorded DEST; `drop`: RELAY was left, so the slot of this relay uplink is
  withdrawn at its end whatever the verdict (R239). -/
  | entry (e slot dest : Nat) (pend drop : Bool)
  /-- The beacon of slate second `sec`. -/
  | beacon (sec : Nat)
  deriving DecidableEq, Repr

/-- A transmission latched on its chain (R72-R80). -/
structure Tx where
  id : Nat
  what : TxWhat
  chain : Nat
  ch : Nat
  prof : Nat
  /-- Tuning word of the channel centre (R68). -/
  word : Nat
  /-- T0 - T_setup as fixed when it was requested. -/
  since : Nat
  t0 : Nat
  t1 : Nat
  /-- R in ticks, and the latched FEMPA, FEMTR and FEMCFG (R74). -/
  ramp : Nat
  paLead : Nat
  paLag : Nat
  trLead : Nat
  trLag : Nat
  femcfg : Nat
  /-- The internal drive in 0.25 dBm, and the PA setting that the power table gives it (R79). -/
  drive : Int
  pa : Nat := 0
  /-- The ramp-up has begun, and its radiated interval has ended. -/
  up : Bool := false
  down : Bool := false
  /-- End of the radiated interval: T1 + R, or that of an aborting ramp-down. -/
  radEnd : Nat
  /-- Transmit verdict at its end: 0x20, or 0x24 when aborted. -/
  verdict : Nat := 0x20
  /-- The device transmit counter value it took. -/
  counter : Option Nat
  /-- Its frame: header, payload, key, long address of the nonce; copies and preamble symbols. -/
  mhr : List Nat
  payload : List Nat
  key : List Nat
  long : Nat
  copies : Nat := 1
  pre : Nat
  /-- The profile's eight words. -/
  pw : List Word := []
  deriving DecidableEq, Repr

/-- Chain `v` shadowed under KEEP by transmission `id` (R85). -/
structure Keep where
  id : Nat
  v : Nat
  since : Nat
  till : Nat
  deriving DecidableEq, Repr

structure RfState where
  chains : SMap Chain := []
  outs : List Outage := []
  txs : List Tx := []
  keeps : List Keep := []
  /-- Live calibration values: of calibration k of chain n at 4 n + k (R87-R90). -/
  live : SMap Nat := []
  /-- What the modulator of chain n last sent: the synthesizer steps from the channel centre, eight to a symbol period (R126, R127). -/
  sent : SMap (List Int) := []
  deriving DecidableEq, Repr

/-! ### Channelizer and demodulators -/

/-- A detection that waits for its allocation (R117). -/
structure Det where
  stamp : Nat
  chain : Nat
  ch : Nat
  prof : Nat
  /-- Tuning word of the channel centre on which it was made (R101). -/
  word : Nat
  sync1 : Bool
  /-- It was made on branch B. -/
  onB : Bool
  /-- RSSI raw values of both branches (R148). -/
  rssiA : Nat
  rssiB : Nat
  /-- A truncating cause fell before its allocation: its instant in eighths (R117). -/
  cut : Option Nat := none
  deriving DecidableEq, Repr

/-- A superseded epoch that has not drained (R121, R123): its number, apply instant and fence instant. -/
structure OldEpoch where
  num : Nat
  at_ : Nat
  fence : Nat
  deriving DecidableEq, Repr

/-- An apply that waits for its instant (R103). -/
structure PendApply where
  chains : Nat
  prof : Bool
  at_ : Nat
  deriving DecidableEq, Repr

structure ChzState where
  /-- In the order of their allocation (R117). -/
  dets : List Det := []
  /-- Release tick of the last take of channel c (R112). -/
  took : SMap Nat := []
  /-- Stamp and branch of the last standing detection of profile p on channel c, at 16 c + p (R116). -/
  last : SMap (Nat × Bool) := []
  epochs : List OldEpoch := []
  /-- The tick in which CHZ.LASTDRN was last written, and the apply instant that superseded the epoch that it names (R123). -/
  lastDrn : Nat × Nat := (0, 0)
  apply : Option PendApply := none
  /-- Windows counted in the present survey interval, by channel, and the interval's start (R114); none while counting
  waits for the next whole interval. -/
  occ : SMap Nat := []
  occFrom : Option Nat := none
  deriving DecidableEq, Repr

/-- A take (R117-R118): one reception, from allocation to release. -/
structure Take where
  stamp : Nat
  chain : Nat
  ch : Nat
  prof : Nat
  /-- The profile's eight words, latched (R101). -/
  pw : List Word
  /-- The channel centre's tuning word, latched (R101). -/
  word : Nat
  epoch : Nat
  /-- Received PHR whose CRC-8 passed; every check of R138 passed, so that a PSDU is received. -/
  phr : Option Nat := none
  body : Bool := false
  /-- Ended by dead symbols (R143). -/
  dead : Bool := false
  /-- Demodulator outcome: 0 complete, else the verdict (R159); end instant in eighths; end-of-frame stamp. -/
  outcome : Option Nat := none
  endAt : Nat := 0
  eof : Nat := 0
  decoded : Bool := false
  /-- Octets of PSDU in the frame buffer. -/
  len : Nat := 0
  /-- The PSDU as LNK read it at the ready instant, once (R161). -/
  psdu : Option (List Nat) := none
  desensed : Bool := false
  /-- TAKE_READY has run; stage 5 and 6 are resolved; the receive lane is assigned. -/
  ready : Bool := false
  resolved : Bool := false
  laned : Bool := false
  /-- The stage that failed, 0 for none, and the verdict. -/
  stage : Nat := 0
  verdict : Nat := 0
  /-- The record seen at the ready instant (R267). -/
  record : List Nat := []
  /-- Resolution instant (R195). -/
  resAt : Nat := 0
  /-- It reached stages 5 and 6. -/
  reach5 : Bool := false
  reach6 : Bool := false
  reack : Bool := false
  /-- Stage 6: the key, and the payload in the clear. -/
  key : List Nat := []
  plain : List Nat := []
  /-- R214: the calculation ran; resync, c and sample. -/
  timed : Bool := false
  resync : Bool := false
  corr : Int := 0
  sample : Int := 0
  /-- Tick in which a call sheet deleted its record, since its ready instant (R268). -/
  deleted : Option Nat := none
  /-- Its registry update has taken effect in the tick of its release, before its commit (R264). -/
  updated : Bool := false
  /-- Its release deadline was missed (R30). -/
  late : Bool := false
  /-- An ACK request exists for it. -/
  acked : Bool := false
  deriving DecidableEq, Repr

/-- An ACK request (R196-R198). -/
structure AckReq where
  id : Nat
  /-- The take's end-of-frame stamp. -/
  eof : Nat
  /-- The take's stamp and demodulator, which name it. -/
  stamp : Nat
  demod : Nat
  chain : Nat
  ch : Nat
  prof : Nat
  pw : List Word
  word : Nat
  t0 : Nat
  setup : Nat
  reack : Bool
  addr : Nat
  net : Nat
  counter : Nat
  sec : Nat
  long : Nat
  record : List Nat
  key : List Nat
  tc : Option Int
  deleted : Bool := false
  deriving DecidableEq, Repr

/-- What LNK keeps of a schedule entry that is not FREE: T_setup fixed at arming (R207), and PMODE and NREP as armed, from
which a deferred entry is sized again (R229). -/
structure ArmInfo where
  setup : Nat
  pmode : Nat
  nrep : Nat
  deriving DecidableEq, Repr

/-- A queued downlink slot (R217, R218), in enqueue order. -/
structure QSlot where
  slot : Nat
  dest : Nat
  /-- TYPE 0, a relay uplink. -/
  relay : Bool
  deriving DecidableEq, Repr

/-- A transmit notice of the present tick that waits for its place among the tick's packets (R334): its entry's index, 16 octets, chain and
profile. -/
structure Notice where
  entry : Nat
  octets : List Nat
  chain : Nat
  prof : Nat
  deriving DecidableEq, Repr

structure LnkState where
  takes : SMap Take := []
  /-- Release tick of demodulator d's last take (R118). -/
  freeAt : SMap Nat := []
  /-- Profile searches whose take was released in the present or an earlier tick: 16 c + p and the release tick (R109). -/
  parked : SMap Nat := []
  acks : List AckReq := []
  arms : SMap ArmInfo := []
  notices : List Notice := []
  queue : List QSlot := []
  /-- Next transmission number (the model's own name of a transmission). -/
  seq : Nat := 0
  /-- Takes by verdict code 0x00-0x0E, and transmissions by verdict at 0x20-0x25 (R164). -/
  stats : SMap Word := []
  /-- Pending-count increments of the present tick, by address (R33). -/
  incs : SMap Nat := []
  /-- T0, chain and number of the transmissions latched in tick `latchAt` (R175). -/
  latches : List (Nat × Nat × Nat) := []
  latchAt : Nat := 0
  /-- The last slate second whose boundary has been handled for beacons, and the second of the last beacon whose outcome was
  decided at its commit (R230, R232). -/
  bcnSec : Nat := 0
  bcnDone : Nat := 0
  /-- The second of the last beacon whose emission deadline was missed (R30). -/
  bcnMissed : Nat := 0
  /-- Offset o of the last tracking beacon (R235). -/
  pOff : Nat := 0
  /-- Tick from which the next scan step counts: entry to ACQUIRE or HOLD, or the last step. -/
  scanFrom : Nat := 0
  deriving DecidableEq, Repr

/-! ### Slate discipline (R509-R514) -/

structure SynState where
  /-- The accumulator q, and the phases that the present tick lasts (R509). -/
  q : Int := 0
  phases : Nat := 8
  /-- Consecutive samples within and beyond LOCK.TH, and the tick of the last one (R511). -/
  good : Nat := 0
  bad : Nat := 0
  sampleAt : Nat := 0
  /-- Ticks by which the slate steps forward in the following tick (R512), with the tick of the sample. -/
  step : Option (Nat × Nat) := none
  /-- Slate values that the present tick's step has skipped (R512). -/
  skip : Nat := 0
  /-- Stamp of the last filtered SYNC_PPS edge of the selected polarity, in eighths (R513); a stuck cue was raised since. -/
  edge : Option Nat := none
  stuck : Bool := false
  /-- The filtered level of SYNC_PPS, and the tick of its last change. -/
  level : Bool := false
  since : Option Nat := none
  /-- The last slate second whose boundary has been handled (R514). -/
  second : Nat := 0
  /-- End tick of the active PPS_OUT. -/
  ppsOut : Option Nat := none
  deriving DecidableEq, Repr

/-! ### The cores (R402-R404, R418-R420) -/

/-- A message of a channel, with the tick in which it entered (R418). -/
structure Msg where
  w0 : Word
  w1 : Word
  tick : Nat
  deriving DecidableEq, Repr

/-- What a core stalls in (R418, R419, R432). -/
inductive Stall where
  | send | recv | wait
  /-- The load of REL.POPn of this reel waits for its place among the pops of the tick (R342). -/
  | pop (reel : Nat)
  deriving DecidableEq, Repr

/-- A core: its private registers stand in the register file. -/
structure Core where
  /-- k1-k31; an unlisted register holds 0. -/
  k : SMap Word := [(31, 0x20000#32)]
  pc : Nat := 0
  acc0 : BitVec 40 := 0
  acc1 : BitVec 40 := 0
  /-- Powered and out of reset. KSS leaves reset at the end of the START run (R536). -/
  on : Bool := false
  lockup : Bool := false
  stall : Option Stall := none
  /-- A load whose slot instruction has not retired: its destination and value (R406-R408). -/
  pend : Option (Nat × Word) := none
  /-- The pop for which a load stands stalled has taken place: its reel, and its word, none where it ends in a data-abort (R343). -/
  popped : Option (Nat × Option Word) := none
  /-- Channels 0-4 by sender, and the cipher channel as 5. -/
  chans : SMap (List Msg) := []
  /-- The entry point recorded at boot step 11 (R403). -/
  entry : Nat := 0
  deriving DecidableEq, Repr

/-! ### Firmware images and the update engine (R516-R528) -/

/-- An image in a flash slot: its 256-octet header and its body.
DESIGN CHOICE (safe), log entry 38. -/
structure FwImage where
  hdr : List Nat
  body : List Nat
  deriving DecidableEq, Repr

/-- A component's part of the boot record (R520): the active slot, whether slots 0 and 1 hold images that may be used, and
whether the rough cut holds a verified staged image. -/
structure CompRec where
  active : Nat := 0
  valid0 : Bool := false
  valid1 : Bool := false
  staged : Bool := false
  deriving DecidableEq, Repr

/-- A valid copy of the boot record, components 1-4 in order (R520).
DESIGN CHOICE (safe), log entry 38. -/
structure BootRec where
  seq : Nat
  comps : List CompRec
  deriving DecidableEq, Repr

/-- An operation on QSPI0 that has been requested (R522, R524). -/
inductive FlashOp where
  /-- Session `ses` erases component c's rough cut and writes the header into it. -/
  | erase (ses c : Nat) (hdr : List Nat)
  /-- Session `ses` programs a chunk into component c's rough cut. -/
  | chunk (ses c : Nat) (data : List Nat)
  /-- Session `ses` has its programmed body read back and compared, and the boot record written (R522). -/
  | verify (ses : Nat)
  /-- The boot record is written with the STAGED bit of component c cleared (R522). -/
  | unstage (c : Nat)
  /-- The save of the persistent store in progress (R473). -/
  | save
  deriving DecidableEq, Repr

/-- DESIGN CHOICE (safe), log entry 38. -/
structure UpdState where
  /-- Images on QSPI0: component c at 3 c, 3 c + 1 (final-cut slots 0 and 1) and 3 c + 2 (rough cut). -/
  imgs : SMap FwImage := []
  /-- The two copies of the boot record, none where not valid (R520). -/
  recA : Option BootRec := none
  recB : Option BootRec := none
  /-- Operations waiting on QSPI0, in order of request. -/
  ops : List FlashOp := []
  /-- The session's number (the model's own name of it), its header, and the octets received so far. -/
  ses : Nat := 0
  hdr : List Nat := []
  rx : List Nat := []
  /-- Tick of the last accepted command (R523). -/
  last : Nat := 0
  /-- Keys revoked by fuse (R519). -/
  revoked : Nat := 0
  /-- Components promoted at this start (R527). -/
  promoted : List Nat := []
  /-- Entries reset for format: how many, and the first 254 as index, sub-index and component (R528). -/
  resets : Nat := 0
  resetList : List (Nat × Nat × Nat) := []
  deriving DecidableEq, Repr

/-! ### The dictionary server (R464-R495) -/

/-- Where an ODP message came from and its answer goes (R498, R505): port 0 SPH, 1-3 ETH0-ETH2. -/
structure OdpPeer where
  port : Nat
  /-- IPv4 (4 octets) or IPv6 (16 octets) source address, none on SPH, and its UDP port. -/
  addr : List Nat := []
  udp : Nat := 0
  /-- Source MAC address and VLAN tag of the request, and the port address it was sent to. -/
  mac : List Nat := []
  vlan : Option Nat := none
  own : List Nat := []
  deriving DecidableEq, Repr

/-- A message received and submitted for verification (R478, R479). -/
structure OdpReq where
  job : Nat
  peer : OdpPeer
  msg : List Nat
  /-- Effect tick of an open Observer's request, which is not verified (R481). -/
  open_ : Option Nat := none
  deriving DecidableEq, Repr

/-- A response or notification whose tag is awaited (R478); `job` none: it carries a zero tag (R481). -/
structure OdpOut where
  job : Option Nat
  peer : OdpPeer
  msg : List Nat
  deriving DecidableEq, Repr

/-- A request whose answer waits: for a cipher request (R483), or for firmware (R493). -/
structure OdpWait where
  job : Nat
  peer : OdpPeer
  msg : List Nat
  /-- Effect tick. -/
  tick : Nat
  /-- For a key entry: the value that was written. For a firmware ACTION: the value address, the descriptor's size and the
  argument's length. -/
  value : List Nat := []
  /-- Of a firmware ACTION: its descriptor and the tick in which it times out. -/
  desc : Nat := 0
  till : Nat := 0
  deriving DecidableEq, Repr

/-- A subscription (R486, R495). -/
structure OdpSub where
  prin : Nat
  role : Nat
  peer : OdpPeer
  index : Nat
  sub : Nat
  mode : Nat
  minint : Nat
  period : Nat
  lapse : Nat
  /-- The value last notified and the tick of its sample, none before the first notification. -/
  last : Option (List Nat) := none
  lastAt : Nat := 0
  deriving DecidableEq, Repr

/-- A principal's read capture (R484). -/
structure OdpCapture where
  index : Nat
  sub : Nat
  count : Nat
  tick : Nat
  /-- Octets captured, in the principal's read buffer. -/
  len : Nat
  deriving DecidableEq, Repr

/-- A principal's open block write (R485). -/
structure OdpWrite where
  index : Nat
  sub : Nat
  tick : Nat
  /-- Octets of the partial value, in the principal's write buffer. -/
  len : Nat
  deriving DecidableEq, Repr

/-- A record of the persistent store (R472). -/
structure StoreRec where
  index : Nat
  sub : Nat
  comp : Nat
  fmt : Nat
  value : List Nat
  deriving DecidableEq, Repr

/-- A valid copy of the persistent store (R472).
DESIGN CHOICE (safe), log entry 38. -/
structure StoreCopy where
  seq : Nat
  recs : List StoreRec
  deriving DecidableEq, Repr

/-- What the dictionary server keeps for the end of the present tick (R264, R479). -/
inductive OdpLate where
  /-- A READ or READ-BLOCK, whose values are those after every other effect of the tick. -/
  | read (r : OdpReq)
  /-- A write of a queue command, which comes after the tick's sheet and takes. -/
  | queue (r : OdpReq)
  /-- An answer that is decided: the principal under whose key it is tagged, the request, its effect tick, STATUS, DETAIL, TOTAL
  and payload. -/
  | say (peer : OdpPeer) (prin : Option Nat) (msg : List Nat) (tick status detail total : Nat) (payload : List Nat)
  deriving DecidableEq, Repr

structure OdxState where
  /-- Next job number of a cipher request of ODX (the model's own); 1 names the call-sheet verification. -/
  seq : Nat := 16
  reqs : List OdpReq := []
  outs : List OdpOut := []
  waits : List OdpWait := []
  /-- What waits for the end of the present tick, in service order. -/
  late : List OdpLate := []
  /-- The pending firmware ACTION. -/
  fw : Option OdpWait := none
  subs : SMap OdpSub := []
  caps : SMap OdpCapture := []
  writes : SMap OdpWrite := []
  /-- Values of persistent entries of unpowered blocks, at 256 index + sub-index (R470). -/
  stored : SMap (List Nat) := []
  /-- The device label (OD 0x1000.04). -/
  label : List Nat := []
  /-- The store's two copies, none where not valid (R472). -/
  copyA : Option StoreCopy := none
  copyB : Option StoreCopy := none
  /-- Tick of the last accepted write of a persistent entry that no save has started for (R473). -/
  dirtyAt : Option Nat := none
  /-- A save has been requested and has not started; the next save erases both copies (R473, R474). -/
  saveReq : Bool := false
  eraseReq : Bool := false
  /-- The firmware table has come into use since the last boot (R528). -/
  fwChecked : Bool := false
  /-- The capture being written, none in it where the copies are being erased. -/
  saving : Option (Option (List StoreRec)) := none
  /-- ODX.FWCHG16-FWCHG20, whose addresses show five counters (R492). -/
  chg : SMap Nat := []
  deriving DecidableEq, Repr

/-! ### Host ports (R496-R508) -/

/-- An open batch (R502). -/
structure Batch where
  /-- Batches opened before it on its reel since the reel was enabled (R501). -/
  seq : Nat
  words : List Word
  pkts : Nat
  since : Nat
  deriving DecidableEq, Repr

/-- A closed batch that waits to be sent (R503): its octets without the tag, and the cipher job of its tag. -/
structure ClosedBatch where
  reel : Nat
  close : Nat
  octets : List Nat
  job : Option Nat
  deriving DecidableEq, Repr

structure EthPort where
  open_ : SMap Batch := []
  closed : List ClosedBatch := []
  /-- Next descriptors of the receive and transmit rings (R498). -/
  rxAt : Nat := 0
  txAt : Nat := 0
  /-- The last frame sent, without its FCS. -/
  sent : List Nat := []
  deriving DecidableEq, Repr

structure HostState where
  eth : SMap EthPort := []
  /-- SPH: responses and notifications waiting, oldest first (R505), and the octets the last transaction returned, the status octet
  first (R504). -/
  sph : List (List Nat) := []
  miso : List Nat := []
  /-- Tick of the end of SPH's last transaction, for the time without an SCK edge (R506). -/
  sphAt : Nat := 0
  /-- UART FIFOs (R508), oldest octet first, and the last octet sent. -/
  uatTx : List Nat := []
  uatRx : List Nat := []
  uatSent : Option Nat := none
  deriving DecidableEq, Repr

/-! ### The whole block -/

/-- An access of the present tick that takes place after the tick's own events.
DESIGN CHOICE (unsafe), log entry 98. -/
inductive LateAccess where
  /-- A queue command, as a write of LNK.DLQ (R264). -/
  | queue (val : Word)
  /-- A pop of reel `n` by core `req` (R342). -/
  | pop (req n : Nat)
  /-- A READ-REEL transaction of the host link (R342, R504). -/
  | readReel (n maxw clocked : Nat)
  /-- The capture of registry range `r` (R264, R280). -/
  | capture (r : Nat)
  deriving DecidableEq, Repr

structure State where
  /-- The commands that wait, first in, first out. -/
  pending : List Instr := []
  /-- The slate (R14), modulo 2^64. -/
  slate : Nat := 0
  /-- The register file: every register of the spec's tables by address; an unlisted register holds its reset value. -/
  regs : SMap Word := []
  cue : CueState := {}
  tmr : SMap TmrState := []
  /-- A write of TMR.GCMD.GO of this tick waits for the end of the tick (R379). -/
  tmrGroup : Bool := false
  cal : CalState := {}
  /-- Data octets of every memory of R444 by address (memory number times 2^40, plus octet offset); an unlisted octet reads
  zero, as unwritten memory does (R447). -/
  mem : List Host.Cell := []
  /-- ECC marks by ECC word (memory number times 2^40, plus word index). -/
  ecc : SMap EccMark := []
  /-- Stretches of undefined contents, and the number of the next free value (the model's own). -/
  undef : List UndefRange := []
  free : Nat := 0
  /-- Tick of the last uncorrectable event (R455). -/
  ueAt : Option Nat := none
  reels : SMap Reel := []
  sup : SupState := {}
  cip : CipState := {}
  epr : EprState := {}
  dcb : DcbState := {}
  sys : SysState := {}
  syn : SynState := {}
  rfs : RfState := {}
  chz : ChzState := {}
  lnk : LnkState := {}
  cores : SMap Core := []
  upd : UpdState := {}
  odx : OdxState := {}
  host : HostState := {}
  /-- The value the last read command returned to its requester. -/
  rdata : Word := 0
  /-- The register bits that hardware has set in the present tick: a write of 1 to a W1C bit in that tick leaves it set (R5). -/
  raised : SMap Word := []
  /-- Accesses of the present tick that come after its own events, in the order in which they came (R264, R342). -/
  late : List LateAccess := []
  /-- The scrubber visits (m) and the bucket leaks (16 + m) that the present tick has had (R456, R458). -/
  memDone : List Nat := []
  deriving DecidableEq, Repr

/-- The state after a power-on reset (R56): every register at its reset value, every engine idle, the queue empty.
DESIGN CHOICE (safe), log entry 2. DESIGN CHOICE (unsafe), log entry 9. DESIGN CHOICE (unsafe), log entry 90. -/
def State.reset : State := {}

end Sys2Proof.Machine
end

