-- ==== Sys2Proof/Machine/Ops.lean ====
section
/-! DEFINITION. The shared operations over the register file and the cue fabric: reading and writing registers and their
fields, counters, the emission of cues, and the outcome of a command. -/

namespace Sys2Proof.Machine

/-- The outcome of a command of this block. -/
abbrev Out := Host.Outcome State Fault Refusal

/-- A command whose operands name something in the block goes to `t`; any other is refused as ill-formed.
DESIGN CHOICE (unsafe), log entry 3. DESIGN CHOICE (unsafe), log entry 4. -/
def ok (p : Bool) (t : State) : Out := if p then .next t else .refused .illFormed

/-! ### Registers -/

/-- The stored word of the register at `a`: its reset value until something writes it.
DEDUCED (safe), log entry 6. -/
def State.rd (s : State) (a : Nat) : Word := s.regs.get a (regReset a)

/-- The state with `v` in the register at `a`; the register file keeps its canonical form.
DEDUCED (safe), log entry 6. -/
def State.wr (s : State) (a : Nat) (v : Word) : State := { s with regs := s.regs.store (regReset a) a v }

/-- Field [hi:lo] of the register at `a`. -/
def State.rf (s : State) (a hi lo : Nat) : Nat := fld (s.rd a) hi lo

/-- The state with field [hi:lo] of the register at `a` set to `v`. -/
def State.wf (s : State) (a hi lo v : Nat) : State := s.wr a (setFld (s.rd a) hi lo v)

/-- Bit `b` of the register at `a`. -/
def State.rb (s : State) (a b : Nat) : Bool := bit (s.rd a) b

/-- The bits of `mask` of the register at `a` count as set by hardware in the present tick (R5). -/
def State.raise (s : State) (a mask : Nat) : State :=
  { s with raised := s.raised.put a (s.raised.get a 0 ||| word mask) }

/-- The state with bit `b` of the register at `a` set to `v`; a bit that is set is on record for the present tick (R5).
DEDUCED (safe), log entry 5. -/
def State.wb (s : State) (a b : Nat) (v : Bool) : State :=
  { s.wf a b b (b2n v) with raised := if v then (s.raise a (2 ^ b)).raised else s.raised }

/-- The state with the bits of `mask` of the register at `a` set by hardware (R5). -/
def State.setBits (s : State) (a mask : Nat) : State := (s.wr a (s.rd a ||| word mask)).raise a mask

/-- A counter register that counts `n` events and wraps at 2^32. -/
def State.inc (s : State) (a : Nat) (n : Nat := 1) : State := s.wr a (s.rd a + word n)

/-- The 64-bit register whose low word is at `a` and whose high word follows it. -/
def State.rd64 (s : State) (a : Nat) : Nat := (s.rd a).toNat + 2 ^ 32 * (s.rd (a + 4)).toNat

/-- The state with the 64-bit register at `a` set. -/
def State.wr64 (s : State) (a v : Nat) : State := (s.wr a (word v)).wr (a + 4) (word (v >>> 32))

/-- The value that a plain write of `v` leaves in a register that holds `old` (R3, R4): RW bits take the written value,
W1C bits written 1 clear but for those of `keep`, every other bit stays.
DEDUCED (safe), log entry 6. DEDUCED (safe), log entry 5. -/
def plainValue (rw w1c : Nat) (keep old v : Word) : Word :=
  (v &&& word rw) ||| (old &&& ~~~(word rw) &&& ~~~(v &&& word w1c &&& ~~~keep))

/-- The W1C bit `b` of the register at `a` under a write of `v`: it clears, unless hardware has set it in the present tick (R5). -/
def State.clearW1C (s : State) (a b : Nat) (v : Word) : State :=
  if bit v b && !bit (s.raised.get a 0) b then s.wb a b false else s

/-- A plain write of `v` to the register at `a` by the access codes of R4; a bit that hardware has set in the present tick stays
set (R5).
DEDUCED (safe), log entry 5. -/
def State.plainWrite (s : State) (a : Nat) (v : Word) : State :=
  s.wr a (plainValue (regRW a) (regW1C a) (s.raised.get a 0) (s.rd a) v)

/-! ### Modes and domains (R36) -/

/-- SYS.MODE.CUR. -/
def State.mode (s : State) : Nat := s.rf Reg.SYS_MODE 3 0

/-- The main domain is powered: every mode but BACKUP and HIBERNATE. -/
def State.mainOn (s : State) : Bool := decide (2 ≤ s.mode)

/-- The always-on domain is powered: every mode but BACKUP. -/
def State.aonOn (s : State) : Bool := decide (1 ≤ s.mode)

/-- The device is in CONCENTRATE or RELAY. -/
def State.operating (s : State) : Bool := decide (s.mode = 4 ∨ s.mode = 5)

/-- The effect `t` of an access to the main domain, which has none while the domain is not powered (R36, R53). -/
def State.onMain (s t : State) : State := if s.mainOn then t else s

/-- The effect `t` of an access to the always-on domain, which has none in BACKUP (R36). -/
def State.onAon (s t : State) : State := if s.aonOn then t else s

/-- The present tick is, or its step skips, a multiple of p (R512). -/
def State.passes (s : State) (p : Nat) : Bool := decide (0 < p) && decide (s.slate % p ≤ s.syn.skip)

/-- Tick `t` as a register shows it: 0 until boot step 2 has loaded the slate, from which on it counts (R58). Before, the model's own
count of ticks runs, which nothing shows.
DESIGN CHOICE (unsafe), log entry 9. -/
def State.shownTick (s : State) (t : Nat) : Nat := if s.sys.boot = 1 ∨ s.sys.boot = 2 then 0 else t

/-- The slate as it is read (R58).
DESIGN CHOICE (unsafe), log entry 9. -/
def State.slateNow (s : State) : Nat := s.shownTick s.slate

/-! ### Cues -/

/-- The routes of the always-on segment of the fabric, the only ones that deliver in HIBERNATE (R358). -/
def aonRoute (r : Nat) : Bool :=
  decide (r ≤ 4) || r == 6 || r == 7 || (decide (10 ≤ r) && decide (r ≤ 13)) || r == 131 || r == 132
    || (decide (212 ≤ r) && decide (r ≤ 216))

/-- The consumer input of a route (R360). -/
def routeInput (r : Nat) : Nat :=
  if r < 179 then r
  else if r < 195 then 179 + (r - 179 + 1) % 16
  else if r < 213 then r
  else if r < 217 then 213
  else if r < 221 then 191 + (r - 217)
  else 214 + (r - 221)

/-- Consumer input i receives cues in the present mode: each while the main domain is powered, those of the always-on segment in
HIBERNATE too (R358). -/
def State.inputOn (s : State) (i : Nat) : Bool := s.mainOn || (s.aonOn && aonRoute i && decide (i < 214))

/-- Δ of a consumer input, in ticks (R346): SYNC32 2, SYNC125 1, ASYNC 0. -/
def inputDelta (i : Nat) : Nat :=
  if (147 ≤ i ∧ i ≤ 178) ∨ i = 212 then 2 else if 214 ≤ i then 1 else 0

/-- The route is enabled in CUE.EN and its segment of the fabric is powered (R349, R358). -/
def State.routeOn (s : State) (r : Nat) : Bool :=
  s.rb (Reg.CUE_EN (r / 32)) (r % 32) && (s.mainOn || (s.aonOn && aonRoute r))

/-- Emission of one event's cues, one on each of its routes, with emission tick `e` and generation `g` (R346, R360). Which of
them a route delivers is settled once the writes of tick `e` have taken effect (R349, `State.emission`). -/
def State.emitAt (s : State) (routes : List (Nat × Nat)) (g e : Nat) (fired : Bool := false) : State :=
  let cues := routes.map fun r =>
    ({ route := r.1, input := routeInput r.1, effect := e + inputDelta (routeInput r.1), count := r.2, gen := g,
       em := e, fired := fired } : PendingCue)
  { s with cue := { s.cue with pending := s.cue.pending ++ cues } }

/-- A cue of the present tick whose route does not deliver (R349). -/
def State.cueLost (s : State) (c : PendingCue) : Bool := c.em == s.slate && !s.routeOn c.route

/-- The end of the emissions of the present tick, after its writes: a cue on a disabled route is lost (R349), and FIREDIS is set
where software fired it (R361). -/
def State.emission (s : State) : State :=
  let t : State := { s with cue := { s.cue with pending := s.cue.pending.filter fun c => !s.cueLost c } }
  if s.cue.pending.any fun c => s.cueLost c && c.fired then t.wb Reg.CUE_STAT 1 true else t

/-- A time- or input-caused event of the present tick: generation 0, the same count on each of its routes. -/
def State.emit (s : State) (routes : List Nat) (count : Nat := 1) : State :=
  s.emitAt (routes.map fun r => (r, count)) 0 s.slate

/-- An event caused by a trigger of generation `g` in the present tick: emission tick t + 1, generation g + 1 (R348,
R352, R374). -/
def State.emitCaused (s : State) (routes : List (Nat × Nat)) (g : Nat) : State :=
  if routes.isEmpty then s
  else { s with cue := { s.cue with
    deferred := s.cue.deferred ++ [{ routes := routes, gen := g + 1, em := s.slate + 1 }] } }

/-- One loop trip (R353): the enabled routes are marked, LASTLOOP names the highest, LOOPCNT counts, and
CUE.LOOP_TRIPPED is emitted with generation 0. -/
def State.loopTrip (s : State) (routes : List Nat) : State :=
  let s := routes.foldl (fun s r => s.wb (Reg.CUE_LOOP (r / 32)) (r % 32) true) s
  let s := (s.wb Reg.CUE_STAT 0 true).wf Reg.CUE_STAT 15 8 (maxL routes)
  (s.inc Reg.CUE_LOOPCNT).emit [5]

/-- An event whose emission tick has come: generations 0-7 are emitted; at generation 8 an event with an enabled route
trips, and one with none records nothing (R349, R353). -/
def State.materialise (s : State) (ev : CueEvent) : State :=
  if ev.gen < 8 then s.emitAt ev.routes ev.gen ev.em
  else
    match (ev.routes.map Prod.fst).filter s.routeOn with
    | [] => s
    | rs => s.loopTrip rs

/-- A violation of class `c` at a guarded input (R542), counted by SUP while the always-on domain is powered. -/
def State.violation (s : State) (c : Nat) : State := if s.aonOn then s.inc (Reg.SUP_VIOL c) else s

/-- One stuck episode of an input: class 1, and SUP.INPUT_STUCK (R355, R542). -/
def State.inputStuck (s : State) : State := (s.violation 1).emit [4]

end Sys2Proof.Machine
end

