-- ==== Sys2Proof/Machine/Memory.lean ====
section
/-! DEFINITION. The memories, their SECDED code and valid bits, scrubbing, the leaky buckets and the checker test mode
(spec/18_memory_ecc.md). -/

namespace Sys2Proof.Machine

/-- The address key of octet (or ECC word) `i` of memory `m`.
DESIGN CHOICE (unsafe), log entry 7. -/
def memKey (m i : Nat) : Nat := m * 2 ^ 40 + i

/-- Octets that one ECC word of memory `m` takes in `State.mem`: 16 in DRAM, 8 elsewhere (R444). A reel word keeps its
32 bits in octets 0-3 and END in bit 0 of octet 4.
DESIGN CHOICE (unsafe), log entry 7. -/
def eccOctets (m : Nat) : Nat := if m = 14 then 16 else 8

/-- Data bits of an ECC word (R444). -/
def eccK (m : Nat) : Nat := if m = 14 then 128 else if m = 7 then 33 else 64

/-- Check bits of an ECC word (R445). -/
def eccR (m : Nat) : Nat := if m = 14 then 9 else if m = 7 then 7 else 8

/-- Usable DRAM in octets: seven eighths of the fitted capacity (R451). -/
def State.dramOctets (s : State) : Nat := 7 * (s.rf Reg.MEM_DCFG 3 0 * 2 ^ 30) / 8

/-- Rg, the registry record array, in octets (R451). -/
def State.dramRg (s : State) : Nat := if s.rf Reg.MEM_DCFG 3 0 ≤ 2 then 1280 * 2 ^ 20 else 2048 * 2 ^ 20

/-- Usable offset of the window region (R451). -/
def State.winBase (s : State) : Nat := s.dramRg + 64 * 2 ^ 20

/-- Usable offset of the sheet buffer, OD 0x3010 (R290, R451): the first of the ODX buffers.
DESIGN CHOICE (unsafe), log entry 99. -/
def State.sheetBuffer (s : State) : Nat := s.dramRg + 9 * 2 ^ 20

/-- Usable offset of ODX's buffer `i`, of 64 KiB, behind the sheet buffer (R451).
DESIGN CHOICE (unsafe), log entry 99. -/
def State.odxBuffer (s : State) (i : Nat) : Nat := s.sheetBuffer + 2 ^ 20 + 2 ^ 16 * i

/-- Usable offset of the copy of range r's state in EPR's control block, behind that of EPR.GEN (R266, R451).
DESIGN CHOICE (unsafe), log entry 99. -/
def State.controlWord (s : State) (r : Nat) : Nat := s.dramRg + 16 * (r + 1)

/-- Usable offset of word `b` of LNK's queue directory (R218, R451): one ECC word for each bucket and each slot.
DESIGN CHOICE (unsafe), log entry 99. -/
def State.chainWord (s : State) (b : Nat) : Nat := s.dramRg + 2 ^ 20 + 16 * b

/-- Usable offset of the stored buckets of account k's bin (R253, R451): 60 buckets of eight octets, the bucket of index b at b mod 60.
DESIGN CHOICE (unsafe), log entry 99. -/
def State.bucketWords (s : State) (k bin : Nat) : Nat :=
  s.dramRg + 5 * 2 ^ 20 + 480 * (if k < 16 then k else 16 + 512 * (k - 16) + bin)

/-- ECC words of memory `m` (R444). -/
def State.eccWords (s : State) (m : Nat) : Nat :=
  match m with
  | 5 => 262144
  | 6 => 131072
  | 7 => 262144
  | 8 => 24576
  | 9 => 16384
  | 10 => 24576
  | 11 => 8192
  | 12 => 65536
  | 13 => 32
  | 14 => s.dramOctets / 16
  | _ => if m < 5 then 16384 else 0

/-- The number of bits that are 1 among the low `k` bits. -/
def popCount (k n : Nat) : Nat := ((List.range k).filter fun i => n.testBit i).length

/-- The columns h(0), h(1), … of an r-bit code: the values of odd weight 3 or more, ascending (R445). -/
def eccCols (r : Nat) : List Nat := (List.range (2 ^ r)).filter fun v => popCount r v % 2 == 1 && decide (3 ≤ popCount r v)

/-- The check bits of `k` data bits under an r-bit code (R445). -/
def eccCheck (r k data : Nat) : Nat :=
  ((eccCols r).take k).zipIdx.foldl (fun c (h, i) => if data.testBit i then c ^^^ h else c) 0

/-- Majority of three copies of a valid bit (R447). -/
def majority (v : Nat) : Bool := decide (2 ≤ popCount 3 v)

/-- Three copies disagree. -/
def disagree (v : Nat) : Bool := popCount 3 v == 1 || popCount 3 v == 2

/-- Class of a read (R446, R447). -/
inductive EccClass where
  | good | corrected | uncorrectable | unwritten
  deriving DecidableEq, Repr

/-- What a read of one ECC word gives. -/
structure EccRead where
  cls : EccClass
  data : Nat
  /-- The valid copies disagreed. -/
  vcorr : Bool := false
  /-- The corrected bit is a check bit, and its position. -/
  chkBit : Bool := false
  pos : Nat := 0
  syn : Nat := 0
  deriving DecidableEq, Repr

/-- The stored data `d` of a word of memory `m` as it enters the code (R447): an unwritten half of a DRAM word, or an unwritten
word, is zero. -/
def eccKept (m d : Nat) (w0 w1 : Bool) : Nat :=
  if m = 14 then (if w0 then d % 2 ^ 64 else 0) + (if w1 then (d / 2 ^ 64) * 2 ^ 64 else 0) else if w0 then d else 0

/-- The read of stored data `d` with mark `k` in memory `m` (R446, R447). -/
def eccDecode (m d : Nat) (k : EccMark) : EccRead :=
  let two := decide (m = 14)
  let w0 := majority k.v0
  let w1 := two && majority k.v1
  let vc := disagree k.v0 || (two && disagree k.v1)
  let raw := d
  let d := eccKept m raw w0 w1
  -- The stored check bits against those of the data as it enters the code.
  let syn := if d = raw then k.syn else k.syn ^^^ eccCheck (eccR m) (eccK m) (raw ^^^ d)
  if !w0 && !w1 then
    { cls := if vc then .corrected else .unwritten, data := 0, vcorr := vc }
  else if syn = 0 then { cls := if vc then .corrected else .good, data := d, vcorr := vc }
  else if popCount (eccR m) syn % 2 = 0 then { cls := .uncorrectable, data := 0, vcorr := vc, syn := syn }
  else
    match ((eccCols (eccR m)).take (eccK m)).findIdx? (fun h => h == syn) with
    | some i => { cls := .corrected, data := eccKept m (d ^^^ 2 ^ i) w0 w1, vcorr := vc, pos := i, syn := syn }
    | none =>
      match (List.range (eccR m)).find? (fun j => syn == 2 ^ j) with
      | some j => { cls := .corrected, data := d, vcorr := vc, chkBit := true, pos := j, syn := syn }
      | none => { cls := .uncorrectable, data := 0, vcorr := vc, syn := syn }

/-- The canonical form of the memories: keys strictly rising, and no octet listed that is 0, which is what an unlisted octet
reads as.
DEDUCED (safe), log entry 8. -/
def Memory.wf (m : List Host.Cell) : Bool := SMap.wf (fun _ => (0 : Byte)) m

/-- The stored octet `o` of memory `m`.
DEDUCED (safe), log entry 8. -/
def State.memByte (s : State) (m o : Nat) : Byte := SMap.get s.mem (memKey m o) 0

/-- The state with octet `o` of memory `m` stored; the memory keeps its canonical form.
DEDUCED (safe), log entry 8. -/
def State.setByte (s : State) (m o : Nat) (b : Byte) : State := { s with mem := SMap.store 0 s.mem (memKey m o) b }

/-- The stored data of ECC word `i` of memory `m`, as a number. -/
def State.eccData (s : State) (m i : Nat) : Nat :=
  natLE ((List.range (eccOctets m)).map fun j => s.memByte m (i * eccOctets m + j))

/-- The mark of ECC word `i` of memory `m`.
DEDUCED (safe), log entry 8. -/
def State.eccMark (s : State) (m i : Nat) : EccMark := s.ecc.get (memKey m i) {}

/-- The state with the mark of ECC word `i` of memory `m` set. -/
def State.setMark (s : State) (m i : Nat) (k : EccMark) : State := { s with ecc := s.ecc.store {} (memKey m i) k }

/-- The state with octets stored from octet `o` of memory `m` on. -/
def State.setBytes (s : State) (m o : Nat) (bs : List Byte) : State :=
  bs.zipIdx.foldl (fun s (b, j) => s.setByte m (o + j) b) s

/-- The state with the data of ECC word `i` of memory `m` stored. -/
def State.setEccData (s : State) (m i d : Nat) : State :=
  s.setBytes m (i * eccOctets m) (bytesLE (eccOctets m) d)

/-- The read of ECC word `i` of memory `m`. -/
def State.eccRead (s : State) (m i : Nat) : EccRead := eccDecode m (s.eccData m i) (s.eccMark m i)

/-- One correction in memory `m` (R456): CECNTm and the level of the leaky bucket, which is compared once every correction of the tick
has been added (`bucketCheck`). -/
def State.correction (s : State) (m : Nat) : State :=
  let s := s.inc (Reg.MEM_CECNT m)
  s.wf (Reg.MEM_LEVEL m) 7 0 (min 255 (s.rf (Reg.MEM_LEVEL m) 7 0 + 1))

/-- The octet offset of ECC word `i` of memory `m`, as MEM.UEADDR gives it (R444, R455): a reel word has four octets. -/
def eccOffset (m i : Nat) : Nat := if m = 7 then 4 * i else i * eccOctets m

/-- One uncorrectable event at octet offset `o` of memory `m`, met by requester `req` (R455).
DESIGN CHOICE (unsafe), log entry 10. -/
def State.uncorrectable (s : State) (req m o : Nat) : State :=
  let higher := decide (s.ueAt ≠ some s.slate) || decide (s.rf Reg.MEM_UESRC 11 8 < m)
    || (s.rf Reg.MEM_UESRC 11 8 == m && decide (s.rd64 (Reg.MEM_UEADDR 0) ≤ o))
  let s := if higher then
      { (s.wr64 (Reg.MEM_UEADDR 0) o).wr Reg.MEM_UESRC (word (m * 256 + req)) with ueAt := some s.slate }
    else s
  (((s.wb Reg.MEM_STAT 1 true).inc Reg.MEM_UECNT).inc (Reg.MEM_UECNTM m)).emit [9]

/-- The ECC words that `n` octets from octet `o` touch. -/
def eccSpan (m o n : Nat) : List Nat :=
  if n = 0 then []
  else (List.range ((o + n - 1) / eccOctets m - o / eccOctets m + 1)).map fun j => o / eccOctets m + j

/-- The stretch of undefined contents that holds octet `o` of memory `m`.
DESIGN CHOICE (safe), log entry 15. -/
def State.undefAt (s : State) (m o : Nat) : Option UndefRange :=
  s.undef.find? fun u => u.m == m && decide (u.lo ≤ o) && decide (o < u.lo + u.len)

/-- The octet that a read returns at octet `o`: from the word as decoded, a free value where the contents are undefined. -/
def State.readByte (s : State) (m o : Nat) : Byte :=
  match s.undefAt m o with
  | some u => Config.freeByte u.seed (u.off + (o - u.lo))
  | none => byteOf (s.eccRead m (o / eccOctets m)).data (o % eccOctets m)

/-- What reading ECC word `i` reports: a correction is counted, an uncorrectable word is recorded.
DESIGN CHOICE (unsafe), log entry 10. -/
def State.reportWord (s : State) (req m i : Nat) : State :=
  match (s.eccRead m i).cls with
  | .good => s
  | .unwritten => s
  | .corrected => s.correction m
  | .uncorrectable => s.uncorrectable req m (eccOffset m i)

/-- Every word that `n` octets from octet `o` of memory `m` touch can be read (R446). -/
def State.readable (s : State) (m o n : Nat) : Bool :=
  (eccSpan m o n).all fun i => (s.eccRead m i).cls != .uncorrectable

/-- The octets a read of `n` octets returns, none where a word of it is uncorrectable (R454).
DESIGN CHOICE (unsafe), log entry 10. -/
def State.peek (s : State) (m o n : Nat) : Option (List Byte) :=
  if s.readable m o n then some ((List.range n).map fun j => s.readByte m (o + j)) else none

/-- The state after a read of `n` octets by `req`: corrections and uncorrectable events are reported (R455, R456).
DESIGN CHOICE (unsafe), log entry 10. -/
def State.readReport (s : State) (req m o n : Nat) : State :=
  (eccSpan m o n).foldl (fun s i => s.reportWord req m i) s

/-- The octets `n` from octet `o` hold no partly covered word that is uncorrectable: the write can take place (R449). -/
def State.writable (s : State) (m o n : Nat) : Bool :=
  let w := eccOctets m
  (eccSpan m o n).all fun i => (decide (o ≤ i * w) && decide ((i + 1) * w ≤ o + n)) || (s.eccRead m i).cls != .uncorrectable

/-- A stretch of undefined contents less `n` octets from octet `o` of memory `m`.
DESIGN CHOICE (safe), log entry 15. -/
def cutUndef (m o n : Nat) (u : UndefRange) : List UndefRange :=
  if u.m != m || decide (u.lo + u.len ≤ o) || decide (o + n ≤ u.lo) then [u]
  else
    (if u.lo < o then [{ u with len := o - u.lo }] else [])
      ++ (if o + n < u.lo + u.len then
        [{ u with lo := o + n, len := u.lo + u.len - (o + n), off := u.off + (o + n - u.lo) }] else [])

/-- The state whose undefined stretches leave out `n` octets from octet `o` of memory `m`. -/
def State.settle (s : State) (m o n : Nat) : State := { s with undef := s.undef.flatMap (cutUndef m o n) }

/-- The state with octets written from octet `o` of memory `m` on, where the write can take place: each word is stored
as read, merged with the new octets, with correct check bits and its valid bits 1 (R447, R449). -/
def State.poke (s : State) (m o : Nat) (bs : List Byte) : State :=
  let w := eccOctets m
  let s' := (eccSpan m o bs.length).foldl (fun t i =>
    let d := (s.eccRead m i).data
    let t := if s.eccMark m i = { syn := 0, v0 := 7, v1 := if m = 14 then 7 else 0 } then t
      else t.setEccData m i d
    let lowHalf := decide (o < i * w + 8)
    let highHalf := decide (i * w + 8 < o + bs.length)
    let old := s.eccMark m i
    t.setMark m i (if m = 14 then
      { syn := 0, v0 := if lowHalf || majority old.v0 then 7 else 0, v1 := if highHalf || majority old.v1 then 7 else 0 }
      else { syn := 0, v0 := 7 })) s
  (s'.setBytes m o bs).settle m o bs.length

/-- The engine-state word of demodulator d (R444).
DESIGN CHOICE (unsafe), log entry 99. -/
def demodWord (d : Nat) : Nat := 256 + d

/-- The state with undefined contents in `n` octets from octet `o` of memory `m` (R309).
DESIGN CHOICE (safe), log entry 15. -/
def State.undefine (s : State) (m o n : Nat) : State :=
  if n = 0 then s
  else
    let s := s.poke m o (List.replicate n 0)
    { s with undef := { m := m, lo := o, len := n, seed := s.free, off := 0 } :: s.undef, free := s.free + 1 }

/-- A write by `req`: it takes place whole, or not at all where a partly covered word is uncorrectable (R449, R454);
read-modify-writes report what they read. The second part says whether it took place. -/
def State.write (s : State) (req m o : Nat) (bs : List Byte) : State × Bool :=
  let w := eccOctets m
  let partly := (eccSpan m o bs.length).filter fun i => !(decide (o ≤ i * w) && decide ((i + 1) * w ≤ o + bs.length))
  let s' := partly.foldl (fun t i => t.reportWord req m i) s
  if s.writable m o bs.length then (s'.poke m o bs, true) else (s', false)

/-- `n` octets from octet `o` of memory `m` become undefined by a write of `req` (R309), where that can take place (R449). -/
def State.undefineBy (s : State) (req m o n : Nat) : State × Bool :=
  let x := s.write req m o (List.replicate n 0)
  if x.2 then (x.1.undefine m o n, true) else x

/-- The words of memory `m` from `i` on, `n` of them, return to unwritten (R448). -/
def State.unwrite (s : State) (m i n : Nat) : State :=
  let w := eccOctets m
  { s with
    mem := s.mem.filter fun e => !(decide (memKey m (i * w) ≤ e.1) && decide (e.1 < memKey m ((i + n) * w)))
    ecc := s.ecc.filter fun e => !(decide (memKey m i ≤ e.1) && decide (e.1 < memKey m (i + n)))
    undef := s.undef.flatMap (cutUndef m (i * w) (n * w)) }

/-- ECC word `i` of memory `m` is written whole with data `d`: its check bits are right, and its valid copies 1 (R447). -/
def State.putWord (s : State) (m i d : Nat) : State :=
  (s.setEccData m i d).setMark m i { syn := 0, v0 := 7, v1 := if m = 14 then 7 else 0 }

/-- Memory `m` with every valid bit cleared (R448). -/
def State.clearMem (s : State) (m : Nat) : State :=
  { s with
    mem := s.mem.filter fun e => e.1 / 2 ^ 40 != m
    ecc := s.ecc.filter fun e => e.1 / 2 ^ 40 != m
    undef := s.undef.filter fun u => u.m != m }

/-- The domain of memory `m` is powered, and DRAM is usable and out of self-refresh (R444, R460). -/
def State.memOn (s : State) (m : Nat) : Bool :=
  if m = 13 then s.aonOn
  else if m = 4 ∨ m = 9 then s.aonOn
  else if m = 14 then s.mainOn && s.rb Reg.MEM_STAT 0 && !s.rb Reg.MEM_DCFG 16
  else s.mainOn

/-- The address of MEM.SCRUBm. -/
def scrubReg (m : Nat) : Nat := Reg.MEM_SCRUB m

/-- Memory m's scrubber makes a visit in the present tick, and has not made it yet (R458, R460). -/
def State.scrubDue (s : State) (m : Nat) : Bool :=
  s.rb (scrubReg m) 31 && s.memOn m && decide (0 < s.eccWords m) && s.passes (32 * 2 ^ s.rf (scrubReg m) 4 0) && !s.memDone.contains m

/-- The visit of memory m's scrubber in the present tick (R458). -/
def scrubVisit (s : State) (m : Nat) : State :=
  if s.scrubDue m then
    let s : State := { s with memDone := m :: s.memDone }
    let i := (s.rd (Reg.MEM_SCRPOS m)).toNat
    let r := s.eccRead m i
    let k := s.eccMark m i
    let unwr := !majority k.v0 && !(decide (m = 14) && majority k.v1)
    let s := match r.cls with
      | .good => s
      | .unwritten => s
      | .corrected =>
        (if unwr then s.setMark m i { k with v0 := 0, v1 := 0 }
          else (s.setEccData m i r.data).setMark m i
            { syn := 0, v0 := if majority k.v0 then 7 else 0, v1 := if m = 14 ∧ majority k.v1 then 7 else 0 }).correction m
      | .uncorrectable => s.uncorrectable 14 m (eccOffset m i)
    if i + 1 < s.eccWords m then s.wr (Reg.MEM_SCRPOS m) (word (i + 1))
    else (s.wr (Reg.MEM_SCRPOS m) 0).inc (Reg.MEM_SCRPASS m)
  else s

/-- The level of memory m's bucket against MEM.LEAK.TH (R456, R457): an armed bucket above it disarms, with CE_BURST, LASTBURST and
MEM.CE_BURST; the cues of buckets that disarm in one tick coalesce (R350). -/
def bucketCheck (s : State) (m : Nat) : State :=
  if s.rb (Reg.MEM_LEVEL m) 8 && decide (s.rf Reg.MEM_LEAK 23 16 < s.rf (Reg.MEM_LEVEL m) 7 0) then
    (((s.wb (Reg.MEM_LEVEL m) 8 false).wb Reg.MEM_STAT 2 true).wf Reg.MEM_STAT 7 4 m).emit [8]
  else s

/-- The buckets leak in the present tick, and memory m's has not leaked in it yet (R456). -/
def State.leakDue (s : State) (m : Nat) : Bool := s.passes (s.rf Reg.MEM_LEAK 15 0 * 32000) && !s.memDone.contains (16 + m)

/-- The leak of memory m's bucket in the present tick (R456, R457): the level falls by 1 if it is not 0, and the bucket re-arms
at 0. -/
def bucketLeak (s : State) (m : Nat) : State :=
  if s.leakDue m then
    let l := s.rf (Reg.MEM_LEVEL m) 7 0
    let s : State := { s.wf (Reg.MEM_LEVEL m) 7 0 (l - 1) with memDone := (16 + m) :: s.memDone }
    if l - 1 = 0 then s.wb (Reg.MEM_LEVEL m) 8 true else s
  else s

/-- SCRUBBER_VISIT (R458). -/
def execScrubberVisit (m : Nat) (s : State) : Out := ok (m < 15) (scrubVisit s m)

/-- LEAKY_BUCKET_LEAK (R456): where the leak is due, the bucket is compared and then leaks. -/
def execLeakyBucketLeak (m : Nat) (s : State) : Out := ok (m < 15) (if s.leakDue m then bucketLeak (bucketCheck s m) m else s)

end Sys2Proof.Machine
end

