-- ==== Sys2Proof/Machine/Budget.lean ====
section
/-! DEFINITION. Duty-cycle and dwell budgets (spec/09_duty_budget.md). Accounts 0-15 are the band accounts, 16-31 the dwell
accounts. -/

namespace Sys2Proof.Machine

/-- Register base of account `k`. -/
def acctBase (k : Nat) : Nat := if k < 16 then Reg.DCB_BCFG k else Reg.DCB_DCFG (k - 16)

def State.acctOn (s : State) (k : Nat) : Bool := s.rb (acctBase k) 31
def State.acctDefer (s : State) (k : Nat) : Bool := s.rb (acctBase k) 30
def State.acctDefMax (s : State) (k : Nat) : Nat := s.rf (acctBase k) 23 16
def State.acctWin (s : State) (k : Nat) : Nat := s.rf (acctBase k) 11 0
def State.acctLo (s : State) (k : Nat) : Nat := (s.rd (acctBase k + 0x04)).toNat
def State.acctHi (s : State) (k : Nat) : Nat := (s.rd (acctBase k + 0x08)).toNat
def State.acctLim (s : State) (k : Nat) : Nat := (s.rd (acctBase k + 0x0C)).toNat
def State.acctAux (s : State) (k : Nat) : Nat := (s.rd (acctBase k + 0x10)).toNat

/-- Dwell bins of account `k` (R252); one for a band account. -/
def State.acctBins (s : State) (k : Nat) : Nat :=
  if k < 16 then 1 else cdiv (s.acctHi k - s.acctLo k + 1) (s.acctAux k)

/-- b(t) of a window of `win` seconds (R243). -/
def bucketAt (win t : Nat) : Nat := 59 * t / (win * 32000000)

/-- The first tick of bucket `b` of a window. -/
def bucketStart (win b : Nat) : Nat := cdiv (b * (win * 32000000)) 59

/-- The window sum of an account's bin at tick `t` (R243, R244). -/
def State.windowSum (s : State) (k bin t : Nat) : Nat :=
  let b := bucketAt (s.acctWin k) t
  ((s.dcb.buckets.filter fun e => e.acc == k && e.bin == bin && decide (b ≤ e.idx + 59)).map (·.us)).foldl (· + ·) 0

/-- Reserved airtime of an account's bin (R247). -/
def State.reserved (s : State) (k bin : Nat) : Nat :=
  ((s.dcb.reserved.filter fun e => e.acc == k && e.bin == bin).map (·.us)).foldl (· + ·) 0

/-- Reserved airtime of a whole account. -/
def State.reservedAll (s : State) (k : Nat) : Nat :=
  ((s.dcb.reserved.filter fun e => e.acc == k).map (·.us)).foldl (· + ·) 0

/-- The enabled accounts that cover a transmission at the frequency synthesised for tuning word `w` (R67, R241), 32 MHz x
w / 2^24, with its bin. -/
def State.covering (s : State) (w : Nat) : List (Nat × Nat) :=
  (List.range 32).filterMap fun k =>
    if s.acctOn k && decide (s.acctLo k * 2 ^ 24 ≤ w * 32000000) && decide (w * 32000000 ≤ s.acctHi k * 2 ^ 24) then
      some (k, if k < 16 then 0 else (w * 32000000 - s.acctLo k * 2 ^ 24) / (s.acctAux k * 2 ^ 24))
    else none

/-- The ECC words of account k's bin whose code is not clean, numbered from its first. -/
def State.bucketsMarked (s : State) (k bin : Nat) : List Nat :=
  (List.range 30).filter fun i => s.ecc.any fun e => e.1 == memKey 14 (s.bucketWords k bin / 16 + i)

/-- The eight octets of the bucket at place r of account k's bin: its airtime, and its index without its last part.
DESIGN CHOICE (unsafe), log entry 99. -/
def State.bucketOctets (s : State) (k bin r : Nat) : List Nat :=
  match s.dcb.buckets.find? fun e => e.acc == k && e.bin == bin && e.idx % 60 == r with
  | some e => le 4 e.us ++ le 4 (e.idx / 60)
  | none => List.replicate 8 0

/-- Word i of account k's bin is written with the two buckets that it holds. -/
def State.storeWord (s : State) (k bin i : Nat) : State :=
  s.poke 14 (s.bucketWords k bin + 16 * i) (ofOcts (s.bucketOctets k bin (2 * i) ++ s.bucketOctets k bin (2 * i + 1)))

/-- The words of account k's bin whose buckets differ from those of `old` are written. -/
def State.storeBin (s old : State) (k bin : Nat) : State :=
  ((List.range 30).filter fun i => s.bucketOctets k bin (2 * i) != old.bucketOctets k bin (2 * i)
    || s.bucketOctets k bin (2 * i + 1) != old.bucketOctets k bin (2 * i + 1)).foldl (fun (s : State) i => s.storeWord k bin i) s

/-- The bins of account k that hold a bucket. -/
def State.usedBins (s : State) (k : Nat) : List Nat := ((s.dcb.buckets.filter fun e => e.acc == k).map (·.bin)).eraseDups

/-- The stored buckets of the state's bins `l` that differ from those of `old` are written to DRAM (R253). -/
def State.storeBins (s old : State) (l : List (Nat × Nat)) : State := l.foldl (fun (s : State) x => s.storeBin old x.1 x.2) s

/-- Uncorrectable word i of account k's bin (R454): the two buckets it holds are taken as full, a band bucket at the full cap and a
dwell bucket at DLIM, and rewritten so.
DESIGN CHOICE (unsafe), log entry 99. -/
def bucketsLost (s : State) (k bin i : Nat) : State :=
  let o := s.bucketWords k bin + 16 * i
  let b := bucketAt (s.acctWin k) s.slate
  let us := if k < 16 then s.acctLim k * s.acctWin k else s.acctLim k
  let full (r : Nat) : List Bucket :=
    if b < (b + 60 - r) % 60 then [] else [{ acc := k, bin := bin, idx := b - (b + 60 - r) % 60, us := us }]
  let t := s.uncorrectable 11 14 o
  let t : State := { t with dcb := { t.dcb with
    buckets := (t.dcb.buckets.filter fun e => !(e.acc == k && e.bin == bin && e.idx % 60 / 2 == i)) ++ full (2 * i) ++ full (2 * i + 1) } }
  t.storeWord k bin i

/-- The bucket at place r of account k's bin as its octets `b` say: what a test write to them changes (R461). -/
def bucketOfOctets (k bin r : Nat) (b : List Nat) : List Bucket :=
  if b.all (· == 0) then [] else [{ acc := k, bin := bin, idx := 60 * field b 4 4 + r, us := field b 0 4 }]

/-- The buckets in the word at octet `o` of DRAM as it now says, where it can be read.
DESIGN CHOICE (unsafe), log entry 99. -/
def bucketReload (s : State) (o : Nat) : State :=
  if o < s.bucketWords 0 0 ∨ s.bucketWords 32 0 ≤ o then s
  else
    let w := (o - s.bucketWords 0 0) / 16
    let n := w / 30
    let i := w % 30
    let k := if n < 16 then n else 16 + (n - 16) / 512
    let bin := if n < 16 then 0 else (n - 16) % 512
    match s.peek 14 (o / 16 * 16) 16 with
    | none => s
    | some b =>
      { s with dcb := { s.dcb with
        buckets := (s.dcb.buckets.filter fun e => !(e.acc == k && e.bin == bin && e.idx % 60 / 2 == i))
          ++ bucketOfOctets k bin (2 * i) ((octs b).take 8) ++ bucketOfOctets k bin (2 * i + 1) ((octs b).drop 8) } }

/-- DCB reads word i of account k's bin: a correction is counted (R456), and an uncorrectable word is lost (R454). -/
def bucketRead (s : State) (k bin i : Nat) : State :=
  match (s.eccRead 14 (s.bucketWords k bin / 16 + i)).cls with
  | .uncorrectable => bucketsLost s k bin i
  | .corrected => s.correction 14
  | _ => s

/-- DCB reads the stored buckets of the accounts and bins `l`. -/
def bucketsRead (s : State) (l : List (Nat × Nat)) : State :=
  l.foldl (fun s x => (s.bucketsMarked x.1 x.2).foldl (fun s i => bucketRead s x.1 x.2 i) s) s

/-- What asks for airtime (R245, R250). -/
inductive TxKind where
  | ack
  /-- A reply entry, ORIGIN 1. -/
  | reply
  | beacon
  | entry
  deriving DecidableEq, Repr

/-- The cap that applies to a request at an account (R245, R246). -/
def State.acctCap (s : State) (k : Nat) (kind : TxKind) : Nat :=
  if 16 ≤ k then s.acctLim k
  else if kind = .ack ∨ (kind = .reply ∧ s.rb (acctBase k) 28) then s.acctLim k * s.acctWin k
  else (s.acctLim k - s.acctAux k) * s.acctWin k

/-- The account approves `us` at tick `t` (R245, R246). -/
def State.acctApproves (s : State) (k bin us t : Nat) (kind : TxKind) : Bool :=
  decide (s.windowSum k bin t + s.reserved k bin + us ≤ s.acctCap k kind)

/-- The outcome of the budget check. -/
inductive BudgetResult where
  | approved
  /-- Deferred to dispatch again at tick X (R251). -/
  | deferred (x : Nat)
  | refused
  deriving DecidableEq, Repr

/-- The bucket boundaries of an account after `d` at which a present charge can have dropped out. -/
def State.boundaries (s : State) (k d : Nat) : List Nat :=
  (List.range 61).map fun i => bucketStart (s.acctWin k) (bucketAt (s.acctWin k) d + 1 + i)

/-- X of R251: the earliest boundary of a refusing account at which every refusing account approves.
DESIGN CHOICE (safe), log entry 62. -/
def State.deferTick (s : State) (ref : List (Nat × Nat)) (us d : Nat) (kind : TxKind) : Option Nat :=
  (sortBy (fun a b => decide (a ≤ b)) (ref.flatMap fun (k, _) => s.boundaries k d)).find? fun x =>
    decide (d < x) && ref.all fun (k, b) => s.acctApproves k b us x kind

/-- The budget check of a request of `us` microseconds at tuning word `w` in the present tick (R241-R251); on approval the
airtime is reserved for transmission `id`. -/
def budgetCheck (s : State) (id w us : Nat) (kind : TxKind) : State × BudgetResult :=
  let refuse (s : State) : State × BudgetResult := ((s.inc Reg.DCB_REFCNT).emit [31], .refused)
  let cov := s.covering w
  let s := bucketsRead s cov
  if cov.isEmpty then
    if s.rb Reg.DCB_CTL 0 then refuse (s.wb Reg.DCB_STAT 1 true) else (s, .approved)
  else
    let ref := cov.filter fun (k, b) => !s.acctApproves k b us s.slate kind
    if ref.isEmpty then
      let res := cov.map fun (k, b) => ({ id := id, acc := k, bin := b, us := us, win := s.acctWin k } : Reservation)
      let share := kind = .ack ∧ cov.any fun (k, b) => decide (k < 16) && !s.acctApproves k b us s.slate .entry
      let t := { s with dcb := { s.dcb with reserved := s.dcb.reserved ++ res } }
      (if share then t.inc Reg.DCB_ACKRESCNT else t, .approved)
    else if kind = .entry ∧ ref.all fun (k, _) => s.acctDefer k then
      match s.deferTick ref us s.slate kind with
      | some x =>
        if (ref.all fun (k, _) => decide (x - s.slate ≤ s.acctDefMax k * 32000000)) then
          ((s.inc Reg.DCB_DEFCNT).emit [32], .deferred x)
        else refuse s
      | none => refuse s
    else refuse s

/-- Reservations of transmission `id` are released (R248). -/
def State.unreserve (s : State) (id : Nat) : State :=
  { s with dcb := { s.dcb with reserved := s.dcb.reserved.filter fun r => r.id != id } }

/-- One bucket's charge is added. -/
def addCharge (bs : List Bucket) (k bin idx us : Nat) : List Bucket :=
  match bs with
  | [] => [{ acc := k, bin := bin, idx := idx, us := us }]
  | e :: es =>
    if e.acc = k ∧ e.bin = bin ∧ e.idx = idx then { e with us := e.us + us } :: es else e :: addCharge es k bin idx us

/-- Microseconds m, m + 1, … below `n` of an interval that starts at tick `t0`, charged bucket by bucket (R248). -/
def chargeFrom (bs : List Bucket) (k bin win t0 n : Nat) : Nat → Nat → List Bucket
  | 0, _ => bs
  | fuel + 1, m =>
    if n ≤ m then bs
    else
      let b := bucketAt win (t0 + 32 * m)
      let m' := min n (max (m + 1) (cdiv (bucketStart win (b + 1) - t0) 32))
      chargeFrom (addCharge bs k bin b (m' - m)) k bin win t0 n fuel m'

/-- The radiated interval of transmission `id` ends after `len` ticks from tick `t0` (R248): the reservation is released and
the airtime charged to every account that reserved, by the WIN it had then: an enabled account keeps it, and a transmission that runs on
into HIBERNATE (R46) finds its buckets by it though the registers have reset. -/
def charge (s : State) (id t0 len : Nat) : State :=
  let n := cdiv len 32
  let mine := s.dcb.reserved.filter fun r => r.id == id
  let s := bucketsRead s (mine.map fun r => (r.acc, r.bin))
  let bs := mine.foldl (fun bs r => chargeFrom bs r.acc r.bin r.win t0 n (n + 1) 0) s.dcb.buckets
  let t := s.unreserve id
  -- Buckets that count as 0 (R244) need not be kept.
  let live := bs.filter fun e => !s.acctOn e.acc || decide (bucketAt (s.acctWin e.acc) s.slate ≤ e.idx + 59)
  let u : State := { t with dcb := { t.dcb with buckets := live } }
  u.storeBins s (mine.map fun r => (r.acc, r.bin))

/-- DCB.STAT.CFGREF. -/
def State.cfgRef (s : State) : State := s.wb Reg.DCB_STAT 0 true

/-- An account's buckets and reservations are discarded (R253). -/
def acctDiscard (s : State) (k : Nat) : State :=
  let t : State := { s with dcb := { s.dcb with
    buckets := s.dcb.buckets.filter fun e => e.acc != k
    reserved := s.dcb.reserved.filter fun e => e.acc != k } }
  t.storeBins s ((s.usedBins k).map fun b => (k, b))

/-- An account starts, full or empty (R253); one that was enabled before HIBERNATE or a MAIN reset continues. -/
def acctStart (s : State) (k : Nat) : State :=
  if s.dcb.kept.contains k then { s with dcb := { s.dcb with kept := s.dcb.kept.filter fun j => j != k } }
  else
    let s := acctDiscard s k
    if s.rb (acctBase k) 29 then
      let b := bucketAt (s.acctWin k) s.slate
      let us := if k < 16 then s.acctLim k * s.acctWin k else s.acctLim k
      let full : List Bucket := (List.range (s.acctBins k)).map fun i => { acc := k, bin := i, idx := b, us := us }
      let t : State := { s with dcb := { s.dcb with buckets := s.dcb.buckets ++ full } }
      t.storeBins s ((List.range (s.acctBins k)).map fun i => (k, i))
    else s

/-- An account may be enabled with window `win` (R252). -/
def State.acctValid (s : State) (k win : Nat) : Bool :=
  let lo := s.acctLo k
  let hi := s.acctHi k
  decide (lo ≤ hi) && decide (400000000 ≤ lo) && decide (hi ≤ 960000000) && decide (1 ≤ win) && decide (win ≤ 3600)
    && (if k < 16 then decide (1 ≤ s.acctLim k) && decide (s.acctLim k ≤ 1000000) && decide (s.acctAux k ≤ s.acctLim k)
      else decide (1000 ≤ s.acctAux k) && decide (cdiv (hi - lo + 1) (s.acctAux k) ≤ 512))

/-- A write of BCFGn or DCFGm (R252, R253).
DESIGN CHOICE (safe), log entry 62. -/
def acctCfgWrite (s : State) (k : Nat) (v : Word) : State :=
  let a := acctBase k
  if s.acctOn k then
    let winHeld := fld v 11 0 != s.acctWin k
    let s' := s.plainWrite a (setFld v 11 0 (s.acctWin k))
    let s' := if winHeld then s'.cfgRef else s'
    if bit v 31 then s' else acctDiscard s' k
  else if bit v 31 then
    if s.acctValid k (fld v 11 0) then acctStart (s.plainWrite a v) k else s.cfgRef
  else s.plainWrite a v

/-- A regulatory preset (R254): FLO, FHI, LIM or DLIM, AUX, WIN. -/
def preset (id : Nat) : Option (Nat × Nat × Nat × Nat × Nat) :=
  match id with
  | 1 => some (863000000, 867999999, 1000, 0, 3600)
  | 2 => some (868000000, 868600000, 10000, 0, 3600)
  | 3 => some (868700000, 869200000, 1000, 0, 3600)
  | 4 => some (869400000, 869650000, 100000, 0, 3600)
  | 5 => some (869700000, 870000000, 10000, 0, 3600)
  | 6 => some (433050000, 434790000, 100000, 0, 3600)
  | 8 => some (902000000, 928000000, 400000, 250000, 20)
  | _ => none

/-- A write of an account's PRESET (R254). Without LOAD nothing changes: ID reads back the last preset loaded.
DESIGN CHOICE (safe), log entry 62. -/
def presetWrite (s : State) (k : Nat) (v : Word) : State :=
  if !bit v 31 then s
  else
    let id := fld v 3 0
    match preset id with
    | none => s.cfgRef
    | some (lo, hi, lim, aux, win) =>
      if s.acctOn k ∨ (id = 8) ≠ (16 ≤ k) then s.cfgRef
      else
        let a := acctBase k
        let s := ((s.wr (a + 4) (word lo)).wr (a + 8) (word hi)).wr (a + 12) (word lim)
        let s := (s.wr (a + 16) (word aux)).wr (a + 0x1C) (word id)
        ((s.wf a 11 0 win).wb a 30 false).wb a 29 true

/-- A write to a register of DCB. -/
def dcbBusWrite (s : State) (a : Nat) (v : Word) : State :=
  let acct (k : Nat) (o : Nat) : State :=
    match o with
    | 0x00 => acctCfgWrite s k v
    | 0x1C => presetWrite s k v
    | 0x04 => if s.acctOn k then s.cfgRef else s.plainWrite a v
    | 0x08 => if s.acctOn k then s.cfgRef else s.plainWrite a v
    | 0x10 => if s.acctOn k ∧ 16 ≤ k then s.cfgRef else s.plainWrite a v
    | _ => s.plainWrite a v
  if Reg.DCB_BCFG 0 ≤ a ∧ a < Reg.DCB_BCFG 16 then acct ((a - Reg.DCB_BCFG 0) / 0x20) ((a - Reg.DCB_BCFG 0) % 0x20)
  else if Reg.DCB_DCFG 0 ≤ a ∧ a < Reg.DCB_DCFG 16 then
    acct (16 + (a - Reg.DCB_DCFG 0) / 0x20) ((a - Reg.DCB_DCFG 0) % 0x20)
  else s.plainWrite a v

/-- The largest bin sum of a dwell account and its bin, the lowest among equals. -/
def State.largestBin (s : State) (k : Nat) : Nat × Nat :=
  ((List.range (s.acctBins k)).map fun b => (s.windowSum k b s.slate, b)).foldl
    (fun best x => if best.1 < x.1 then x else best) (0, 0)

/-- What BSEL selects (R244): an account, its bin and the index of a bucket, where that counts. -/
def State.bucketAim (s : State) : Option (Nat × Nat × Nat) :=
  let k := s.rf Reg.DCB_BSEL 27 24 + 16 * s.rf Reg.DCB_BSEL 31 31
  let b := bucketAt (s.acctWin k) s.slate
  let age := s.rf Reg.DCB_BSEL 5 0
  if 60 ≤ age ∨ b < age then none else some (k, if k < 16 then 0 else s.rf Reg.DCB_BSEL 20 12, b - age)

/-- The bucket that BSEL selects, where it counts (R244). -/
def State.bucketSel (s : State) : Option Bucket :=
  s.bucketAim.bind fun x => s.dcb.buckets.find? fun e => e.acc == x.1 && e.bin == x.2.1 && e.idx == x.2.2

/-- The read of the word that holds the bucket which BSEL selects. -/
def bucketShown (s : State) : State :=
  match s.bucketAim with
  | some (k, bin, idx) => if s.memOn 14 then bucketRead s k bin (idx % 60 / 2) else s
  | none => s

/-- The registers of DCB that show the accounts. -/
def State.dcbView (s : State) (a : Nat) : Word :=
  let acct (k : Nat) (o : Nat) : Word :=
    match o with
    | 0x14 => word (if !s.acctOn k then 0 else if k < 16 then s.windowSum k 0 s.slate else (s.largestBin k).1)
    | 0x18 => word (if !s.acctOn k then 0 else if k < 16 then s.reservedAll k else (s.largestBin k).2)
    | _ => s.rd a
  if a = Reg.DCB_BVAL then word ((s.bucketSel.map (·.us)).getD 0)
  else if a = Reg.DCB_BIDX then word ((s.bucketSel.map (·.idx)).getD 0)
  else if Reg.DCB_BCFG 0 ≤ a ∧ a < Reg.DCB_BCFG 16 then acct ((a - Reg.DCB_BCFG 0) / 0x20) ((a - Reg.DCB_BCFG 0) % 0x20)
  else if Reg.DCB_DCFG 0 ≤ a ∧ a < Reg.DCB_DCFG 16 then
    acct (16 + (a - Reg.DCB_DCFG 0) / 0x20) ((a - Reg.DCB_DCFG 0) % 0x20)
  else s.rd a

/-- BUDGET_ACCOUNT_ENABLE (R252): a write of BCFGn or DCFGm with EN = 1. -/
def execBudgetAccountEnable (dwell : Bool) (n : Nat) (val : Word) (s : State) : Out :=
  ok (n < 16 ∧ bit val 31) (s.onMain (acctCfgWrite s (if dwell then 16 + n else n) val))

/-- PRESET_LOAD (R254): a write of PRESET with LOAD = 1. -/
def execPresetLoad (dwell : Bool) (n : Nat) (val : Word) (s : State) : Out :=
  ok (n < 16 ∧ bit val 31) (s.onMain (presetWrite s (if dwell then 16 + n else n) val))

end Sys2Proof.Machine
end

