-- ==== Sys2Proof/Machine/Crc.lean ====
section
/-! DEFINITION. The CRCs of R131 and R132, over octets as numbers below 256. -/

namespace Sys2Proof.Machine

/-- `k` steps of an unreflected CRC register of `w` bits with polynomial `p`. -/
def crcSteps (w p : Nat) : Nat → Nat → Nat
  | 0, r => r
  | k + 1, r => crcSteps w p k (if r.testBit (w - 1) then ((2 * r) % 2 ^ w) ^^^ p else (2 * r) % 2 ^ w)

/-- An unreflected CRC of `w` bits. -/
def crcMsb (w p init : Nat) (bs : List Nat) : Nat :=
  bs.foldl (fun r b => crcSteps w p 8 (r ^^^ (b * 2 ^ (w - 8)))) init

/-- The CRC-8 of R131. -/
def crc8 (bs : List Nat) : Nat := crcMsb 8 0x07 0 bs

/-- The CRC-16 of R132. -/
def crc16 (bs : List Nat) : Nat := crcMsb 16 0x1021 0xFFFF bs

/-- `k` steps of the reflected CRC-32 register. -/
def crc32Steps : Nat → Nat → Nat
  | 0, r => r
  | k + 1, r => crc32Steps k (if r.testBit 0 then (r / 2) ^^^ 0xEDB88320 else r / 2)

/-- The CRC-32 of R132. -/
def crc32 (bs : List Nat) : Nat :=
  (bs.foldl (fun r b => crc32Steps 8 (r ^^^ b)) 0xFFFFFFFF) ^^^ 0xFFFFFFFF

end Sys2Proof.Machine
end

