-- ==== Sys2Proof/Machine/Modem.lean ====
section
/-! DEFINITION. Symbols, frame coding and decoding (spec/05_demodulation_coding.md, R126-R141, R146, R151, R152, R573,
R574), over bits as Booleans and octets as numbers. -/

namespace Sys2Proof.Machine

/-! ### Framing and coding (R129-R136) -/

/-- The low `k` bits of `n`, most significant first (R129). -/
def bitsMsb (k n : Nat) : List Bool := (List.range k).map fun i => n.testBit (k - 1 - i)

/-- The number that bits stand for, most significant first. -/
def natMsb (bs : List Bool) : Nat := bs.foldl (fun a b => 2 * a + b2n b) 0

/-- The PHR word (R130). -/
def phrWord (len : Nat) (fec whiten crc32 : Bool) : Nat := len % 512 * 128 + b2n fec * 64 + b2n whiten * 32 + b2n crc32 * 16

/-- The PHR and its CRC-8, as the 24 bits sent first (R129, R131). -/
def phrBits (phr : Nat) : List Bool := bitsMsb 16 phr ++ bitsMsb 8 (crc8 [phr / 256, phr % 256])

/-- The payload CRC octets in the order of R132. -/
def payloadCrc (wide : Bool) (psdu : List Nat) : List Nat :=
  if wide then (List.range 4).map fun i => crc32 psdu / 256 ^ i % 256
  else [crc16 psdu / 256, crc16 psdu % 256]

/-- The whitening sequence from a register holding a(n)..a(n+8), oldest first (R133). -/
def pn9 : Nat → List Bool → List Bool
  | 0, _ => []
  | k + 1, r => r.headD true :: pn9 k (r.tail ++ [Bool.xor (r.getD 0 true) (r.getD 5 true)])

/-- Bits whitened or de-whitened from the first PSDU bit on (R133). -/
def whitened (bs : List Bool) : List Bool := List.zipWith Bool.xor bs (pn9 bs.length (List.replicate 9 true))

/-- The output pair for input `u` in state `st`, whose bit j-1 is u(n-j) (R134, R574): the 171 output, then the 133
output. -/
def convOut (u : Bool) (st : Nat) : Bool × Bool :=
  let a := Bool.xor u (Bool.xor (st.testBit 0) (Bool.xor (st.testBit 1) (Bool.xor (st.testBit 2) (st.testBit 5))))
  let b := Bool.xor u (Bool.xor (st.testBit 1) (Bool.xor (st.testBit 2) (Bool.xor (st.testBit 4) (st.testBit 5))))
  (a, b)

/-- The state after input `u` (R574). -/
def convNext (u : Bool) (st : Nat) : Nat := (2 * st + b2n u) % 64

/-- The convolutional encoder (R134). -/
def convEncode : Nat → List Bool → List Bool
  | _, [] => []
  | st, u :: us => (convOut u st).1 :: (convOut u st).2 :: convEncode (convNext u st) us

/-- The place in its block at which coded bit `i` is sent (R135). -/
def interPos (i : Nat) : Nat := i - i % 64 + 4 * (i % 64 % 16) + i % 64 / 16

/-- The coded bit sent at place `p`: the inverse of `interPos`. -/
def interSrc (p : Nat) : Nat := p - p % 64 + 16 * (p % 64 % 4) + p % 64 / 4

/-- Coded bits in the order of the air (R135). -/
def interleave (bs : List Bool) : List Bool := (List.range bs.length).map fun p => bs.getD (interSrc p) false

/-- CRC length in octets. -/
def crcLen (wide : Bool) : Nat := if wide then 4 else 2

/-- B: the bits that follow the sync word (R136). -/
def frameB (len : Nat) (fec wide : Bool) : Nat :=
  if fec then 24 + 64 * cdiv (16 * (len + crcLen wide) + 12) 64 else 24 + 8 * (len + crcLen wide)

/-- The bits sent after the sync word for a PSDU (R128-R137). -/
def frameBits (psdu : List Nat) (fec whiten wide : Bool) : List Bool :=
  let data := (psdu ++ payloadCrc wide psdu).flatMap (bitsMsb 8)
  let data := if whiten then whitened data else data
  let body :=
    if fec then
      let coded := convEncode 0 (data ++ List.replicate 6 false)
      interleave (coded ++ List.replicate (frameB psdu.length fec wide - 24 - coded.length) false)
    else data
  phrBits (phrWord psdu.length fec whiten wide) ++ body

/-! ### Soft decisions (R573) -/

/-- The soft values that one symbol's estimate gives its coded bits. -/
def softBits (fsk4 : Bool) (dev : Nat) (f : Int) : List Nat :=
  let q (n d : Int) : Nat := (clampI 0 15 (Int.fdiv n d)).toNat
  if fsk4 then [q (16 * dev - 24 * f) (2 * dev), q (12 * f.natAbs) dev] else [q (8 * dev + 8 * f) dev]

/-- The soft values of a run of symbols. -/
def softAll (fsk4 : Bool) (dev : Nat) (est : List Int) : List Nat := est.flatMap (softBits fsk4 dev)

/-- The hard decision of a soft value. -/
def hardBit (q : Nat) : Bool := decide (8 ≤ q)

/-- The LQI of R152. -/
def lqi (fsk4 : Bool) (dev : Nat) (est : List Int) : Nat :=
  let m (f : Int) : Nat :=
    if fsk4 then min dev (min (3 * f.natAbs) ((3 * (f.natAbs : Int) - 2 * dev).natAbs)) else min dev f.natAbs
  let sum := (est.map m).foldl (· + ·) 0
  let d := est.length * dev
  if d = 0 then 0 else (510 * sum + d) / (2 * d)

/-! ### The Viterbi decoder (R574) -/

/-- What the decoder holds after an input bit: its path metrics, and, newest first, for every input the survivors (bit s
is the dropped bit of the path into state s) and the best state. -/
structure Trellis where
  metric : List (Option Nat) := some 0 :: List.replicate 63 none
  steps : List (Nat × Nat) := []

/-- Branch cost of a coded bit whose expected value is `e`. -/
def bitCost (e : Bool) (q : Nat) : Nat := if e then 15 - q else q

/-- Metric of the path into state `s` from the predecessor that held dropped bit `d`. -/
def pathInto (metric : List (Option Nat)) (q0 q1 s : Nat) (d : Bool) : Option Nat :=
  let p := s / 2 + 32 * b2n d
  let o := convOut (s.testBit 0) p
  (metric.getD p none).map fun m => m + bitCost o.1 q0 + bitCost o.2 q1

/-- The survivor into state `s` (R574): the lower metric, and the dropped bit 0 on equal metrics. -/
def survivor (metric : List (Option Nat)) (q0 q1 s : Nat) : Option Nat × Bool :=
  match pathInto metric q0 q1 s false, pathInto metric q0 q1 s true with
  | none, b => (b, b.isSome)
  | a, none => (a, false)
  | some a, some b => if b < a then (some b, true) else (some a, false)

/-- The state with the lowest metric, the lower number on a tie.
DEDUCED (unsafe), log entry 47. -/
def bestState (metric : List (Option Nat)) : Nat :=
  (metric.zipIdx.foldl (fun (best : Option (Nat × Nat)) (m, i) =>
    match best, m with
    | none, some m => some (m, i)
    | some b, some m => if m < b.1 then some (m, i) else some b
    | b, none => b) none).elim 0 Prod.snd

/-- One input bit's pair of soft values. -/
def Trellis.step (t : Trellis) (q0 q1 : Nat) : Trellis :=
  let sv := (List.range 64).map (survivor t.metric q0 q1)
  let metric := sv.map Prod.fst
  let mask := sv.zipIdx.foldl (fun a ((_, d), i) => a + b2n d * 2 ^ i) 0
  { metric := metric, steps := (mask, bestState metric) :: t.steps }

/-- The decoder run over the coded soft values. -/
def Trellis.run : Trellis → List Nat → Trellis
  | t, q0 :: q1 :: qs => Trellis.run (t.step q0 q1) qs
  | t, _ => t

/-- The state before the newest of `steps`, traced back from state `s` after it, and so on for `n` steps. -/
def traceState : Nat → List (Nat × Nat) → Nat → Nat
  | 0, _, s => s
  | n + 1, (mask, _) :: rest, s => traceState n rest (s / 2 + 32 * b2n (mask.testBit s))
  | _, [], s => s

/-- The bits of all the steps (newest first) traced back from state `s`, newest first. -/
def traceBits : List (Nat × Nat) → Nat → List Bool
  | [], _ => []
  | (mask, _) :: rest, s => s.testBit 0 :: traceBits rest (s / 2 + 32 * b2n (mask.testBit s))

/-- The bits decided 96 input bits later (R574), newest first: `steps` newest first.
DEDUCED (unsafe), log entry 47. -/
def decidedBits : List (Nat × Nat) → List Bool
  | [] => []
  | (mask, best) :: rest =>
    if 96 ≤ rest.length then (traceState 96 ((mask, best) :: rest) best).testBit 0 :: decidedBits rest else []

/-- The decoded input bits (R574): `last` is the state from which the last bits are traced back.
DEDUCED (unsafe), log entry 47. -/
def viterbi (qs : List Nat) (terminated : Bool) : List Bool :=
  let t := Trellis.run {} qs
  let last := if terminated then 0 else (t.steps.head?.map Prod.snd).getD 0
  let tail := (traceBits (t.steps.take 96) last).reverse
  (decidedBits t.steps).reverse ++ tail

/-! ### Decoding a take (R139, R146, R151) -/

/-- Octets of whole groups of eight bits. -/
def octetsOf (bs : List Bool) : List Nat := ((chunks8 bs.length bs).filter fun c => c.length == 8).map natMsb
where
  /-- Groups of eight, with fuel. -/
  chunks8 : Nat → List Bool → List (List Bool)
    | 0, _ => []
    | _, [] => []
    | f + 1, l => l.take 8 :: chunks8 f (l.drop 8)

/-- What a decode gives: PSDU octets, the received CRC octets, and the corrected bit count. -/
structure Decoded where
  psdu : List Nat
  crc : List Nat
  corrected : Nat
  deriving DecidableEq, Repr

/-- The decoding of the soft values received after the PHR CRC-8, for PSDU length `len`; of a truncated take, the values
received by its end-of-frame stamp.
DEDUCED (unsafe), log entry 47. -/
def decodeBody (qs : List Nat) (len : Nat) (fec whiten wide : Bool) : Decoded :=
  let n := 8 * (len + crcLen wide)
  let (bits, corr) :=
    if fec then
      let have_ := min (2 * (n + 6)) (64 * (qs.length / 64))
      let coded := (List.range have_).map fun i => qs.getD (interPos i) 0
      let u := viterbi coded (have_ == 2 * (n + 6))
      let diff := (List.zipWith (fun q b => hardBit q != b) coded (convEncode 0 u)).count true
      (u.take n, min diff 65535)
    else ((qs.take n).map hardBit, 0)
  let o := octetsOf (if whiten then whitened bits else bits)
  { psdu := o.take len, crc := (o.drop len).take (crcLen wide), corrected := corr }

end Sys2Proof.Machine
end

