-- ==== Sys2Proof/Machine/Plan.lean ====
section
/-! DEFINITION. Channel plans, rate profiles and airtimes as read from the registers of CHZ (spec/04_channelizer_detection.md
R95-R100, spec/03_rf_chains.md R67, R68). The offset `o` is 0 for the staged and 0x4000 for the active copy (R102). -/

namespace Sys2Proof.Machine

/-- Offset of the active copies (R102). -/
def active : Nat := 0x4000

/-- C in Hz. -/
def State.planC (s : State) (o n : Nat) : Nat := (s.rd (Reg.CHZ_PCENTRE n + o)).toNat

/-- S in Hz. -/
def State.planS (s : State) (o n : Nat) : Nat := 1000000 * 2 ^ s.rf (Reg.CHZ_PCFG n + o) 5 4

/-- The raster in Hz by code. -/
def rasterHz (c : Nat) : Nat :=
  match c with
  | 0 => 25000
  | 1 => 62500
  | 2 => 125000
  | 3 => 250000
  | _ => 500000

/-- The raster of a plan in Hz. -/
def State.planD (s : State) (o n : Nat) : Nat := rasterHz (s.rf (Reg.CHZ_PCFG n + o) 2 0)

/-- N = min(64, S / raster) (R95). -/
def planCount (sp d : Nat) : Nat := min 64 (sp / d)

/-- N of a plan. -/
def State.planN (s : State) (o n : Nat) : Nat := planCount (s.planS o n) (s.planD o n)

/-- The enable mask. -/
def State.planMask (s : State) (o n : Nat) : Nat :=
  (s.rd (Reg.CHZ_PMASKLO n + o)).toNat + 2 ^ 32 * (s.rd (Reg.CHZ_PMASKHI n + o)).toNat

/-- f_k in Hz (R95). -/
def State.chanHz (s : State) (o n k : Nat) : Nat :=
  s.planC o n + (2 * k + 1) * (s.planD o n / 2) - s.planN o n * (s.planD o n / 2)

/-- The tuning word of a frequency: rounded to the nearest step, halves up (R67, R68).
DEDUCED (safe), log entry 42. -/
def tuneWord (hz : Nat) : Nat := (2 * hz * 2 ^ 24 + 32000000) / (2 * 32000000)

/-- The synthesizer steps of a frequency offset of `num / den` Hz, by the same conversion (R68).
DEDUCED (safe), log entry 42. -/
def offsetSteps (num : Int) (den : Nat) : Int := Int.fdiv (2 * num * 2 ^ 24 + 32000000 * den) (2 * 32000000 * den)

/-! ### Profiles (R98) -/

/-- The eight words of profile p. -/
def State.profWords (s : State) (o p : Nat) : List Word := (List.range 8).map fun i => s.rd (Reg.CHZ_PROF_CFG p + o + 4 * i)

def pwWord (p : List Word) (i : Nat) : Word := p.getD i 0
def pwFsk4 (p : List Word) : Bool := bit (pwWord p 0) 0
def pwBt (p : List Word) : Bool := bit (pwWord p 0) 1
def pwFec (p : List Word) : Nat := fld (pwWord p 0) 3 2
def pwWhiten (p : List Word) : Nat := fld (pwWord p 0) 5 4
def pwCrc (p : List Word) : Nat := fld (pwWord p 0) 7 6
def pwValid (p : List Word) : Bool := bit (pwWord p 0) 8
def pwMax (p : List Word) : Nat := fld (pwWord p 0) 24 16
def pwRate (p : List Word) : Nat := fld (pwWord p 1) 17 0
def pwDev (p : List Word) : Nat := fld (pwWord p 2) 17 0
def pwPattern (p : List Word) : Nat := fld (pwWord p 3) 7 0
def pwPmin (p : List Word) : Nat := fld (pwWord p 3) 19 8
def pwSyncErr (p : List Word) : Nat := fld (pwWord p 3) 27 24
def pwSync0 (p : List Word) : Nat := (pwWord p 4).toNat
def pwSync1 (p : List Word) : Nat := (pwWord p 5).toNat
def pwLen0 (p : List Word) : Nat := fld (pwWord p 6) 5 0
def pwLen1 (p : List Word) : Nat := fld (pwWord p 6) 13 8
def pwTh (p : List Word) : Nat := fld (pwWord p 7) 6 0

/-- A profile's fields are within R98. -/
def pwOk (p : List Word) : Bool :=
  let q := pwFsk4 p
  let len (l : Nat) : Bool := decide (16 ≤ l) && decide (l ≤ 32) && (!q || l % 2 == 0)
  decide ((if q then 600 else 1200) ≤ pwRate p) && decide (pwRate p ≤ 200000)
    && decide (300 ≤ pwDev p) && decide (pwDev p ≤ 150000)
    && decide (16 ≤ pwPmin p) && len (pwLen0 p) && (pwLen1 p == 0 || len (pwLen1 p))
    && decide (pwSyncErr p ≤ 4) && decide (pwTh p ≤ 60)
    && decide (pwFec p ≤ 2) && decide (pwWhiten p ≤ 2) && decide (pwCrc p ≤ 2) && decide (1 ≤ pwMax p)

/-- The occupied width fits a raster (R99). -/
def pwFits (p : List Word) (d : Nat) : Bool := decide (2 * pwDev p + pwRate p ≤ d)

/-- Two profiles are alike (R100). -/
def pwAlike (p q : List Word) : Bool :=
  let low (n l : Nat) : Nat := n % 2 ^ l
  pwFsk4 p == pwFsk4 q && pwRate p == pwRate q && pwDev p == pwDev q && pwBt p == pwBt q
    && pwLen0 p == pwLen0 q && low (pwSync0 p) (pwLen0 p) == low (pwSync0 q) (pwLen0 p)
    && pwLen1 p == pwLen1 q && low (pwSync1 p) (pwLen1 p) == low (pwSync1 q) (pwLen1 p)

/-- Bits per symbol (R126). -/
def pwBits (p : List Word) : Nat := if pwFsk4 p then 2 else 1

/-- Symbols of the sync word sent, SYNC0. -/
def pwSyncSyms (p : List Word) : Nat := pwLen0 p / pwBits p

/-- Transmitted FEC, WHITEN and CRC32 (R137): the value 2 is sent as off and CRC-16. -/
def pwTxFec (p : List Word) : Bool := pwFec p == 1
def pwTxWhiten (p : List Word) : Bool := pwWhiten p == 1
def pwTxWide (p : List Word) : Bool := pwCrc p == 1

/-- Symbols after the sync word of a transmitted PSDU of `len` octets (R136). -/
def pwFrameSyms (p : List Word) (len : Nat) : Nat := frameB len (pwTxFec p) (pwTxWide p) / pwBits p

/-- The thirds of DEV at which a symbol's bits are sent (R126): one bit in 2-GFSK, a pair in 4-GFSK. -/
def symThirds : List Bool → Int
  | [b] => if b then 3 else -3
  | b :: c :: _ => if b then (if c then -3 else -1) else (if c then 3 else 1)
  | [] => 0

/-- Bits taken `k` by `k`, with fuel. -/
def bitGroups (k : Nat) : Nat → List Bool → List (List Bool)
  | 0, _ => []
  | _, [] => []
  | f + 1, l => l.take k :: bitGroups k f (l.drop k)

/-- The frequency offsets of a run of bits in thirds of DEV, symbol by symbol (R126). -/
def symbols (pw : List Word) (bits : List Bool) : List Int := (bitGroups (pwBits pw) bits.length bits).map symThirds

/-- The Gaussian filter's weights (R127), in 1/65,536, for the symbol before, the present one and the next, at the middle of each
eighth of a symbol period: the unit-area Gaussian whose 3 dB bandwidth is BT over the symbol period, integrated over each symbol.
DESIGN CHOICE (unsafe), log entry 112. -/
def gaussTaps (wide : Bool) : List (Int × Int × Int) :=
  let half : List (Int × Int × Int) :=
    if wide then [(20878, 44658, 0), (5146, 60390, 0), (601, 64935, 0), (31, 65504, 1)]
    else [(26659, 38864, 13), (15704, 49761, 71), (7809, 57416, 311), (3236, 61193, 1107)]
  half ++ half.reverse.map fun w => (w.2.2, w.2.1, w.1)

/-- The shaped offsets of symbols after a symbol `before`, in synthesizer steps (R68, R127), eight to a symbol period; there is no
symbol after the last. -/
def shape (wide : Bool) (dev : Nat) : Int → List Int → List Int
  | _, [] => []
  | before, x :: rest =>
    ((gaussTaps wide).map fun w => offsetSteps (dev * (before * w.1 + x * w.2.1 + rest.headD 0 * w.2.2)) (3 * 65536))
      ++ shape wide dev x rest

/-- The modulator's synthesizer steps from the channel centre for symbols, eight to a symbol period (R68, R126, R127).
DESIGN CHOICE (unsafe), log entry 112. -/
def modulate (pw : List Word) (syms : List Int) : List Int := shape (pwBt pw) (pwDev pw) 0 syms

/-- The bits of one copy of a frame as it goes on the air (R128, R137): PATTERN for `pre` symbols, SYNC0, and the frame of the
PSDU with the profile's FEC, WHITEN and CRC. -/
def airBits (pw : List Word) (pre : Nat) (psdu : List Nat) : List Bool :=
  (List.range (pre * pwBits pw)).map (fun i => (bitsMsb 8 (pwPattern pw)).getD (i % 8) false)
    ++ bitsMsb (pwLen0 pw) (pwSync0 pw) ++ frameBits psdu (pwTxFec pw) (pwTxWhiten pw) (pwTxWide pw)

/-- The symbols of one copy of a frame. -/
def airSymbols (pw : List Word) (pre : Nat) (psdu : List Nat) : List Int := symbols pw (airBits pw pre psdu)

/-- Ticks that symbols last, rounded up to a tick (R127, R224, R227). -/
def symTicks (syms rate : Nat) : Nat := cdiv (syms * 32000000) rate

/-- A profile is assigned and enabled in channel k of chain n: its profile index, by slot. -/
def State.slotProf (s : State) (o n k i : Nat) : Option Nat :=
  let w := s.rd (Reg.CHZ_ASSIGN (64 * n + k) + o)
  if bit w (16 + i) then some (fld w (4 * i + 3) (4 * i)) else none

/-- CHANNEL lies below N of the active plan, and PROFILE is valid and within the raster (R208 check 4, R232 check 2). -/
def State.txPlanOk (s : State) (n k p : Nat) : Bool :=
  let w := s.profWords active p
  decide (k < s.planN active n) && pwValid w && pwOk w && pwFits w (s.planD active n)

end Sys2Proof.Machine
end

