-- ==== Sys2Proof/Machine/Supervise.lean ====
section
/-! DEFINITION. The continuity monitor (spec/22_supervision_ageing.md): margin windows, the margin plan and its PMBus
transactions, MARGIN_LOST, and the TCXO's hourly error. -/

namespace Sys2Proof.Machine

/-- A requested run (R531): trigger bits as in SUP.PLANCAUSE; PLANQ shows a run queued behind one in progress. -/
def State.requestPlan (s : State) (trigger : Nat) : State :=
  let s := { s with sup := { s.sup with req := s.sup.req ||| trigger } }
  s.wb Reg.SUP_STAT 2 s.sup.run.isSome

/-- SUP raises MARGIN_LOST from the source (R535). -/
def State.raiseMargin (s : State) (src : Nat) : State :=
  if !s.aonOn then s
  else if s.rb Reg.SUP_STAT 0 then s.wf Reg.SUP_MLSRC 11 8 src
  else
    let s := (s.wb Reg.SUP_STAT 0 true).wr64 (Reg.SUP_MLSTART 0) s.slateNow
    let s := (s.inc Reg.SUP_MLCNT).wr Reg.SUP_MLSRC (word (src * 256 + src))
    (s.emit [2]).requestPlan 1

/-- SUP.MARGIN.M, signed, in per mille.
DESIGN CHOICE (unsafe), log entry 17. -/
def State.margin (s : State) : Int := sext 16 (s.rf Reg.SUP_MARGIN 15 0)

/-- The sentinels that are powered (R530, R532). -/
def State.sentinels (s : State) : Nat := if s.mainOn then 16 else 4

/-- The margin of sentinel n at a count (R530).
DESIGN CHOICE (unsafe), log entry 17. -/
def State.marginOf (s : State) (n count : Nat) : Int :=
  let d := s.rf (Reg.SUP_SDC n) 23 0
  1000 * ((count : Int) - d) / d

/-- The slowest of the listed margins with its sentinel, the lowest number among equals. -/
def slowest : List (Nat × Int) → Nat × Int
  | [] => (0, 0)
  | [x] => x
  | x :: xs => let y := slowest xs; if x.2 ≤ y.2 then x else y

/-- The ageing index and its sentinel (R537). -/
def State.ageIndex (s : State) : Nat × Nat :=
  ((List.range s.sentinels).map fun n =>
    (n, Config.slowdown n (s.rf (Reg.SUP_SENT n) 23 0) (s.rf Reg.SUP_VOUT 15 0) (s.rf Reg.SUP_TEMP 15 0))).foldl
    (fun best x => if best.2 < x.2 then x else best) (0, 0)

/-- The state with the run in progress replaced. -/
def State.withRun (s : State) (r : PlanRun) : State := { s with sup := { s.sup with run := some r } }

/-- The end of a run at voltage `v`; `fail`: on a PMBus failure (R532-R535).
DESIGN CHOICE (unsafe), log entry 39. -/
def planEnd (s : State) (r : PlanRun) (v : Nat) (fail : Bool) : State :=
  let m := r.m
  let s := { s with sup := { s.sup with run := none, started := true, planTick := r.at_ } }
  let s := (s.wb Reg.SUP_STAT 3 false).wb Reg.SUP_STAT 2 false
  let s := s.wf Reg.SUP_VOUT 15 0 v
  let s := s.wf Reg.SUP_TEMP 31 16 r.temp
  let s := (s.wr64 (Reg.SUP_PLANLAST 0) (s.shownTick r.at_)).wr Reg.SUP_PLANCAUSE (word r.cause)
  let a := s.ageIndex
  let s := s.wr Reg.SUP_AGE (word (a.1 * 2 ^ 24 + a.2 % 65536))
  let s := if fail then s.wb Reg.SUP_STAT 4 true else s
  let s := if 880 < v then
      let t := s.wb Reg.SUP_STAT 1 true
      if s.rb Reg.SUP_STAT 1 then t else t.emit [3]
    else s.wb Reg.SUP_STAT 1 false
  if m < 120 then if fail then s.raiseMargin 5 else if v = 900 then s.raiseMargin 4 else s
  else if s.rb Reg.SUP_STAT 0 && !fail then (s.wb Reg.SUP_STAT 0 false).wr64 (Reg.SUP_MLEND 0) s.slateNow
  else s

/-- The run with the window that ended last as its own: its margin, its end tick and its temperature. -/
def PlanRun.window (r : PlanRun) (s : State) : PlanRun :=
  { r with m := s.margin, at_ := s.sup.winTick.getD 0, temp := s.rf Reg.SUP_TEMP 15 0 }

/-- The loop of R532 at the margin of the run's last window: a rising step, a falling step, or the end; never less than 550 mV (R536).
DESIGN CHOICE (unsafe), log entry 39. -/
def planDecide (s : State) (r : PlanRun) : State :=
  let m := r.m
  let step := s.rf Reg.SUP_PLANLIM 15 8
  if m < s.rf Reg.SUP_PLANLIM 31 24 ∧ r.v < 900 then
    s.withRun { r with v := max 550 (min (r.v + step) 900), raised := true, phase := .write, retry := false }
  else if (s.rf Reg.SUP_PLANLIM 23 16 : Int) ≤ m ∧ 550 < r.v ∧ !r.raised then
    s.withRun { r with v := max (r.v - step) 550, phase := .write, retry := false }
  else planEnd s r r.v false

/-- A requested run starts, at the end of a window (R531, R532): from the voltage last commanded, or from READ_VOUT at the START run and
where no voltage has been commanded since.
DESIGN CHOICE (unsafe), log entry 39. -/
def planStart (s : State) : State :=
  if s.sup.run.isSome ∨ s.sup.req = 0 ∨ s.sup.winTick ≠ some s.slate then s
  else
    let v := s.rf Reg.SUP_VOUT 15 0
    let base := !s.sup.started || v == 0
    let r : PlanRun := { cause := s.sup.req, raised := false, v := v, conf := v, phase := .read s.slate, retry := false, base := base }
    let r := r.window s
    let s := { s with sup := { s.sup with req := 0, run := some r } }
    let s := (s.wb Reg.SUP_STAT 3 true).wb Reg.SUP_STAT 2 false
    if base then s else planDecide s r

/-- The run waits for a window, and the first whole one that starts after READ_VOUT confirmed the voltage has ended (R532): the run with
that window.
DESIGN CHOICE (unsafe), log entry 39. -/
def State.planMeasured (s : State) : Option PlanRun :=
  match s.sup.run, s.sup.winTick with
  | some r, some w =>
    match r.phase with
    | .window since => if (since / 32000 + 2) * 32000 ≤ w then some (r.window s) else none
    | _ => none
  | _, _ => none

/-- A LINEAR16 reading in mV, to the nearest, under SUP.PMB.EXP (R533). -/
def State.linear16 (s : State) (raw : Nat) : Nat :=
  let e := sext 5 (s.rf Reg.SUP_PMB 12 8)
  if 0 ≤ e then 1000 * raw * 2 ^ e.toNat else (1000 * raw + 2 ^ (-e).toNat / 2) / 2 ^ (-e).toNat

/-- A failed transaction of a run (R533): one retry; on the second failure PMBFAIL, a read of STATUS_WORD, and the run's
end with PLANFAIL at the last confirmed value.
DESIGN CHOICE (unsafe), log entry 39. -/
def planFail (s : State) (r : PlanRun) : State :=
  if r.retry then
    let s := { s with sup := { s.sup with status := true, statusRetry := false } }
    planEnd (s.wb Reg.SUP_STAT 5 true) r r.conf true
  else s.withRun { r with retry := true }

/-- What a transaction gives (R533): a wrong PEC is none with SUP.PMB.PEC = 0. -/
def State.pmbusSeen (s : State) (result : PmbusResult) : PmbusResult :=
  match result with
  | .badPec v => if s.rb Reg.SUP_PMB 17 then result else .ack v
  | _ => result

/-- The violation that a failed PMBus transaction is: PEC out of range, or SCL held low (R542). -/
def pmbusViolation (s : State) (result : PmbusResult) : State :=
  match result with
  | .ack _ => s
  | .nack => s
  | .badPec _ => s.violation 2
  | .sclLow => s.violation 3

/-- The end of a read of STATUS_WORD (R533): a failed one is retried once, and the second failure sets PMBFAIL.
DESIGN CHOICE (unsafe), log entry 39. -/
def statusEnd (s : State) (result : PmbusResult) : State :=
  if !s.sup.status then s
  else
    match result with
    | .ack v => { s with sup := { s.sup with status := false, statusRetry := false } }.wr Reg.SUP_PMBSTAT (word (v % 65536))
    | _ =>
      let t := pmbusViolation s result
      if s.sup.statusRetry then
        { t with sup := { t.sup with status := false, statusRetry := false } }.wb Reg.SUP_STAT 5 true
      else { t with sup := { t.sup with statusRetry := true } }

/-- The end of a write of run r (R532, R533). -/
def writeEnd (s : State) (r : PlanRun) (result : PmbusResult) : State :=
  match r.phase, result with
  | .write, .ack _ => s.withRun { r with phase := .read (s.slate + 256 * s.rf Reg.SUP_PLANLIM 7 0), retry := false }
  | .write, _ => planFail (pmbusViolation s result) r
  | _, _ => s

/-- The end of a READ_VOUT of run r (R532, R533): the first of a run that has no voltage yet gives the voltage that it starts from; every
other one comes SETTLE after a write, and confirms the voltage or fails.
DESIGN CHOICE (unsafe), log entry 39. -/
def readEnd (s : State) (r : PlanRun) (since : Nat) (result : PmbusResult) : State :=
  if s.slate < since then s
  else
    match result with
    | .ack raw =>
      let mv := s.linear16 raw
      let s := s.wf Reg.SUP_VOUT 31 16 mv
      if r.base then planDecide s { r with v := mv, conf := mv, base := false, retry := false }
      else if mv ≤ r.v + 15 ∧ r.v ≤ mv + 15 then s.withRun { r with conf := r.v, phase := .window s.slate, retry := false }
      else planFail (s.violation 2) r
    | _ => planFail (pmbusViolation s result) r

/-- The end of a transaction of the run in progress, or of a read of STATUS_WORD (R532, R533).
DESIGN CHOICE (unsafe), log entry 39. DESIGN CHOICE (unsafe), log entry 88. -/
def pmbusEnd (s : State) (cmd : PmbusCmd) (result : PmbusResult) : State :=
  let result := s.pmbusSeen result
  match cmd, s.sup.run with
  | .statusWord, _ => statusEnd s result
  | .voutCommand, some r => writeEnd s r result
  | .readVout, some r => match r.phase with | .read since => readEnd s r since result | _ => s
  | _, none => s

/-- The end of a margin window (R530, R531, R535) with the ring counts of sentinels 0, 1, … and the junction temperature:
SENTn of each powered sentinel, MARGIN, then the triggers, then the guard. -/
def sentinelWindow (s : State) (counts : List Nat) (temp : Nat) : State :=
  let ns := List.range s.sentinels
  let s : State := ns.foldl (fun (s : State) n => s.wf (Reg.SUP_SENT n) 23 0 (counts.getD n 0)) s
  let m := slowest (ns.map fun n => (n, s.marginOf n (s.rf (Reg.SUP_SENT n) 23 0)))
  let s := s.wr Reg.SUP_MARGIN (word (m.1 * 2 ^ 24 + toU 16 (clampI (-32768) 32767 m.2)))
  let s := s.wf Reg.SUP_TEMP 15 0 temp
  let s := { s with sup := { s.sup with winTick := some s.slate } }
  let dt := (sext 16 (s.rf Reg.SUP_TEMP 15 0) - sext 16 (s.rf Reg.SUP_TEMP 31 16)).natAbs
  let low : Bool := decide (s.margin < (120 : Int))
  let t : Nat := b2n low + 2 * b2n (decide (16 * s.rf Reg.SUP_PLANCFG 23 16 < dt))
    + 4 * b2n (decide (s.sup.planTick + s.rf Reg.SUP_PLANCFG 31 24 * 115200000000 ≤ s.slate))
  let s : State := if t = 0 then s else s.requestPlan t
  if s.margin < s.rf Reg.SUP_PLANCFG 15 8 then s.raiseMargin 3 else s

/-- SYN is LOCKED with SYN.CFG.SRC = 1 or 2 (R538). -/
def State.synLocked (s : State) : Bool :=
  s.rb Reg.SYN_STAT 0 && (s.rf Reg.SYN_CFG 1 0 == 1 || s.rf Reg.SYN_CFG 1 0 == 2)

/-- A slate hour has ended, and its end has not come. -/
def State.hourDue (s : State) : Bool := decide (s.sup.hourAt < s.slate / 115200000000)

/-- The end of a slate hour (R538): where SYN stayed LOCKED throughout, TCXO takes the negated mean of SYN.FREQ. -/
def tcxoHour (s : State) : State :=
  let locked := s.sup.hourOk && decide (0 < s.sup.hourN)
  let err := word (toU 32 (-(rdiv s.sup.hourSum s.sup.hourN)))
  let s := { s with sup := { s.sup with hourOk := s.synLocked, hourSum := 0, hourN := 0, hourAt := s.slate / 115200000000 } }
  if locked then
    let base := if !s.sup.hourSeen && s.sup.baseline == 0x80000000#32 then err else s.sup.baseline
    let s := { s with sup := { s.sup with hourSeen := true, baseline := base } }
    (s.wr Reg.SUP_TCXO err).wr Reg.SUP_TCXOAGE (err - base)
  else s

/-- A PA measurement of chain n against the reference fused at test, in 0.01 dB (R540).
DESIGN CHOICE (safe), log entry 46. -/
def paDrift (s : State) (n : Nat) (drift : Int) : State :=
  let s := s.wr (Reg.SUP_PADRIFT n) (word (toU 16 drift))
  if s.rf Reg.SUP_PATH 15 0 < drift.natAbs then s.wb Reg.SUP_STAT 6 true else s

/-- A window ends in the present tick, and its end has not come (R530). -/
def State.windowDue (s : State) : Bool :=
  s.aonOn && s.passes 32000 && decide (0 < s.slate) && s.sup.winTick != some s.slate

/-- SENTINEL_WINDOW_END (R530): at a multiple of 32,000 ticks. -/
def execSentinelWindowEnd (counts : List Nat) (temp : Nat) (s : State) : Out :=
  .next (if s.windowDue then sentinelWindow s counts temp else s)

/-- PLAN_CMD (R531). -/
def execPlanCmd (s : State) : Out := .next (s.onAon (s.requestPlan 8))

/-- PLAN_RUN_START (R532). -/
def execPlanRunStart (s : State) : Out := .next (planStart s)

/-- PLAN_STEP_MEASURED (R532). -/
def execPlanStepMeasured (s : State) : Out :=
  .next (match s.planMeasured with
    | some r => planDecide s r
    | none => s)

/-- PMBUS_ALERT (R533): class 7, and a read of STATUS_WORD. -/
def execPmbusAlert (s : State) : Out :=
  .next (s.onAon ({ s with sup := { s.sup with status := true, statusRetry := false } }.violation 7))

/-- PMBUS_TRANSACTION_END (R533). -/
def execPmbusTransactionEnd (cmd : PmbusCmd) (result : PmbusResult) (s : State) : Out := .next (pmbusEnd s cmd result)

/-- TCXO_HOUR_END (R538): at a slate-hour boundary. -/
def execTcxoHourEnd (s : State) : Out := .next (if s.hourDue then tcxoHour s else s)

/-- A field that keeps its value where the written one is out of range. -/
def keepField (old v : Word) (hi lo : Nat) (okv : Bool) : Word := if okv then v else setFld v hi lo (fld old hi lo)

/-- A write to a register of SUP: the ranges of PLANCFG field by field, those of TARGET and HIGH whole. -/
def supBusWrite (s : State) (a : Nat) (v : Word) : State :=
  let old := s.rd a
  if a = Reg.SUP_PLANCMD then if bit v 0 then s.requestPlan 8 else s
  else if a = Reg.SUP_PLANCFG then
    let v := keepField old v 31 24 (fld v 31 24 != 0)
    let v := keepField old v 23 16 (decide (1 ≤ fld v 23 16) && decide (fld v 23 16 ≤ 100))
    s.plainWrite a (keepField old v 15 8 (decide (fld v 15 8 ≤ 119)))
  else if a = Reg.SUP_PLANLIM then
    if 120 ≤ fld v 31 24 ∧ fld v 31 24 ≤ 250 ∧ fld v 31 24 + 20 ≤ fld v 23 16 then
      let v := keepField old v 15 8 (decide (5 ≤ fld v 15 8) && decide (fld v 15 8 ≤ 25))
      s.plainWrite a (keepField old v 7 0 (fld v 7 0 != 0))
    else s
  else s.plainWrite a v

end Sys2Proof.Machine
end

