-- ==== Sys2Proof/Machine/Radio.lean ====
section
/-! DEFINITION. The RF transceiver chains (spec/03_rf_chains.md): power, tuning, gain, outages of the receivers, truncation of
takes, the transmit timeline, shadows, calibration and loopback, and writes of the RFC registers. -/

namespace Sys2Proof.Machine

/-! ### Chains and roles (R49-R51) -/

/-- Chain n. -/
def State.chain (s : State) (n : Nat) : Chain := s.rfs.chains.get n {}

/-- The state with chain n replaced. -/
def State.setChain (s : State) (n : Nat) (c : Chain) : State :=
  { s with rfs := { s.rfs with chains := s.rfs.chains.store {} n c } }

/-- The RF domain is powered (R36). -/
def State.rfOn (s : State) : Bool := decide (3 ≤ s.mode) && !s.sup.held && !s.sup.hot

/-- SERVICE or VERIFY. -/
def State.loopMode (s : State) : Bool := s.mode == 3 || s.mode == 7

/-- Role of chain n. -/
def State.role (s : State) (n : Nat) : Nat := s.rf Reg.SYS_ROLE (4 * n + 3) (4 * n)

/-- The role permits TX (R51). -/
def State.roleTx (s : State) (n : Nat) : Bool := s.role n == 2 || s.role n == 3

/-- Chain n is to be powered (R50); after a reset the boot ROM powers the chains at step 2 (R60). -/
def State.chainWanted (s : State) (n : Nat) : Bool :=
  s.rfOn && s.sys.boot != 1 && s.sys.boot != 2 && (s.loopMode || s.role n != 0)

/-- LOOP.EN of chain n acts (R91, R92). -/
def State.loopOn (s : State) (n : Nat) : Bool := s.loopMode && s.rb (Reg.RFC_LOOP n) 0

/-- Chain n's role detects in the device mode (R50, R107); in SERVICE and VERIFY it receives the loopback of chain n - 1. -/
def State.detects (s : State) (n : Nat) : Bool :=
  (s.operating && (s.role n == 1 || s.role n == 3)) || s.loopOn ((n + 7) % 8)

/-- Chain n scans (R114). -/
def State.scans (s : State) (n : Nat) : Bool := (s.operating && s.role n == 4) || (s.mode == 6 && s.role n != 0)

/-- Chain n is powered and receives or scans (R85, R111). -/
def State.receiving (s : State) (n : Nat) : Bool :=
  (s.chain n).on && (s.chain n).upAt.isNone && (s.detects n || s.scans n)

/-- T_req of the drain in progress (R45). -/
def State.draining (s : State) : Option Nat := (s.sys.trans.filter fun t => t.drain).map (·.since)

/-! ### Outages of a receiver -/

/-- Outages that no window or detection can need any more are dropped. -/
def State.pruneOuts (s : State) : State :=
  { s with rfs := { s.rfs with
    outs := s.rfs.outs.filter fun o => match o.till with | some t => decide (s.slate < t + 64000) | none => true } }

/-- Chain n stops receiving from the present tick to before `till`. -/
def State.addOut (s : State) (n : Nat) (k : OutKind) (till : Option Nat) (id : Nat := 0) : State :=
  let s := s.pruneOuts
  { s with rfs := { s.rfs with outs := { chain := n, kind := k, since := s.slate, till := till, id := id } :: s.rfs.outs } }

/-- Every outage of chain n of a kind that has not ended ends in the present tick. -/
def State.endOut (s : State) (n : Nat) (k : OutKind) : State :=
  { s with rfs := { s.rfs with outs := s.rfs.outs.map fun o =>
    if o.chain = n ∧ o.kind = k ∧ (match o.till with | some t => decide (s.slate < t) | none => true) = true then
      { o with till := some s.slate } else o } }

/-- The instant `t8`, in eighths, lies in the outage. -/
def Outage.has (o : Outage) (t8 : Nat) : Bool :=
  decide (8 * o.since ≤ t8) && (match o.till with | some t => decide (t8 < 8 * t) | none => true)

/-- Chain n does not receive at the instant `t8`. -/
def State.outAt (s : State) (n t8 : Nat) : Bool := s.rfs.outs.any fun o => o.chain == n && o.has t8

/-- Ticks a to before b overlap an outage of chain n. -/
def State.outOverlaps (s : State) (n a b : Nat) : Bool :=
  s.rfs.outs.any fun o => o.chain == n && decide (o.since < b) && (match o.till with | some t => decide (a < t) | none => true)

/-- The receiver of chain n is blanked (R84, R85, R91), as RFCn.STAT.BLANK shows it: by its own transmission, a shadow or its
loopback. Calibration, loss of lock, a retune and power-up, which stop reception too, are not called blanking by their rules.
DESIGN CHOICE (unsafe), log entry 92. -/
def State.blanked (s : State) (n : Nat) : Bool :=
  s.rfs.outs.any fun o => o.chain == n && (o.kind == .own || o.kind == .shadow || o.kind == .loop) && o.has (8 * s.slate)

/-! ### Truncation (R144, R145) -/

/-- Takes in flight on chain n (all chains for 8) end TRUNCATED at the present tick; detections that wait for their
allocation keep the instant (R117), and one stamped in the present tick, where the chain receives no more, is discarded
(R84). -/
def truncateChain (s : State) (n : Nat) : State :=
  let at8 := 8 * s.slate
  let here (c : Nat) : Bool := n == 8 || c == n
  let takes := s.lnk.takes.map fun (d, t) =>
    if here t.chain ∧ t.outcome = none then (d, { t with outcome := some 8, endAt := at8, eof := at8 }) else (d, t)
  let dets := (s.chz.dets.filter fun d => !(here d.chain && decide (at8 ≤ d.stamp))).map fun d =>
    if here d.chain ∧ d.cut = none then { d with cut := some at8 } else d
  { s with lnk := { s.lnk with takes := takes }, chz := { s.chz with dets := dets } }

/-- Some take is in flight on chain n, or a detection waits. -/
def State.takesOn (s : State) (n : Nat) : Bool :=
  (s.lnk.takes.any fun t => t.2.chain == n && t.2.outcome.isNone)
    || s.chz.dets.any fun d => d.chain == n && d.cut.isNone

/-! ### Gain, tuning and power-up (R69, R70, R82) -/

/-- Both branches of chain n start at step 10 with their quiet time at 0 (R82). -/
def gainReset (s : State) (n : Nat) : State :=
  let s := s.setChain n { s.chain n with quietA := s.slate, quietB := s.slate }
  s.wr (Reg.RFC_GAIN n) 0xA0A

/-- RFCn.RXLO is loaded with the active span centre; a powered chain retunes, one that is powering up too (R69). STAT.LOCK stays
as it is through the retune.
DESIGN CHOICE (unsafe), log entry 92. -/
def loadRxlo (s : State) (n : Nat) : State :=
  let s := s.wr (Reg.RFC_RXLO n) (word (tuneWord (s.planC active n)))
  if (s.chain n).on then
    let s := (truncateChain s n).addOut n .retune (some (s.slate + 1280))
    let c := s.chain n
    gainReset (s.setChain n { c with
      retuneAt := some (s.slate + 1280), fresh := some (max (c.upAt.getD 0) (s.slate + 1280)), dcTill := none }) n
  else s

/-- The live value of calibration k of chain n (R90).
DESIGN CHOICE (safe), log entry 91. -/
def State.liveCal (s : State) (n k : Nat) : Nat := s.rfs.live.get (4 * n + k) 0

/-- A calibration run has measured the live value of calibration k of chain n anew (R87, R90).
DESIGN CHOICE (safe), log entry 91. -/
def measureCal (s : State) (n k : Nat) : State :=
  { s with rfs := { s.rfs with live := s.rfs.live.put (4 * n + k) (Config.calMeasured s.free) }, free := s.free + 1 }

/-- Chain n powers up from OFF (R70): it tunes to the active plan, and receives 9,600 ticks later. -/
def chainUp (s : State) (n : Nat) : State :=
  let s := s.wr (Reg.RFC_RXLO n) (word (tuneWord (s.planC active n)))
  let s := s.setChain n { on := true, upAt := some (s.slate + 9600), fresh := some (s.slate + 9600) }
  gainReset (s.addOut n .powerUp (some (s.slate + 9600))) n

/-- A transmission holds chain n: its retune back has not ended. -/
def State.txOn (s : State) (n : Nat) : Bool := s.rfs.txs.any fun t => t.chain == n

/-- Chain n powers down. -/
def chainDown (s : State) (n : Nat) : State :=
  let s := truncateChain s n
  let outs := s.rfs.outs.filter fun o => o.chain != n
  (({ s with rfs := { s.rfs with outs := outs } }).setChain n {}).wf (Reg.RFC_CALSTAT n) 3 0 0

/-- Every chain is powered up or down as its role in the device mode asks (R50); one whose takes or transmission still run
is powered down when they end (R46, R49). -/
def powerChains (s : State) : State :=
  (List.range 8).foldl (fun (s : State) n =>
    let c := s.chain n
    if s.chainWanted n ∧ !c.on then chainUp s n
    else if !s.chainWanted n ∧ c.on ∧ !s.txOn n ∧ (!s.takesOn n ∨ !s.rfOn) then chainDown s n
    else s) s

/-- CHAIN_POWER_UP_COMPLETE's effect. -/
def chainUpEnd (s : State) (n : Nat) : State :=
  let c := s.chain n
  match c.upAt with
  | some t => if t ≤ s.slate then measureCal (s.setChain n { c with upAt := none, locked := true }) n 0 else s
  | none => s

/-- The end of a retune to a new RXLO: the DC calibration that follows it runs for its time of R70 beside reception, which R69
stops for the retune time only.
DEDUCED (unsafe), log entry 43. DESIGN CHOICE (unsafe), log entry 92. -/
def retuneEnd (s : State) (n : Nat) : State :=
  let c := s.chain n
  match c.retuneAt with
  | some t =>
    if t ≤ s.slate then
      s.setChain n { c with retuneAt := none, locked := c.relockAt.isNone, dcTill := some (s.slate + 3200) }
    else s
  | none => s

/-- The end of the DC calibration that follows a retune (R87). -/
def dcEnd (s : State) (n : Nat) : State :=
  match (s.chain n).dcTill with
  | some t => if t ≤ s.slate then measureCal (s.setChain n { s.chain n with dcTill := none }) n 0 else s
  | none => s

/-- The synthesizer of chain n relocks (R71). -/
def relock (s : State) (n : Nat) : State :=
  if (s.chain n).relockAt.isSome then
    (s.setChain n { s.chain n with locked := true, relockAt := none }).endOut n .unlock
  else s

/-- A chain that has lost lock relocks by itself, at the latest when the retune time has passed (R71). -/
def relockDue (s : State) (n : Nat) : State :=
  match (s.chain n).relockAt with
  | some t => if t ≤ s.slate then relock s n else s
  | none => s

/-- What one block of 64 ADC samples showed (R82).
DEDUCED (unsafe), log entry 43. -/
def agcBlock (s : State) (n : Nat) (b : Bool) (power : AgcPower) : State :=
  let c := s.chain n
  let lo := if b then 8 else 0
  let g := s.rf (Reg.RFC_GAIN n) (lo + 3) lo
  let restart (s : State) : State := s.setChain n (if b then { c with quietB := s.slate } else { c with quietA := s.slate })
  if !c.on || s.rb (Reg.RFC_AGC n) 0 || (b && !s.rb (Reg.RFC_CTL n) 8) then s
  else
    match power with
    | .loud => restart (s.wf (Reg.RFC_GAIN n) (lo + 3) lo (g - 1))
    | .middle => restart s
    | .quiet =>
      if (if b then c.quietB else c.quietA) + 32000 * s.rf (Reg.RFC_AGC n) 23 16 ≤ s.slate then
        restart (s.wf (Reg.RFC_GAIN n) (lo + 3) lo (min 10 (g + 1)))
      else s

/-! ### Transmissions (R72-R81) -/

/-- T_setup of chain n from its registers (R73). -/
def State.setup (s : State) (n : Nat) : Nat :=
  1280 + 32 * s.rf (Reg.RFC_RAMP n) 6 0 + max (s.rf (Reg.RFC_FEMPA n) 10 0) (s.rf (Reg.RFC_FEMTR n) 10 0)

/-- The tick in which a transmission's retune back ends (R80). -/
def Tx.back (t : Tx) : Nat := t.radEnd + max t.paLag t.trLag + 1280

/-- The tick in which the retune back of a transmission on chain n would end that lasts from `t0` to `t1` and latches the
chain's registers as they stand. -/
def State.backOf (s : State) (n t1 : Nat) : Nat :=
  t1 + 32 * s.rf (Reg.RFC_RAMP n) 6 0 + max (s.rf (Reg.RFC_FEMPA n) 26 16) (s.rf (Reg.RFC_FEMTR n) 26 16) + 1280

/-- E / 8 of the expected parent beacon, and WCUR in ticks. -/
def State.pNext (s : State) : Nat := s.rd64 (Reg.LNK_PNEXT 0)
def State.wcur (s : State) : Nat := 32 * s.rf Reg.LNK_PSTAT 15 0

/-- The decision instant of the expected beacon (R236). -/
def State.decisionAt (s : State) : Nat := s.pNext / 8 + s.wcur + (s.rd Reg.LNK_BDEC).toNat

/-- Parent tracking state (R233). -/
def State.pstate (s : State) : Nat := s.rf Reg.LNK_PSTAT 31 30

/-- The chain of CURCH. -/
def State.curChain (s : State) : Nat := s.rf (Reg.LNK_PCH (s.rf Reg.LNK_PSTAT 29 28)) 10 8

/-- Ticks a to before b conflict with a transmission committed on chain n (R75), or, where `win` says that it counts, with
the window of the expected parent beacon (R239). -/
def State.txConflict (s : State) (n a b : Nat) (win : Bool) : Bool :=
  (s.rfs.txs.any fun t => t.chain == n && decide (t.since < b) && decide (a < t.back))
    || (win && s.pstate == 2 && s.curChain == n && decide (s.pNext / 8 - s.wcur < b) && decide (a < s.decisionAt))

/-- A PA calibration runs on chain n, in loopback into chain (n + 1) mod 8 (R88). -/
def State.paLoop (s : State) (n : Nat) : Bool :=
  match (s.chain n).cal with
  | some c => c.till.isSome && c.todo.head? == some 3
  | none => false

/-- Chain n has its RXA and RXB ports disconnected: chain n - 1 loops back into it, by LOOP.EN or for a PA calibration
(R88, R91). -/
def State.loopSink (s : State) (n : Nat) : Bool := s.loopOn ((n + 7) % 8) || s.paLoop ((n + 7) % 8)

/-- The level, in 0.25 dBm, at which chain n's modulator output reaches chain (n + 1) mod 8 in loopback (R91). -/
def State.loopLevel (s : State) (n : Nat) (drive : Int) : Int := drive - 4 * s.rf (Reg.RFC_LOOP n) 15 8

/-- The chain is powering up, calibrating or in loopback: a transmission ends CHAIN_BUSY at T0 - T_setup (R76, R89). A chain that
another loops back into counts as in loopback.
DESIGN CHOICE (unsafe), log entry 92. -/
def State.chainBusy (s : State) (n : Nat) : Bool :=
  let c := s.chain n
  !c.on || c.upAt.isSome || c.cal.isSome || c.dcTill.isSome || s.loopOn n || s.loopSink n

/-- The internal drive of chain n, clamped, and whether it was (R78, R79).
DEDUCED (safe), log entry 42. -/
def State.drive (s : State) (n : Nat) : Int × Bool :=
  let level := sext 8 (s.rf (Reg.RFC_TXPWR n) 7 0)
  let d := if s.rb (Reg.RFC_CTL n) 4 then level - s.rf (Reg.RFC_EXTPA n) 7 0 else level
  (clampI (-40) 56 d, decide (d < -40 ∨ 56 < d))

/-- A transmission is latched on its chain in the present tick (R74, R80): the retune starts, the receiver blanks, and its
takes in flight are truncated (R84). -/
def latchTx (s : State) (t : Tx) : State :=
  let s := (truncateChain s t.chain).addOut t.chain .own (some t.back)
  let s := s.wr (Reg.RFC_TXLO t.chain) (word t.word)
  let s := if (s.drive t.chain).2 then s.wb (Reg.RFC_STAT t.chain) 13 true else s
  { s with rfs := { s.rfs with txs := s.rfs.txs ++ [t] } }

/-- A transmission for chain n with first symbol at `t0` and last symbol end at `t1`, with what the chain latches now. -/
def State.mkTx (s : State) (id : Nat) (what : TxWhat) (n k p w since t0 t1 : Nat) : Tx :=
  let r := 32 * s.rf (Reg.RFC_RAMP n) 6 0
  { id := id, what := what, chain := n, ch := k, prof := p, word := w, since := since, t0 := t0, t1 := t1, ramp := r,
    paLead := s.rf (Reg.RFC_FEMPA n) 10 0, paLag := s.rf (Reg.RFC_FEMPA n) 26 16,
    trLead := s.rf (Reg.RFC_FEMTR n) 10 0, trLag := s.rf (Reg.RFC_FEMTR n) 26 16,
    femcfg := s.rf (Reg.RFC_FEMCFG n) 5 0, drive := (s.drive n).1,
    pa := Config.paSetting (s.liveCal n 3) (s.drive n).1, radEnd := t1 + r, counter := none, mhr := [],
    payload := [], key := [], long := 0, pre := 0, pw := s.profWords active p }

/-- Airtime to be approved, in microseconds: the radiated interval rounded up (R77). -/
def Tx.us (t : Tx) : Nat := cdiv (t.t1 - t.t0 + 2 * t.ramp) 32

/-- The transmission named `id`. -/
def State.tx (s : State) (id : Nat) : Option Tx := s.rfs.txs.find? fun t => t.id == id

/-- The PSDU of copy i of a transmission (R165, R181): an uplink carries REPEAT 0 (R168). -/
def Tx.psdu (t : Tx) (i : Nat) : List Nat :=
  let p := buildPsdu t.key t.long t.mhr t.payload
  setRepeat p (if t.copies ≤ 1 ∨ fcType (fcOf t.mhr) = 0 then 0 else t.copies - 1 - i)

/-- What the modulator sends: the copies one after another, each with its preamble (R127, R128, R137). -/
def Tx.air (t : Tx) : List Int := modulate t.pw ((List.range t.copies).flatMap fun i => airSymbols t.pw t.pre (t.psdu i))

/-- The state with transmission t in place of its namesake. -/
def State.setTx (s : State) (t : Tx) : State :=
  { s with rfs := { s.rfs with txs := s.rfs.txs.map fun u => if u.id = t.id then t else u } }

/-- FEMn_PA and FEMn_TR of chain n as the transmit timeline has them in the present tick (R80).
DESIGN CHOICE (unsafe), log entry 44. -/
def femPins (s : State) (n : Nat) : State :=
  let live := s.rfs.txs.filter fun t => t.chain == n
  let now := s.slate
  let pa := live.any fun t =>
    decide (t.t0 - t.ramp - t.paLead ≤ now) && decide (now < t.radEnd + t.paLag) && t.femcfg.testBit 4
  let tr := live.any fun t => decide (t.t0 - t.ramp - t.trLead ≤ now) && decide (now < t.radEnd + t.trLag)
  s.setChain n { s.chain n with pa := pa, tr := tr }

/-- RFCn.FEMCFG as it acts: what the transmission on the chain latched (R74), else the register. -/
def State.femCfg (s : State) (n : Nat) : Nat :=
  match s.rfs.txs.find? fun t => t.chain == n with
  | some t => t.femcfg
  | none => s.rf (Reg.RFC_FEMCFG n) 5 0

/-- The level of a FEM pin of chain n: 0 PA, 1 TR, 2 LNA; none while the RF domain is unpowered (R81), but for a chain whose
transmission still runs (R46). FEMn_LNA is active while the chain is powered and FEMn_TR is in its RX state (R80).
DESIGN CHOICE (unsafe), log entry 44. -/
def State.femLevel (s : State) (n pin : Nat) : Option Bool :=
  let c := s.chain n
  if !s.rfOn && !c.on then none
  else
    let active := match pin with | 0 => c.pa | 1 => c.tr | _ => c.on && !c.tr && (s.femCfg n).testBit 5
    some (Bool.xor active ((s.femCfg n).testBit pin))

/-! ### Shadows (R85, R86) -/

/-- The shadow guard of the pair (t, v) in Hz. -/
def State.guardHz (s : State) (t v : Nat) : Nat :=
  125000 * (if v < 4 then s.rf (Reg.LNK_SHGDLO t) (8 * v + 7) (8 * v) else s.rf (Reg.LNK_SHGDHI t) (8 * v - 25) (8 * v - 32))

/-- Chain v is shadowed by a transmission of chain t at tuning word w. -/
def State.shadowed (s : State) (t v w : Nat) : Bool :=
  let half := s.planS active v / 2
  let g := s.guardHz t v
  let c := s.planC active v
  t != v && s.receiving v
    && !(s.rfs.txs.any fun u => u.chain == v && decide (u.since ≤ s.slate) && decide (s.slate < u.radEnd))
    && decide ((c - (half + g)) * 2 ^ 24 ≤ w * 32000000) && decide (w * 32000000 ≤ (c + half + g) * 2 ^ 24)

/-- Stretches of KEEP shadow that no take still undecoded can have overlapped are dropped. -/
def State.pruneKeeps (s : State) : State :=
  let open_ (k : Keep) : Bool :=
    decide (s.slate < k.till + 128) || s.lnk.takes.any fun t => t.2.chain == k.v && !t.2.decoded && decide (t.2.stamp < 8 * k.till)
  { s with rfs := { s.rfs with keeps := s.rfs.keeps.filter open_ } }

/-- Transmission `id` already shadows chain v. -/
def State.shadowKnown (s : State) (id v : Nat) : Bool :=
  (s.rfs.outs.any fun o => o.kind == .shadow && o.id == id && o.chain == v) || s.rfs.keeps.any fun k => k.id == id && k.v == v

/-- A transmission that radiates shadows each chain that the test of R85 finds receiving, from the tick on in which it does,
under the pair's policy. -/
def shadowScan (s : State) (t : Tx) : State :=
  (List.range 8).foldl (fun (s : State) v =>
    if s.shadowed t.chain v t.word && !s.shadowKnown t.id v then
      if s.rb (Reg.LNK_SHPOL t.chain) v then (truncateChain s v).addOut v .shadow (some t.radEnd) t.id
      else { s with rfs := { s.rfs with
        keeps := s.rfs.keeps ++ [{ id := t.id, v := v, since := s.slate, till := t.radEnd }] } }
    else s) s

/-- The ramp-up of a transmission: the modulator forms its frame (R126, R137), and its radiated interval begins and shadows the
other chains (R85). -/
def rampUp (s : State) (t : Tx) : State :=
  let s := (s.setTx { t with up := true }).pruneKeeps
  shadowScan { s with rfs := { s.rfs with sent := s.rfs.sent.put t.chain t.air } } t

/-- The take with interval `a` to `b` (eighths) on chain v overlaps a radiated interval under KEEP. -/
def State.desensed (s : State) (v a b : Nat) : Bool :=
  s.rfs.keeps.any fun k => k.v == v && decide (a < 8 * k.till) && decide (8 * k.since < b) && decide (a < b)
    && decide (k.since < k.till)

/-- The radiated interval of transmission t ends early, at tick `e`: its own blank and the shadows follow.
DEDUCED (unsafe), log entry 41. -/
def shortenTx (s : State) (t : Tx) (e : Nat) : State :=
  let t' := { t with radEnd := e }
  let s := s.setTx t'
  let outs := s.rfs.outs.map fun o =>
    if o.chain = t.chain ∧ o.kind = .own ∧ o.till = some t.back then { o with till := some t'.back }
    else if o.kind = .shadow ∧ o.id = t.id then { o with till := some e }
    else o
  { s with rfs := { s.rfs with outs := outs, keeps := s.rfs.keeps.map fun k => if k.id = t.id then { k with till := e } else k } }

/-- The stamps and the count at the end of a radiated interval (R77, R93), and its charge (R248).
DEDUCED (unsafe), log entry 41. DEDUCED (unsafe), log entry 45. -/
def radiatedEnd (s : State) (t : Tx) : State :=
  let s := s.setTx { t with down := true }
  let s := (s.wr64 (Reg.RFC_TXRS t.chain 0) (t.t0 - t.ramp)).wr64 (Reg.RFC_TXRE t.chain 0) t.radEnd
  (charge (s.inc (Reg.RFC_TXCNT t.chain)) t.id (t.t0 - t.ramp) (t.radEnd - (t.t0 - t.ramp))).emit [83 + 4 * t.chain]

/-- Transmission t leaves its chain.
DEDUCED (unsafe), log entry 41. -/
def dropTx (s : State) (t : Tx) : State :=
  { s with rfs := { s.rfs with txs := s.rfs.txs.filter fun u => u.id != t.id } }

/-- The retune back of chain n ends (R80): the receiver resumes. A chain whose domain is to power down does not retune back: it
powers down when the FEM lags have ended (R46). -/
def retuneBack (s : State) (n : Nat) : State :=
  let last (t : Tx) : Nat := if s.rfOn then t.back else t.back - 1280
  powerChains { s with rfs := { s.rfs with
    txs := s.rfs.txs.filter fun t => !(t.chain == n && t.down && decide (last t ≤ s.slate)) } }

/-! ### Calibration (R87-R90) and loopback (R91, R92) -/

/-- Duration of a calibration (R70): 0 DC, 1 IQ, 2 FC, 3 PA. -/
def calTicks (k : Nat) : Nat := match k with | 0 => 3200 | 1 => 64000 | 2 => 16000 | _ => 640000

/-- The place of a calibration in the run order DC, FC, IQ, PA (R90). -/
def calOrder (k : Nat) : Nat := match k with | 0 => 0 | 2 => 1 | 1 => 2 | _ => 3

/-- The first of the waiting calibrations starts in the present tick. -/
def calRunFirst (s : State) (n : Nat) (c : CalRun) : State :=
  match c.todo with
  | [] => (s.setChain n { s.chain n with cal := none }).endOut n .cal
  | k :: _ => s.setChain n { s.chain n with cal := some { c with drain := false, till := some (s.slate + calTicks k) } }

/-- A calibration command k for chain n (R88, R89). A chain without power cannot calibrate: refused. A command whose BUSY bit is
set already does nothing, and is not refused.
DESIGN CHOICE (unsafe), log entry 44. DESIGN CHOICE (unsafe), log entry 92. -/
def calCmd (s : State) (n k : Nat) : State :=
  let c := s.chain n
  let ok := c.on && (s.loopMode || (decide (4 ≤ s.mode ∧ s.mode ≤ 6) && k != 3))
  if !ok then s.wb (Reg.RFC_CALSTAT n) (12 + k) true
  else if s.rb (Reg.RFC_CALSTAT n) k then s
  else
    let s := s.wb (Reg.RFC_CALSTAT n) k true
    match c.cal with
    | some r =>
      -- Commands that wait keep the order of R90; the running one stays first.
      let rest := if r.till.isSome then r.todo.tail else r.todo
      let todo := (if r.till.isSome then r.todo.take 1 else []) ++ sortBy (fun a b => decide (calOrder a ≤ calOrder b)) (rest ++ [k])
      s.setChain n { c with cal := some { r with todo := todo } }
    | none => s.setChain n { c with cal := some { since := s.slate, drain := !s.loopMode, todo := [k] } }

/-- The chain may suspend now (R89): no drain is asked, or its takes and its transmission have ended, or the drain limit has
passed and no transmission runs.
DESIGN CHOICE (unsafe), log entry 44. -/
def State.calReady (s : State) (n : Nat) : Bool :=
  match (s.chain n).cal with
  | some c =>
    c.till.isNone && (s.chain n).upAt.isNone && !s.txOn n
      && (!c.drain || !s.takesOn n || decide (c.since + (s.rd Reg.SYS_DRAIN).toNat ≤ s.slate))
  | none => false

/-- The chain's takes in flight on a drain that has reached SYS.DRAIN.LIMIT (R89). -/
def State.calLimit (s : State) (n : Nat) : Bool :=
  match (s.chain n).cal with
  | some c => c.drain && c.till.isNone && s.takesOn n && decide (c.since + (s.rd Reg.SYS_DRAIN).toNat ≤ s.slate)
  | none => false

/-- The chain suspends and runs its first calibration (R89); takes still in flight at the drain limit are truncated. -/
def calSuspend (s : State) (n : Nat) : State :=
  let s := if s.calLimit n then truncateChain s n else s
  if s.calReady n then
    match (s.chain n).cal with
    | some c => calRunFirst (s.addOut n .cal none) n c
    | none => s
  else s

/-- The running calibration of chain n ends, converged or not (R90); a PA calibration has measured a drift (R540).
DESIGN CHOICE (safe), log entry 46. -/
def calEnd (s : State) (n : Nat) (converged : Bool) (drift : Int) : State :=
  match (s.chain n).cal with
  | some { since, drain, todo := k :: rest, till := some t } =>
    if t ≤ s.slate then
      let s := (s.wb (Reg.RFC_CALSTAT n) k false).wb (Reg.RFC_CALSTAT n) ((if converged then 4 else 8) + k) true
      let s := s.emit [(if converged then 85 else 86) + 4 * n]
      let s := if converged then measureCal s n k else s
      let s := if k = 3 then paDrift s n drift else s
      calRunFirst s n { since := since, drain := drain, todo := rest }
    else s
  | _ => s

/-- The loopback outage of chain n follows LOOP.EN (R91). -/
def loopUpdate (s : State) (n : Nat) : State :=
  let isOut := s.rfs.outs.any fun o => o.chain == n && o.kind == .loop && o.has (8 * s.slate)
  if s.loopOn n ∧ !isOut then (truncateChain s n).addOut n .loop none
  else if !s.loopOn n ∧ isOut then s.endOut n .loop
  else s

/-- LOOP.EN of every chain acts from the entry into SERVICE or VERIFY on (R91, R92). -/
def loopEnter (s : State) : State := (List.range 8).foldl loopUpdate s

/-- On leaving SERVICE or VERIFY, LOOP.EN is cleared on every chain (R92). -/
def loopLeave (s : State) : State :=
  (List.range 8).foldl (fun (s : State) n => loopUpdate (s.wb (Reg.RFC_LOOP n) 0 false) n) s

/-! ### Registers -/

/-- RFCn.STAT.RANGE: a field out of range is refused and keeps its value. -/
def State.rangeRefused (s : State) (n : Nat) : State := s.wb (Reg.RFC_STAT n) 14 true

/-- RFCn.STAT.STATE. The aborting ramp-down of a transmission that lost lock before T1 shows 4 (TX) until it ends.
DESIGN CHOICE (unsafe), log entry 44. DESIGN CHOICE (unsafe), log entry 92. -/
def State.chainState (s : State) (n : Nat) : Nat :=
  let c := s.chain n
  if !c.on then 0
  else if c.upAt.isSome then 1
  else if s.loopOn n then 7
  else if (c.cal.map fun r => r.till.isSome).getD false then 6
  else
    match s.rfs.txs.find? fun t => t.chain == n with
    | some t => if !t.up then 3 else if s.slate < t.t1 ∧ !t.down then 4 else 5
    | none => 2

/-- The registers of RFC that show a chain. -/
def State.rfcView (s : State) (a : Nat) : Word :=
  let n := (a - Reg.RFC_CTL 0) / 0x2000
  if a = Reg.RFC_STAT n then
    s.rd a ||| word (32 * b2n (s.blanked n) + 16 * b2n (s.chain n).locked + s.chainState n)
  else if a = Reg.RFC_GAIN n then
    if s.rb (Reg.RFC_AGC n) 0 then word (257 * s.rf (Reg.RFC_AGC n) 11 8) else s.rd a
  else s.rd a

/-- A write to a register of RFC. -/
def rfcBusWrite (s : State) (a : Nat) (v : Word) : State :=
  let n := (a - Reg.RFC_CTL 0) / 0x2000
  let o := (a - Reg.RFC_CTL 0) % 0x2000
  let guarded (good : Bool) : State := if good then s.plainWrite a v else s.rangeRefused n
  match o with
  | 0x20 => let l := sext 8 (fld v 7 0); guarded (decide (-40 ≤ l ∧ l ≤ 120))
  | 0x24 => guarded (decide (fld v 7 0 ≤ 160))
  | 0x28 => guarded (decide (2 ≤ fld v 6 0 ∧ fld v 6 0 ≤ 64))
  | 0x40 =>
    let old := s.rd a
    let badHold := fld v 23 16 == 0
    let badGain := decide (10 < fld v 11 8)
    let v := if badHold then setFld v 23 16 (fld old 23 16) else v
    let v := if badGain then setFld v 11 8 (fld old 11 8) else v
    let s := s.plainWrite a v
    let s := if badHold || badGain then s.rangeRefused n else s
    if bit old 0 && !bit (s.rd a) 0 then
      let g := fld (s.rd a) 11 8
      (s.setChain n { s.chain n with quietA := s.slate, quietB := s.slate }).wr (Reg.RFC_GAIN n) (word (257 * g))
    else s
  | 0x50 => (List.range 4).foldl (fun s k => if bit v k then calCmd s n k else s) s
  | 0x60 =>
    let bad := decide (fld v 15 8 < 50 ∨ 150 < fld v 15 8)
    let s := s.plainWrite a (if bad then setFld v 15 8 (s.rf a 15 8) else v)
    loopUpdate (if bad then s.rangeRefused n else s) n
  | _ => s.plainWrite a v

/-! ### Commands -/

/-- CHAIN_POWER_UP_COMPLETE (R70). -/
def execChainPowerUpComplete (n : Nat) (s : State) : Out := ok (n < 8) (chainUpEnd s n)

/-- SYNTHESIZER_RETUNE_COMPLETE (R69). -/
def execSynthesizerRetuneComplete (n : Nat) (s : State) : Out := ok (n < 8) (retuneEnd s n)

/-- FEM_PIN_CHANGE (R80). -/
def execFemPinChange (n : Nat) (s : State) : Out := ok (n < 8) (femPins s n)

/-- RFC_RELOCK (R71). -/
def execRfcRelock (n : Nat) (s : State) : Out :=
  ok (n < 8) (relock s n)

/-- AGC_GAIN_STEP (R82): a block boundary of branch A or B, and what the block before it showed. -/
def execAgcGainStep (n : Nat) (branchB : Bool) (power : AgcPower) (s : State) : Out :=
  ok (n < 8) (agcBlock s n branchB power)

/-- CAL_DC (R88). -/
def execCalDc (n : Nat) (s : State) : Out := ok (n < 8) (calCmd s n 0)

/-- CAL_IQ (R88). -/
def execCalIq (n : Nat) (s : State) : Out := ok (n < 8) (calCmd s n 1)

/-- CAL_FC (R88). -/
def execCalFc (n : Nat) (s : State) : Out := ok (n < 8) (calCmd s n 2)

/-- CAL_PA (R88). -/
def execCalPa (n : Nat) (s : State) : Out := ok (n < 8) (calCmd s n 3)

/-- CAL_SUSPEND_START (R89). -/
def execCalSuspendStart (n : Nat) (s : State) : Out := ok (n < 8) (calSuspend s n)

/-- CAL_COMPLETE (R90). -/
def execCalComplete (n : Nat) (converged : Bool) (drift : Int) (s : State) : Out := ok (n < 8) (calEnd s n converged drift)

/-- TX_RAMP_UP_START (R80): transmission `id` reaches T0 - R. -/
def execTxRampUpStart (id : Nat) (s : State) : Out :=
  .next (match s.tx id with
    | some t => if !t.up ∧ t.t0 - t.ramp ≤ s.slate then rampUp s t else s
    | none => s)

/-- RETUNE_BACK_END (R80). -/
def execRetuneBackEnd (n : Nat) (s : State) : Out := ok (n < 8) (retuneBack s n)

end Sys2Proof.Machine
end

