-- ==== Sys2Proof/Machine/Channels.lean ====
section
/-! DEFINITION. Staged applies, placement epochs, detection, demodulator allocation, noise floors and occupancy
(spec/04_channelizer_detection.md). -/

namespace Sys2Proof.Machine

/-! ### Epochs (R120-R123) -/

/-- CHZ.EPOCH.CUR. -/
def State.epoch (s : State) : Nat := s.rf Reg.CHZ_EPOCH 15 0

/-- The epoch of a stamp (R120).
DEDUCED (unsafe), log entry 48. -/
def State.epochOf (s : State) (stamp : Nat) : Nat :=
  ((s.chz.epochs.find? fun e => decide (stamp < 8 * e.at_)).map (·.num)).getD s.epoch

/-- Takes of epoch `e` are in flight: takes not yet released, and detections that wait for their allocation. -/
def State.epochBusy (s : State) (e : Nat) : Bool :=
  (s.lnk.takes.any fun t => t.2.epoch == e) || s.chz.dets.any fun d => s.epochOf d.stamp == e

/-- Superseded epochs without a take in flight drain; of those of one tick CHZ.LASTDRN names the one superseded last (R123). -/
def drainEpochs (s : State) : State :=
  let gone := s.chz.epochs.filter fun e => !s.epochBusy e.num
  match gone.getLast? with
  | none => s
  | some e =>
    let later := s.chz.lastDrn.1 == s.slate && decide (e.at_ < s.chz.lastDrn.2)
    let left := s.chz.epochs.filter fun x => !gone.contains x
    let s : State := { s with chz := { s.chz with
      epochs := left, lastDrn := if later then s.chz.lastDrn else (s.slate, e.at_) } }
    (if later then s else s.wr Reg.CHZ_LASTDRN (word (2 ^ 16 + e.num))).emit [17] gone.length

/-- The fence of the take's epoch has passed its end (R122). -/
def State.fencePassed (s : State) (t : Take) : Bool :=
  s.chz.epochs.any fun e => e.num == t.epoch && decide (8 * e.fence < t.eof)

/-! ### Applies (R103-R105) -/

/-- Offset from which chain n's plan stands after an apply of `chains`. -/
def planFrom (chains n : Nat) : Nat := if chains.testBit n then 0 else active

/-- A plan to be applied is within R97. -/
def State.planOk (s : State) (n : Nat) : Bool :=
  let inBand (f : Nat) : Bool := decide (400000000 ≤ f) && decide (f ≤ 960000000)
  inBand (s.planC 0 n)
    && (List.range (s.planN 0 n)).all fun k => !(s.planMask 0 n).testBit k
      || (decide (s.planN 0 n * (s.planD 0 n / 2) ≤ s.planC 0 n + (2 * k + 1) * (s.planD 0 n / 2)) && inBand (s.chanHz 0 n k))

/-- The failure of one slot: cause, chain and profile (R104 step 3). -/
def State.slotFault (s : State) (chains : Nat) (prof : Bool) (n k i : Nat) : Option (Nat × Nat × Nat) :=
  match s.slotProf (planFrom chains n) n k i with
  | none => none
  | some p =>
    let w := s.profWords (if prof then 0 else active) p
    if !pwValid w || !pwOk w then some (4, n, p)
    else if !pwFits w (s.planD (planFrom chains n) n) then some (3, n, p)
    else none

/-- The first failure of causes 5, 2, 3 and 4, in the order of R104. -/
def State.applyFault (s : State) (chains : Nat) (prof : Bool) : Option (Nat × Nat × Nat) :=
  if s.chz.epochs.any fun e => e.num == (s.epoch + 1) % 65536 then some (5, 0, 0)
  else
    match (List.range 8).find? fun n => chains.testBit n && !s.planOk n with
    | some n => some (2, n, 0)
    | none =>
      let slots := (List.range 8).findSome? fun n =>
        (List.range (s.planN (planFrom chains n) n)).findSome? fun k =>
          (List.range 4).findSome? fun i => s.slotFault chains prof n k i
      match slots with
      | some f => some f
      | none =>
        if prof then
          ((List.range 16).find? fun p => pwValid (s.profWords 0 p) && !pwOk (s.profWords 0 p)).map fun p => (4, 0, p)
        else none

/-- An apply is refused (R104). -/
def applyRefused (s : State) (f : Nat × Nat × Nat) : State :=
  let s := ((s.wf Reg.CHZ_APPLYSTAT 27 24 f.2.1).wf Reg.CHZ_APPLYSTAT 19 16 f.2.2).wf Reg.CHZ_APPLYSTAT 11 8 f.1
  (s.wb Reg.CHZ_APPLYSTAT 0 true).emit [16]

/-- A GO write (R103, R104). PAST is set by an apply that is accepted alone.
DESIGN CHOICE (unsafe), log entry 106. -/
def applyGo (s : State) : State :=
  let chains := s.rf Reg.CHZ_APPLY 7 0
  let prof := s.rb Reg.CHZ_APPLY 8
  let fault :=
    if s.chz.apply.isSome then some (1, 0, 0)
    else if chains = 0 ∧ !prof then some (6, 0, 0)
    else s.applyFault chains prof
  match fault with
  | some f => applyRefused s f
  | none =>
    let at_ := s.rd64 (Reg.CHZ_APPLYAT 0)
    let past := decide (at_ = 0 ∨ at_ < s.slate)
    let s := if past then s.wb Reg.CHZ_APPLYSTAT 3 true else s
    { s with chz := { s.chz with apply := some { chains := chains, prof := prof, at_ := if past then s.slate else at_ } } }

/-- `n` words from address `a` copied to address `b`. -/
def copyWords (s : State) (a b n : Nat) : State := (List.range n).foldl (fun s i => s.wr (b + 4 * i) (s.rd (a + 4 * i))) s

/-- The SHADOW bits of channel k of chain n in the active copy (R100). -/
def shadowBits (s : State) (n k : Nat) : Nat :=
  ((List.range 4).filter fun i =>
    match s.slotProf active n k i with
    | none => false
    | some p => (List.range i).any fun j =>
      match s.slotProf active n k j with
      | some q => pwAlike (s.profWords active p) (s.profWords active q)
      | none => false).foldl (fun a i => a + 2 ^ i) 0

/-- The active assignments with their SHADOW bits; APPLYSTAT.SHADOW where an applied channel has one. -/
def markShadows (s : State) (chains : Nat) : State :=
  (List.range 8).foldl (fun (s : State) n =>
    (List.range (s.planN active n)).foldl (fun s k =>
      if s.rf (Reg.CHZ_ASSIGN_A (64 * n + k)) 19 16 = 0 then s.wf (Reg.CHZ_ASSIGN_A (64 * n + k)) 23 20 0
      else
        let b := shadowBits s n k
        let s := s.wf (Reg.CHZ_ASSIGN_A (64 * n + k)) 23 20 b
        if b ≠ 0 ∧ chains.testBit n then s.wb Reg.CHZ_APPLYSTAT 2 true else s) s) s

/-- The occupancy count in progress is discarded (R114). -/
def State.dropOcc (s : State) : State := { s with chz := { s.chz with occ := [], occFrom := none } }

/-- Chain n's staged plan and assignments become active; the chain retunes where C, S or the raster changed (R105). -/
def applyChain (s : State) (n : Nat) : State :=
  let changed := s.planC 0 n != s.planC active n || s.planS 0 n != s.planS active n || s.planD 0 n != s.planD active n
  let s := copyWords s (Reg.CHZ_PCENTRE n) (Reg.CHZ_PCENTRE_A n) 4
  let cnt := s.planN active n
  let m := s.planMask active n % 2 ^ cnt
  let s := (s.wr (Reg.CHZ_PMASKLO_A n) (word m)).wr (Reg.CHZ_PMASKHI_A n) (word (m / 2 ^ 32))
  let s := copyWords s (Reg.CHZ_ASSIGN (64 * n)) (Reg.CHZ_ASSIGN_A (64 * n)) 64
  if changed then loadRxlo s n else s

/-- The active copy changes (R105, R121, R123). -/
def applyCommit (s : State) (p : PendApply) : State :=
  let old : OldEpoch := { num := s.epoch, at_ := p.at_, fence := p.at_ + (s.rd Reg.CHZ_FENCE).toNat }
  let s := (List.range 8).foldl (fun s n => if p.chains.testBit n then applyChain s n else s) s
  let s := if p.prof then copyWords s (Reg.CHZ_PROF_CFG 0) (Reg.CHZ_PROF_CFG_A 0) 128 else s
  let s := markShadows s p.chains
  let s := { s with chz := { s.chz with apply := none, epochs := s.chz.epochs ++ [old] } }
  let s := (s.wf Reg.CHZ_EPOCH 15 0 (s.epoch + 1)).emit [15]
  drainEpochs s.dropOcc

/-- The apply instant of the pending apply (R104, R105). -/
def applyInstant (s : State) : State :=
  match s.chz.apply with
  | none => s
  | some p =>
    if s.slate < p.at_ then s
    else
      match s.applyFault p.chains p.prof with
      | some f => applyRefused { s with chz := { s.chz with apply := none } } f
      | none => applyCommit s p

/-! ### Detection (R107-R110, R116) -/

/-- Profile p is enabled and not shadowed on channel k of chain n. -/
def State.searched (s : State) (n k p : Nat) : Bool :=
  (s.planMask active n).testBit k && decide (k < s.planN active n)
    && (List.range 4).any fun i =>
      s.slotProf active n k i == some p && !(s.rf (Reg.CHZ_ASSIGN_A (64 * n + k)) 23 20).testBit i

/-- The search for profile p on channel k of chain n is parked at a stamp (R109). -/
def State.parked (s : State) (n k p stamp : Nat) : Bool :=
  (s.lnk.takes.any fun t => t.2.chain == n && t.2.ch == k && t.2.prof == p)
    || (match s.lnk.parked.find (16 * (64 * n + k) + p) with
      | some r => decide (stamp < 8 * (r + 1))
      | none => false)

/-- The floor of a branch, in 1/16 dBm. -/
def State.floor (s : State) (c : Nat) (b : Bool) : Int :=
  sext 16 (if b then s.rf (Reg.CHZ_FLOOR c) 31 16 else s.rf (Reg.CHZ_FLOOR c) 15 0)

/-- A power in 1/100 dBm reaches a level in 1/16 dBm. -/
def reaches (p lvl : Int) : Bool := decide (100 * lvl ≤ 16 * p)

/-- A received word matches a sync word within the tolerated errors (R108). -/
def syncMatch (bits sync len err : Nat) : Bool :=
  len != 0 && decide (((List.range len).filter fun i => bits.testBit i != sync.testBit i).length ≤ err)

/-- The RSSI raw value of a power in 1/100 dBm (R148), as an octet. -/
def rssiRaw (p : Int) : Nat := toU 8 (clampI (-127) 127 (Int.fdiv (2 * (p + 7000) + 50) 100))

/-- The conditions of R107, R109 and R110 at the stamp: the profile is searched on that branch of that channel. -/
def State.detectable (s : State) (d : Detected) : Bool :=
  let n := d.chain
  let c := s.chain n
  let before (t : Option Nat) : Bool := match t with | some t => decide (d.stamp < 8 * t) | none => true
  c.on && c.upAt.isNone && s.detects n && s.searched n d.ch d.prof && (!d.onB || s.rb (Reg.RFC_CTL n) 8)
    && !s.outAt n d.stamp && c.fresh.isNone && before s.draining && before (c.cal.map (·.since))
    && !s.parked n d.ch d.prof d.stamp

/-- The sync word found: some false for SYNC0, some true for SYNC1; none where the conditions of R108 do not hold.
DEDUCED (unsafe), log entry 47. -/
def State.detectSync (s : State) (d : Detected) : Option Bool :=
  let w := s.profWords active d.prof
  let power := if d.onB then d.powerB else d.powerA
  if d.preamble < 16 ∨ !reaches power (s.floor (64 * d.chain + d.ch) d.onB + 8 * pwTh w) then none
  else if syncMatch d.bits (pwSync0 w) (pwLen0 w) (pwSyncErr w) then some false
  else if syncMatch d.bits (pwSync1 w) (pwLen1 w) (pwSyncErr w) then some true
  else none

/-- The order of allocation (R117). -/
def detLe (a b : Det) : Bool :=
  decide (a.stamp < b.stamp) || (a.stamp == b.stamp && (decide (a.chain < b.chain)
    || (a.chain == b.chain && (decide (a.ch < b.ch) || (a.ch == b.ch && decide (a.prof ≤ b.prof))))))

/-- The later of two branch detections of one frame (R116): the stamps lie within one symbol period, and the standing one is
earlier, or equal on branch A. -/
def sameFrame (rate a b : Nat) : Bool := decide ((max a b - min a b) * rate ≤ 256000000)

/-- A detection (R108-R110, R115, R116).
DEDUCED (unsafe), log entry 48. -/
def detect (s : State) (d : Detected) : State :=
  if !s.detectable d then s
  else
    match s.detectSync d with
    | none => s
    | some sync1 =>
      let key := 16 * (64 * d.chain + d.ch) + d.prof
      let rate := pwRate (s.profWords active d.prof)
      let brb := s.rb (Reg.RFC_CTL d.chain) 8
      let det : Det := { stamp := d.stamp, chain := d.chain, ch := d.ch, prof := d.prof, onB := d.onB,
                         word := tuneWord (s.chanHz active d.chain d.ch), sync1 := sync1,
                         rssiA := rssiRaw d.powerA, rssiB := if brb then rssiRaw d.powerB else 0x80 }
      let stand (s : State) : State :=
        let others := s.chz.dets.filter fun e => !(e.chain == d.chain && e.ch == d.ch && e.prof == d.prof)
        { s with chz := { s.chz with dets := insertBy detLe det others, last := s.chz.last.put key (d.stamp, d.onB) } }
      match s.chz.last.find key with
      | some (t, b) =>
        if b ≠ d.onB ∧ sameFrame rate t d.stamp then
          if d.stamp < t ∨ (d.stamp = t ∧ !d.onB) then stand s else s
        else stand s
      | none => stand s

/-! ### Allocation (R117-R119, R155) -/

/-- The 32 octets of demodulator d's take record. -/
def State.trec (s : State) (d : Nat) : List Nat := (List.range 8).flatMap fun i => octs (bytesLE 4 (s.rd (Reg.DMD_TREC d i)).toNat)

/-- The state with demodulator d's take record set.
DEDUCED (unsafe), log entry 49. -/
def State.setTrec (s : State) (d : Nat) (r : List Nat) : State :=
  (List.range 8).foldl (fun s i => s.wr (Reg.DMD_TREC d i) (word (natLE (ofOcts ((r.drop (4 * i)).take 4))))) s

/-- `v` as `k` octets at offset `o` of a record. -/
def setOcts (r : List Nat) (o k v : Nat) : List Nat := r.take o ++ octs (bytesLE k v) ++ r.drop (o + k)

/-- Demodulator d is free for a detection stamped `stamp` (R118). -/
def State.demodFree (s : State) (d stamp : Nat) : Bool :=
  (s.lnk.takes.find d).isNone && decide (8 * s.lnk.freeAt.get d 0 ≤ stamp)

/-- The take of a detection at its allocation: the record's first stage (R155), and what is latched (R101): the profile as the
table holds it at the allocation, and the channel centre of the detection.
DESIGN CHOICE (unsafe), log entry 92. DEDUCED (unsafe), log entry 48. DEDUCED (unsafe), log entry 49. -/
def allocate (s : State) (d : Nat) (x : Det) : State :=
  let nob := x.rssiB == 0x80
  let onB := !nob && decide (sext 8 x.rssiA < sext 8 x.rssiB)
  let ep := s.epochOf x.stamp
  let r := setOcts (s.trec d) 0 8 x.stamp
  let r := setOcts (setOcts (setOcts r 8 1 x.chain) 9 1 x.ch) 10 1 x.prof
  let r := setOcts r 11 1 (nfld (r.getD 11 0) 5 2 * 4 + b2n onB + 2 * b2n nob + 64 * b2n x.sync1)
  let r := setOcts (setOcts (setOcts r 12 1 x.rssiA) 13 1 x.rssiB) 28 2 ep
  let t : Take := { stamp := x.stamp, chain := x.chain, ch := x.ch, prof := x.prof, pw := s.profWords active x.prof,
                    word := x.word, epoch := ep }
  let t := match x.cut with | some i => { t with outcome := some 8, endAt := i, eof := x.stamp } | none => t
  let s : State := { (s.setTrec d r).putWord 12 (demodWord d) (t.stamp % 2 ^ 64) with lnk := { s.lnk with takes := s.lnk.takes.put d t } }
  let n := s.lnk.takes.length
  if s.rf Reg.DMD_STAT 23 16 < n then s.wf Reg.DMD_STAT 23 16 n else s

/-- The allocation decision for the first waiting detection, 64 ticks after its stamp (R117-R119). -/
def allocateNext (s : State) : State :=
  match s.chz.dets with
  | [] => s
  | x :: rest =>
    if 8 * s.slate < x.stamp + 512 then s
    else
      let free := lowest 192 fun d => s.demodFree d x.stamp
      let s := { s with chz := { s.chz with dets := rest } }
      match free with
      | some d => allocate s d x
      | none =>
        drainEpochs (((s.inc (Reg.DMD_CNT 6)).inc (Reg.DMD_POOL_MISS (64 * x.chain + x.ch))).emit [20, 220])

/-- The parked search of profile p on channel k of chain n resumes in the tick after the release (R109). -/
def resumeSearch (s : State) (n k p : Nat) : State :=
  let key := 16 * (64 * n + k) + p
  match s.lnk.parked.find key with
  | some r => if r < s.slate then { s with lnk := { s.lnk with parked := s.lnk.parked.del key } } else s
  | none => s

/-! ### Noise floors and occupancy (R111-R114) -/

/-- A window of ticks a to before b overlaps a take on channel c, from its stamp to its release; a detection that waits for its
allocation counts as one.
DESIGN CHOICE (unsafe), log entry 106. -/
def State.takeOverlaps (s : State) (n k a b : Nat) : Bool :=
  (s.lnk.takes.any fun t => t.2.chain == n && t.2.ch == k && decide (t.2.stamp < 8 * b))
    || (s.chz.dets.any fun d => d.chain == n && d.ch == k && decide (d.stamp < 8 * b))
    || (match s.chz.took.find (64 * n + k) with | some r => decide (a < r) | none => false)

/-- One branch's floor at the end of a window of power w (R112, R113).
DEDUCED (unsafe), log entry 43. -/
def floorNext (first : Bool) (slow : Bool) (f w : Int) : Int :=
  if first then w else if w ≤ f then f - Int.fdiv (f - w) 4 else if slow then f + 1 else f

/-- The window that ends in the present tick on chain n, with power per channel and branch (R111-R114). A window that a loss of
lock overlaps is excluded as one with a blank is; the first window of R113 is one on which no channel of the chain has a take,
and it sets every floor of the chain; branch B's floors stand while BRB is 0, and its return starts no new first window.
DESIGN CHOICE (unsafe), log entry 92. DEDUCED (unsafe), log entry 43. -/
def noiseWindow (s : State) (n : Nat) (pa pb : List Int) : State :=
  if !s.passes 32000 ∨ s.slate < 32000 ∨ !s.receiving n then s
  else
    let a := s.slate - 32000
    let cnt := s.planN active n
    let out := s.outOverlaps n a s.slate
    let brb := s.rb (Reg.RFC_CTL n) 8
    let first := match (s.chain n).fresh with
      | some t => decide (t ≤ a) && !out && (List.range cnt).all fun k => !s.takeOverlaps n k a s.slate
      | none => false
    let th := 8 * s.rf Reg.CHZ_SURVINT 23 16
    let s' := (List.range cnt).foldl (fun (t : State) k =>
      let c := 64 * n + k
      let wa := pa.getD k 0
      let wb := pb.getD k 0
      let fa := s.floor c false
      let fb := s.floor c true
      let counted := !out && s.chz.occFrom.isSome && (s.scans n || (s.planMask active n).testBit k)
        && (decide (fa + th ≤ wa) || (brb && decide (fb + th ≤ wb)))
      let t := if counted then { t with chz := { t.chz with occ := t.chz.occ.put c (t.chz.occ.get c 0 + 1) } } else t
      if out || s.takeOverlaps n k a s.slate || ((s.chain n).fresh.isSome && !first) then t
      else
        let slow := a / 32000 % 16 == 0
        let t := t.wf (Reg.CHZ_FLOOR c) 15 0 (toU 16 (floorNext first slow fa wa))
        if brb then t.wf (Reg.CHZ_FLOOR c) 31 16 (toU 16 (floorNext first slow fb wb)) else t) s
    if first then s'.setChain n { s'.chain n with fresh := none } else s'

/-- A survey interval's length in ticks. -/
def State.survTicks (s : State) : Nat := 32000 * s.rf Reg.CHZ_SURVINT 15 0

/-- Channels may be searched or scanned (R107, R114): the device operates or surveys, or a chain receives in loopback. -/
def State.surveys (s : State) : Bool := s.operating || s.mode == 6 || (s.loopMode && (List.range 8).any s.receiving)

/-- A slate value that is a multiple of the survey interval (R114): a count that ran through a whole interval is stored, and
a new one starts. -/
def surveyEnd (s : State) : State :=
  if s.survTicks = 0 ∨ s.slate % s.survTicks ≠ 0 ∨ !s.surveys then s
  else
    let done := s.chz.occFrom == some (s.slate - s.survTicks) && decide (s.survTicks ≤ s.slate)
    let s' := if done then
        ((List.range 512).foldl (fun (t : State) c =>
          let n := c / 64
          if s.receiving n ∧ c % 64 < s.planN active n ∧ (s.scans n ∨ (s.planMask active n).testBit (c % 64)) then
            t.wr (Reg.CHZ_OCC c) (word (s.chz.occ.get c 0)) else t) s).emit [18]
      else s
    { s' with chz := { s'.chz with occ := [], occFrom := some s.slate } }

/-! ### Registers and commands -/

/-- A write to a register of CHZ. -/
def chzBusWrite (s : State) (a : Nat) (v : Word) : State :=
  if a = Reg.CHZ_APPLY then
    let s := s.plainWrite a v
    if bit v 31 then applyGo s else s
  else if a = Reg.CHZ_SURVINT then
    if 120 < fld v 23 16 ∨ fld v 15 0 = 0 then s else s.plainWrite a v
  else if Reg.CHZ_PCFG 0 ≤ a ∧ a ≤ Reg.CHZ_PCFG 7 ∧ (a - Reg.CHZ_PCFG 0) % 0x20 = 0 then
    s.plainWrite a (if 4 < fld v 2 0 then setFld v 2 0 (s.rf a 2 0) else v)
  else s.plainWrite a v

/-- The registers of CHZ that show a state. -/
def State.chzView (s : State) (a : Nat) : Word :=
  if a = Reg.CHZ_APPLYSTAT then s.rd a ||| word (2 * b2n s.chz.apply.isSome)
  else if a = Reg.CHZ_OLDEP then
    let n := (s.lnk.takes.filter fun t => t.2.epoch != s.epoch).length
    word (65536 * (if n = 0 then s.epoch else ((s.chz.epochs.head?.map (·.num)).getD s.epoch)) + n)
  else if Reg.CHZ_PCFG 0 ≤ a ∧ a ≤ Reg.CHZ_PCFG 7 ∧ (a - Reg.CHZ_PCFG 0) % 0x20 = 0 then
    setFld (s.rd a) 14 8 (s.planN 0 ((a - Reg.CHZ_PCFG 0) / 0x20))
  else if Reg.CHZ_PCFG_A 0 ≤ a ∧ a ≤ Reg.CHZ_PCFG_A 7 ∧ (a - Reg.CHZ_PCFG_A 0) % 0x20 = 0 then
    setFld (s.rd a) 14 8 (s.planN active ((a - Reg.CHZ_PCFG_A 0) / 0x20))
  else s.rd a

/-- The registers of DMD that show a state. -/
def State.dmdView (s : State) (a : Nat) : Word :=
  if a = Reg.DMD_STAT then s.rd a ||| word s.lnk.takes.length
  else if Reg.DMD_BUSY 0 ≤ a ∧ a ≤ Reg.DMD_BUSY 5 then
    let j := (a - Reg.DMD_BUSY 0) / 4
    word ((s.lnk.takes.filter fun t => t.1 / 32 == j).foldl (fun m t => m + 2 ^ (t.1 % 32)) 0)
  else s.rd a

/-- HIWATER takes the present INUSE. -/
def clearHighWater (s : State) : State := s.wf Reg.DMD_STAT 23 16 s.lnk.takes.length

/-- A write to a register of DMD. -/
def dmdBusWrite (s : State) (a : Nat) (v : Word) : State :=
  if a = Reg.DMD_CTL then if bit v 0 then clearHighWater s else s else s.plainWrite a v

/-- APPLY_GO (R103, R104): a write of CHZ.APPLY with GO = 1. -/
def execApplyGo (val : Word) (s : State) : Out := ok (bit val 31) (s.onMain (chzBusWrite s Reg.CHZ_APPLY val))

/-- APPLY_INSTANT (R104, R105). -/
def execApplyInstant (s : State) : Out := .next (applyInstant s)

/-- DETECTION (R108). -/
def execDetection (d : Detected) (s : State) : Out := ok (d.chain < 8 ∧ d.ch < 64 ∧ d.prof < 16) (detect s d)

/-- DEMOD_ALLOCATION (R117). -/
def execDemodAllocation (s : State) : Out := .next (allocateNext s)

/-- PROFILE_SEARCH_RESUME (R109). -/
def execProfileSearchResume (chain k p : Nat) (s : State) : Out :=
  ok (chain < 8 ∧ k < 64 ∧ p < 16) (resumeSearch s chain k p)

/-- NOISE_WINDOW_END (R112): the powers of the channels of chain n on both branches, in 1/16 dBm. -/
def execNoiseWindowEnd (n : Nat) (powerA powerB : List Int) (s : State) : Out := ok (n < 8) (noiseWindow s n powerA powerB)

/-- SURVEY_INTERVAL_END (R114). -/
def execSurveyIntervalEnd (s : State) : Out := .next (surveyEnd s)

/-- CLEAR_HIGH_WATER (R164): a write of DMD.CTL.CLRHW. -/
def execClearHighWater (s : State) : Out := .next (s.onMain (clearHighWater s))

end Sys2Proof.Machine
end

