-- ==== Sys2Proof/Machine/DictTypes.lean ====
section
/-! DEFINITION. The value types of the object dictionary (spec/19_object_dictionary.md, R466, R467, R489). -/

namespace Sys2Proof.Machine

/-- A type of R466. -/
inductive DTy where
  | bool
  | u8
  | u16
  | u32
  | u64
  | s8
  | s16
  | s32
  | s64
  | slate
  | date
  | string (n : Nat)
  | octets (n : Nat)
  | enum
  /-- Qm.n, with m + n bits. -/
  | q (bits n : Nat)
  | action
  deriving DecidableEq, Repr

/-- The type code. -/
def DTy.code : DTy → Nat
  | .bool => 1
  | .u8 => 2
  | .u16 => 3
  | .u32 => 4
  | .u64 => 5
  | .s8 => 6
  | .s16 => 7
  | .s32 => 8
  | .s64 => 9
  | .slate => 10
  | .date => 11
  | .string _ => 12
  | .octets _ => 13
  | .enum => 14
  | .q _ _ => 15
  | .action => 16

/-- Octets of a value; 0 for an ACTION. -/
def DTy.size : DTy → Nat
  | .bool => 1
  | .u8 => 1
  | .u16 => 2
  | .u32 => 4
  | .u64 => 8
  | .s8 => 1
  | .s16 => 2
  | .s32 => 4
  | .s64 => 8
  | .slate => 8
  | .date => 7
  | .string n => n
  | .octets n => n
  | .enum => 1
  | .q b _ => b / 8
  | .action => 0

/-- Two's-complement types (R466, R9). -/
def DTy.signed : DTy → Bool
  | .s8 => true
  | .s16 => true
  | .s32 => true
  | .s64 => true
  | .q _ _ => true
  | _ => false

/-- Types whose value is one number. -/
def DTy.numeric : DTy → Bool
  | .date => false
  | .string _ => false
  | .octets _ => false
  | .action => false
  | _ => true

/-- The type with a code, a size in octets and the n of a Qm.n type; any other code is a plain octet string. -/
def DTy.ofCode (code size n : Nat) : DTy :=
  match code with
  | 1 => .bool
  | 2 => .u8
  | 3 => .u16
  | 4 => .u32
  | 5 => .u64
  | 6 => .s8
  | 7 => .s16
  | 8 => .s32
  | 9 => .s64
  | 10 => .slate
  | 11 => .date
  | 12 => .string size
  | 14 => .enum
  | 15 => .q (8 * size) n
  | 16 => .action
  | _ => .octets size

/-- The name of type code tt (OD 0x00tt.02). -/
def typeName (tt : Nat) : String :=
  ["BOOL", "U8", "U16", "U32", "U64", "S8", "S16", "S32", "S64", "SLATE", "DATE", "STRING", "OCTETS", "ENUM", "Qm.n",
    "ACTION"].getD (tt - 1) ""

/-- The size of type code tt, 0 for the variable types (OD 0x00tt.01). -/
def typeSize (tt : Nat) : Nat := if tt = 12 ∨ tt = 13 ∨ tt = 15 then 0 else (DTy.ofCode tt 0 0).size

/-- A number in the octets of a type, least significant first. -/
def DTy.enc (t : DTy) (v : Int) : List Nat := le t.size (toU (8 * t.size) v)

/-- The number that octets hold in a type. -/
def DTy.dec (t : DTy) (v : List Nat) : Int :=
  if t.signed then sext (8 * t.size) (field v 0 t.size) else (field v 0 t.size : Nat)

/-- The smallest and the largest number of a type.
DESIGN CHOICE (unsafe), log entry 69. -/
def DTy.bounds (t : DTy) : Int × Int :=
  if t = .bool then (0, 1)
  else if t.signed then (-((2 ^ (8 * t.size - 1) : Nat) : Int), ((2 ^ (8 * t.size - 1) : Nat) : Int) - 1)
  else if t.numeric then (0, ((2 ^ (8 * t.size) : Nat) : Int) - 1)
  else match t with
    | .action => (0, 0)
    | _ => (0, (t.size : Nat))

/-- Valid UTF-8: `need` continuation octets are awaited, the next one within [lo, hi]. -/
def utf8From : Nat → Nat → Nat → List Nat → Bool
  | need, _, _, [] => need == 0
  | 0, _, _, b :: t =>
    if b < 0x80 then utf8From 0 0x80 0xBF t
    else if 0xC2 ≤ b ∧ b ≤ 0xDF then utf8From 1 0x80 0xBF t
    else if b = 0xE0 then utf8From 2 0xA0 0xBF t
    else if b = 0xED then utf8From 2 0x80 0x9F t
    else if 0xE1 ≤ b ∧ b ≤ 0xEF then utf8From 2 0x80 0xBF t
    else if b = 0xF0 then utf8From 3 0x90 0xBF t
    else if 0xF1 ≤ b ∧ b ≤ 0xF3 then utf8From 3 0x80 0xBF t
    else if b = 0xF4 then utf8From 3 0x80 0x8F t
    else false
  | n + 1, lo, hi, b :: t => decide (lo ≤ b) && decide (b ≤ hi) && utf8From n 0x80 0xBF t

/-- A string without a zero octet before a non-zero one, in valid UTF-8 (R467). -/
def stringOk (v : List Nat) : Bool :=
  ((v.dropWhile fun b => b != 0).all fun b => b == 0) && utf8From 0 0x80 0xBF v

/-- The length and the encoding of a written value are right for its type (R467). -/
def DTy.fits (t : DTy) (v : List Nat) : Bool :=
  match t with
  | .string n => decide (v.length ≤ n) && stringOk v
  | _ => v.length == t.size

/-- The value padded with zeros to its type's size (R467). -/
def DTy.pad (t : DTy) (v : List Nat) : List Nat := v ++ List.replicate (t.size - v.length) 0

/-- A date and time in the octets of a DATE (R466). -/
def octs7 (y mo d h mi sec : Nat) : List Nat := le 2 y ++ [mo, d, h, mi, sec]

/-- The rights of a role in the rights octet of R482: bit 0 read, bit 1 write or invoke. -/
def rightOf (rights role bit : Nat) : Bool := rights.testBit (2 * role + bit)

end Sys2Proof.Machine
end

