-- ==== Sys2Proof/Machine/Calendar.lean ====
section
/-! DEFINITION. The calendar and the backup domain (spec/15_calendar.md): the count, the freeze, the commit, the trim,
wakes, alarms and captures, and writes of the CAL registers. -/

namespace Sys2Proof.Machine

/-- A Gregorian leap year of 2000-2399 (R385). -/
def leapYear (y : Nat) : Bool := y % 4 == 0 && (y % 100 != 0 || y % 400 == 0)

/-- The length of month `m` (R385). -/
def monthLength (y m : Nat) : Nat :=
  match m with
  | 2 => if leapYear y then 29 else 28
  | 4 => 30
  | 6 => 30
  | 9 => 30
  | 11 => 30
  | _ => 31

/-- A date and time of the calendar (R384). -/
structure CalTime where
  year : Nat
  month : Nat
  day : Nat
  hour : Nat
  min : Nat
  sec : Nat
  deriving DecidableEq, Repr

/-- Days from 2000-01-01 to the date. -/
def calDays (y m d : Nat) : Nat :=
  let k := y - 2000
  365 * k + ((k + 3) / 4 - (k + 99) / 100 + (k + 399) / 400)
    + ((List.range (m - 1)).map fun i => monthLength y (i + 1)).foldl (· + ·) 0 + (d - 1)

/-- The day of the week, 1 Monday to 7 Sunday (R386). -/
def calDow (y m d : Nat) : Nat := (calDays y m d + 5) % 7 + 1

/-- Seconds since 2000-01-01 00:00:00. -/
def CalTime.seconds (t : CalTime) : Nat :=
  calDays t.year t.month t.day * 86400 + t.hour * 3600 + t.min * 60 + t.sec

/-- The second that follows (R384, R385). -/
def CalTime.next (t : CalTime) : CalTime :=
  if t.sec < 59 then { t with sec := t.sec + 1 }
  else if t.min < 59 then { t with sec := 0, min := t.min + 1 }
  else if t.hour < 23 then { t with sec := 0, min := 0, hour := t.hour + 1 }
  else
    let t := { t with sec := 0, min := 0, hour := 0 }
    if t.day < monthLength t.year t.month then { t with day := t.day + 1 }
    else if t.month < 12 then { t with day := 1, month := t.month + 1 }
    else if t.year < 2399 then { t with day := 1, month := 1, year := t.year + 1 }
    else { t with day := 1, month := 1, year := 2000 }

/-- The date and time may be committed (R390). -/
def CalTime.valid (t : CalTime) : Bool :=
  decide (t.sec ≤ 59) && decide (t.min ≤ 59) && decide (t.hour ≤ 23) && decide (1 ≤ t.month) && decide (t.month ≤ 12)
    && decide (2000 ≤ t.year) && decide (t.year ≤ 2399) && decide (1 ≤ t.day)
    && decide (t.day ≤ monthLength t.year t.month)

/-- Date and time from words in the layout of TIME, DATE and YEAR. -/
def calTimeOf (time date year : Word) : CalTime :=
  { year := fld year 11 0, month := fld date 11 8, day := fld date 4 0, hour := fld time 20 16, min := fld time 13 8,
    sec := fld time 5 0 }

/-- The calendar's present date and time. -/
def State.calNow (s : State) : CalTime := calTimeOf (s.rd Reg.CAL_TIME) (s.rd Reg.CAL_DATE) (s.rd Reg.CAL_YEAR)

/-- The staged date and time (R390). -/
def State.calStaged (s : State) : CalTime := calTimeOf (s.rd Reg.CAL_STIME) (s.rd Reg.CAL_SDATE) (s.rd Reg.CAL_SYEAR)

/-- The state with the calendar's date, time and sub-second set; DOW is computed (R386). -/
def State.setCal (s : State) (t : CalTime) (sub : Nat) : State :=
  let s := s.wr Reg.CAL_TIME (word (t.hour * 65536 + t.min * 256 + t.sec))
  let s := s.wr Reg.CAL_DATE (word (calDow t.year t.month t.day * 16777216 + t.month * 256 + t.day))
  (s.wr Reg.CAL_YEAR (word t.year)).wr Reg.CAL_SUBSEC (word sub)

/-- The calendar's present value is one that the periodic wake fires at (R396). -/
def State.wakeQualifies (s : State) : Bool :=
  let c := s.rd Reg.CAL_WAKECFG
  let sub := s.rf Reg.CAL_SUBSEC 14 0
  bit c 31 &&
    if bit c 30 then sub % (128 * 2 ^ fld c 26 24) == 0
    else sub == 0 && s.calNow.seconds % fld c 16 0 == 0

/-- The calendar's present value is one that the alarm fires at (R397). -/
def State.alarmQualifies (s : State) : Bool :=
  let t := s.rd Reg.CAL_ALMTIME
  let d := s.rd Reg.CAL_ALMDATE
  let now := s.calNow
  bit t 31 && s.rf Reg.CAL_SUBSEC 14 0 == 0
    && (bit t 28 || fld t 5 0 == now.sec) && (bit t 29 || fld t 13 8 == now.min) && (bit t 30 || fld t 20 16 == now.hour)
    && (bit d 28 || fld d 4 0 == now.day) && (bit d 29 || fld d 11 8 == now.month)
    && (bit d 30 || fld d 26 24 == s.rf Reg.CAL_DATE 26 24)

/-- The periodic wake (R398): WAKEF, and outside BACKUP the cue CAL.WAKE. -/
def calWake (s : State) : State := (s.wb Reg.CAL_STAT 11 true).emit [6, 213]

/-- The alarm (R398): ALARMF, and outside BACKUP the cue CAL.ALARM. -/
def calAlarm (s : State) : State := (s.wb Reg.CAL_STAT 10 true).emit [7, 214]

/-- The end of a 1,024 s window (R539): where SYN stayed LOCKED throughout, SUP.XTAL takes the crystal's error in 2^-16 ppm
from the crystal periods counted against the slate, and SUP.XTALTRIM the trim that cancels it. The next window begins. -/
def xtalWindow (s : State) : State :=
  let d := s.slate - s.cal.winTick
  let e := rdiv (((s.cal.winEdges * 32000000 : Nat) - (32768 * d : Nat) : Int) * 2000000) d
  let t := if s.cal.winOk && decide (0 < d) then
      (s.wr Reg.SUP_XTAL (word (toU 32 e))).wr Reg.SUP_XTALTRIM (word (toU 13 (clampI (-4095) 4095 (rdiv (-e * 512) 1000000))))
    else s
  { t with cal := { t.cal with winTick := s.slate, winEdges := 0, winOk := s.rb Reg.SYN_STAT 0 } }

/-- A trim window starts: the written PULSES come into force (R395). -/
def calTrimWindow (s : State) : State := s.wf Reg.CAL_TRIM 28 16 (s.rf Reg.CAL_TRIM 12 0)

/-- The calendar stands at the start of a 1,024 s window (R395). -/
def State.atTrimWindow (s : State) : Bool := s.rf Reg.CAL_SUBSEC 14 0 == 0 && s.calNow.seconds % 1024 == 0

/-- The calendar stands at 2399-12-31 23:59:59.32767 (R385). -/
def State.calLast (s : State) : Bool :=
  s.rf Reg.CAL_SUBSEC 14 0 == 32767 && s.calNow == { year := 2399, month := 12, day := 31, hour := 23, min := 59, sec := 59 }

/-- One step of the sub-second count with its carries (R384, R385). -/
def calMove (s : State) : State :=
  let t := if s.rf Reg.CAL_SUBSEC 14 0 < 32767 then s.wr Reg.CAL_SUBSEC (word (s.rf Reg.CAL_SUBSEC 14 0 + 1))
    else s.setCal s.calNow.next 0
  if s.calLast then t.wb Reg.CAL_STAT 3 true else t

/-- One step, and what it moves into: a trim window, a wake, an alarm. -/
def calStep (s : State) : State :=
  let s := calMove s
  let s := if s.atTrimWindow then calTrimWindow (xtalWindow s) else s
  let s := if s.wakeQualifies then calWake s else s
  if s.alarmQualifies then calAlarm s else s

/-- The number of corrections of second j of a window at trim magnitude T (R395). -/
def trimCorrections (T j : Nat) : Nat := (j + 1) * T / 1024 - j * T / 1024

/-- The step into sub-second value `v` carries a correction in the present second (R395). -/
def State.trimAt (s : State) (v : Nat) : Bool :=
  let k := trimCorrections (sext 13 (s.rf Reg.CAL_TRIM 28 16)).natAbs (s.calNow.seconds % 1024)
  (List.range k).any fun i => v == 16384 + 4096 * i

/-- The steps of a crystal edge: one, two for an added pulse, none for a skipped one (R395). -/
def State.calSteps (s : State) : Nat :=
  if s.trimAt (s.rf Reg.CAL_SUBSEC 14 0 + 1) then
    if sext 13 (s.rf Reg.CAL_TRIM 28 16) < 0 then b2n s.cal.skipped else 2
  else 1

/-- The count's part of a crystal edge (R395). -/
def calCount (s : State) : State :=
  let n := s.calSteps
  (List.range n).foldl (fun (s : State) _ => calStep s) { s with cal := { s.cal with skipped := n == 0 } }

/-- The states that the steps of a crystal edge move the count into. -/
def State.calMoves (s : State) : List State :=
  match s.calSteps with
  | 0 => []
  | 1 => [calMove s]
  | _ => [calMove s, calMove (calMove s)]

/-- A commit at its edge (R390): refused whole with BADDATE, or the staged values with SUBSEC 0, OSF cleared, and LBV
cleared unless VBATLOW is 1. CPEND clears.
DEDUCED (unsafe), log entry 20. -/
def calCommit (s : State) : State :=
  let s := s.wb Reg.CAL_STAT 8 false
  if s.calStaged.valid then
    let s := (s.setCal s.calStaged 0).wb Reg.CAL_STAT 0 false
    let s := { s with cal := { s.cal with skipped := false, set := true, winOk := false } }
    if s.rb Reg.CAL_STAT 9 then s else s.wb Reg.CAL_STAT 1 false
  else s.wb Reg.CAL_STAT 4 true

/-- A capture at its edge (R399). -/
def calCapture (s : State) : State :=
  let count := (s.calNow.seconds * 256 + s.rf Reg.CAL_SUBSEC 14 7) % 2 ^ 48
  let seq := (s.rf (Reg.CAL_CAPT 1) 31 16 + 1) % 65536
  (s.wr64 (Reg.CAL_CAPT 0) (seq * 2 ^ 48 + count)).wr64 (Reg.CAL_CAPSL 0) s.slateNow

/-- The fields of an alarm word that are not masked lie in their ranges (R397). -/
def almTimeOk (v : Word) : Bool :=
  (bit v 28 || decide (fld v 5 0 ≤ 59)) && (bit v 29 || decide (fld v 13 8 ≤ 59))
    && (bit v 30 || decide (fld v 20 16 ≤ 23))

/-- As `almTimeOk`, for ALMDATE. -/
def almDateOk (v : Word) : Bool :=
  (bit v 28 || (decide (1 ≤ fld v 4 0) && decide (fld v 4 0 ≤ 31)))
    && (bit v 29 || (decide (1 ≤ fld v 11 8) && decide (fld v 11 8 ≤ 12)))
    && (bit v 30 || (decide (1 ≤ fld v 26 24) && decide (fld v 26 24 ≤ 7)))

/-- WAKECFG may hold the value (R396). -/
def wakeCfgOk (v : Word) : Bool := bit v 30 || (decide (1 ≤ fld v 16 0) && decide (fld v 16 0 ≤ 86400))

/-- The value of a write with the register's own RW bits where the write carries none. -/
def State.calMerged (s : State) (w : CalWrite) : Word :=
  (w.val &&& w.mask) ||| (s.rd w.addr &&& word (regRW w.addr) &&& ~~~w.mask)

/-- A CAL register write taking effect at its crystal edge (R387).
DEDUCED (unsafe), log entry 20. -/
def calApply (s : State) (w : CalWrite) : State :=
  let w := { w with val := s.calMerged w }
  if w.addr = Reg.CAL_COMMIT then if bit w.val 0 then calCommit s else s
  else if w.addr = Reg.CAL_CAPCMD then if bit w.val 0 then calCapture s else s
  else if w.addr = Reg.CAL_TRIM then if fld w.val 12 0 = 4096 then s else s.plainWrite w.addr w.val
  else if w.addr = Reg.CAL_WAKECFG then
    if wakeCfgOk w.val then s.plainWrite w.addr w.val else s.wb Reg.CAL_STAT 6 true
  else if w.addr = Reg.CAL_ALMTIME then
    if almTimeOk w.val then s.plainWrite w.addr w.val else s.wb Reg.CAL_STAT 6 true
  else if w.addr = Reg.CAL_ALMDATE then
    if almDateOk w.val then s.plainWrite w.addr w.val else s.wb Reg.CAL_STAT 6 true
  else if w.addr = Reg.CAL_STAT then
    -- LBV can be cleared only while VBATLOW is 0 (R393).
    s.plainWrite w.addr (if s.rb Reg.CAL_STAT 9 then setFld w.val 1 1 0 else w.val)
  else s.plainWrite w.addr w.val

/-- The waiting writes take effect at a crystal edge, in their order (R387). -/
def calWrites (s : State) : State :=
  let e := s.cal.winEdges + 1
  let t := { s with cal := { s.cal with writes := [], idle := 0, stopped := false, set := false, winEdges := e } }
  s.cal.writes.foldl calApply t

/-- A crystal edge: the waiting writes, then the count advances unless an accepted commit set it at this edge (R387, R390, R391).
PRESUMED (unsafe), log entry 19. -/
def calEdge (s : State) : State :=
  let s := calWrites s
  if s.cal.set then s else calCount s

/-- The crystal's edge falls in the present tick, and has not come.
PRESUMED (unsafe), log entry 19. -/
def State.edgeDue (s : State) : Bool :=
  !s.cal.lost && s.cal.running && !s.cal.ticked && decide (32000000 ≤ s.cal.phase + s.cal.rate)

/-- The edge of the present tick moves the count into a state that `p` names; a commit moves it into none (R391). -/
def State.edgeInto (s : State) (p : State → Bool) : Bool :=
  let t := calWrites s
  s.edgeDue && !t.cal.set && t.calMoves.any p

/-- The crystal edge of the present tick comes now; the tick then has no second one.
PRESUMED (unsafe), log entry 19. -/
def calEdgeNow (s : State) : State :=
  calEdge { s with cal := { s.cal with phase := s.cal.phase + s.cal.rate - 32000000, ticked := true } }

/-- No crystal edge has come for 1 ms: OSF is set, and the stop counts in class 5 (R392, R542). -/
def oscStop (s : State) : State := ({ s with cal := { s.cal with stopped := true } }.wb Reg.CAL_STAT 0 true).violation 5

/-- The detector of R392 meets 32,000 ticks (1 ms) without an edge. -/
def State.oscStopDue (s : State) : Bool := !s.cal.lost && !s.cal.stopped && decide (32000 ≤ s.cal.idle)

/-- One slate tick of the crystal: an edge where its phase comes round, and else a tick without one, of which the detector
counts 1 ms (R392).
PRESUMED (unsafe), log entry 19. -/
def calTick (s : State) : State :=
  if s.cal.lost then s
  else if s.cal.ticked then { s with cal := { s.cal with ticked := false } }
  else
    let p := if s.cal.running then s.cal.phase + s.cal.rate else s.cal.phase
    if 32000000 ≤ p then calEdge { s with cal := { s.cal with phase := p - 32000000 } }
    else
      let t := { s with cal := { s.cal with phase := p, idle := s.cal.idle + 1 } }
      if t.oscStopDue then oscStop t else t

/-- The address lies in the backup SRAM, memory 13 (R400, R444). -/
def inBackup (a : Nat) : Bool := decide (Reg.CAL_BKRAM 0 ≤ a ∧ a < Reg.CAL_BKRAM 64)

/-- A write to a register of CAL by requester `req`: the backup SRAM at once (R400), every other register at the next crystal
edge, with CPEND from the write of a commit (R387, R390).
DEDUCED (unsafe), log entry 20. -/
def calBusWrite (s : State) (req a : Nat) (v : Word) (mask : Word := 0xFFFFFFFF) : State :=
  if inBackup a then (s.write req 13 (a - Reg.CAL_BKRAM 0) (bytesLE 4 v.toNat)).1
  else
    let s := if a = Reg.CAL_COMMIT ∧ bit (v &&& mask) 0 then s.wb Reg.CAL_STAT 8 true else s
    { s with cal := { s.cal with writes := s.cal.writes ++ [{ addr := a, val := v, mask := mask }] } }

/-- The freeze of a read of CAL.SUBSEC (R388); none where one is in force (R389).
DESIGN CHOICE (safe), log entry 83. -/
def calFreeze (s : State) : State :=
  if s.rb Reg.CAL_STAT 7 then s
  else
    { s.wb Reg.CAL_STAT 7 true with cal := { s.cal with
      shSub := s.rd Reg.CAL_SUBSEC, shTime := s.rd Reg.CAL_TIME, shDate := s.rd Reg.CAL_DATE, shYear := s.rd Reg.CAL_YEAR,
      freezeAt := some s.slate } }

/-- The end of a freeze. -/
def calUnfreeze (s : State) : State := { s.wb Reg.CAL_STAT 7 false with cal := { s.cal with freezeAt := none } }

/-- What a read of SUBSEC, TIME, DATE or YEAR returns: the shadow in a freeze, else the live value (R388, R389); a word of the
backup SRAM is read from its memory. -/
def State.calRead (s : State) (a : Nat) : Word :=
  if inBackup a then word (natLE ((List.range 4).map fun j => s.readByte 13 (a / 4 * 4 - Reg.CAL_BKRAM 0 + j)))
  else if s.rb Reg.CAL_STAT 7 then
    if a = Reg.CAL_SUBSEC then s.cal.shSub
    else if a = Reg.CAL_TIME then s.cal.shTime
    else if a = Reg.CAL_DATE then s.cal.shDate
    else if a = Reg.CAL_YEAR then s.cal.shYear
    else s.rd a
  else s.rd a

/-- The freeze in force has lasted 64,000 ticks (R389).
DEDUCED (unsafe), log entry 20. -/
def State.freezeDue (s : State) : Bool :=
  match s.cal.freezeAt with
  | some t => decide (t + 64000 ≤ s.slate)
  | none => false

/-- CAL_FREEZE (R388): a read of CAL.SUBSEC, which returns the live value or the shadow of the freeze in force. -/
def execCalFreeze (s : State) : Out := .next (s.onAon { calFreeze s with rdata := s.calRead Reg.CAL_SUBSEC })

/-- CAL_YEAR_READ (R388): a read of CAL.YEAR returns its shadow, or the live value outside a freeze, and ends a freeze. -/
def execCalYearRead (s : State) : Out := .next (s.onAon { calUnfreeze s with rdata := s.calRead Reg.CAL_YEAR })

/-- FREEZE_TIMEOUT (R389). -/
def execFreezeTimeout (s : State) : Out :=
  .next (if s.freezeDue then (calUnfreeze s).wb Reg.CAL_STAT 5 true else s)

/-- CAL_COMMIT (R390): a write of CAL.COMMIT.GO, which waits behind the writes before it for the next crystal edge (`calEdge`). -/
def execCalCommit (s : State) : Out := .next (s.onAon (calBusWrite s 5 Reg.CAL_COMMIT 1))

/-- CAL_CAPTURE (R399): a write of CAL.CAPCMD.CAPT, which waits for the next crystal edge. -/
def execCalCapture (s : State) : Out := .next (s.onAon (calBusWrite s 5 Reg.CAL_CAPCMD 1))

/-- CAL_WAKE (R396, R398): the crystal edge of the present tick, where it steps into a value that the periodic wake fires at. -/
def execCalWake (s : State) : Out := .next (if s.edgeInto State.wakeQualifies then calEdgeNow s else s)

/-- CAL_ALARM (R397, R398): the crystal edge of the present tick, where it steps into a second that the alarm matches. -/
def execCalAlarm (s : State) : Out := .next (if s.edgeInto State.alarmQualifies then calEdgeNow s else s)

/-- CALENDAR_WRAP (R385): the crystal edge of the present tick, where it steps from the last instant of 2399 into the first of 2000. -/
def execCalendarWrap (s : State) : Out :=
  .next (if s.edgeInto fun t => t.rf Reg.CAL_SUBSEC 14 0 == 0 && t.calNow == ⟨2000, 1, 1, 0, 0, 0⟩ then calEdgeNow s else s)

/-- TRIM_WINDOW_START (R395): the crystal edge of the present tick, where it steps into the start of a window. -/
def execTrimWindowStart (s : State) : Out := .next (if s.edgeInto State.atTrimWindow then calEdgeNow s else s)

/-- XTAL_WINDOW_END (R539): the same edge, which ends the window before. -/
def execXtalWindowEnd (s : State) : Out := .next (if s.edgeInto State.atTrimWindow then calEdgeNow s else s)

/-- OSC_STOP_DETECT (R392, R542): the crystal stops, or stands still, and with it the count; once no edge has come for 1 ms, OSF
is set. -/
def execOscStopDetect (s : State) : Out :=
  .next (let t := { s with cal := { s.cal with running := false } }
    if t.oscStopDue then oscStop t else t)

/-- OSCILLATOR_RESTART (R392): counting resumes from the value at which it stopped; OSF stays set. -/
def execOscillatorRestart (s : State) : Out := .next { s with cal := { s.cal with running := true } }

/-- VBAT_LOW (R393, R542): VBATLOW and LBV. -/
def execVbatLow (s : State) : Out := .next (((s.wb Reg.CAL_STAT 9 true).wb Reg.CAL_STAT 1 true).violation 6)

/-- VBAT_RECOVERY (R393): VBATLOW clears; LBV stays until it is cleared. -/
def execVbatRecovery (s : State) : Out := .next (s.wb Reg.CAL_STAT 9 false)

/-- The backup domain's registers and the calendar's own data at their reset values.
DESIGN CHOICE (unsafe), log entry 90. -/
def calReset (s : State) : State :=
  { s with regs := s.regs.filter (fun e => regDomain e.1 != .backup), cal := {} }

/-- BACKUP_DOMAIN_LOSS (R394): VBAT falls below 1.60 V while the main supplies are absent (the device is in BACKUP); the
calendar, the backup SRAM and the flags take their reset values, and the next start is a POR. -/
def execBackupDomainLoss (s : State) : Out :=
  .next (if s.mode = 0 then { (calReset s).clearMem 13 with cal := { lost := true } } else s)

end Sys2Proof.Machine
end

