-- ==== Sys2Proof/Machine/Sync.lean ====
section
/-! DEFINITION. Slate discipline (spec/20_host_sync_interfaces.md R509-R514): samples, lock and holdover, forward steps,
SYNC_PPS, the slate second, and writes of the SYN registers. -/

namespace Sys2Proof.Machine

/-- SLEWMAX in 2^-16 ppm. -/
def State.slewMax (s : State) : Int := s.rf Reg.SYN_CFG 31 16 * 65536

/-- SYN.FREQ and SYN.RATE. -/
def State.synFreq (s : State) : Int := sext 32 (s.rd Reg.SYN_FREQ).toNat
def State.synRate (s : State) : Int := sext 32 (s.rd Reg.SYN_RATE).toNat

/-- SYN leaves LOCKED (R511), and the averages that need the lock are void (R538, R539).
DEDUCED (unsafe), log entry 64. -/
def synUnlock (s : State) : State :=
  let s := (s.wb Reg.SYN_STAT 0 false).emit [12]
  { s with cal := { s.cal with winOk := false }, sup := { s.sup with hourOk := false } }

/-- FREQ and RATE take values, each within SLEWMAX (R509). -/
def State.setRates (s : State) (freq rate : Int) : State :=
  let m := s.slewMax
  (s.wr Reg.SYN_FREQ (word (toU 32 (clampI (-m) m freq)))).wr Reg.SYN_RATE (word (toU 32 (clampI (-m) m rate)))

/-- What every sample e of the selected source does (R511): LASTERR, the lock, and the end of a holdover. -/
def synSeen (s : State) (e : Int) : State :=
  let s := (s.wr Reg.SYN_LASTERR (word (toU 32 e))).inc Reg.SYN_SAMPCNT
  let inside := decide (e.natAbs ≤ s.rf Reg.SYN_LOCK 23 0)
  let good := if inside then s.syn.good + 1 else 0
  let bad := if inside then 0 else s.syn.bad + 1
  let s : State := { s with syn := { s.syn with good := min good 8, bad := min bad 3, sampleAt := s.slate } }
  let s := s.wb Reg.SYN_STAT 1 false
  if !s.rb Reg.SYN_STAT 0 && decide (8 ≤ good) then s.wb Reg.SYN_STAT 0 true
  else if s.rb Reg.SYN_STAT 0 && decide (3 ≤ bad) then synUnlock s
  else s

/-- A sample e of the selected source (R511). -/
def synApply (s : State) (e : Int) : State :=
  let shift (k : Nat) : Int := Int.fdiv (e * 256) ((2 : Int) ^ k)
  let m := s.slewMax
  let freq := clampI (-m) m (s.synFreq - shift (s.rf Reg.SYN_CFG 15 12))
  synSeen (s.setRates freq (freq - shift (s.rf Reg.SYN_CFG 11 8))) e

/-- A phase sample e, in eighths, of source `src` (R510): used only where SYN.CFG.SRC names it. A large negative one steps the
slate where R512 says so, and FREQ and RATE then stay.
DEDUCED (unsafe), log entry 66. -/
def synSample (s : State) (src : Nat) (e : Int) : State :=
  if s.rf Reg.SYN_CFG 1 0 != src || !s.aonOn then s
  else if s.rb Reg.SYN_CFG 2 && (s.mode == 2 || s.mode == 3) && decide (e < -(8 * ((s.rd Reg.SYN_STEPTH).toNat : Int))) then
    let t := synSeen s e
    { t with syn := { t.syn with step := some ((-e).toNat / 8, s.slate) } }
  else synApply s e

/-- The step of the slate, in the tick after its sample (R512): what falls in the skipped values occurs once, in this tick, and timers
that count the slate take their one step of the tick.
DEDUCED (unsafe), log entry 66. -/
def slateStep (s : State) : State :=
  match s.syn.step with
  | some (n, t) =>
    if t < s.slate then { s.wb Reg.SYN_STAT 2 true with
      slate := (s.slate + n) % 2 ^ 64, syn := { s.syn with step := none, skip := n } }
    else s
  | none => s

/-- HOLDTO seconds have passed without a sample (R511). -/
def State.holdDue (s : State) : Bool :=
  s.rb Reg.SYN_STAT 0 && decide (s.syn.sampleAt + s.rf Reg.SYN_LOCK 31 24 * 32000000 ≤ s.slate)

/-- The slate runs at FREQ (R510). -/
def State.atFreq (s : State) : State := s.setRates s.synFreq s.synFreq

/-- Holdover is entered (R511): RATE := FREQ. -/
def synHoldover (s : State) : State := (s.wb Reg.SYN_STAT 1 true).atFreq

/-- HOLDTO seconds without a sample end the lock, and holdover is entered (R511). -/
def synHold (s : State) : State := if s.holdDue then synHoldover (synUnlock s) else s

/-- The nearest slate second of a stamp in eighths. -/
def nearestSecond (stamp : Nat) : Nat := (stamp + 128000000) / 256000000

/-- A filtered SYNC_PPS edge of the selected polarity at a stamp in eighths (R513).
DEDUCED (unsafe), log entry 64. -/
def ppsEdge (s : State) (stamp : Nat) : State :=
  if !s.aonOn then s
  else
    let prev := s.syn.edge
    let s : State := { s with syn := { s.syn with edge := some stamp, stuck := false } }
    let good := match prev with
      | some p => decide (p + 8 * 31968000 ≤ stamp) && decide (stamp ≤ p + 8 * 32032000)
      | none => false
    if good then
      let e : Int := (stamp : Int) - 256000000 * nearestSecond stamp - sext 32 (s.rd Reg.SYN_PPSOFS).toNat
      synSample ((s.inc Reg.SYN_PPSCNT).emit [11, 212]) 1 e
    else (s.inc Reg.SYN_PPSBAD).violation 2

/-- The 32 MHz sample of the present tick at SYNC_PPS, the `samples`-th in a row that shows `level` (R354, R513): the level is accepted once
PPSCFG.FILT samples agree. The stamp of the edge that PPSCFG.EDGE selects is that of the raw edge, `frac` eighths into the tick of the first
of these samples (R571). -/
def ppsInput (s : State) (level : Bool) (samples frac : Nat) : State :=
  if s.aonOn && s.syn.level != level && decide (s.rf Reg.SYN_PPSCFG 7 0 ≤ samples) then
    let s : State := { s with syn := { s.syn with level := level, since := some s.slate } }
    if level != s.rb Reg.SYN_PPSCFG 8 then ppsEdge s (8 * (s.slate + 1 - samples) + frac) else s
  else s

/-- SYNC_PPS has been active for longer than PPSCFG.STUCK ms, and no stuck cue was raised for it (R513). -/
def State.ppsStuckDue (s : State) : Bool :=
  let ms := s.rf Reg.SYN_PPSCFG 31 16
  s.aonOn && s.syn.level != s.rb Reg.SYN_PPSCFG 8 && ms != 0 && !s.syn.stuck
    && decide (s.syn.since.getD s.cue.aonAt + ms * 32000 < s.slate)

/-- A SYNC_PPS that is stuck raises INPUT_STUCK once (R355, R513). -/
def ppsStuck (s : State) : State := if s.ppsStuckDue then { s.inputStuck with syn := { s.syn with stuck := true } } else s

/-- The boundary of slate second `sec` (R514): SYN.SECOND, PPS_OUT, and the hourly mean of R538. -/
def synSecond (s : State) (sec : Nat) : State :=
  if sec = s.syn.second + 1 ∧ sec * 32000000 ≤ s.slate ∧ s.aonOn then
    let s : State := { s with syn := { s.syn with second := sec } }
    let s := s.emit [10, 211]
    let s := if s.hourDue then tcxoHour s else s
    let s := if s.synLocked && s.sup.hourOk then
        { s with sup := { s.sup with hourSum := s.sup.hourSum + s.synFreq, hourN := s.sup.hourN + 1 } }
      else { s with sup := { s.sup with hourOk := false } }
    if s.rb Reg.SYN_PPSOUT 31 then
      { s with syn := { s.syn with ppsOut := some (s.slate + s.rf Reg.SYN_PPSOUT 23 0) } }
    else s
  else s

/-- Every boundary up to the present tick's second, those that a step skips among them (R512, R514). -/
def synSeconds (s : State) : State :=
  (List.range (s.slate / 32000000 - s.syn.second)).foldl (fun (s : State) _ => synSecond s (s.syn.second + 1)) s

/-- The correction of the tick that starts (R509). -/
def synTick (s : State) : State :=
  let q := s.syn.q + s.synRate
  if 8192000000 ≤ q then { s with syn := { s.syn with q := q - 8192000000, phases := 7 } }
  else if q ≤ -8192000000 then { s with syn := { s.syn with q := q + 8192000000, phases := 9 } }
  else { s with syn := { s.syn with q := q, phases := 8 } }

/-- PTP_OFFSET_WRITE (R510): a write of SYN.PTPOFF is a sample of source 2. -/
def ptpOffset (s : State) (v : Word) : State := synSample (s.wr Reg.SYN_PTPOFF v) 2 (sext 32 v.toNat)

/-- A write to a register of SYN: SLEWMAX, PPSOUT.W and LOCK.HOLDTO out of range keep their fields; PPSCFG.FILT 0 is stored
as 1. With SRC = 0 the slate runs at FREQ (R510).
DEDUCED (unsafe), log entry 65. -/
def synBusWrite (s : State) (a : Nat) (v : Word) : State :=
  let old := s.rd a
  if a = Reg.SYN_PTPOFF then ptpOffset s v
  else if a = Reg.SYN_CFG then
    let s := s.plainWrite a (keepField old v 31 16 (decide (1 ≤ fld v 31 16) && decide (fld v 31 16 ≤ 500)))
    let s := if s.synLocked then s else { s with sup := { s.sup with hourOk := false } }
    if s.rf a 1 0 = 0 then s.atFreq else s.setRates s.synFreq s.synRate
  else if a = Reg.SYN_LOCK then s.plainWrite a (keepField old v 31 24 (fld v 31 24 != 0))
  else if a = Reg.SYN_PPSCFG then s.plainWrite a (if fld v 7 0 = 0 then setFld v 7 0 1 else v)
  else if a = Reg.SYN_PPSOUT then
    let s := s.plainWrite a (keepField old v 23 0 (decide (1 ≤ fld v 23 0) && decide (fld v 23 0 ≤ 16000000)))
    if s.rb a 31 then s else { s with syn := { s.syn with ppsOut := none } }
  else s.plainWrite a v

/-- PPS_EDGE (R513). -/
def execPpsEdge (shown : PpsLevel) (s : State) : Out := ok (shown.frac < 8) (ppsInput s shown.level shown.samples shown.frac)

/-- PPS_STUCK (R513). -/
def execPpsStuck (s : State) : Out := .next (ppsStuck s)

/-- PTP_OFFSET_WRITE (R510). -/
def execPtpOffsetWrite (val : Word) (s : State) : Out := .next (s.onAon (ptpOffset s val))

/-- SYN_HOLD_TIMEOUT (R511). -/
def execSynHoldTimeout (s : State) : Out := .next (synHold s)

/-- SLATE_STEP (R512). -/
def execSlateStep (s : State) : Out := .next (slateStep s)

/-- SYN_SECOND (R514): the boundary of slate second `sec`. -/
def execSynSecond (sec : Nat) (s : State) : Out := .next (synSecond s sec)

/-- PPS_OUT_END (R514). -/
def execPpsOutEnd (s : State) : Out :=
  .next (match s.syn.ppsOut with
    | some t => if t ≤ s.slate then { s with syn := { s.syn with ppsOut := none } } else s
    | none => s)

end Sys2Proof.Machine
end

