-- ==== Sys2Proof/Machine/Parent.lean ====
section
/-! DEFINITION. Tracking a parent in RELAY (spec/08_sleepy_downlink_beacons.md R233-R238). -/

namespace Sys2Proof.Machine

/-- LNK.PSTAT.STATE is set. -/
def State.setPstate (s : State) (k : Nat) : State := s.wf Reg.LNK_PSTAT 31 30 k

/-- MISSES becomes 0 and WCUR nominal (R238). -/
def nominalWindow (s : State) : State :=
  (s.wf Reg.LNK_PSTAT 23 16 0).wf Reg.LNK_PSTAT 15 0 (s.rf Reg.LNK_BWIN 15 0)

/-- ACQUIRE is entered (R44, R238). -/
def parentStart (s : State) : State :=
  let s := (nominalWindow (s.setPstate 1)).wb Reg.LNK_PSTAT 27 false
  { s with lnk := { s.lnk with scanFrom := s.slate } }

/-- Parent tracking stops and holdover ends (R44). -/
def parentStop (s : State) : State :=
  (((s.setPstate 0).wf Reg.LNK_PSTAT 15 0 0).wb Reg.LNK_PSTAT 27 false)

/-- Eighths from a beacon's boundary to its sync end (R235). -/
def beaconLead (pw : List Word) : Nat := 8 * symTicks (pwPmin pw + pwSyncSyms pw) (pwRate pw)

/-- The slate second nearest to second `near` that agrees with the field `f` modulo 2^32 (R235). -/
def fullSecond (near f : Nat) : Nat :=
  let base := near - near % 2 ^ 32 + f % 2 ^ 32
  if base + 2 ^ 31 < near then base + 2 ^ 32 else if near + 2 ^ 31 < base ∧ 2 ^ 32 ≤ base then base - 2 ^ 32 else base

/-- The enabled parent channel on which a take arrived. -/
def State.parentChannel (s : State) (n k p : Nat) : Option Nat :=
  (List.range 4).find? fun j =>
    s.rb (Reg.LNK_PCH j) 31 && s.rf (Reg.LNK_PCH j) 10 8 == n && s.rf (Reg.LNK_PCH j) 5 0 == k
      && s.rf (Reg.LNK_PCH j) 15 12 == p

/-- The parent channel by which a valid parent beacon is timed (R233, R235): the current one in TRACK, else the enabled one on
which it arrived. -/
def State.beaconChannel (s : State) (n k p : Nat) : Option Nat :=
  if s.pstate = 2 then some (s.rf Reg.LNK_PSTAT 29 28) else s.parentChannel n k p

/-- A valid parent beacon with PSDU `p` is released (R233-R238): stamp `toa`, on channel k of chain n under profile index
`prof`. -/
def parentBeacon (s : State) (p : List Nat) (toa n k prof : Nat) : State :=
  let lead := beaconLead (s.profWords active (s.rf (Reg.LNK_PCH ((s.beaconChannel n k prof).getD 0)) 15 12))
  let sb := fullSecond (nearestSecond (toa - lead)) (field p 22 4)
  let o := field p 26 2
  let own := 256000000 * sb + lead
  let next := 256000000 * (sb + o) + lead
  let track (s : State) : State :=
    let s := (nominalWindow s).wr64 (Reg.LNK_PLAST 0) toa
    let s := s.wr64 (Reg.LNK_PNEXT 0) next
    { s with lnk := { s.lnk with pOff := o } }
  match s.pstate with
  | 0 => s
  | 2 =>
    if s.pNext ≤ toa + 8 * s.wcur ∧ toa ≤ s.pNext + 8 * s.wcur then
      track (synSample s 3 ((toa : Int) - own))
    else s
  | _ =>
    match s.beaconChannel n k prof with
    | some j => ((track ((s.setPstate 2).wf Reg.LNK_PSTAT 29 28 j)).wb Reg.LNK_PSTAT 27 false).emit [28]
    | none => s

/-- The decision instant without a hit (R236); the third miss enters holdover (R237, R511).
DEDUCED (unsafe), log entry 64. -/
def beaconMiss (s : State) : State :=
  if s.pstate = 2 ∧ s.decisionAt ≤ s.slate then
    let m := min 255 (s.rf Reg.LNK_PSTAT 23 16 + 1)
    let s := ((s.wf Reg.LNK_PSTAT 23 16 m).inc Reg.LNK_PMISSCNT).emit [26]
    let s := s.wf Reg.LNK_PSTAT 15 0 (min (2 * s.rf Reg.LNK_PSTAT 15 0) (s.rf Reg.LNK_BWIN 31 16))
    let s := s.wr64 (Reg.LNK_PNEXT 0) (s.pNext + 256000000 * s.lnk.pOff)
    if 3 ≤ m then
      let s := synHoldover (((s.setPstate 3).wr64 (Reg.LNK_HSTART 0) s.slate).emit [27])
      { s with lnk := { s.lnk with scanFrom := s.slate } }
    else s
  else s

/-- The tick from which holdover has expired, while it is active (R237). -/
def State.holdExpiry (s : State) : Option Nat :=
  if s.pstate = 3 then some (s.rd64 (Reg.LNK_HSTART 0) + s.rf Reg.LNK_HOLD 31 16 * 32000000) else none

/-- Holdover has lasted LNK.HOLD.SECS (R237). -/
def State.expiryDue (s : State) : Bool :=
  match s.holdExpiry with
  | some t => decide (t ≤ s.slate) && !s.rb Reg.LNK_PSTAT 27
  | none => false

/-- A scan step is due (R236). -/
def State.scanDue (s : State) : Bool :=
  let d := s.rf Reg.LNK_SCAN 15 0
  (s.pstate == 1 || s.pstate == 3) && d != 0 && decide (s.lnk.scanFrom + d * 32000000 ≤ s.slate)

/-- BEACON_MISS_DECISION (R236). -/
def execBeaconMissDecision (s : State) : Out := .next (beaconMiss s)

/-- HOLDOVER_EXPIRED (R237). -/
def execHoldoverExpired (s : State) : Out :=
  .next (if s.expiryDue then (s.wb Reg.LNK_PSTAT 27 true).emit [29] else s)

/-- SCAN_STEP (R236). -/
def execScanStep (s : State) : Out :=
  .next (if s.scanDue then { s.emit [30] with lnk := { s.lnk with scanFrom := s.slate } } else s)

end Sys2Proof.Machine
end

