-- ==== Sys2Proof/Machine/Reels.lean ====
section
/-! DEFINITION. The reels (spec/12_reels.md): banks and pointers over the reel pool, packets of cores and of LNK, routes,
pops, and writes of the REL registers. -/

namespace Sys2Proof.Machine

/-- Reel n. -/
def State.reel (s : State) (n : Nat) : Reel := s.reels.get n {}

/-- The state with reel n replaced. -/
def State.setReel (s : State) (n : Nat) (r : Reel) : State := { s with reels := s.reels.store {} n r }

/-- A reel with both copies of its pointers moved to `p`; the two copies are compared at each move (R344). -/
def Reel.move (r : Reel) (p : ReelPtrs) : Reel := { r with p := p, q := p, fault := r.fault || r.p != r.q }

/-- Words of one bank (R321). -/
def State.reelCap (s : State) (n : Nat) : Nat := 512 * s.rf (Reg.REL_RCFG n) 14 9

/-- REL.CFGn.EN. -/
def State.reelOn (s : State) (n : Nat) : Bool := s.rb (Reg.REL_RCFG n) 31

/-- REL.CFGn.MODE is MARK. -/
def State.reelMark (s : State) (n : Nat) : Bool := s.rb (Reg.REL_RCFG n) 30

/-- REL.CFGn.PROD. -/
def State.reelProd (s : State) (n : Nat) : Nat := s.rf (Reg.REL_RCFG n) 26 24

/-- REL.CFGn.CONS. -/
def State.reelCons (s : State) (n : Nat) : Nat := s.rf (Reg.REL_RCFG n) 22 20

/-- Pool word index of word `i` of bank A (`b = false`) or B of reel n (R321). -/
def State.poolWord (s : State) (n : Nat) (b : Bool) (i : Nat) : Nat :=
  512 * s.rf (Reg.REL_RCFG n) 8 0 + (if b then s.reelCap n else 0) + i

/-- A pool word with its END bit, as data of memory 7. -/
def poolData (w : Word) (e : Bool) : Nat := w.toNat + 2 ^ 32 * b2n e

/-- The state with a word stored in the pool. -/
def State.poolStore (s : State) (i : Nat) (w : Word) (e : Bool) : State :=
  (s.setEccData 7 i (poolData w e)).setMark 7 i { syn := 0, v0 := 7 }

/-- The word and END bit a read of a pool word gives; none where it is uncorrectable. -/
def State.poolLoad (s : State) (i : Nat) : Option (Word × Bool) :=
  let r := s.eccRead 7 i
  if r.cls = .uncorrectable then none else some (word r.data, r.data.testBit 32)

/-- Reel n may swap its banks (R331): the drain bank is empty, the fill bank holds a visible word, and in COMMIT no packet
is open. -/
def State.canSwap (s : State) (n : Nat) : Bool :=
  let r := s.reel n
  r.p.rd == r.p.wr && decide (0 < r.p.vis) && (s.reelMark n || r.opened.isNone)

/-- The swap test (R331). -/
def reelSwap (s : State) (n : Nat) : State :=
  let r := s.reel n
  if s.canSwap n then s.setReel n (r.move { drainB := !r.p.drainB, rd := 0, wr := r.p.vis, vis := 0, fill := 0 }) else s

/-- A word appended to the fill bank of reel n; it is visible at once in MARK (R329). -/
def reelAppend (s : State) (n : Nat) (w : Word) (e : Bool) : State :=
  let r := s.reel n
  let s := s.poolStore (s.poolWord n (!r.p.drainB) r.p.fill) w e
  s.setReel n (r.move { r.p with fill := r.p.fill + 1, vis := if s.reelMark n then r.p.fill + 1 else r.p.vis })

/-- The trailer word (R325). -/
def trailer (err : Bool) (cause words : Nat) : Word := word (b2n err * 2 ^ 31 + cause * 2 ^ 24 + words % 65536)

/-- The trailer is written: every word of the packet is visible, the packet is whole, and REL.READYn is emitted. -/
def reelFinish (s : State) (n : Nat) (t : Word) : State :=
  let s := reelAppend s n t true
  let r := s.reel n
  let s := s.setReel n { r.move { r.p with vis := r.p.fill } with opened := none, pkts := r.pkts + 1 }
  reelSwap (s.emit [48 + n]) n

/-- A packet lost to overflow: OVFCNTn, OVERFLOW and the cue REL.OVERFLOW (R335, R339). -/
def reelOverflow (s : State) (n : Nat) : State :=
  ((s.inc (Reg.REL_ROVFCNT n)).wb (Reg.REL_RSTAT n) 5 true).emit [80]

/-- A whole packet of LNK (R334, R335): after the swap test it is written with its trailer, or counted as overflow where
the fill bank cannot hold it. -/
def reelPacket (s : State) (n : Nat) (ws : List Word) (err : Bool) (cause : Nat) : State :=
  let s := reelSwap s n
  if s.reelCap n < (s.reel n).p.fill + ws.length + 1 then reelOverflow s n
  else reelFinish (ws.foldl (fun s w => reelAppend s n w false) s) n (trailer err cause ws.length)

/-- A bad packet of LNK (R336): in COMMIT it is rewound, in MARK it is written and closed with ERR; REWCNTn counts either. The
swap is tested before it (R331). A packet for MARK that the fill bank cannot hold is counted as overflow alone (R335).
DEDUCED (unsafe), log entry 101. -/
def reelBadPacket (s : State) (n : Nat) (ws : List Word) (cause : Nat) : State :=
  let s := reelSwap s n
  if s.reelMark n then
    let fits := decide ((s.reel n).p.fill + ws.length + 1 ≤ s.reelCap n)
    let t := reelPacket s n ws true cause
    if fits then t.inc (Reg.REL_RREWCNT n) else t
  else s.inc (Reg.REL_RREWCNT n)

/-- The open core packet of reel n ends badly with the cause (R339): rewound in COMMIT, closed with ERR in MARK; REWCNTn
counts. -/
def reelBad (s : State) (n cause : Nat) : State :=
  let r := s.reel n
  match r.opened with
  | none => s
  | some o =>
    let s := s.inc (Reg.REL_RREWCNT n)
    if s.reelMark n then reelFinish s n (trailer true cause o.words)
    else reelSwap (s.setReel n { r.move { r.p with fill := r.p.vis } with opened := none }) n

/-- Core `req` (KSA0-KSA3 0-3, KSS 4) is the one that CFGn.PROD names (R322, R337). -/
def State.reelBy (s : State) (n req : Nat) : Bool := decide (req < 5) && s.reelProd n == req + 1

/-- SOP (R337, R339): an open packet ends with cause 6, and a new one opens where the reel is enabled and the fill bank has a word
left to reserve for its trailer (R330).
DESIGN CHOICE (unsafe), log entry 96. -/
def reelSop (s : State) (n : Nat) : State :=
  let s := reelBad s n 6
  let s := if s.reelOn n ∧ (s.reel n).p.fill < s.reelCap n then
      s.setReel n { s.reel n with opened := some { words := 0, last := s.slate } } else s
  reelSwap s n

/-- END (R337, R338): the trailer closes the open packet; ignored where none is open. -/
def reelEnd (s : State) (n : Nat) : State :=
  match (s.reel n).opened with
  | none => s
  | some o => reelFinish s n (trailer false 0 o.words)

/-- PUSH (R337-R339). -/
def reelPush (s : State) (n : Nat) (v : Word) : State :=
  match (s.reel n).opened with
  | none => s.inc (Reg.REL_RDROPCNT n)
  | some o =>
    if s.rf (Reg.REL_RMAX n) 13 0 < o.words + 1 then reelBad s n 5
    else if s.reelCap n < (s.reel n).p.fill + 2 then reelOverflow (reelBad s n 4) n
    else
      let s := (reelAppend s n v false).wr (Reg.REL_RPUSH n) v
      reelSwap (s.setReel n { s.reel n with opened := some { words := o.words + 1, last := s.slate } }) n

/-- The packet open on reel n has seen no write for REL.PTO ticks (R339). -/
def State.stallDue (s : State) (n : Nat) : Bool :=
  match (s.reel n).opened with
  | some o => decide (o.last + (s.rd Reg.REL_PTO).toNat ≤ s.slate)
  | none => false

/-- What a pop leaves: the state, and the word returned; none where the word is uncorrectable and the pop ends in a
precise data-abort (R340, R343). -/
structure PopResult where
  state : State
  value : Option Word

/-- The head word taken from the drain bank of reel n, which holds one (R340, R343), read by requester `req`. PKTn counts a
trailer that cannot be read by its stored END bit.
DESIGN CHOICE (unsafe), log entry 96. -/
def reelTake (s : State) (n req : Nat) : State × Option (Word × Bool) :=
  let r := s.reel n
  let i := s.poolWord n r.p.drainB r.p.rd
  let v := s.poolLoad i
  let s := s.reportWord req 7 i
  let r := r.move { r.p with rd := r.p.rd + 1 }
  match v with
  | some (w, e) =>
    (s.setReel n { r with last := w, lastEnd := e, pkts := r.pkts - b2n e }, some (w, e))
  | none =>
    let e := (s.eccData 7 i).testBit 32
    ((s.setReel n { r with pkts := r.pkts - b2n e }).wb (Reg.REL_RSTAT n) 7 true, none)

/-- A pop of reel n by a core (R340).
DESIGN CHOICE (safe), log entry 83. -/
def reelPop (s : State) (n req : Nat) : PopResult :=
  if s.reelOn n && s.reelCons n == 0 then
    let s := reelSwap s n
    let r := s.reel n
    if r.p.rd = r.p.wr then
      { state := ((s.wb (Reg.REL_RSTAT n) 4 true).inc (Reg.REL_RUNDCNT n)).emit [81], value := some r.last }
    else
      let (s, v) := reelTake s n req
      { state := s, value := v.map Prod.fst }
  else { state := s, value := some 0 }

/-- The pool word that holds visible word `k` from the head of reel n (R341): the drain bank's words, then the fill bank's
visible words. -/
def State.visibleAt (s : State) (n k : Nat) : Option Nat :=
  let r := s.reel n
  if !s.reelOn n then none
  else if r.p.rd + k < r.p.wr then some (s.poolWord n r.p.drainB (r.p.rd + k))
  else if k - (r.p.wr - r.p.rd) < r.p.vis then some (s.poolWord n (!r.p.drainB) (k - (r.p.wr - r.p.rd)))
  else none

/-- The pool word that holds the head word that a pop would return (R341): none where no word is visible and no swap is possible. -/
def State.headAt (s : State) (n : Nat) : Option Nat :=
  if (s.reel n).p.rd = (s.reel n).p.wr ∧ !s.canSwap n then none else s.visibleAt n 0

/-- Visible word `k` of reel n, and its head word, with their END bits. -/
def State.visible (s : State) (n k : Nat) : Option (Word × Bool) := (s.visibleAt n k).bind s.poolLoad
def State.headWord (s : State) (n : Nat) : Option (Word × Bool) := (s.headAt n).bind s.poolLoad

/-- The reel whose registers lie at address `a`: of PKDATA and PKTAG the one that PKSEL names. -/
def State.reelOf (s : State) (a : Nat) : Nat := if a < Reg.REL_RCFG 0 then s.rf Reg.REL_PKSEL 28 24 else (a - Reg.REL_RCFG 0) / 0x40

/-- The pool word that a read of the register at `a` reads (R341): of PEEKn, TAGn, PKDATA and PKTAG. -/
def State.shownAt (s : State) (a : Nat) : Option Nat :=
  let n := s.reelOf a
  if a = Reg.REL_PKDATA ∨ a = Reg.REL_PKTAG then s.visibleAt n (s.rf Reg.REL_PKSEL 14 0)
  else if n < 32 ∧ (a = Reg.REL_RPEEK n ∨ a = Reg.REL_RTAG n) then s.headAt n
  else none

/-- A read by `req` of the pool word that a register shows: what it reports (R343, R454, R456), and whether the word can be read.
DESIGN CHOICE (unsafe), log entry 96. -/
def shownRead (s : State) (req a : Nat) : State × Bool :=
  match s.shownAt a with
  | none => (s, true)
  | some i =>
    let t := s.reportWord req 7 i
    if (s.poolLoad i).isSome then (t, true) else (t.wb (Reg.REL_RSTAT (s.reelOf a)) 7 true, false)

/-- The copies of reel n's pointers are found to differ (R344): the reset comes at the end of the tick. -/
def reelMismatch (s : State) (n : Nat) : State := if s.reelOn n then s.setReel n { s.reel n with fault := true } else s

/-- The reset of a pointer fault of reel n, at the end of its tick (R344): an empty enabled reel with bank A filling; PTRF, FAULTCNT
and REL.PTR_FAULT. -/
def reelPointerFault (s : State) (n : Nat) : State :=
  let r := s.reel n
  if s.reelOn n && r.fault then
    (((s.setReel n { last := r.last, lastEnd := r.lastEnd, off := r.off, seq := r.seq }).wb (Reg.REL_RSTAT n) 6 true).inc
      Reg.REL_FAULTCNT).emit [82]
  else s

/-- The banks of a reel placed at `b` with size `z` (2 KiB units) overlap those of another enabled reel (R323). -/
def State.reelOverlap (s : State) (n b z : Nat) : Bool :=
  (List.range 32).any fun k =>
    k != n && s.reelOn k
      && decide (b < s.rf (Reg.REL_RCFG k) 8 0 + 2 * s.rf (Reg.REL_RCFG k) 14 9)
      && decide (s.rf (Reg.REL_RCFG k) 8 0 < b + 2 * z)

/-- The REL.STAT bits of a refused enable of reel n with CFG value v (R323): SIZE 1, PLACE 2, INVAL 4. -/
def State.reelRefusal (s : State) (n : Nat) (v : Word) : Nat :=
  let b := fld v 8 0
  let z := fld v 14 9
  let maxw := if fld v 26 24 = 0 then 139 else s.rf (Reg.REL_RMAX n) 13 0
  b2n (decide (512 * z < maxw + 1))
    + 2 * b2n (z == 0 || decide (32 < z) || decide (512 < b + 2 * z) || s.reelOverlap n b z)
    + 4 * b2n (decide (5 < fld v 26 24) || decide (4 < fld v 22 20))

/-- A write of CFGn that sets EN (R323, R324). -/
def reelEnable (s : State) (n : Nat) (v : Word) : State :=
  if s.reelOn n then s.wb Reg.REL_STAT 3 true
  else
    let f := s.reelRefusal n v
    if f = 0 then (s.plainWrite (Reg.REL_RCFG n) v).setReel n {}
    else (s.setBits Reg.REL_STAT f).wf Reg.REL_STAT 20 16 n

/-- The end of the tick in which CFGn was written with EN = 0 (R324): both banks and any open packet are discarded, without
trailers or counts.
DESIGN CHOICE (unsafe), log entry 63. -/
def reelDisable (s : State) (n : Nat) (v : Word) : State := (s.plainWrite (Reg.REL_RCFG n) v).setReel n {}

/-- A write of CFGn with EN = 0: of an enabled reel it waits for the end of its tick (R324, R342), of any other it is a plain write.
DESIGN CHOICE (unsafe), log entry 63. -/
def reelOff (s : State) (n : Nat) (v : Word) : State :=
  if s.reelOn n then s.setReel n { s.reel n with off := some v } else s.plainWrite (Reg.REL_RCFG n) v

/-- A write of REL.ROUTEi.A that sets EN (R333). -/
def routeEnable (s : State) (i : Nat) (v : Word) : State :=
  let n := fld v 20 16
  if !s.reelOn n || s.reelProd n != 0 || fld v 29 28 == 3 then
    (s.wb Reg.REL_STAT 4 true).wf Reg.REL_STAT 20 16 i
  else s.plainWrite (Reg.REL_ROUTE_A i) v

/-- Words of octets, least significant first, the last zero-padded (R326). -/
def packWords : List Byte → List Word
  | [] => []
  | [a] => [word a.toNat]
  | [a, b] => [word (natLE [a, b])]
  | [a, b, c] => [word (natLE [a, b, c])]
  | a :: b :: c :: d :: bs => word (natLE [a, b, c, d]) :: packWords bs

/-- The header word (R327). -/
def reelHeader (kind : Nat) (eof : Bool) (form : Nat) (pend : Bool) (route body : Nat) : Word :=
  word (kind * 2 ^ 28 + b2n eof * 2 ^ 27 + form * 2 ^ 25 + b2n pend * 2 ^ 24 + route * 2 ^ 20 + body)

/-- A packet of LNK for route i (R333): dropped and counted where the route's reel is no longer enabled. -/
def routePacket (s : State) (i : Nat) (ws : List Word) (bad : Option Nat) : State :=
  let n := s.rf (Reg.REL_ROUTE_A i) 20 16
  if !s.reelOn n || s.reelProd n != 0 then s.inc Reg.REL_ROUTEDROP
  else
    match bad with
    | none => reelPacket s n ws false 0
    | some c => reelBadPacket s n ws c

/-- Route i is enabled and selects chain c and profile p (R332). -/
def State.routeSelects (s : State) (i c p : Nat) : Bool :=
  s.rb (Reg.REL_ROUTE_A i) 31 && s.rb (Reg.REL_ROUTE_B i) (24 + c) && s.rb (Reg.REL_ROUTE_B i) p

/-- Route i matches a take of chain c and profile p with verdict v, desensed or not (R332). -/
def State.routeTakes (s : State) (i c p v : Nat) (desensed : Bool) : Bool :=
  s.routeSelects i c p && s.rb (Reg.REL_ROUTE_A i) v && (!desensed || s.rb (Reg.REL_ROUTE_A i) 14)

/-- A transmit notice of schedule entry e, whose 16 octets are `entry`, for chain c and profile p (R328, R332, R334). -/
def transmitNotice (s : State) (e : Nat) (entry : List Byte) (c p : Nat) : State :=
  (List.range 16).foldl (fun s i =>
    if s.routeSelects i c p && s.rb (Reg.REL_ROUTE_A i) 27 then
      routePacket s i (reelHeader 2 false 0 false i e :: packWords entry) none
    else s) s

/-- The state after a host port took the packet at the head of reel n, its words, and whether one of them was uncorrectable
(R343); none where no whole packet can be popped. An uncorrectable word keeps its stored END bit. -/
def takeWords (n : Nat) : Nat → State → List Word → Bool → Option (State × List Word × Bool)
  | 0, _, _, _ => none
  | fuel + 1, s, ws, bad =>
    let s := reelSwap s n
    let p := (s.reel n).p
    if p.rd = p.wr then none
    else
      let e := (s.eccData 7 (s.poolWord n p.drainB p.rd)).testBit 32
      match reelTake s n 9 with
      | (s, some (w, e)) => if e then some (s, ws ++ [w], bad) else takeWords n fuel s (ws ++ [w]) bad
      | (s, none) =>
        if e then some (s, ws, true) else takeWords n fuel s ws true

/-- The next whole packet of reel n for a host port (R342, R343): dropped and counted where a word of it is uncorrectable
(then without words). -/
def takePacket (s : State) (n : Nat) : Option (State × List Word) :=
  if !s.reelOn n || (s.reel n).pkts == 0 then none
  else
    match takeWords n (2 * s.reelCap n + 1) s [] false with
    | some (s, ws, false) => some (s, ws)
    | some (s, _, true) => some (s.inc (Reg.REL_RREWCNT n), [])
    | none => none

/-- REEL_ENABLE (R323): a write of REL.CFGn with EN = 1. -/
def execReelEnable (n : Nat) (val : Word) (s : State) : Out := ok (n < 32 ∧ bit val 31) (s.onMain (reelEnable s n val))

/-- REEL_DISABLE (R324): a write of REL.CFGn with EN = 0. -/
def execReelDisable (n : Nat) (val : Word) (s : State) : Out := ok (n < 32 ∧ !bit val 31) (s.onMain (reelOff s n val))

/-- ROUTE_ENABLE (R333): a write of REL.ROUTEi.A with EN = 1. -/
def execRouteEnable (r : Nat) (val : Word) (s : State) : Out := ok (r < 16 ∧ bit val 31) (s.onMain (routeEnable s r val))

/-- PACKET_OPEN (R337): SOP written by `req`; ignored from any requester but the producer. -/
def execPacketOpen (req n : Nat) (s : State) : Out := ok (n < 32) (s.onMain (if s.reelBy n req then reelSop s n else s))

/-- PACKET_CLOSE (R337): END written by `req`. -/
def execPacketClose (req n : Nat) (s : State) : Out := ok (n < 32) (s.onMain (if s.reelBy n req then reelEnd s n else s))

/-- REEL_PUSH (R337-R339). -/
def execReelPush (req n : Nat) (val : Word) (s : State) : Out :=
  ok (n < 32) (s.onMain (if s.reelBy n req then reelPush s n val else s))

/-- PRODUCER_STALL (R339). -/
def execProducerStall (n : Nat) (s : State) : Out := ok (n < 32) (if s.stallDue n then reelBad s n 3 else s)

/-- POINTER_FAULT (R344): a move of reel n's pointers meets two copies that differ. -/
def execPointerFault (n : Nat) (s : State) : Out := ok (n < 32) (reelMismatch s n)

/-- A write to a register of REL by `req`. A disabling write waits for the end of its tick (R324, R342). -/
def relBusWrite (s : State) (req a : Nat) (v : Word) : State :=
  if a = Reg.REL_PTO then s.wr a (if v.toNat < 32 then 32 else v)
  else if Reg.REL_RCFG 0 ≤ a ∧ a < Reg.REL_RCFG 32 then
    let n := (a - Reg.REL_RCFG 0) / 0x40
    match (a - Reg.REL_RCFG 0) % 0x40 with
    | 0 =>
      if bit v 31 then reelEnable s n v
      else reelOff s n v
    | 4 => if s.reelOn n then s.wb Reg.REL_STAT 3 true else s.plainWrite a v
    | 0x20 =>
      if s.reelBy n req then
        let s := if bit v 1 then reelEnd s n else s
        if bit v 0 then reelSop s n else s
      else s
    | 0x24 => if s.reelBy n req then reelPush s n v else s
    | _ => s.plainWrite a v
  else if Reg.REL_ROUTE_A 0 ≤ a ∧ a ≤ Reg.REL_ROUTE_A 15 ∧ a % 8 = 0 ∧ bit v 31 then
    routeEnable s ((a - Reg.REL_ROUTE_A 0) / 8) v
  else s.plainWrite a v

/-- The registers of REL that show the reels' state. -/
def State.relView (s : State) (a : Nat) : Word :=
  if a = Reg.REL_PKDATA then
    ((s.visible (s.rf Reg.REL_PKSEL 28 24) (s.rf Reg.REL_PKSEL 14 0)).map Prod.fst).getD 0
  else if a = Reg.REL_PKTAG then
    match s.visible (s.rf Reg.REL_PKSEL 28 24) (s.rf Reg.REL_PKSEL 14 0) with
    | some (_, e) => word (2 + b2n e)
    | none => 0
  else if Reg.REL_RCFG 0 ≤ a ∧ a < Reg.REL_RCFG 32 then
    let n := (a - Reg.REL_RCFG 0) / 0x40
    let r := s.reel n
    match (a - Reg.REL_RCFG 0) % 0x40 with
    | 0x08 => s.rd a ||| word (8 * b2n r.opened.isSome + 4 * b2n (s.reelOn n && r.p.drainB) + b2n (s.reelOn n))
    | 0x0C => word ((r.p.fill % 65536) * 65536 + (r.p.wr - r.p.rd))
    | 0x10 => word (min r.pkts 65535)
    | 0x18 => ((s.headWord n).map Prod.fst).getD 0
    | 0x1C => word (2 * b2n r.lastEnd + b2n (((s.headWord n).map Prod.snd).getD false))
    | _ => s.rd a
  else s.rd a

end Sys2Proof.Machine
end

