-- ==== Sys2Proof/Machine/Cue.lean ====
section
/-! DEFINITION. The cue fabric (spec/13_cue_fabric.md): firing, triggers at the INT and GPO inputs, GPIO pins, and writes
of the CUE registers. -/

namespace Sys2Proof.Machine

/-- Pin n. -/
def State.pin (s : State) (n : Nat) : GpioPin := s.cue.gpio.get n {}

/-- CUE.GPIOn.CFG.DIR: the pin is an output. -/
def State.pinOut (s : State) (n : Nat) : Bool := s.rb (Reg.CUE_GPIO_CFG n) 31

/-- The level STATE.LEVEL shows: the accepted input level, or the driven output level under OPOL (R356). -/
def State.pinLevel (s : State) (n : Nat) : Bool :=
  if s.pinOut n then Bool.xor (s.pin n).latch (s.rb (Reg.CUE_GPIO_CFG n) 26) else (s.pin n).level

/-- The state with pin n replaced and STATE.LEVEL shown accordingly. -/
def State.setPin (s : State) (n : Nat) (p : GpioPin) : State :=
  let s := { s with cue := { s.cue with gpio := s.cue.gpio.store {} n p } }
  s.wb (Reg.CUE_GPIO_STATE n) 0 (s.pinLevel n)

/-- CUE reads the word of engine state that keeps CUE.CNTi, while the main domain is powered (R444): one that cannot be read is
rewritten as 0 (R454).
DESIGN CHOICE (unsafe), log entry 99. -/
def State.cueRead (s : State) (i : Nat) : State :=
  if !s.memOn 12 then s
  else
    let t := s.reportWord 13 12 i
    if s.readable 12 (8 * i) 8 then t else (t.wr (Reg.CUE_CNT i) 0).putWord 12 i 0

/-- A trigger of count `c` at consumer input `i` counts in CUE.CNTi (R350), and in the word that keeps it.
DESIGN CHOICE (unsafe), log entry 99. -/
def State.countCue (s : State) (i c : Nat) : State :=
  let t := (s.cueRead i).inc (Reg.CUE_CNT i) c
  if s.memOn 12 then t.putWord 12 i (t.rd (Reg.CUE_CNT i)).toNat else t

/-- A SET (`set = true`) or CLR trigger of count `c` at output pin n (R356). -/
def gpoTrigger (s : State) (n c : Nat) (set : Bool) : State :=
  let p := s.pin n
  let both := if set then p.lastClr == some s.slate else p.lastSet == some s.slate
  let p := if set then { p with lastSet := some s.slate } else { p with lastClr := some s.slate }
  let conflict (s : State) : State := if both then s.wb (Reg.CUE_GPIO_STATE n) 2 true else s
  match s.rf (Reg.CUE_GPIO_CFG n) 28 27 with
  | 1 => s.setPin n { p with latch := if c % 2 = 1 then !p.latch else p.latch }
  | 2 =>
    if set && !both then
      s.setPin n { p with latch := true, pulseEnd := some (s.slate + max 1 (s.rf (Reg.CUE_GPIO_CFG n) 15 0)) }
    else conflict (s.setPin n { p with latch := false, pulseEnd := none })
  | _ => conflict (s.setPin n { p with latch := set && !both })

/-- Firing of the routes written 1 in CUE.FIREw, each with count 1 and generation 0 (R361). -/
def cueFire (s : State) (w : Nat) (v : Word) : State :=
  let routes := ((List.range 32).filter fun b => bit v b && decide (32 * w + b < 224)).map fun b => (32 * w + b, 1)
  s.emitAt routes 0 s.slate true

/-- A trigger at INT input i (R359): CUE.CNTi counts and IPEND bit i is set. -/
def intTrigger (s : State) (i c : Nat) : State := (s.countCue i c).wb (Reg.CUE_IPEND (i / 32)) (i % 32) true

/-- Cue interrupt line c: some bit of CUE.IPENDw AND CUE.IMASKc.w is 1 (R362). -/
def State.cueLine (s : State) (c : Nat) : Bool :=
  (List.range 5).any fun w => s.rd (Reg.CUE_IPEND w) &&& s.rd (Reg.CUE_IMASK c w) != 0

/-- Pin n is powered: GPIO0 and GPIO1 in every mode but BACKUP, the others with the main domain (R358). -/
def State.pinOn (s : State) (n : Nat) : Bool := s.mainOn || (s.aonOn && decide (n < 2))

/-- The 32 MHz sample of the present tick at pin n, the `samples`-th in a row that shows `level` (R354): the level is accepted
once N = CFG.FILT samples agree, and an accepted change that CFG.EDGE selects emits GPIOn.IN. -/
def gpioEdge (s : State) (n : Nat) (level : Bool) (samples : Nat) : State :=
  if s.pinOn n && (s.pin n).level != level && decide (s.rf (Reg.CUE_GPIO_CFG n) 23 16 ≤ samples) then
    let s := s.setPin n { s.pin n with level := level, since := some s.slate, stuckSent := false }
    let s := s.wb (Reg.CUE_GPIO_STATE n) 1 false
    let edge := s.rf (Reg.CUE_GPIO_CFG n) 30 29
    if !s.pinOut n && (decide (2 ≤ edge) || (edge == 0 && level) || (edge == 1 && !level)) then
      s.emit ([131 + n, 195 + n] ++ if n < 2 then [215 + n] else [])
    else s
  else s

/-- The tick since which pin n has held its accepted level: that of its last change, or of its power-up. -/
def State.pinHeld (s : State) (n : Nat) : Nat := (s.pin n).since.getD (if n < 2 then s.cue.aonAt else s.cue.mainAt)

/-- An input pin has held one level beyond its stuck limit and no stuck cue was emitted for it (R355). -/
def State.gpioStuckDue (s : State) (n : Nat) : Bool :=
  let ms := s.rf (Reg.CUE_GPIO_STUCK n) 15 0
  !s.pinOut n && ms != 0 && !(s.pin n).stuckSent && decide (s.pinHeld n + ms * 32000 < s.slate) && s.pinOn n

/-- A glitch at a guarded input (R354, R542): class 0 where the input's filter counts pulses; a pulse of fewer samples than
CFG.FILT at a powered input pin adds 1 to its NOISE. -/
def inputGlitch (s : State) : GuardedInput → State
  | .gpio n samples =>
    if s.pinOn n && !s.pinOut n && decide (samples < s.rf (Reg.CUE_GPIO_CFG n) 23 16) then
      (s.inc (Reg.CUE_GPIO_NOISE n)).violation 0
    else s
  | .syncPps => s.violation 0
  | .nReset => s.violation 0
  | .bootSel => s.violation 0
  | .spiHost => s
  | .uartRx => s
  | .pmbus => s
  | .tcxo => s
  | .xtal32 => s
  | .vbat => s

/-- CUE_FIRE (R361): a write of CUE.FIREw, which lies in the main domain (R358). -/
def execCueFire (w : Nat) (val : Word) (s : State) : Out := ok (w < 7) (s.onMain (cueFire s w val))

/-- INT_TRIGGER (R359): in HIBERNATE the always-on segment delivers alone (R358). -/
def execIntTrigger (inp count : Nat) (s : State) : Out := ok (inp < 147) (if s.inputOn inp then intTrigger s inp count else s)

/-- GPO_SET (R356), which no route of the always-on segment reaches (R358). -/
def execGpoSet (n count : Nat) (s : State) : Out :=
  ok (n < 16) (s.onMain (gpoTrigger (s.countCue (147 + n) count) n count true))

/-- GPO_CLR (R356), which no route of the always-on segment reaches (R358). -/
def execGpoClr (n count : Nat) (s : State) : Out :=
  ok (n < 16) (s.onMain (gpoTrigger (s.countCue (163 + n) count) n count false))

/-- GPO_PULSE_END (R356): the running pulse of pin n has lasted its PW ticks. -/
def execGpoPulseEnd (n : Nat) (s : State) : Out :=
  ok (n < 16) (match (s.pin n).pulseEnd with
    | some e => if e ≤ s.slate then s.setPin n { s.pin n with latch := false, pulseEnd := none } else s
    | none => s)

/-- GPIO_INPUT_EDGE (R354). -/
def execGpioInputEdge (n : Nat) (shown : PinLevel) (s : State) : Out := ok (n < 16) (gpioEdge s n shown.level shown.samples)

/-- GPIO_STUCK (R355). -/
def execGpioStuck (n : Nat) (s : State) : Out :=
  ok (n < 16) (if s.gpioStuckDue n then
    ((s.setPin n { s.pin n with stuckSent := true }).wb (Reg.CUE_GPIO_STATE n) 1 true).inputStuck else s)

/-- INPUT_GLITCH (R542, R354). -/
def execInputGlitch (input : GuardedInput) (s : State) : Out :=
  ok (match input with | .gpio n _ => decide (n < 16) | _ => true) (inputGlitch s input)

/-- A write of CUE.GPIOn.CFG: FILT 0 is stored as 1, and a change of DIR shows the other level in its own tick (R356). -/
def gpioCfgWrite (s : State) (n : Nat) (v : Word) : State :=
  let v := if fld v 23 16 = 0 then setFld v 23 16 1 else v
  let s := s.plainWrite (Reg.CUE_GPIO_CFG n) v
  s.wb (Reg.CUE_GPIO_STATE n) 0 (s.pinLevel n)

/-- A write to a register of CUE. -/
def cueBusWrite (s : State) (a : Nat) (v : Word) : State :=
  if Reg.CUE_FIRE 0 ≤ a ∧ a ≤ Reg.CUE_FIRE 6 then cueFire s ((a - Reg.CUE_FIRE 0) / 4) v
  else if a = Reg.CUE_IPEND 4 then s.plainWrite a v
  else if Reg.CUE_GPIO_CFG 0 ≤ a ∧ a ≤ Reg.CUE_GPIO_CFG 15 ∧ a % 16 = 0 then
    gpioCfgWrite s ((a - Reg.CUE_GPIO_CFG 0) / 16) v
  else s.plainWrite a v

end Sys2Proof.Machine
end

