-- ==== Sys2Proof/Machine/Cores.lean ====
section
/-! DEFINITION. The five Keasuric cores outside their instructions (spec/16_keasuric_model.md): registers, message
channels, interrupt requests, the core-private registers and the KSS watchdog. -/

namespace Sys2Proof.Machine

/-- A core right after a reset that starts it at `entry`, bit 0 of PC always 0 (R404).
DESIGN CHOICE (unsafe), log entry 18. -/
def coreStart (entry : Nat) : Core := { pc := entry / 2 * 2, entry := entry }

/-- Core n; KSS starts in the boot ROM (R402).
DESIGN CHOICE (unsafe), log entry 18. -/
def State.core (s : State) (n : Nat) : Core := s.cores.get n (coreStart (if n = 4 then 0x20000000 else 0))

/-- The state with core n replaced. -/
def State.setCore (s : State) (n : Nat) (c : Core) : State := { s with cores := s.cores.put n c }

/-- Core n is powered and out of reset (R402, R536). -/
def State.coreOn (s : State) (n : Nat) : Bool := if n = 4 then s.aonOn && s.sup.started else s.mainOn && (s.core n).on

/-- Register k_r of core n: k0 reads 0 (R404). -/
def State.k (s : State) (n r : Nat) : Word := if r = 0 then 0 else (s.core n).k.get r 0

/-- The core with `v` in k_r: a write of k0 is discarded (R404). -/
def Core.setK (c : Core) (r : Nat) (v : Word) : Core := if r = 0 then c else { c with k := c.k.store 0 r v }

/-- Accumulator i, signed. -/
def Core.acc (c : Core) (i : Nat) : Int := (if i = 0 then c.acc0 else c.acc1).toInt

/-- The core with accumulator i set to the low 40 bits of `v`. -/
def Core.setAcc (c : Core) (i : Nat) (v : Int) : Core :=
  if i = 0 then { c with acc0 := BitVec.ofInt 40 v } else { c with acc1 := BitVec.ofInt 40 v }

/-! ### Channels (R418-R420) -/

/-- The messages of channel i of core n, oldest first: 0-4 by sender, 5 the cipher channel. -/
def State.chan (s : State) (n i : Nat) : List Msg := (s.core n).chans.get i []

/-- The state with channel i of core n replaced. -/
def State.setChan (s : State) (n i : Nat) (l : List Msg) : State :=
  s.setCore n { s.core n with chans := (s.core n).chans.store [] i l }

/-- The visible messages of a channel: of a core channel those sent before the present tick (R418, R420).
DEDUCED (unsafe), log entry 30. -/
def State.visibleMsgs (s : State) (n i : Nat) : List Msg :=
  if i = 5 then s.chan n 5 else (s.chan n i).filter fun m => decide (m.tick < s.slate)

/-- A message was discarded (R418, R420). -/
def State.msgDrop (s : State) (n : Nat) : State := s.wb (Reg.CPR_MSGCNT n) 31 true

/-- CIP posts the completion of a request of queue q to its core (R420). -/
def State.cipMessage (s : State) (q addr code : Nat) : State :=
  if 1 ≤ q ∧ q ≤ 5 then
    if 32 ≤ (s.chan (q - 1) 5).length then s.msgDrop (q - 1)
    else s.setChan (q - 1) 5 (s.chan (q - 1) 5 ++ [{ w0 := word addr, w1 := word (2 ^ 31 + q * 256 + code), tick := s.slate }])
  else s

/-- The channel of core d that a message of core n enters holds 16 messages: the send stalls (R418). -/
def State.sendBlocked (s : State) (n d : Nat) : Bool := s.coreOn d && decide (16 ≤ (s.chan d n).length)

/-- A message of core n enters its channel of core d, or is discarded where core d is held in reset or unpowered (R418). -/
def sendMsg (s : State) (n d : Nat) (w1 : Word) : State :=
  if s.coreOn d then s.setChan d n (s.chan d n ++ [{ w0 := s.rd (Reg.CPR_MSGDATA0 n), w1 := w1, tick := s.slate }])
  else s.msgDrop n

/-- The core channel of core n whose oldest visible message was sent first, the lower sender among equals (R419). -/
def State.firstChan (s : State) (n : Nat) : Option Nat :=
  ((List.range 5).foldl (fun (best : Option (Nat × Nat)) i =>
    match s.visibleMsgs n i with
    | m :: _ =>
      match best with
      | some b => if m.tick < b.2 then some (i, m.tick) else best
      | none => some (i, m.tick)
    | [] => best) none).map Prod.fst

/-- The channel that a load of a receive register takes from: 0-4, 5 the cipher channel, 6 MSGANY (R419). -/
def State.recvChan (s : State) (n i : Nat) : Option Nat :=
  if i = 6 then s.firstChan n else if (s.visibleMsgs n i).isEmpty then none else some i

/-- Core n receives the oldest visible message of channel i: word 0, and word 1 and the channel latched (R419). -/
def recvMsg (s : State) (n i : Nat) : State × Word :=
  match s.chan n i with
  | m :: rest => (((s.setChan n i rest).wr (Reg.CPR_MSGW1 n) m.w1).wr (Reg.CPR_MSGFROM n) (word i), m.w0)
  | [] => (s, 0)

/-- Every channel of core n is emptied (R420). -/
def emptyChans (s : State) (n : Nat) : State := s.setCore n { s.core n with chans := [] }

/-- A channel enabled in CPR.MSGIE of core n is non-empty (R420, R432).
DEDUCED (unsafe), log entry 30. -/
def State.msgLine (s : State) (n : Nat) : Bool :=
  (List.range 6).any fun i => s.rb (Reg.CPR_MSGIE n) i && !(s.visibleMsgs n i).isEmpty

/-! ### Core resets (R403) -/

/-- Addresses of the core-private registers of core n. -/
def isCpr (n a : Nat) : Bool := decide (0xF0000000 + 0x10000 * n ≤ a) && decide (a < 0xF0010000 + 0x10000 * n)

/-- Every core-private register of core n returns to its reset value. -/
def cprReset (s : State) (n : Nat) : State := { s with regs := s.regs.filter fun e => !isCpr n e.1 }

/-- Core n starts afresh at `entry`, with its channels empty (R403, R404, R420). -/
def coreReset (s : State) (n entry : Nat) (on : Bool) : State := (cprReset s n).setCore n { coreStart entry with on := on }

/-- SYS.RST.KSAk (R403, R420): the core restarts at its recorded entry point, its SRAM kept. -/
def coreResetCmd (s : State) (k : Nat) : State :=
  if s.mainOn then (coreReset s k (s.core k).entry (s.core k).on).wb Reg.SYS_RSTCAUSE (8 + k) true else s

/-! ### Core-private registers -/

/-- CPR.MSGCNT of core n (R420).
DEDUCED (unsafe), log entry 30. -/
def State.msgCnt (s : State) (n : Nat) : Word :=
  let ch := (List.range 5).map fun i => if i = n then 0 else (s.visibleMsgs n i).length * 2 ^ (5 * i)
  word (b2n (s.rb (Reg.CPR_MSGCNT n) 31) * 2 ^ 31 + (s.chan n 5).length * 2 ^ 25 + ch.foldl (· + ·) 0)

/-- FEATi of core n (R415): core number, instruction-set version and subsets; SRAM sizes and channels; DSP; part. -/
def featWord (n i : Nat) : Word :=
  match i with
  | 0 => word (n * 2 ^ 24 + 2 ^ 16 + (if n = 4 then 0x1A else 0x1F))
  | 1 => 0x40401004
  | 2 => if n = 4 then 0 else 0x00002824
  | 3 => 0x6480B000
  | _ => 0

/-- A read by core n of the core-private word at offset `o`; the receive registers are read by `recvMsg`. -/
def State.cprView (s : State) (n o : Nat) : Word :=
  let a := 0xF0000000 + 0x10000 * n + o
  if a = Reg.CPR_MSGCNT n then s.msgCnt n
  else if o = 0x90 then if n = 4 then word (s.rf Reg.CPR_WDOG 15 0) else 0
  else if Reg.CPR_MSGSEND n 0 ≤ a ∧ a ≤ Reg.CPR_MSGANY n then 0
  else s.rd a

/-- A keyed write of CPR.WDOG (R421). -/
def wdogWrite (s : State) (v : Word) : State :=
  if fld v 31 16 = 0x6480 then
    let s := s.wr Reg.CPR_WDOG (word (fld v 15 0))
    { s with sys := { s.sys with wdogAt := s.slate } }
  else s

/-- A write by core n of the core-private word at offset `o`; the send registers are written by `sendMsg`. -/
def cprWrite (s : State) (n o : Nat) (v : Word) : State :=
  let a := 0xF0000000 + 0x10000 * n + o
  if a = Reg.CPR_VBASE n then s.wr a (word (v.toNat / 256 * 256))
  else if a = Reg.CPR_SPLIM n ∨ a = Reg.CPR_MSGDATA0 n then s.wr a v
  else if o = 0x90 then if n = 4 then wdogWrite s v else s
  else if Reg.CPR_MBASE n 0 ≤ a ∧ a ≤ Reg.CPR_MLEN n 3 then if n = 4 then s else s.wr a v
  else if a = Reg.CPR_STATUS n ∨ a = Reg.CPR_CTL n ∨ a = Reg.CPR_MSGCNT n ∨ a = Reg.CPR_MSGIE n then s.plainWrite a v
  else s

/-- The watchdog has run for PERIOD ms without a keyed write (R421). -/
def State.wdogDue (s : State) : Bool :=
  s.aonOn && s.rf Reg.CPR_WDOG 15 0 != 0 && decide (s.sys.wdogAt + s.rf Reg.CPR_WDOG 15 0 * 32000 ≤ s.slate)

/-- SYS.CORESTAT (R414). -/
def State.coreStat (s : State) : Word :=
  word (((List.range 5).map fun n =>
    let c := s.core n
    (8 * b2n c.lockup + 4 * b2n (s.coreOn n && (c.stall == some .send || c.stall == some .recv))
      + 2 * b2n (s.coreOn n && s.rb (Reg.CPR_STATUS n) 1) + b2n (s.coreOn n && !c.lockup)) * 2 ^ (4 * n)).foldl (· + ·) 0)

/-- A core's write of MEM.DWIN: only its own field changes, and not to a value above 6 (R417). -/
def dwinWrite (s : State) (core : Nat) (v : Word) : State :=
  if core < 5 ∧ fld v (4 * core + 3) (4 * core) ≤ 6 then
    s.wf Reg.MEM_DWIN (4 * core + 3) (4 * core) (fld v (4 * core + 3) (4 * core))
  else s

/-! ### Commands -/

/-- WDOG_WRITE (R421). -/
def execWdogWrite (val : Word) (s : State) : Out := .next (s.onAon (wdogWrite s val))

/-- DWIN_WRITE (R417). -/
def execDwinWrite (core : Nat) (val : Word) (s : State) : Out := ok (core < 5) (s.onMain (dwinWrite s core val))

end Sys2Proof.Machine
end

