-- ==== Sys2Proof/Machine/Cipher.lean ====
section
/-! DEFINITION. The cipher engine (spec/11_cipher_engine.md): key slots, the endpoint-key cache, the queues and engine 3. -/

namespace Sys2Proof.Machine

/-! ### Key slots -/

/-- Key slot n. -/
def State.slot (s : State) (n : Nat) : KeySlot := s.cip.slots.get n {}

/-- Class of slot n (R291). -/
def slotClass (n : Nat) : Nat := if n < 16 then 0 else if n < 1024 then 1 else 2

/-- The TRANSIENT slots for which `p` holds are dropped (R303). -/
def State.dropCached (s : State) (p : CachedKey → Bool) : State :=
  { s with cip := { s.cip with cache := s.cip.cache.filter fun c => !p c } }

/-- The principal's replay window and notification counter return to 0, and its subscriptions are cancelled (R480). -/
def prinReset (s : State) (p : Nat) : State :=
  let s := ((s.wr (Reg.ODX_P_H p) 0).wr (Reg.ODX_P_W p) 0).wr (Reg.ODX_P_NCTR p) 0
  { s with odx := { s.odx with subs := s.odx.subs.filter fun e => e.2.prin != p } }

/-- The principals whose key slot is n start afresh (R480). -/
def slotPrins (s : State) (n : Nat) : State :=
  (List.range 16).foldl (fun (s : State) p => if s.rf (Reg.ODX_P_CFG p) 11 0 = n then prinReset s p else s) s

/-- Octets `b`, filled up with zeros to `n`. -/
def padTo (n : Nat) (b : List Nat) : List Nat := b.take n ++ List.replicate (n - b.length) 0

/-- The 128 octets in which the key store keeps a slot (R295).
DESIGN CHOICE (unsafe), log entry 99. -/
def slotImage (k : KeySlot) : List Nat :=
  [k.st, k.usage, k.key.length, k.blob.length, k.label.length, k.context.length] ++ le 2 k.source ++ padTo 32 k.key
    ++ padTo 64 (if k.st = 2 then k.label ++ k.context else k.blob) ++ List.replicate 24 0

/-- The slot that 128 octets of the key store say.
DESIGN CHOICE (unsafe), log entry 99. -/
def slotOfImage (b : List Nat) : KeySlot :=
  let st := b.getD 0 0 % 4
  let n (i : Nat) : Nat := b.getD i 0
  let key := (b.drop 8).take (n 2)
  let rest := b.drop 40
  if st = 0 then {}
  else
    { st := st, key := key, usage := n 1 % 32, kcv := kcv key, blob := if st = 2 then [] else rest.take (n 3), source := field b 6 2,
      label := if st = 2 then rest.take (n 4) else [], context := if st = 2 then (rest.drop (n 4)).take (n 5) else [] }

/-- The state with slot n stored, its principals afresh; a KEK slot that changes drops the TRANSIENT slots unwrapped under it (R301), and the
slot's storage is written whole. -/
def State.setSlot (s : State) (n : Nat) (k : KeySlot) : State :=
  let s := { s with cip := { s.cip with slots := s.cip.slots.store {} n k } }
  let s := slotPrins (s.poke 9 (128 * n) (ofOcts (slotImage k))) n
  if n < 16 then s.dropCached fun c => c.kek == n else s

/-- The storage of slot n can be read (R295, R304). -/
def State.slotReadable (s : State) (n : Nat) : Bool := s.readable 9 (128 * n) 128

/-- What reading slot n reports (R455, R456). -/
def State.slotReport (s : State) (n : Nat) : State := s.readReport 8 9 (128 * n) 128

/-- An uncorrectable read of slot n: reported, CIP.STAT.ECC, and the slot becomes EMPTY (R454). -/
def State.slotError (s : State) (n : Nat) : State :=
  ((s.slotReport n).setSlot n {}).wb Reg.CIP_STAT 1 true

/-- A LOADED slot (R292, R293, R300). -/
def loadedSlot (key blob : List Nat) (kek usage : Nat) : KeySlot :=
  { st := 1, key := key, usage := usage, kcv := kcv key, blob := blob, source := kek }

/-- A DERIVED slot (R292); KEK slots have usage W and K, and no other. -/
def derivedSlot (key label context : List Nat) (source usage : Nat) : KeySlot :=
  { st := 2, key := key, usage := usage, kcv := kcv key, source := source, label := label, context := context }

/-- The root key's octets (fuses, R296). -/
def rootKey : List Nat := (List.range 32).map Config.rootOctet

/-- The EUI-64, most significant octet first (R298). -/
def euiOctets : List Nat := octsBE 8 Config.eui64

/-- A text as ASCII octets. -/
def ascii (t : String) : List Nat := t.toList.map Char.toNat

/-- The install KEK (R298); without a valid root slot 0 stays EMPTY. -/
def installKek (s : State) : State :=
  if s.cip.rootOk then
    s.setSlot 0 (derivedSlot (kdf rootKey (ascii "LD64-INSTALL") euiOctets 16) (ascii "LD64-INSTALL") euiOctets 0xFFF 3)
  else s

/-! ### The endpoint-key cache (R303, R304) -/

/-- The KEK slot that EPR.KEKG names for a key generation. -/
def State.kekOf (s : State) (gen : Nat) : Nat := s.rf Reg.EPR_KEKG (4 * gen + 3) (4 * gen)

/-- One unwrap failure of an endpoint key (R304). -/
def State.keyFault (s : State) : State := ((s.inc Reg.CIP_TCFAIL).wb Reg.CIP_STAT 0 true).emit [47]

/-- What a lookup of an endpoint key gives. -/
inductive KeyFound where
  | key (k : List Nat)
  /-- The KEK is EMPTY or the unwrap failed. -/
  | fail
  /-- Uncorrectable error. -/
  | ecc
  deriving DecidableEq, Repr

/-- The octet offset of TRANSIENT slot t in memory 10. -/
def cacheOctet (t : Nat) : Nat := 64 * (t - 1024)

/-- The 64 octets in which a TRANSIENT slot is kept; its tag and the order of use are engine state (R444).
DESIGN CHOICE (unsafe), log entry 99. -/
def cachedImage (c : CachedKey) : List Nat :=
  padTo 32 c.key ++ padTo 24 c.blob ++ [c.key.length, c.kek, 0, 0, 0, 0, 0, 0]

/-- The TRANSIENT slot with the key that 64 octets say.
DESIGN CHOICE (unsafe), log entry 99. -/
def cachedOfImage (c : CachedKey) (b : List Nat) : CachedKey :=
  { c with key := b.take (b.getD 56 0), blob := (b.drop 32).take c.blob.length, kek := b.getD 57 0 % 16 }

/-- The TRANSIENT slot that a miss fills: the lowest one not in use, else the least recently used one (R303).
DEDUCED (safe), log entry 56. -/
def State.victim (s : State) : Nat :=
  let used := s.cip.cache.map (·.slot)
  if used.length < 3072 then ((List.range 3072).find? fun i => !used.contains (1024 + i)).getD 0 + 1024
  else (s.cip.cache.getLast?.map (·.slot)).getD 1024

/-- The key of endpoint `addr` at generation `gen`, whose record holds the wrapped key `w`: a hit, or an unwrap into the
cache; either makes the slot the most recently used one.
DESIGN CHOICE (unsafe), log entry 60. -/
def endpointKey (s : State) (addr gen : Nat) (w : List Nat) : State × KeyFound :=
  match s.cip.cache.find? fun c => c.addr == addr && c.gen == gen with
  | some c =>
    let rest := s.cip.cache.filter fun d => d.slot != c.slot
    let t := (s.inc Reg.CIP_TCHIT).readReport 8 10 (cacheOctet c.slot) 64
    if s.readable 10 (cacheOctet c.slot) 64 then ({ t with cip := { t.cip with cache := c :: rest } }, .key c.key)
    else
      ({ t.poke 10 (cacheOctet c.slot) (List.replicate 64 0) with cip := { t.cip with cache := rest } }.wb Reg.CIP_STAT 1 true, .ecc)
  | none =>
    let s := s.inc Reg.CIP_TCMISS
    let k := s.kekOf gen
    if !s.slotReadable k then (s.slotError k, .ecc)
    else
      let s := s.slotReport k
      if (s.slot k).st = 0 then (s.keyFault, .fail)
      else
        match kwUnwrap (s.slot k).key w with
        | none => (s.keyFault, .fail)
        | some key =>
          let v := s.victim
          let c : CachedKey := { slot := v, addr := addr, gen := gen, kek := k, key := key, blob := w }
          let rest := s.cip.cache.filter fun d => d.slot != v
          let s := s.poke 10 (cacheOctet v) (ofOcts (cachedImage c))
          ({ s with cip := { s.cip with cache := c :: rest } }, .key key)

/-- The key of a HOST slot for LNK's CCM, where its usage mask permits the direction: bit 4 to encrypt, bit 3 to decrypt (R291, R292,
R305). A slot of another class, one that is EMPTY and one without the usage give no key.
DEDUCED (unsafe), log entry 100. -/
def hostKey (s : State) (n use : Nat) : State × KeyFound :=
  if slotClass n ≠ 1 then (s, .fail)
  else if !s.slotReadable n then (s.slotError n, .ecc)
  else if (s.slot n).st = 0 ∨ !(s.slot n).usage.testBit use then (s.slotReport n, .fail)
  else (s.slotReport n, .key (s.slot n).key)

/-! ### Queues and engine 3 (R306-R310) -/

/-- Entries of queue q occupied in the present tick, after those freed in it (R309, R319). -/
def State.queueDepth (s : State) (q : Nat) : Nat :=
  (s.cip.wait.filter fun r => r.q == q).length
    + (match s.cip.run with
      | some r => b2n (r.req.q == q && decide (s.slate < r.finish))
      | none => 0)
    + (if q = 0 then (s.cip.laneTx.filter fun f => decide (s.slate < f)).length else 0)

/-- Service order (R302, R307, R479): submission tick, then queue number, a clear after every request of its tick, then the port of a
verification. -/
def serviceLe (a b : CipReq) : Bool :=
  decide (a.sub < b.sub) || (a.sub == b.sub && (decide (a.q < b.q) || (a.q == b.q && decide (a.rank ≤ b.rank))))

/-- HIWATER of queue q follows its depth (R306). -/
def State.queueHigh (s : State) (q : Nat) : State :=
  let d := s.queueDepth q
  if s.rf (Reg.CIP_QSTAT q) 23 16 < d then s.wf (Reg.CIP_QSTAT q) 23 16 d else s

/-- A request takes its place in service order; HIWATER follows (R306). -/
def State.cipEnqueue (s : State) (r : CipReq) : State :=
  let s := { s with cip := { s.cip with wait := insertBy serviceLe r s.cip.wait } }
  if r.q < 8 then s.queueHigh r.q else s

/-- Work of the transmit lane in ticks, an entry of queue 0 until its modelled finish (R202, R306).
DESIGN CHOICE (safe), log entry 84. -/
def laneWork (s : State) (w : Nat) : State :=
  let f := max (s.rd64 (Reg.CIP_FREE 2 0)) s.slate + w
  let s := s.wr64 (Reg.CIP_FREE 2 0) f
  ({ s with cip := { s.cip with laneTx := s.cip.laneTx ++ [f] } }).queueHigh 0

/-- The requests of queue 0 whose modelled finish has come are published (R306).
DESIGN CHOICE (safe), log entry 84. -/
def lanePublish (s : State) : State :=
  let due (f : Nat) : Bool := decide (f ≤ s.slate)
  let n := (s.cip.laneTx.filter due).length + (s.cip.laneRx.filter due).length
  { s with cip := { s.cip with
    laneTx := s.cip.laneTx.filter fun f => !due f
    laneRx := s.cip.laneRx.filter fun f => !due f } }.inc (Reg.CIP_DONECNT 0) n

/-- A queue that holds 32 requests (R319). -/
def State.queueFull (s : State) (q : Nat) : Bool := decide (32 ≤ s.queueDepth q)

/-- FULLREF and ERRCNT of a FULL submission (R318, R319). -/
def State.cipFull (s : State) (q : Nat) : State := (s.wb (Reg.CIP_QSTAT q) 0 true).inc Reg.CIP_ERRCNT

/-- The descriptor in 64 octets (R311). -/
def descOf (b : List Nat) : CipDesc :=
  let w (i : Nat) : Nat := natLE (ofOcts ((b.drop i).take 4))
  let d (i : Nat) : Nat := natLE (ofOcts ((b.drop i).take 8))
  { mode := nfld (w 0) 31 28, dir := nfld (w 0) 27 27, cls := nfld (w 0) 26 24, key := nfld (w 0) 23 12, dst := nfld (w 0) 11 0,
    toSlot := (w 4).testBit 31, len256 := (w 4).testBit 30, usage := nfld (w 4) 29 25, tlen := nfld (w 4) 20 16,
    alen := nfld (w 4) 8 0, len := w 8, srcA := d 16, dstA := d 24, auxA := d 32, iv := (b.drop 40).take 16 }

/-- The memory and offset that an operand address names across `n` octets (R312); none where it breaks R312. -/
def State.operand (s : State) (a n : Nat) : Option (Nat × Nat) :=
  if a < 2 ^ 63 then
    if 0x10000000 ≤ a ∧ a + n ≤ 0x10200000 then some (5, a - 0x10000000) else none
  else
    let o := a % 2 ^ 33
    if s.memOn 14 ∧ s.winBase + o + n ≤ s.dramOctets then some (14, s.winBase + o) else none

/-- Octets of the source, the destination and the associated data (R313). -/
def CipDesc.sizes (d : CipDesc) : Nat × Nat × Nat :=
  match d.mode with
  | 3 => if d.dir = 0 then (d.len, d.len + d.tlen, d.alen) else (d.len + d.tlen, d.len, d.alen)
  | 4 => (d.len, d.tlen, 0)
  | 5 => (d.len, d.len + 8, 0)
  | 6 => (d.len + 8, if d.toSlot then 0 else d.len, 0)
  | 7 => (0, 0, d.iv.getD 0 0 + d.iv.getD 1 0)
  | _ => (d.len, d.len, 0)

/-- The lengths are within R313. -/
def CipDesc.lengthOk (d : CipDesc) : Bool :=
  match d.mode with
  | 0 => d.len % 16 == 0 && decide (16 ≤ d.len) && decide (d.len ≤ 2 ^ 20)
  | 1 => d.len % 16 == 0 && decide (16 ≤ d.len) && decide (d.len ≤ 2 ^ 20)
  | 2 => decide (1 ≤ d.len) && decide (d.len ≤ 2 ^ 20)
  | 3 => decide (d.len ≤ 65279) && decide (d.alen ≤ 256) && (d.tlen == 4 || d.tlen == 8 || d.tlen == 16)
  | 4 => decide (d.len ≤ 2 ^ 20) && decide (4 ≤ d.tlen) && decide (d.tlen ≤ 16)
  | 5 => d.len % 8 == 0 && decide (16 ≤ d.len) && decide (d.len ≤ 64)
  | 6 => d.len % 8 == 0 && decide (16 ≤ d.len) && decide (d.len ≤ 64) && (!d.toSlot || d.len == 16 || d.len == 32)
  | _ => decide (1 ≤ d.iv.getD 0 0) && decide (d.iv.getD 0 0 ≤ 32) && decide (d.iv.getD 1 0 ≤ 32)

/-- The class and queue rules of R291, R296, R298 and R317. -/
def CipDesc.classOk (d : CipDesc) (q : Nat) : Bool :=
  let kek := d.cls == 0 && decide (d.key < 16)
  let host := d.cls == 1 && decide (16 ≤ d.key) && decide (d.key < 1024)
  let toHost := decide (16 ≤ d.dst) && decide (d.dst < 1024)
  match d.mode with
  | 5 => (kek && q == 5) || host
  | 6 => (kek && d.toSlot && toHost) || (host && (!d.toSlot || toHost))
  | 7 => ((d.cls == 3 || kek) && decide (1 ≤ d.dst) && decide (d.dst < 16) && (q == 5 || q == 6)) || ((kek || host) && toHost)
  | _ => host

/-- The usage bit or bits that permit a mode and direction (R292). -/
def CipDesc.usageOk (d : CipDesc) (usage : Nat) : Bool :=
  let e := usage.testBit 4
  let dec := usage.testBit 3
  match d.mode with
  | 2 => e || dec
  | 4 => usage.testBit 2
  | 5 => usage.testBit 1
  | 6 => usage.testBit 1
  | 7 => usage.testBit 0
  | _ => if d.dir = 0 then e else dec

/-- Two operands overlap. -/
def overlaps (a b : Nat × Nat) (n m : Nat) : Bool :=
  a.1 == b.1 && decide (0 < n) && decide (0 < m) && decide (a.2 < b.2 + m) && decide (b.2 < a.2 + n)

/-- Blocks of the counter and the first counter value (R314). -/
def CipDesc.ctrWraps (d : CipDesc) : Bool :=
  d.mode == 2 && decide (2 ^ 32 < numBE (d.iv.drop 12) + cdiv d.len 16)

/-- The first check of R319 that fails at the start, as its code; 0 where all pass. Inline requests have no operand
addresses to check. -/
def State.cipCheck (s : State) (q : Nat) (d : CipDesc) (mem : Bool) : Nat :=
  let z := d.sizes
  let opnd (a n : Nat) : Option (Nat × Nat) := if n = 0 ∨ !mem then some (0, 0) else s.operand a n
  if 8 ≤ d.mode then 0x0B
  else if !d.lengthOk then 1
  else if !d.classOk q then 2
  else if (d.cls = 3 ∧ !s.cip.rootOk) ∨ (d.cls ≠ 3 ∧ s.slotReadable d.key ∧ (s.slot d.key).st = 0) then 3
  else if d.cls ≠ 3 ∧ s.slotReadable d.key ∧ !d.usageOk (s.slot d.key).usage then 4
  else
    match opnd d.srcA z.1, opnd d.dstA z.2.1, opnd d.auxA z.2.2 with
    | some a, some b, some c =>
      if mem ∧ ((overlaps a b z.1 z.2.1 ∧ a ≠ b) ∨ overlaps a c z.1 z.2.2 ∨ overlaps b c z.2.1 z.2.2) then 0x0D
      else if d.ctrWraps then 8
      else 0
    | _, _, _ => 0x0A

/-- W of R308 for a request that passes the checks, under a key of `klen` octets. -/
def CipDesc.work (d : CipDesc) (klen : Nat) : Nat :=
  let b := if klen = 32 then 3 else 2
  let p := cdiv d.len 16
  match d.mode with
  | 3 => 64 + b * (1 + (if d.alen = 0 then 0 else cdiv (d.alen + 2) 16) + p)
  | 4 => 64 + b * max 1 p
  | 5 => 64 + 6 * b * (d.len / 8)
  | 6 => 64 + 6 * b * (d.len / 8)
  | 7 => 64 + 2 * (if d.len256 then 2 else 1) * (1 + cdiv (d.iv.getD 0 0 + d.iv.getD 1 0 + 4) 16)
  | _ => 64 + b * p

/-- What an operation gives: the code, the octets for the destination, the block written back to IV, and the slot. -/
structure CipResult where
  code : Nat
  out : Option (List Nat) := none
  iv : Option (List Nat) := none
  slot : Option KeySlot := none

/-- The operation on key `key`, source `src`, auxiliary data `aux` and (CMAC verification) tag `tag` (R311-R316).
DESIGN CHOICE (unsafe), log entry 60. -/
def cipCompute (d : CipDesc) (key src aux tag : List Nat) : CipResult :=
  let zeros := List.replicate d.len 0
  match d.mode with
  | 0 =>
    if d.dir = 0 then
      let o := cbcEnc key (chunks 16 src) d.iv
      { code := 0, out := some o, iv := some (o.drop (o.length - 16)) }
    else { code := 0, out := some (cbcDec key (chunks 16 src) d.iv), iv := some (src.drop (src.length - 16)) }
  | 1 =>
    let o := cfb key (d.dir == 1) (chunks 16 src) d.iv
    { code := 0, out := some o, iv := some (if d.dir = 0 then o.drop (o.length - 16) else src.drop (src.length - 16)) }
  | 2 =>
    let next := numBE (d.iv.drop 12) + cdiv d.len 16
    { code := 0, out := some (ctrCrypt key d.iv src), iv := some (d.iv.take 12 ++ octsBE 4 (next % 2 ^ 32)) }
  | 3 =>
    let n := d.iv.take 13
    if d.dir = 0 then { code := 0, out := some (ccmStream key n src ++ ccmTag key n aux src d.tlen) }
    else
      match ccmOpen key n aux (src.take d.len) (src.drop d.len) with
      | some m => { code := 0, out := some m }
      | none => { code := 5, out := some zeros }
  | 4 =>
    let t := (cmac key src).take d.tlen
    if d.dir = 0 then { code := 0, out := some t } else { code := if t = tag then 0 else 5 }
  | 5 => { code := 0, out := some (kwWrap key src) }
  | 6 =>
    match kwUnwrap key src with
    | some k => if d.toSlot then { code := 0, slot := some (loadedSlot k src d.key d.usage) } else { code := 0, out := some k }
    | none => { code := 6, out := if d.toSlot then none else some zeros }
  | _ =>
    let label := aux.take (d.iv.getD 0 0)
    let context := aux.drop (d.iv.getD 0 0)
    let k := kdf key label context (if d.len256 then 32 else 16)
    { code := 0, slot := some (derivedSlot k label context (if d.cls = 3 then 0xFFF else d.key) (if d.dst < 16 then 3 else d.usage)) }

/-- The octets of an operand, none on an uncorrectable word, and the state after the read. -/
def State.cipFetch (s : State) (a n : Nat) : State × Option (List Nat) :=
  if n = 0 then (s, some [])
  else
    match s.operand a n with
    | some (m, o) => (s.readReport 8 m o n, (s.peek m o n).map octs)
    | none => (s, none)

/-- Engine 3 takes a request `r` with descriptor `d` (R308, R319): the checks, the operation, W and F, from the modelled start, which is
the tick after the submission or the finish before. Where the destination shares an ECC word that cannot be read, nothing is written and
the request ends ECC (R449, R454). -/
def cipBegin (s : State) (r : CipReq) (d : CipDesc) : State :=
  let mem := match r.origin with | .desc _ => true | _ => false
  let code := s.cipCheck r.q d mem
  let z := d.sizes
  let dst := if mem then s.operand d.dstA z.2.1 else none
  let start := max (r.sub + 1) (s.rd64 (Reg.CIP_FREE 3 0))
  let launch (s : State) (w code : Nat) (res : CipResult) : State :=
    let f := start + w
    let out := match dst, res.out with | some (m, o), some b => some (m, o, b) | _, _ => none
    let slot := res.slot.map fun k => (d.dst, k)
    let run : CipRun := { req := r, start := start, finish := f, code := code, out := out, iv := res.iv, slot := slot,
                          give := if mem then [] else res.out.getD [] }
    ({ s with cip := { s.cip with run := some run } }).wr64 (Reg.CIP_FREE 3 0) f
  if code ≠ 0 then launch s 16 code { code := code }
  else
    let key := if d.cls = 3 then rootKey else (s.slot d.key).key
    let w := d.work key.length
    let keyOk := d.cls = 3 ∨ s.slotReadable d.key
    let s := if d.cls = 3 then s else if keyOk then s.slotReport d.key else s.slotError d.key
    let (s, src) := match r.origin with
      | .desc _ => s.cipFetch d.srcA z.1
      | .kload blob => (s, some blob)
      | .inline _ src _ _ => (s, some src)
      | .clear _ => (s, some [])
    let (s, aux) := match r.origin with
      | .inline _ _ label context => (s, some (label ++ context))
      | _ => if mem then s.cipFetch d.auxA z.2.2 else (s, some [])
    let (s, tag) := match r.origin with
      | .inline _ _ _ context => (s, some context)
      | _ => if d.mode = 4 ∧ d.dir = 1 ∧ mem then s.cipFetch d.dstA d.tlen else (s, some [])
    let (s, stored) := match dst with
      | some (m, o) => if d.mode = 4 ∧ d.dir = 1 then (s, true) else s.undefineBy 8 m o z.2.1
      | none => (s, true)
    match src, aux, tag with
    | some src, some aux, some tag =>
      if keyOk ∧ stored then
        let res := cipCompute d key src aux tag
        launch s w res.code res
      else launch s w 7 { code := 7 }
    | _, _, _ => launch s w 7 { code := 7 }

/-- The present tick is the modelled start of the next request in service order (R308), or past it. -/
def State.cipStartDue (s : State) : Bool :=
  match s.cip.run, s.cip.wait with
  | none, r :: _ => decide (r.sub < s.slate)
  | _, _ => false

/-- The start of the request at the head of the service order; a clear acts at once (R301, R302).
DEDUCED (unsafe), log entry 40. -/
def cipStart (s : State) : State :=
  if !s.cipStartDue then s
  else
    match s.cip.wait with
    | [] => s
    | r :: rest =>
      let s := { s with cip := { s.cip with wait := rest } }
      match r.origin with
      | .clear n => if n = 0 then s else if n < 1024 then s.setSlot n {} else s.dropCached fun c => c.slot == n
      | .desc a =>
        let t := s.readReport 8 5 a 64
        match s.peek 5 a 64 with
        | some b => cipBegin t r (descOf (octs b))
        | none =>
          -- The descriptor itself cannot be read: status ECC.
          let start := max (r.sub + 1) (s.rd64 (Reg.CIP_FREE 3 0))
          let run : CipRun := { req := r, start := start, finish := start + 16, code := 7 }
          ({ t with cip := { t.cip with run := some run } }).wr64 (Reg.CIP_FREE 3 0) (start + 16)
      | _ => cipBegin s r r.d

/-- The present tick is the finish of the running request, or past it. -/
def State.cipPublishDue (s : State) : Bool :=
  match s.cip.run with
  | some r => decide (r.finish ≤ s.slate)
  | none => false

/-- The effects of the running request, published together (R309); `finished` is false where it has not finished, and ends
MARGIN (R310). -/
def cipPublish (s : State) (finished : Bool) : State :=
  match s.cip.run with
  | none => s
  | some r =>
    if s.slate < r.finish then s
    else
      let s := { s with cip := { s.cip with run := none } }
      let x := match r.out with
        | some (m, o, b) => if finished then s.write 8 m o (ofOcts b) else (s, true)
        | none => (s, true)
      let s := x.1
      let code := if finished then if x.2 then r.code else 7 else 0x0C
      let s := if finished then
          match r.slot with
          | some (n, k) => s.setSlot n k
          | none => s
        else (s.wb Reg.CIP_STAT 2 true).raiseMargin 2
      let s := if code = 7 then s.wb Reg.CIP_STAT 1 true else s
      let s := if code = 0 then s else s.inc Reg.CIP_ERRCNT
      let s := (s.inc (Reg.CIP_DONECNT r.req.q)).emit [40 + (r.req.q - 1)]
      match r.req.origin with
      | .desc a =>
        let s := match if finished then r.iv else none with
          | some iv => (s.write 8 5 (a + 40) (ofOcts iv)).1
          | none => s
        let s := (s.write 8 5 (a + 56) (bytesLE 8 r.finish)).1
        let s := (s.write 8 5 (a + 12) (bytesLE 4 (2 ^ 31 + code))).1
        s.cipMessage r.req.q (0x10000000 + a) code
      | .kload _ => (s.wr Reg.CIP_KLSTAT (word (2 ^ 31 + code))).cipMessage r.req.q 0 code
      | .inline job _ _ _ => { s with cip := { s.cip with done := s.cip.done ++ [{ job := job, code := code, tick := s.slate, give := if finished then r.give else [] }] } }
      | .clear _ => s

/-- The queue of a core: KSA0-KSA3 1-4, KSS 5 (R306). -/
def coreQueue (core : Nat) : Nat := core + 1

/-- A write of CIP.SUB by a core (R311, R312, R319). -/
def cipSubmit (s : State) (core : Nat) (v : Word) : State :=
  let q := coreQueue core
  let s := s.wr Reg.CIP_SUB v
  let a := v.toNat
  if a < 0x10000000 ∨ 0x10200000 ≤ a ∨ a % 64 ≠ 0 then s.wb (Reg.CIP_QSTAT q) 1 true
  else
    let o := a - 0x10000000
    if s.queueFull q then ((s.cipFull q).write 8 5 (o + 12) (bytesLE 4 (2 ^ 31 + 9))).1
    else s.cipEnqueue { q := q, sub := s.slate, origin := .desc o }

/-- A write of CIP.KLOAD by a core (R300): GO submits a KW-UNWRAP of the staged blob. -/
def keyLoad (s : State) (core : Nat) (v : Word) : State :=
  let s := s.plainWrite Reg.CIP_KLOAD v
  if bit v 31 then
    let q := coreQueue core
    let n := if bit v 30 then 40 else 24
    let blob := (octs (s.cip.staged.flatMap fun w => bytesLE 4 w.toNat)).take n
    let d : CipDesc := { mode := 6, dir := 1, cls := 0, key := fld v 15 12, dst := fld v 11 0, toSlot := true,
                         usage := fld v 29 25, len := n - 8 }
    if s.queueFull q then (s.cipFull q).wr Reg.CIP_KLSTAT (word (2 ^ 31 + 9))
    else (s.wr Reg.CIP_KLSTAT 0).cipEnqueue { q := q, sub := s.slate, origin := .kload blob, d := d }
  else s

/-- A write of CIP.SLOTCMD (R301, R302).
DESIGN CHOICE (unsafe), log entry 60. -/
def slotCmd (s : State) (v : Word) : State :=
  let s := s.plainWrite Reg.CIP_SLOTCMD v
  if bit v 31 then s.cipEnqueue { q := 8, sub := s.slate, origin := .clear (fld v 11 0) } else s

/-- A request formed inside the block for queue q, serving `job` (R311); on a full queue it ends FULL at once. -/
def State.cipInline (s : State) (q job : Nat) (d : CipDesc) (src label context : List Nat) : State :=
  if s.queueFull q then
    let s := s.cipFull q
    { s with cip := { s.cip with done := s.cip.done ++ [{ job := job, code := 9, tick := s.slate }] } }
  else s.cipEnqueue { q := q, sub := s.slate, origin := .inline job src label context, d := d }

/-- The verification of a message that arrived on `port` (R478, R479), as `cipInline` for queue 6. -/
def State.cipVerify (s : State) (port job : Nat) (d : CipDesc) (src tag : List Nat) : State :=
  s.cipEnqueue { q := 6, sub := s.slate, origin := .inline job src [] tag, d := d, rank := port }

/-- The published request that served `job`. -/
def State.cipDone (s : State) (job : Nat) : Option CipDone := s.cip.done.find? fun j => j.job == job

/-- The request that served `job` is collected. -/
def State.cipCollect (s : State) (job : Nat) : State :=
  { s with cip := { s.cip with done := s.cip.done.filter fun j => j.job != job } }

/-- A CMAC verification of `len` octets under slot `key`, with a tag of `tlen` octets (R314). -/
def cmacVerify (key len tlen : Nat) : CipDesc := { mode := 4, dir := 1, cls := slotClass key, key := key, len := len, tlen := tlen }

/-- The main domain's part of CIP at a reset or power-down: the cache, and the requests of the cores and of UPD (R295).
Those of ODX, which serves throughout (R57, R490), stay. -/
def cipMainReset (s : State) : State :=
  { s with cip := { s.cip with
    cache := []
    laneTx := []
    laneRx := []
    wait := s.cip.wait.filter fun r => r.q == 6
    run := s.cip.run.filter fun r => r.req.q == 6
    staged := List.replicate 10 0 } }

/-- CIP_SUBMIT (R311): a core's write of CIP.SUB. -/
def execCipSubmit (core : Nat) (val : Word) (s : State) : Out := ok (core < 5) (s.onMain (cipSubmit s core val))

/-- KEY_LOAD (R300). -/
def execKeyLoad (core : Nat) (val : Word) (s : State) : Out := ok (core < 5 ∧ bit val 31) (s.onMain (keyLoad s core val))

/-- SLOT_CLEAR (R301). -/
def execSlotClear (val : Word) (s : State) : Out := ok (bit val 31) (s.onMain (slotCmd s val))

/-- CIP_REQUEST_START (R319). -/
def execCipRequestStart (s : State) : Out := .next (cipStart s)

/-- CIP_REQUEST_PUBLISH (R309, R310). -/
def execCipRequestPublish (finished : Bool) (s : State) : Out := .next (cipPublish s finished)

/-- A write to a register of CIP by `req`. SUB and KLOAD.GO belong to the cores. -/
def cipBusWrite (s : State) (req a : Nat) (v : Word) : State :=
  if a = Reg.CIP_SUB then if req < 5 then cipSubmit s req v else s
  else if a = Reg.CIP_KLOAD then if req < 5 then keyLoad s req v else s.plainWrite a v
  else if a = Reg.CIP_SLOTCMD then slotCmd s v
  else if Reg.CIP_KBLOB 0 ≤ a ∧ a ≤ Reg.CIP_KBLOB 9 then
    { s with cip := { s.cip with staged := s.cip.staged.set ((a - Reg.CIP_KBLOB 0) / 4) v } }
  else s.plainWrite a v

/-- The registers of CIP that show the slots and the queues. -/
def State.cipView (s : State) (a : Nat) : Word :=
  let n := s.rf Reg.CIP_SLOTSEL 11 0
  let k := s.slot n
  let c := s.cip.cache.find? fun c => c.slot == n
  if a = Reg.CIP_STAT then s.rd a ||| word (16 * b2n s.cip.rootOk)
  else if Reg.CIP_QSTAT 0 ≤ a ∧ a ≤ Reg.CIP_QSTAT 7 then
    setFld (s.rd a) 15 8 (s.queueDepth ((a - Reg.CIP_QSTAT 0) / 4))
  else if a = Reg.CIP_SLOTINFO then
    match c with
    | some c => word (1 * 2 ^ 30 + 2 * 2 ^ 28 + 24 * 2 ^ 23 + b2n (c.key.length == 32) * 2 ^ 22 + c.kek)
    | none => word (k.st * 2 ^ 30 + slotClass n * 2 ^ 28 + k.usage * 2 ^ 23 + b2n (k.key.length == 32) * 2 ^ 22 + k.source)
  else if a = Reg.CIP_SLOTKCV then
    match c with
    | some c => word (numBE (kcv c.key))
    | none => word (numBE k.kcv)
  else if a = Reg.CIP_SLOTTAG then
    match c with
    | some c => word (2 ^ 31 + c.gen * 2 ^ 28 + c.addr)
    | none => 0
  else if Reg.CIP_KBLOB 0 ≤ a ∧ a ≤ Reg.CIP_KBLOB 9 then
    let b := match c with | some c => c.blob | none => k.blob
    word (natLE (ofOcts ((b.drop (a - Reg.CIP_KBLOB 0)).take 4)))
  else s.rd a

end Sys2Proof.Machine
end

