-- ==== Sys2Proof/Machine/Registry.lean ====
section
/-! DEFINITION. The endpoint registry's records, its hot cache and its ranges (spec/10_endpoint_registry.md, R256-R268,
R287-R289). -/

namespace Sys2Proof.Machine

/-! ### Records (R256-R259) -/

/-- A record's octets, as numbers. -/
abbrev Rec := List Nat

/-- `n` octets of a record from offset `o`, least significant first, as a number. -/
def recGet (r : Rec) (o n : Nat) : Nat := natLE (ofOcts ((r.drop o).take n))

/-- The record with `n` octets from offset `o` set. -/
def recSet (r : Rec) (o n v : Nat) : Rec := r.take o ++ octs (bytesLE n v) ++ r.drop (o + n)

/-- An all-zero record. -/
def recZero : Rec := List.replicate 64 0

def recFlags (r : Rec) : Nat := recGet r 58 2
def recValid (r : Rec) : Bool := (recFlags r).testBit 15
def recSusp (r : Rec) : Bool := (recFlags r).testBit 14
def recKgen (r : Rec) : Nat := nfld (recFlags r) 13 12
def recPset (r : Rec) : Nat := nfld (recFlags r) 11 8
def recLong (r : Rec) : Nat := recGet r 0 8
def recKey (r : Rec) : List Nat := (r.drop 8).take 24
def recH (r : Rec) : Nat := recGet r 32 4
def recW (r : Rec) : Nat := recGet r 36 4
def recDrift (r : Rec) : Int := sext 32 (recGet r 40 4)
def recHeard (r : Rec) : Nat := recGet r 44 8
def recInterval (r : Rec) : Nat := recGet r 52 2
def recPhase (r : Rec) : Nat := recGet r 54 2
def recPending (r : Rec) : Nat := recGet r 56 2

/-- The record check of address `a` (R258). -/
def recCheck (a : Nat) (r : Rec) : Nat := crc16 (octs (bytesLE 4 a) ++ r.take 62)

/-- The record with its check recomputed (R258), stored least significant octet first. -/
def recSeal (a : Nat) (r : Rec) : Rec := recSet r 62 2 (recCheck a r)

/-- A record fault (R259): not all zero, and VALID = 0 or a failing check. -/
def recFault (a : Nat) (r : Rec) : Bool :=
  r != recZero && (!recValid r || recGet r 62 2 != recCheck a r)

/-- A record that EPR suspended for a fault while VALID was 0 (R287, R288): until a sheet rewrites it, takes see no endpoint. -/
def recHalted (a : Nat) (r : Rec) : Bool := recSusp r && !recValid r && recGet r 62 2 == recCheck a r

/-- The record suspended, with its check recomputed (R287). -/
def recSuspend (a : Nat) (r : Rec) : Rec := recSeal a (recSet r 58 2 (recFlags r ||| 0x4000))

/-! ### Ranges (R261, R262, R283) -/

/-- The range of an address (R261). -/
def rangeOf (a : Nat) : Nat := a / 65536 % 512

/-- Range r. -/
def State.range (s : State) (r : Nat) : EprRange := s.epr.ranges.get r {}

/-- The state with range r replaced. -/
def State.setRange (s : State) (r : Nat) (v : EprRange) : State :=
  { s with epr := { s.epr with ranges := s.epr.ranges.store {} r v } }

/-- EPR.LIMIT. -/
def State.eprLimit (s : State) : Nat := s.rf Reg.EPR_LIMIT 24 0

/-- Ranges present (R262). -/
def State.rangesPresent (s : State) : Nat := s.eprLimit / 65536 + 1

/-- The range of an address is LOADED. -/
def State.rangeLoaded (s : State) (a : Nat) : Bool := (s.range (rangeOf a)).st == 2

/-- A change of a record of address `a` makes its range dirty (R279). -/
def State.touchRange (s : State) (a : Nat) : State :=
  let r := s.range (rangeOf a)
  if r.dirty.isSome then s else s.setRange (rangeOf a) { r with dirty := some s.slate }

/-! ### The hot cache (R263-R266, R288) -/

/-- The lines of a set, most recently used first. -/
def State.cacheSet (s : State) (k : Nat) : List CacheLine := s.epr.tags.get k []

/-- The state with a set's lines replaced. -/
def State.setCacheSet (s : State) (k : Nat) (l : List CacheLine) : State :=
  { s with epr := { s.epr with tags := s.epr.tags.store [] k l } }

/-- The line of an address. -/
def State.line (s : State) (a : Nat) : Option CacheLine := (s.cacheSet (a % 4096)).find? fun l => l.addr == a

/-- Octet offset of way w of the set of address a in the hot cache. -/
def lineOctet (a w : Nat) : Nat := ((a % 4096) * 4 + w) * 64

/-- What an access to a record gives. -/
inductive RecGot where
  | got (r : Rec)
  /-- An uncorrectable error (R287, R288). -/
  | ue
  deriving DecidableEq, Repr

/-- A record read without filling a line (R265): from its line, else from DRAM.
DEDUCED (safe), log entry 56. -/
def State.recPeek (s : State) (a : Nat) : RecGot :=
  match s.line a with
  | some l =>
    match s.peek 6 (lineOctet a l.way) 64 with
    | some b => .got (octs b)
    | none =>
      if l.dirty then .ue
      else match s.peek 14 (64 * a) 64 with
        | some b => .got (octs b)
        | none => .ue
  | none =>
    match s.peek 14 (64 * a) 64 with
    | some b => .got (octs b)
    | none => .ue

/-- Line `l` leaves its set. -/
def State.dropLine (s : State) (l : CacheLine) : State :=
  s.setCacheSet (l.addr % 4096) ((s.cacheSet (l.addr % 4096)).filter fun m => m.way != l.way)

/-- A dirty line whose record cannot be read (R288): it is discarded, and the DRAM copy suspended as in R287. -/
def lineLost (s : State) (l : CacheLine) : State :=
  let a := l.addr
  let s := s.dropLine l
  let s := match s.peek 14 (64 * a) 64 with
    | some b => ((s.readReport 7 14 (64 * a) 64).poke 14 (64 * a) (ofOcts (recSuspend a (octs b)))).touchRange a
    | none => s.readReport 7 14 (64 * a) 64
  ((s.wb Reg.EPR_STAT 7 true).wr Reg.EPR_ERRADDR (word (a % 2 ^ 25))).emit [39]

/-- A line leaves its set; a dirty one is written back to DRAM (R263), and lost where it cannot be read (R288).
DEDUCED (safe), log entry 56. -/
def State.evict (s : State) (l : CacheLine) : State :=
  if l.dirty then
    let t := s.readReport 7 6 (lineOctet l.addr l.way) 64
    match s.peek 6 (lineOctet l.addr l.way) 64 with
    | some b => ((t.dropLine l).poke 14 (64 * l.addr) b).inc Reg.EPR_WBCNT
    | none => lineLost t l
  else s.dropLine l

/-- What a read of the record of `a` without filling a line does (R265, R288, R289): its errors are reported, a clean line that
cannot be read is discarded, and a dirty one lost.
DEDUCED (safe), log entry 56. -/
def recReport (s : State) (a : Nat) : State :=
  match s.line a with
  | some l =>
    let t := s.readReport 7 6 (lineOctet a l.way) 64
    if s.readable 6 (lineOctet a l.way) 64 then t
    else if l.dirty then lineLost t l
    else (t.dropLine l).readReport 7 14 (64 * a) 64
  | none => s.readReport 7 14 (64 * a) 64

/-- Every dirty line written back and the cache empty (R53, R57, R266).
DEDUCED (safe), log entry 56. -/
def State.flushCache (s : State) : State :=
  (s.epr.tags.flatMap Prod.snd).foldl (fun s l => s.evict l) s

/-- An uncorrectable DRAM error on the record of address `a` (R287). -/
def State.recordUe (s : State) (a : Nat) : State := (s.wb Reg.EPR_STAT 5 true).wr Reg.EPR_ERRADDR (word (a % 2 ^ 25))

/-- The line of address `a` holding octets `b` is put first in its set, filled from DRAM where it was missing: a free way,
else the least recently used one (R263).
DEDUCED (safe), log entry 56. -/
def State.fill (s : State) (a : Nat) (b : List Byte) (dirty : Bool) : State :=
  let k := a % 4096
  let ls := s.cacheSet k
  let s := if ls.length < 4 then s else match ls.getLast? with | some l => s.evict l | none => s
  let ls := s.cacheSet k
  let w := ((List.range 4).find? fun w => ls.all fun l => l.way != w).getD 0
  (s.setCacheSet k ({ way := w, addr := a, dirty := dirty } :: ls)).poke 6 (lineOctet a w) b

/-- An access of EPR to the record of address `a` through the cache (R263, R287, R288).
DEDUCED (safe), log entry 56. -/
def recAccess (s : State) (a : Nat) : State × RecGot :=
  let k := a % 4096
  let fromDram (s : State) : State × RecGot :=
    let t := s.readReport 7 14 (64 * a) 64
    match s.peek 14 (64 * a) 64 with
    | some b => (t.fill a b false, .got (octs b))
    | none => (t.recordUe a, .ue)
  match s.line a with
  | some l =>
    let rest := (s.cacheSet k).filter fun m => m.way != l.way
    let t := s.readReport 7 6 (lineOctet a l.way) 64
    match s.peek 6 (lineOctet a l.way) 64 with
    | some b => ((t.inc Reg.EPR_HITCNT).setCacheSet k (l :: rest), .got (octs b))
    | none =>
      if l.dirty then (lineLost t l, .ue)
      else fromDram ((t.setCacheSet k rest).inc Reg.EPR_MISSCNT)
  | none => fromDram (s.inc Reg.EPR_MISSCNT)

/-- The record of address `a` is stored, with its check, in its line, which becomes dirty, and its range dirty. -/
def recStore (s : State) (a : Nat) (r : Rec) : State :=
  let k := a % 4096
  let b := ofOcts (recSeal a r)
  let s := match s.line a with
    | some l =>
      (s.setCacheSet k ({ l with dirty := true } :: (s.cacheSet k).filter fun m => m.way != l.way)).poke 6
        (lineOctet a l.way) b
    | none => s.fill a b true
  s.touchRange a

/-- The record of address `a` is written back to unwritten (R274): its line is left without data, and its DRAM words
unwritten. -/
def recErase (s : State) (a : Nat) : State :=
  let k := a % 4096
  let s := s.setCacheSet k ((s.cacheSet k).filter fun m => m.addr != a)
  (s.unwrite 14 (4 * a) 4).touchRange a

/-- What a fetch of a record for a take, a command or a dispatch gives. -/
inductive RecFetch where
  /-- Provisioned. -/
  | got (r : Rec)
  /-- Not provisioned. -/
  | absent
  /-- Uncorrectable, or a record fault. -/
  | bad
  deriving DecidableEq, Repr

/-- A fetch of the record of address `a` (R259, R287): a record fault suspends the stored record, and a record so suspended is no
endpoint until a sheet rewrites it. -/
def recFetch (s : State) (a : Nat) : State × RecFetch :=
  match recAccess s a with
  | (s, .ue) => (s, .bad)
  | (s, .got r) =>
    if r = recZero ∨ recHalted a r then (s, .absent)
    else if recFault a r then
      let s := recStore s a (recSuspend a r)
      (((s.wb Reg.EPR_STAT 6 true).wr Reg.EPR_ERRADDR (word (a % 2 ^ 25))).emit [39], .bad)
    else (s, .got r)

/-- Addresses of range r whose records are not all zero, ascending: those with octets in DRAM or a line. -/
def State.rangeAddrs (s : State) (r : Nat) : List Nat :=
  let dram := s.mem.filterMap fun e =>
    if e.1 / 2 ^ 40 = 14 ∧ e.1 % 2 ^ 40 / 64 / 65536 = r then some (e.1 % 2 ^ 40 / 64) else none
  let lines := (s.epr.tags.flatMap Prod.snd).filterMap fun l => if l.addr / 65536 = r then some l.addr else none
  sortBy (fun a b => decide (a ≤ b)) (dram ++ lines).eraseDups

/-- The provisioned records of range r, ascending (R276); an uncorrectable record is not among them. -/
def State.rangeRecords (s : State) (r : Nat) : List (Nat × Rec) :=
  (s.rangeAddrs r).filterMap fun a =>
    match s.recPeek a with
    | .got b => if recValid b then some (a, b) else none
    | .ue => none

/-- A record of range r cannot be read. -/
def State.rangeUe (s : State) (r : Nat) : Bool := (s.rangeAddrs r).any fun a => s.recPeek a == .ue

/-- A capture of the record of `a` into RECDATA0-15 (R265). An uncorrectable record shows zeros, never its data. -/
def recordCapture (s : State) (a : Nat) : State :=
  let r := match s.recPeek a with | .got r => r | .ue => recZero
  (List.range 16).foldl (fun s i => s.wr (Reg.EPR_RECDATA i) (word (recGet r (4 * i) 4)))
    ((recReport s a).wr Reg.EPR_RECSEL (word (a % 2 ^ 25)))

/-- RECORD_CAPTURE (R265): a write of EPR.RECSEL. -/
def execRecordCapture (addr : Nat) (s : State) : Out := ok (addr < 2 ^ 25) (s.onMain (recordCapture s addr))

end Sys2Proof.Machine
end

