-- ==== Sys2Proof/Machine/Takes.lean ====
section
/-! DEFINITION. A take from its header to its release: demodulator outcomes and records (spec/05_demodulation_coding.md),
the filter stages, siblings, lanes and ACK requests (spec/07_link_timing_engine.md R184-R204), the measurement of an endpoint
(R212-R216) and delivery. -/

namespace Sys2Proof.Machine

/-- The state with take d replaced. -/
def State.setTake (s : State) (d : Nat) (t : Take) : State := { s with lnk := { s.lnk with takes := s.lnk.takes.put d t } }

/-- The take of demodulator d, acted on where there is one. -/
def State.onTake (s : State) (d : Nat) (f : Take → State) : State :=
  match s.lnk.takes.find d with
  | some t => f t
  | none => s

/-! ### Demodulator outcomes (R138-R147) -/

/-- The number of symbols that carry the PHR and its CRC-8. -/
def phrSyms (pw : List Word) : Nat := 24 / pwBits pw

/-- The value v is allowed by a profile's 0 off, 1 on, 2 either (R138). -/
def allows (field : Nat) (v : Bool) : Bool := field == 2 || (field == 1) == v

/-- The header checks of R138 on 24 received bits: the PHR where its CRC-8 passed, and the verdict, 0 where all pass.
DEDUCED (unsafe), log entry 47. -/
def phrCheck (pw : List Word) (bits : List Bool) : Option Nat × Nat :=
  let phr := natMsb (bits.take 16)
  if crc8 [phr / 256, phr % 256] ≠ natMsb ((bits.drop 16).take 8) then (none, 7)
  else
    let len := nfld phr 15 7
    (some phr,
      if nfld phr 3 0 ≠ 0 then 7
      else if !allows (pwFec pw) (phr.testBit 6) then 7
      else if !allows (pwWhiten pw) (phr.testBit 5) then 7
      else if !allows (pwCrc pw) (phr.testBit 4) then 7
      else if len = 0 ∨ pwMax pw < len then 9
      else 0)

/-- The last symbol of the PHR CRC-8 of take d has been received, ending at `eof` (R138): the estimates of its symbols. A
failing check wins over a truncating cause of the same instant or a later one (R145, R159). -/
def phrReceived (s : State) (d : Nat) (est : List Int) (eof : Nat) : State :=
  s.onTake d fun t =>
    if t.phr.isSome || t.body || !(t.outcome == none || (t.outcome == some 8 && decide (eof ≤ t.endAt))) then s
    else
      let bits := (softAll (pwFsk4 t.pw) (pwDev t.pw) (est.take (phrSyms t.pw))).map hardBit
      match phrCheck t.pw bits with
      | (phr, 0) => s.setTake d { t with phr := phr, body := true }
      | (phr, v) => s.setTake d { t with phr := phr, outcome := some v, endAt := eof, eof := eof, dead := false }

/-- A symbol period of take t, whose branch is B where `onB` says so, is dead (R143). -/
def State.deadSymbol (s : State) (t : Take) (onB : Bool) (x : SymbolSeen) : Bool :=
  !reaches x.power (s.floor (64 * t.chain + t.ch) onB + 48) || decide (3 * pwDev t.pw < 2 * x.freq.natAbs)

/-- Eight consecutive symbol periods of take d, the eighth ending at `till`, after a last live symbol that ended at `eof` (R143):
where each is dead the take ends TRUNCATED, unless it ended before. -/
def deadTake (s : State) (d : Nat) (seen : List SymbolSeen) (eof till : Nat) : State :=
  s.onTake d fun t =>
    let onB := ((s.trec d).getD 11 0).testBit 0
    if seen.length = 8 ∧ seen.all (s.deadSymbol t onB) ∧ !t.decoded
        ∧ (t.outcome = none ∨ (t.outcome = some 8 ∧ till < t.endAt)) then
      s.setTake d { t with outcome := some 8, endAt := till, eof := eof, dead := true }
    else s

/-- All B bits of take d have been received, the last symbol ending at `eof`; a truncating cause at or after that instant, an
eighth dead period too, does not truncate it (R143, R145). -/
def takeComplete (s : State) (d eof : Nat) : State :=
  s.onTake d fun t =>
    if t.body && !t.decoded && (t.outcome == none || (t.outcome == some 8 && decide (eof ≤ t.endAt))) then
      s.setTake d { t with outcome := some 0, endAt := eof, eof := eof, dead := false }
    else s

/-- The rate error in ppm (R150): rounded to nearest, halves away from zero, and clamped. -/
def ratePpm (m : Demodulated) (rate : Nat) : Int :=
  let nominal := rate * m.rateDen
  clampI (-32767) 32767 (rdiv (1000000 * ((m.rateNum : Int) - nominal)) nominal)

/-- Decoding of take d ends (R139, R146-R151, R155): the PSDU and the received CRC octets go to the frame buffer, the CRC
decides a complete take, and the record's second stage is written. The means of R149, R150 and R152 go over the symbols up to the
end-of-frame stamp.
DESIGN CHOICE (unsafe), log entry 107. -/
def decodeDone (s : State) (d : Nat) (m : Demodulated) : State :=
  s.onTake d fun t =>
    match t.outcome with
    | none => s
    | some out =>
      if t.decoded then s
      else
        let cause := out == 8 && !t.dead
        let eof := if cause then min m.eof t.endAt else t.eof
        let phr := t.phr.getD 0
        let len := nfld phr 15 7
        let fec := phr.testBit 6
        let wide := phr.testBit 4
        let fsk4 := pwFsk4 t.pw
        let est := if t.body then m.est.take (frameB len fec wide / pwBits t.pw) else m.est.take (phrSyms t.pw)
        let qs := softAll fsk4 (pwDev t.pw) (est.drop (phrSyms t.pw))
        let dec := if t.body then decodeBody qs len fec (phr.testBit 5) wide else { psdu := [], crc := [], corrected := 0 }
        let good := out != 0 || dec.crc == payloadCrc wide dec.psdu
        let out := if good then out else 6
        let octets := if out = 8 then dec.psdu else dec.psdu ++ dec.crc
        let s : State := if octets.isEmpty then s else (s.write 5 8 (1024 * d) (ofOcts octets)).1
        let des := s.desensed t.chain t.stamp eof
        let rate := if est.length < 16 then 0 else ratePpm m (pwRate t.pw)
        let r := setOcts (setOcts (s.trec d) 14 3 (toU 24 m.freq)) 17 2 (toU 16 rate)
        let r := setOcts (setOcts r 19 2 dec.corrected) 21 1 (lqi fsk4 (pwDev t.pw) est)
        let r := setOcts r 22 2 len
        let b := r.getD 11 0
        let r := setOcts r 11 1 (b % 4 + b / 64 * 64 + 4 * b2n des + 8 * b2n fec + 16 * b2n (phr.testBit 5) + 32 * b2n wide)
        let s := s.setTrec d (setOcts r 30 1 out)
        let s := s.wr64 (Reg.DMD_EOF d 0) eof
        s.setTake d { t with outcome := some out, eof := eof, decoded := true, len := dec.psdu.length, desensed := des }

/-! ### Instants -/

/-- The ready instant (R201). -/
def Take.readyAt (t : Take) : Nat := cdiv t.eof 8 + 1600

/-- The release instant (R20). -/
def Take.releaseAt (t : Take) : Nat := cdiv t.endAt 8 + 12800

/-- End-of-frame order with the ties of R20; of two profiles on one channel, the lower first.
DEDUCED (unsafe), log entry 50. -/
def Take.eofLe (a b : Take) : Bool :=
  decide (a.eof < b.eof) || (a.eof == b.eof && (decide (a.chain < b.chain)
    || (a.chain == b.chain && (decide (a.ch < b.ch) || (a.ch == b.ch && decide (a.prof ≤ b.prof))))))

/-- Order of ready instants with the ties of R20 (R192, R201). -/
def Take.readyLe (a b : Take) : Bool := decide (a.readyAt < b.readyAt) || (a.readyAt == b.readyAt && a.eofLe b)

/-- The PSDU of take d: as LNK read it at the ready instant (R161), and until then as its frame buffer holds it. -/
def State.psdu (s : State) (d : Nat) (t : Take) : Option (List Nat) :=
  if t.ready then t.psdu else (s.peek 8 (1024 * d) t.len).map octs

/-! ### Stages 1 to 4 (R184-R189, R234) -/

/-- The bit of LNK.TYPEACC for a frame type, and whether the type needs RELAY (R189). -/
def typeBit (type : Nat) : Nat × Bool :=
  match type with
  | 0 => (0, false)
  | 4 => (1, false)
  | 1 => (2, true)
  | 2 => (3, true)
  | _ => (5, true)

/-- A network identifier is accepted (R170). -/
def State.netOk (s : State) (n : Nat) : Bool := (List.range 4).any fun i => s.rb (Reg.LNK_NETID i) 16 && s.rf (Reg.LNK_NETID i) 15 0 == n

/-- LNK.ADDR. -/
def State.ownAddr (s : State) : Nat := s.rf Reg.LNK_ADDR 24 0

/-- The destination short address is foreign (R186). -/
def State.foreign (s : State) (p : List Nat) : Bool :=
  let a := field p 12 4 % 2 ^ 25
  a != 0 && a != s.ownAddr

/-- Stage 2 (R184, R185): 0, or the verdict. -/
def State.stage2 (s : State) (p : List Nat) : Nat :=
  let l := p.length
  let fc := fcOf p
  let type := fcType fc
  let tb := typeBit type
  -- The field of the destination check: its end, and whether it passes.
  let dest : Nat × Bool :=
    match type with
    | 1 => (16, field p 12 4 % 2 ^ 25 == s.ownAddr)
    | 2 => (12, field p 8 4 % 2 ^ 25 == s.ownAddr)
    | 3 => (0, true)
    | _ => (16, !s.foreign p || s.rb Reg.LNK_TYPEACC 4)
  if l < 2 then 9
  else if !fcAllowed fc then 0x0D
  else if !s.rb Reg.LNK_TYPEACC tb.1 || (tb.2 && s.mode != 5) then 0x0D
  else if l < 4 then 9
  else if !s.netOk (field p 2 2) then 0x0D
  else if l < dest.1 then 9
  else if !dest.2 then 0x0D
  else if l < mhrLen fc + micLen (fcSec fc) then 9
  else 0

/-- Stages 3 and 4 of an uplink or endpoint command (R184, R185): the record, or the failing stage with its verdict. -/
def stage34 (s : State) (p : List Nat) : State × (List Nat ⊕ (Nat × Nat)) :=
  let a := sourceShort p
  if a = 0 ∨ s.eprLimit < a then (s, .inr (3, 3))
  else if !s.rangeLoaded a then (s, .inr (3, 0x0A))
  else
    match recFetch s a with
    | (s, .bad) => (s, .inr (3, 0x0C))
    | (s, .absent) => (s, .inr (3, 3))
    | (s, .got r) =>
      if recSusp r then (s, .inr (3, 3))
      else if fcLong (fcOf p) && field p 16 8 != recLong r then (s, .inr (4, 4))
      else (s, .inl r)

/-- Stages 3 and 4 of a frame of the parent (R234): the failing stage and verdict. -/
def State.parent34 (s : State) (p : List Nat) : Option (Nat × Nat) :=
  let from_ := field p 8 4 % 2 ^ 25
  let eui := s.rd64 (Reg.LNK_PEUI 0)
  match fcType (fcOf p) with
  | 3 =>
    if from_ ≠ s.rf Reg.LNK_PADDR 24 0 then some (3, 3)
    else if eui ≠ 0 ∧ field p 12 8 ≠ eui then some (4, 4) else none
  | 1 => if from_ ≠ s.rf Reg.LNK_PADDR 24 0 then some (3, 3) else none
  | _ => none

/-- The take ends in the filter at a stage, with a verdict that its record shows. -/
def takeFails (s : State) (d : Nat) (t : Take) (stage verdict : Nat) : State :=
  let s := s.setTrec d (setOcts (s.trec d) 30 1 verdict)
  s.setTake d { t with ready := true, resolved := true, laned := true, stage := stage, verdict := verdict, resAt := t.readyAt }

/-- The short address that a received frame's source field carries (R155).
DEDUCED (unsafe), log entry 49. -/
def recordAddr (p : List Nat) : Nat :=
  let type := fcType (fcOf p)
  if p.length < 12 ∨ 5 ≤ type ∨ type = 2 ∨ type = 3 then 0 else sourceShort p

/-- The short address in take d's record (R155). -/
def State.setRecAddr (s : State) (d a : Nat) : State := s.setTrec d (setOcts (s.trec d) 24 4 a)

/-- Take t is decoded, and its ready instant has come. -/
def State.readyDue (s : State) (t : Take) : Bool := t.decoded && !t.ready && decide (t.readyAt ≤ s.slate)

/-- Take d at its ready instant (R201): the one read of its frame buffer (R161) and of its demodulator's engine state, either of which gives
ECC_FAIL where it cannot be read (R454), and stages 1 to 4. -/
def takeReady (s : State) (d : Nat) : State :=
  s.onTake d fun t =>
    if !s.readyDue t then s
    else
      let out := t.outcome.getD 8
      let s := (if t.len = 0 then s else s.readReport 6 8 (1024 * d) t.len).readReport 6 12 (8 * demodWord d) 8
      match if s.readable 12 (8 * demodWord d) 8 then s.psdu d t else none with
      | none =>
        let s := (s.wf Reg.DMD_ERR 15 8 d).wb Reg.DMD_ERR 0 true
        takeFails (s.setRecAddr d 0) d t 1 0x0C
      | some p =>
        let t := { t with psdu := some p }
        if out ≠ 0 then takeFails (s.setRecAddr d 0) d t 1 out
        else
          let s := s.setRecAddr d (recordAddr p)
          let v := s.stage2 p
          if v ≠ 0 then takeFails s d t 2 v
          else if fcUplink (fcOf p) then
            match stage34 s p with
            | (s, .inr (st, v)) => takeFails s d t st v
            | (s, .inl r) => s.setTake d { t with ready := true, reach5 := true, record := r }
          else
            match s.parent34 p with
            | some (st, v) => takeFails s d t st v
            | none => s.setTake d { t with ready := true, reach5 := true }

/-! ### The replay window (R190, R191) and the endpoint's schedule (R213-R216) -/

/-- The classification of counter f (R190): none where it passes, else the verdict and reack. -/
def classify (h w f : Nat) : Option (Nat × Bool) :=
  if h < f then if 0x80000000 < f - h then some (2, false) else none
  else if f = h then some (1, true)
  else if h - f ≤ 32 then if w.testBit (h - f - 1) then some (1, true) else none
  else some (1, false)

/-- H and W after an accepted counter f (R191); at f = H the shift count wraps to 2^32 - 1, and the term is 0. -/
def windowNext (h w f : Nat) : Nat × Nat :=
  if h < f then
    let s := f - h
    (f, if 32 < s then 0 else (w * 2 ^ s + 2 ^ (s - 1)) % 2 ^ 32)
  else if f < h ∧ h - f ≤ 32 then (h, w ||| 2 ^ (h - f - 1))
  else (h, w)

/-- A wake interval field that is valid (R213). -/
def wakeValid (v : Nat) : Bool := decide (63 ≤ v) && decide (v ≤ 4000)

/-- Eighths per interval of a record (R214); "/" truncates toward zero. -/
def recPeriod (r : Rec) : Int :=
  let i : Int := 8 * (recInterval r * 512000 : Nat)
  i - Int.tdiv (i * recDrift r) 65536000000

/-- The measurement of R214: resync, sample and c.
DEDUCED (unsafe), log entry 50. -/
def measure (r : Rec) (toa w : Nat) : Bool × Int × Int :=
  let a := recHeard r
  let d := recDrift r
  let i : Int := 8 * (recInterval r * 512000 : Nat)
  if a = 0 then (true, 0, 0)
  else
    let period := recPeriod r
    let kEst := rdiv ((toa : Int) - a) period
    let k := kEst + sext 16 (toU 16 ((w : Int) - recPhase r - kEst))
    let p := (a : Int) + k * period
    let e := (toa : Int) - p
    if k ≤ 0 then (true, 0, 0)
    else
      let sample := d - Int.tdiv (e * 65536000000) (k * i)
      if 26214400 < sample.natAbs then (true, sample, 0)
      else (false, sample, clampI (-32767) 32767 (-(rdiv e 256)))

/-- The record after the release of take t with counter f and wake counter w (R191, R216).
DEDUCED (unsafe), log entry 50. -/
def recUpdate (r : Rec) (t : Take) (f w : Nat) : Rec :=
  let hw := windowNext (recH r) (recW r) f
  let r := recSet (recSet r 32 4 hw.1) 36 4 hw.2
  if t.timed ∧ wakeValid (recInterval r) then
    let d := recDrift r
    let r := if t.resync then r
      else recSet r 40 4 (toU 32 (clampI (-13107200) 13107200 (d + Int.tdiv (t.sample - d) 8)))
    let a : Int := if t.verdict = 0 ∧ t.acked then (t.stamp : Int) + 256 * t.corr else t.stamp
    recSet (recSet r 44 8 (toU 64 a)) 54 2 w
  else r

/-- The take updates a registry record at its release (R18). -/
def Take.updates (t : Take) : Bool := t.reach5 && (t.verdict == 0 || t.verdict == 0x0B)

/-- The update of take t is of the record that take u saw (R192, R267, R268): no sheet had deleted it by u's ready instant. -/
def Take.updateSeen (t u : Take) : Bool :=
  t.updates && match t.deleted with | none => true | some x => decide (u.readyAt < x)

/-! ### Siblings and stage 5 (R192-R195) -/

/-- What makes takes siblings (R194): TYPE, source short address and counter of a decoded PSDU. An ACK carries no source, and
stage 5 passes it (R234). A take whose PSDU is not decoded yet, or that has been released, is no sibling.
DESIGN CHOICE (unsafe), log entry 104. -/
def State.sibKey (s : State) (d : Nat) (t : Take) : Option (Nat × Nat × Nat) :=
  if !t.decoded || decide (t.len < 12) then none
  else
    match s.psdu d t with
    | some p => if fcType (fcOf p) = 2 then none else some (fcType (fcOf p), sourceShort p, frameCounter p)
    | none => none

/-- The ToA stamps of two takes lie within LNK.SAMEWIN. -/
def State.sameWin (s : State) (a b : Take) : Bool :=
  decide (max a.stamp b.stamp - min a.stamp b.stamp ≤ 8 * s.rf Reg.LNK_SAMEWIN 7 0)

/-- Takes other than d that carry the same frame within the window (R195). -/
def State.sameFrameTakes (s : State) (d : Nat) (t : Take) : List (Nat × Take) :=
  let k := s.sibKey d t
  s.lnk.takes.filter fun u => u.1 != d && k.isSome && s.sameWin t u.2 && s.sibKey u.1 u.2 == k

/-- The window that a frame's counter is judged by (R190, R234): of the endpoint with its short address, or of the parent link;
none for an ACK. -/
def windowOf (p : List Nat) : Option (Option Nat) :=
  let fc := fcOf p
  if fcUplink fc then some (some (sourceShort p)) else if fcType fc = 2 then none else some none

/-- Takes of the same short address, or of the parent, that are ready earlier and not released (R192). -/
def State.earlierTakes (s : State) (d : Nat) (t : Take) : List (Nat × Take) :=
  let a := (s.psdu d t).bind windowOf
  sortBy (fun x y => x.2.readyLe y.2) (s.lnk.takes.filter fun u =>
    u.1 != d && a.isSome && u.2.reach5 && !u.2.updated && u.2.readyLe t && (s.psdu u.1 u.2).bind windowOf == a)

/-- Stages 5 and 6 of take d can be resolved (R192, R195): its siblings are ready, the takes whose updates it sees are decided, and
every take of an earlier ready instant has had its lookup of a key (R303). -/
def State.resolvable (s : State) (d : Nat) (t : Take) : Bool :=
  t.reach5 && t.ready && !t.resolved
    && ((s.sameFrameTakes d t).all fun u => u.2.ready)
    && ((s.earlierTakes d t).all fun u => u.2.laned)
    && (s.lnk.takes.all fun u => u.1 == d || !u.2.ready || u.2.resolved || !u.2.readyLe t)

/-- The resolution instant (R195). -/
def State.resolveAt (s : State) (d : Nat) (t : Take) : Nat := maxL (t.readyAt :: (s.sameFrameTakes d t).map fun u => u.2.readyAt)

/-- Take t of demodulator d loses to a sibling (R194, R27). Of two with one stamp on one channel, under profiles that are not alike,
neither loses.
DESIGN CHOICE (unsafe), log entry 104. -/
def State.loses (s : State) (d : Nat) (t : Take) : Bool :=
  (s.sameFrameTakes d t).any fun u => u.2.reach5 && (decide (u.2.stamp < t.stamp)
    || (u.2.stamp == t.stamp && (decide (u.2.chain < t.chain) || (u.2.chain == t.chain && decide (u.2.ch < t.ch)))))

/-- The record that stage 5 of take d sees (R192): its own snapshot, updated by the earlier takes not yet released. -/
def State.stage5Record (s : State) (d : Nat) (t : Take) : Rec :=
  (s.earlierTakes d t).foldl (fun r u =>
    match s.psdu u.1 u.2 with
    | some p => if u.2.updateSeen t then recUpdate r u.2 (frameCounter p) (wakeCounter p) else r
    | none => r) t.record

/-- H and W of the parent link as stage 5 of take d sees them (R192, R234): with the earlier takes not yet released. -/
def State.parentWindow (s : State) (d : Nat) (t : Take) : Nat × Nat :=
  (s.earlierTakes d t).foldl (fun w u =>
    match s.psdu u.1 u.2 with
    | some p => if u.2.reach5 && u.2.verdict == 0 then windowNext w.1 w.2 (frameCounter p) else w
    | none => w) ((s.rd Reg.LNK_PRH).toNat, (s.rd Reg.LNK_PRW).toNat)

/-! ### Stage 6 (R184, R234, R304) -/

/-- The outcome of stage 6: 0 with the key and the payload, or the verdict. -/
structure MicResult where
  verdict : Nat
  key : List Nat := []
  plain : List Nat := []

/-- The key for a received frame: of the endpoint, or of the parent link (R180, R234). -/
def frameKey (s : State) (p : List Nat) (r : Rec) : State × KeyFound :=
  let fc := fcOf p
  if fcSec fc = 0 then (s, .key [])
  else if fcUplink fc then endpointKey s (sourceShort p) (recKgen r) (recKey r)
  else hostKey s (if fcType fc = 3 then s.rf Reg.LNK_PKEY 11 0 else s.rf Reg.LNK_PKEY 27 16) 3

/-- The long address of a received frame's nonce (R179, R234). -/
def frameLong (p : List Nat) (r : Rec) : Nat :=
  let fc := fcOf p
  if fcType fc = 3 then field p 12 8
  else if fcUplink fc then if fcLong fc then field p 16 8 else recLong r
  else Config.eui64

/-- Stage 6. -/
def stage6 (s : State) (p : List Nat) (r : Rec) : State × MicResult :=
  if fcSec (fcOf p) < s.rf Reg.LNK_CTL 5 4 then (s, { verdict := 5 })
  else
    match frameKey s p r with
    | (s, .key k) =>
      match openPsdu k (frameLong p r) p with
      | some m => (s, { verdict := 0, key := k, plain := m })
      | none => (s, { verdict := 5 })
    | (s, .fail) => (s, { verdict := 5 })
    | (s, .ecc) => (s, { verdict := 0x0C })

/-! ### Lanes and ACK requests (R196-R204) -/

/-- The conditions of R196 that are known before the lane, for take t with PSDU p, as they stand when the lane is assigned.
DESIGN CHOICE (unsafe), log entry 104. -/
def State.ackWanted (s : State) (t : Take) (p : List Nat) : Bool :=
  let fc := fcOf p
  t.reach5 && (t.verdict == 0 || (t.verdict == 1 && t.reack)) && fcUplink fc && fcAckReq fc && !s.foreign p
    && s.rb Reg.LNK_CTL 0 && !s.fencePassed t && !t.late

/-- The ACK request of take d (R197, R198), under number `id`.
DEDUCED (unsafe), log entry 50. -/
def State.ackReq (s : State) (d : Nat) (t : Take) (p : List Nat) (id : Nat) : AckReq :=
  let fc := fcOf p
  { id := id, eof := t.eof, stamp := t.stamp, demod := d, chain := t.chain, ch := t.ch, prof := t.prof, pw := t.pw,
    word := t.word, t0 := cdiv t.eof 8 + s.rf (Reg.LNK_TACK t.prof) 19 0, setup := s.setup t.chain, reack := t.verdict == 1,
    addr := sourceShort p, net := field p 2 2, counter := frameCounter p, sec := if fcSec fc = 0 then 0 else 1,
    long := frameLong p t.record, record := t.record, key := t.key,
    tc := if wakeValid (recInterval t.record) then some t.corr else none, deleted := t.deleted.isSome }

/-- The commit point C (R198). -/
def AckReq.commitAt (a : AckReq) : Nat := a.t0 - a.setup

/-- Take t where its ACK, with commit point c, has missed it (R30): a verdict of ACCEPTED becomes LATE where c lies at or before its
release instant. -/
def Take.ackMissed (t : Take) (c : Nat) : Take :=
  { t with acked := false, verdict := if t.verdict = 0 ∧ c ≤ t.releaseAt then 0x0B else t.verdict }

/-- The receive lane of take d, resolved, and the admission of its ACK (R201). Where the commit point has passed by then, the ACK path
has missed it (R30).
DESIGN CHOICE (safe), log entry 84. -/
def laneTake (s : State) (d : Nat) (t : Take) : State :=
  let p := (s.psdu d t).getD []
  let f0 := s.rd64 (Reg.CIP_FREE 0 0)
  let f1 := s.rd64 (Reg.CIP_FREE 1 0)
  let lane := if f1 < f0 then 1 else 0
  let fin := max t.resAt (min f0 f1) + 24 + 16 + 2 * cdiv t.len 16
  let s := if t.reach6 then
      { s.wr64 (Reg.CIP_FREE lane 0) fin with cip := { s.cip with laneRx := s.cip.laneRx ++ [fin] } }
    else s
  let fin := if t.reach6 then fin else t.resAt
  if s.ackWanted t p then
    let a := s.ackReq d t p s.lnk.seq
    if fin + 64 ≤ a.commitAt ∧ a.commitAt < s.slate then
      (s.raiseMargin 1).setTake d { t.ackMissed a.commitAt with laned := true }
    else if fin + 64 ≤ a.commitAt then
      let s : State := { s with lnk := { s.lnk with acks := s.lnk.acks ++ [a], seq := s.lnk.seq + 1 } }
      s.setTake d { t with laned := true, acked := true }
    else
      (((s.inc Reg.LNK_OVRCNT).wb Reg.LNK_STAT 1 true).emit [23]).setTake d { t with laned := true }
  else s.setTake d { t with laned := true }

/-- Resolved takes take their lanes in order of ready instants; one that still waits holds back the later ones (R201).
DEDUCED (unsafe), log entry 50. -/
def assignLanes : Nat → State → State
  | 0, s => s
  | fuel + 1, s =>
    match sortBy (fun x y => x.2.readyLe y.2) (s.lnk.takes.filter fun u => u.2.ready && !u.2.laned) with
    | [] => s
    | (d, t) :: _ => if t.resolved then assignLanes fuel (laneTake s d t) else s

/-- Stages 5 and 6 of take d (R194, R195, R184). -/
def resolveTake (s : State) (d : Nat) : State :=
  s.onTake d fun t =>
    if !s.resolvable d t then s
    else
      match s.psdu d t with
      | none => s
      | some p =>
        let fc := fcOf p
        let up := fcUplink fc
        let r := s.stage5Record d t
        let f := frameCounter p
        let timed := up && wakeValid (recInterval r)
        let m := if timed then measure r t.stamp (wakeCounter p) else (false, 0, 0)
        let t := { t with record := r, timed := timed, resync := m.1, sample := m.2.1, corr := m.2.2,
                          resolved := true, resAt := s.resolveAt d t }
        let cls := if up then classify (recH r) (recW r) f
          else if fcType fc = 2 then none
          else classify (s.parentWindow d t).1 (s.parentWindow d t).2 f
        let show_ (s : State) (t : Take) : State :=
          assignLanes 192 ((s.setTrec d (setOcts (s.trec d) 30 1 t.verdict)).setTake d t)
        if s.loses d t then show_ s { t with stage := 5, verdict := 1 }
        else
          match cls with
          | some (v, reack) => show_ s { t with stage := 5, verdict := v, reack := reack }
          | none =>
            let x := stage6 s p r
            let t := { t with reach6 := true, key := x.2.key, plain := x.2.plain }
            if x.2.verdict = 0 then show_ x.1 { t with verdict := if s.fencePassed t then 0x0B else 0 }
            else show_ x.1 { t with stage := 6, verdict := x.2.verdict }

/-! ### Release (R20, R157, R187) and delivery (R19, R326-R336) -/

/-- A receive verdict counts (R164). -/
def State.countVerdict (s : State) (v : Nat) : State :=
  { s with lnk := { s.lnk with stats := s.lnk.stats.store 0 v (s.lnk.stats.get v 0 + 1) } }

/-- Octets `p` with the MAC payload in the clear (FORMAT 2). -/
def clearPsdu (p plain : List Nat) : List Nat :=
  let h := mhrLen (fcOf p)
  p.take h ++ plain ++ p.drop (h + plain.length)

/-- The packet of take d for route i: its words, and the cause where it is a bad packet (R326, R327, R336). -/
def State.takePacket (s : State) (d : Nat) (t : Take) (i : Nat) : List Word × Option Nat :=
  let form := s.rf (Reg.REL_ROUTE_A i) 29 28
  let p := (s.psdu d t).getD []
  let fc := fcOf p
  let fmt :=
    if form = 2 ∨ !t.body ∨ t.verdict = 0x0C then 0
    else if t.verdict = 0 ∨ t.verdict = 0x0B then form + 1
    else 3
  let body := match fmt with | 0 => [] | 1 => t.plain | 2 => clearPsdu p t.plain | _ => p
  let pend := decide (2 ≤ p.length) && fcUplink fc && fcPend fc
  let eof := s.rb (Reg.REL_ROUTE_A i) 30
  let ws := reelHeader 1 eof fmt pend i body.length
    :: packWords (ofOcts (s.trec d) ++ (if eof then bytesLE 8 t.eof else []) ++ ofOcts body)
  (ws, if t.verdict = 8 then some 1 else if t.verdict = 0x0C then some 2 else none)

/-- The take goes to every matching route, in ascending order (R332-R334). -/
def deliver (s : State) (d : Nat) (t : Take) : State :=
  let hits := (List.range 16).filter fun i => s.routeTakes i t.chain t.prof t.verdict t.desensed
  let s := hits.foldl (fun (s : State) i => let x := s.takePacket d t i; routePacket s i x.1 x.2) s
  if hits.isEmpty ∧ (t.verdict = 0 ∨ t.verdict = 0x0A ∨ t.verdict = 0x0B) then s.inc Reg.REL_NOROUTE else s

/-- The registry update of take t with PSDU p at its release (R18, R268); takes of the same address that are ready and not
resolved see it too (R192). -/
def releaseUpdate (s : State) (t : Take) (p : List Nat) : State :=
  let fc := fcOf p
  if !t.updates then s
  else if fcUplink fc then
    let f := frameCounter p
    let w := wakeCounter p
    let a := sourceShort p
    let s := if t.deleted.isSome then s
      else
        match recFetch s a with
        | (s, .got r) => recStore s a (recUpdate r t f w)
        | (s, _) => s
    let s := if t.timed && t.resync then s.inc Reg.LNK_RSYNCNT else s
    { s with lnk := { s.lnk with takes := s.lnk.takes.map fun (d, u) =>
      if u.reach5 ∧ !u.resolved ∧ t.readyLe u ∧ t.updateSeen u ∧ (s.psdu d u).bind windowOf = some (some a) then
        (d, { u with record := recUpdate u.record t f w }) else (d, u) } }
  else if t.verdict = 0 ∧ fcType fc ≠ 2 then
    let hw := windowNext (s.rd Reg.LNK_PRH).toNat (s.rd Reg.LNK_PRW).toNat (frameCounter p)
    let s := (s.wr Reg.LNK_PRH (word hw.1)).wr Reg.LNK_PRW (word hw.2)
    if fcType fc = 3 then parentBeacon s p t.stamp t.chain t.ch t.prof else s
  else s

/-- The counters of a released take (R157, R162, R187).
DEDUCED (unsafe), log entry 50. -/
def countTake (s : State) (t : Take) : State :=
  let s := (s.countVerdict t.verdict).inc (Reg.DMD_CNT 0)
  let s := if t.stage = 0 then s.inc Reg.LNK_PASS else s.inc (Reg.LNK_REJ (t.stage - 1))
  let s := match t.verdict with
    | 7 => s.inc (Reg.DMD_CNT 1)
    | 9 => if t.stage = 1 then s.inc (Reg.DMD_CNT 2) else s
    | 6 => s.inc (Reg.DMD_CNT 3)
    | 8 => if t.dead then (s.inc (Reg.DMD_CNT 4)).inc (Reg.DMD_CNT 5) else s.inc (Reg.DMD_CNT 4)
    | _ => s
  if t.desensed then (s.countVerdict 0x0E).inc (Reg.DMD_CNT 7) else s

/-- Take d is complete: every stage it reaches has its result. -/
def Take.done (t : Take) : Bool := t.ready && t.resolved && t.laned

/-- Take t is complete, and its release instant has come. -/
def State.releaseDue (s : State) (t : Take) : Bool := t.done && t.outcome.isSome && decide (t.releaseAt ≤ s.slate)

/-- The registry update of take d, once, in the tick of its release (R20, R264). -/
def takeUpdate (s : State) (d : Nat) : State :=
  s.onTake d fun t =>
    if s.releaseDue t ∧ !t.updated then
      (releaseUpdate s { t with acked := t.acked && !t.late } ((s.psdu d t).getD [])).setTake d { t with updated := true }
    else s

/-- The commit of take d in the present tick (R20): counts, delivery, DMD.TAKE_DONE; its demodulator is free, and its search
resumes in the next tick. -/
def commitTake (s : State) (d : Nat) (t : Take) : State :=
  let t := if t.late ∧ t.verdict = 0 then { t with verdict := 0x0B } else t
  let s := s.setTrec d (setOcts (s.trec d) 30 1 t.verdict)
  let s := (deliver (countTake s t) d t).emit [19, 219]
  let c := 64 * t.chain + t.ch
  let s : State := { s with
    lnk := { s.lnk with
      takes := s.lnk.takes.del d
      freeAt := s.lnk.freeAt.put d s.slate
      parked := s.lnk.parked.put (16 * c + t.prof) s.slate }
    chz := { s.chz with took := s.chz.took.put c s.slate } }
  powerChains (drainEpochs s)

/-- Take d is released in the present tick (R20): its record update, where that has not taken effect, and its commit. -/
def releaseTake (s : State) (d : Nat) (t : Take) : State :=
  commitTake (if t.updated then s else releaseUpdate s t ((s.psdu d t).getD [])) d t

/-- TAKE_RELEASE's effect: at the release instant, where the take is complete. -/
def takeRelease (s : State) (d : Nat) : State :=
  s.onTake d fun t => if s.releaseDue t && !t.late then releaseTake s d t else s

/-- The release deadline of take d passes with the take not finished (R20, R30): it commits late, and no ACK is sent for it.
DESIGN CHOICE (safe), log entry 84. -/
def releaseMissed (s : State) (d : Nat) (t : Take) : State :=
  let acks := s.lnk.acks.filter fun a => !(a.demod == d && a.stamp == t.stamp)
  (({ s with lnk := { s.lnk with acks := acks } }).setTake d { t with late := true, acked := false }).raiseMargin 1

/-- Take t stands at its release instant and is not complete. The release of a truncated take misses nothing (R20). -/
def State.releaseLate (s : State) (t : Take) : Bool :=
  t.outcome.isSome && t.outcome != some 8 && !t.late && decide (t.releaseAt ≤ s.slate)

/-- A take that stands at its release instant and is not complete misses its deadline (R20). -/
def releaseCheck (s : State) (d : Nat) : State :=
  s.onTake d fun t => if s.releaseLate t && !t.done then releaseMissed s d t else s

/-- A take whose release deadline was missed is committed at the first tick at which it is complete (R30); no ACK is sent.
DESIGN CHOICE (safe), log entry 84. -/
def lateCommit (s : State) (d : Nat) : State :=
  s.onTake d fun t =>
    if t.late && s.releaseDue t then
      releaseTake { s with lnk := { s.lnk with
        acks := s.lnk.acks.filter fun a => !(a.demod == d && a.stamp == t.stamp) } } d { t with acked := false }
    else s

/-! ### Commands -/

/-- PHR_RECEIVED (R138). -/
def execPhrReceived (d : Nat) (est : List Int) (eof : Nat) (s : State) : Out := ok (d < 192) (phrReceived s d est eof)

/-- DEAD_SYMBOL_TRUNCATION (R143). -/
def execDeadSymbolTruncation (d : Nat) (run : SymbolRun) (till : Nat) (s : State) : Out :=
  ok (d < 192) (deadTake s d run.seen run.eof till)

/-- TAKE_COMPLETE (R139). -/
def execTakeComplete (d eof : Nat) (s : State) : Out := ok (d < 192) (takeComplete s d eof)

/-- DECODE_DONE (R147). -/
def execDecodeDone (d : Nat) (r : Demodulated) (s : State) : Out := ok (d < 192) (decodeDone s d r)

/-- SIBLING_RESOLUTION (R195). -/
def execSiblingResolution (d : Nat) (s : State) : Out := ok (d < 192) (resolveTake s d)

end Sys2Proof.Machine
end

