-- ==== Sys2Proof/Machine/Queue.lean ====
section
/-! DEFINITION. Downlink slots, the queue directory and the schedule table (spec/08_sleepy_downlink_beacons.md R217-R223,
spec/07_link_timing_engine.md R205, R206). -/

namespace Sys2Proof.Machine

/-! ### Downlink slots (R217) -/

/-- Octet offset in DRAM of downlink slot n.
DESIGN CHOICE (unsafe), log entry 7. -/
def State.slotAt (s : State) (n : Nat) : Nat := s.winBase + 512 * n

/-- The header of a downlink slot. -/
structure SlotHead where
  dest : Nat
  type : Nat
  sec : Nat
  ack : Bool
  plen : Nat
  deriving DecidableEq, Repr

/-- The header in a slot's first eight octets. -/
def slotHead (b : List Nat) : SlotHead :=
  let f := field b 4 1
  { dest := field b 0 4 % 2 ^ 25, type := nfld f 7 5, sec := nfld f 4 3, ack := f.testBit 2, plen := field b 6 2 }

/-- H of the frame of a slot (R177): an uplink layout for a relay uplink. -/
def SlotHead.mhr (h : SlotHead) : Nat := if h.type = 0 then 18 else 16

/-- L of the frame of a slot. -/
def SlotHead.len (h : SlotHead) : Nat := h.mhr + h.plen + micLen h.sec

/-- A slot header that does not break cause 3 of R219. -/
def State.headOk (s : State) (h : SlotHead) : Bool :=
  (h.type == 1 || h.type == 4 || (h.type == 0 && s.mode == 5)) && decide (h.len ≤ 511)

/-- The header of slot n as it stands, none where it cannot be read.
DEDUCED (unsafe), log entry 52. -/
def State.slotHead (s : State) (n : Nat) : Option SlotHead := (s.peek 14 (s.slotAt n) 8).map fun b => Machine.slotHead (octs b)

/-! ### The schedule table (R205) -/

/-- The 16 octets of a schedule entry. -/
abbrev Entry := List Nat

def Entry.time (x : Entry) : Nat := field x 0 8
def Entry.route (x : Entry) : Word := word (field x 8 4)
def Entry.ctrl (x : Entry) : Word := word (field x 12 4)
def Entry.prof (x : Entry) : Nat := fld (Entry.route x) 31 28
def Entry.chain (x : Entry) : Nat := fld (Entry.route x) 27 25
def Entry.ch (x : Entry) : Nat := fld (Entry.route x) 24 19
def Entry.slot (x : Entry) : Nat := fld (Entry.route x) 17 0
def Entry.state (x : Entry) : Nat := fld (Entry.ctrl x) 23 20
def Entry.pmode (x : Entry) : Nat := fld (Entry.ctrl x) 19 18
def Entry.origin (x : Entry) : Bool := bit (Entry.ctrl x) 17
def Entry.nrep (x : Entry) : Nat := fld (Entry.ctrl x) 15 12
def Entry.prelen (x : Entry) : Nat := fld (Entry.ctrl x) 11 0

/-- The entry with TIME t. -/
def Entry.setTime (x : Entry) (t : Nat) : Entry := setOcts x 0 8 (t % 2 ^ 64)

/-- The entry with field [hi:lo] of its last word set. -/
def Entry.setCtrl (x : Entry) (hi lo v : Nat) : Entry := setOcts x 12 4 (setFld (Entry.ctrl x) hi lo v).toNat

/-- Schedule entry e as the table holds it. -/
def State.entry (s : State) (e : Nat) : Entry := (List.range 16).map fun i => (s.readByte 11 (16 * e + i)).toNat

/-- Entry e cannot be read (R454). -/
def State.entryBad (s : State) (e : Nat) : Bool := !s.readable 11 (16 * e) 16

/-- The table with entry e replaced. -/
def State.setEntry (s : State) (e : Nat) (x : Entry) : State := s.poke 11 (16 * e) (ofOcts x)

/-- Entry e is FREE: LNK keeps nothing for it. -/
def State.entryFree (s : State) (e : Nat) : Bool := (s.lnk.arms.find e).isNone

/-- A slot is held by an entry that is not FREE (R221). -/
def State.slotHeld (s : State) (n : Nat) : Bool := s.lnk.arms.any fun a => (s.entry a.1).slot == n

/-- A transmit verdict counts (R164). -/
def State.countTx (s : State) (v : Nat) : State := s.countVerdict v

/-- Entry e becomes FREE with a verdict: the cue LNK.TX_DONE and a transmit notice (R206), which follows the take packets of its
tick (R334). -/
def freeEntry (s : State) (e v : Nat) : State :=
  let x := ((s.entry e).setCtrl 23 20 0).setCtrl 31 24 v
  let n : Notice := { entry := e, octets := x, chain := x.chain, prof := x.prof }
  let s := { s.setEntry e x with lnk := { s.lnk with arms := s.lnk.arms.del e, notices := s.lnk.notices ++ [n] } }
  (s.countTx v).emit [22, 217]

/-- The transmit notices of the present tick are written, in ascending entry index (R334). -/
def writeNotices (s : State) : State :=
  (sortBy (fun a b => decide (a.entry ≤ b.entry)) s.lnk.notices).foldl
    (fun (s : State) n => transmitNotice s n.entry (ofOcts n.octets) n.chain n.prof) { s with lnk := { s.lnk with notices := [] } }

/-! ### The queue directory (R218-R222) -/

/-- The queued slot n. -/
def State.queued (s : State) (n : Nat) : Option QSlot := s.lnk.queue.find? fun q => q.slot == n

/-- The pending count of address `a` goes up or down by one. -/
def pendingStep (s : State) (a : Nat) (up : Bool) : State :=
  match recFetch s a with
  | (s, .got r) => recStore s a (recSet r 56 2 (if up then recPending r + 1 else recPending r - 1))
  | (s, _) => s

/-- The bucket of DEST `a` (R218). -/
def bucketOf (a : Nat) : Nat := a % 2 ^ 18

/-- The slots of bucket b, in enqueue order. -/
def State.bucketChain (s : State) (b : Nat) : List QSlot := s.lnk.queue.filter fun q => bucketOf q.dest == b

/-- A link of the directory: one more than the slot it names, 0 for none. -/
def linkTo (q : Option QSlot) : Nat := match q with | some q => q.slot + 1 | none => 0

/-- The 16 octets of word x of the queue directory: the first and the last slot of bucket x, then the slot that follows slot x in its
bucket, and what is recorded of slot x.
DESIGN CHOICE (unsafe), log entry 99. -/
def State.dirOctets (s : State) (x : Nat) : List Nat :=
  let c := s.bucketChain x
  let own := match s.queued x with
    | some q =>
      le 4 (linkTo (((s.bucketChain (bucketOf q.dest)).dropWhile fun p => p.slot != x)[1]?))
        ++ le 4 (q.dest + 2 ^ 30 * b2n q.relay + 2 ^ 31)
    | none => List.replicate 8 0
  le 4 (linkTo c.head?) ++ le 4 (linkTo c.getLast?) ++ own

/-- The words of the directory that a change of bucket b at slot n touches are written. -/
def State.storeDir (s : State) (b n : Nat) : State :=
  (b :: n :: (s.bucketChain b).map (·.slot)).eraseDups.foldl
    (fun (t : State) x => t.poke 14 (s.chainWord x) (ofOcts (s.dirOctets x))) s

/-- Slot n leaves the queue, and the pending count of its recorded DEST falls (R220, R222). -/
def unqueue (s : State) (n : Nat) : State :=
  match s.queued n with
  | some q =>
    let t : State := { s with lnk := { s.lnk with queue := s.lnk.queue.filter fun q => q.slot != n } }
    pendingStep (t.storeDir (bucketOf q.dest) n) q.dest false
  | none => s

/-- The words of the directory that reading the chain of bucket b reads. -/
def State.chainWords (s : State) (b : Nat) : List Nat := (b :: (s.bucketChain b).map (·.slot)).eraseDups

/-- LNK reads the chain of the bucket of DEST `a` in the queue directory. Where a word of it is uncorrectable, the chain is reset to
empty: its unheld slots are withdrawn and released unsent, and each pending count falls by the slots it lost (R454).
DESIGN CHOICE (unsafe), log entry 99. -/
def chainCheck (s : State) (a : Nat) : State :=
  let b := bucketOf a
  let ws := s.chainWords b
  let t := ws.foldl (fun (t : State) x => t.readReport 6 14 (s.chainWord x) 16) s
  if ws.all fun x => s.readable 14 (s.chainWord x) 16 then t
  else
    let u := ((t.bucketChain b).filter fun q => !t.slotHeld q.slot).foldl (fun (t : State) q => unqueue t q.slot) t
    u.storeDir b b

/-- Word x of the directory as it is stored: the first slot of bucket x, the slot behind slot x, and what is recorded of slot x; none
where it cannot be read. -/
def State.dirRead (s : State) (x : Nat) : Option (Nat × Nat × Nat) :=
  (s.peek 14 (s.chainWord x) 16).map fun b => (field (octs b) 0 4, field (octs b) 8 4, field (octs b) 12 4)

/-- The chain that starts with link l, as the directory says, at most `fuel` slots; none where a word cannot be read. -/
def State.dirWalk (s : State) : Nat → Nat → Option (List QSlot)
  | 0, _ => some []
  | fuel + 1, l =>
    if l = 0 ∨ 2 ^ 18 < l then some []
    else
      match s.dirRead (l - 1) with
      | none => none
      | some (_, next, own) =>
        if own.testBit 31 then
          (s.dirWalk fuel next).map fun c => { slot := l - 1, dest := own % 2 ^ 25, relay := own.testBit 30 } :: c
        else some []

/-- The chain of bucket b as the directory now says, where it can be read: what a test write to it changes (R461).
DESIGN CHOICE (unsafe), log entry 99. -/
def bucketOfDir (s : State) (b : Nat) : State :=
  match s.dirRead b with
  | none => s
  | some (head, _, _) =>
    match s.dirWalk 64 head with
    | none => s
    | some c =>
      { s with lnk := { s.lnk with
        queue := (s.lnk.queue.filter fun q => bucketOf q.dest != b && !c.any fun p => p.slot == q.slot) ++ c } }

/-- The chains to which the directory's word at octet `o` of DRAM belongs, as that word now says: of its bucket, and of its slot. -/
def chainReload (s : State) (o : Nat) : State :=
  if o < s.chainWord 0 ∨ s.chainWord (2 ^ 18) ≤ o then s
  else
    let x := (o - s.chainWord 0) / 16
    let t := bucketOfDir s x
    match s.queued x with
    | some q => bucketOfDir t (bucketOf q.dest)
    | none => t

/-- A queue command is refused. -/
def dlRefused (s : State) (cause : Nat) : State := (s.wb Reg.LNK_DLSTAT 31 true).wf Reg.LNK_DLSTAT 27 24 cause

/-- ENQUEUE of slot n (R219): the refusal cause, 0 for none.
DEDUCED (unsafe), log entry 52. -/
def enqueue (s : State) (n : Nat) : State × Nat :=
  let refuse (s : State) (c : Nat) : State × Nat := (dlRefused s c, c)
  if (s.queued n).isSome then refuse s 2
  else
    let s := s.readReport 6 14 (s.slotAt n) 8
    match s.slotHead n with
    | none => refuse s 3
    | some h =>
      if !s.headOk h then refuse s 3
      else if h.dest = 0 ∨ s.eprLimit < h.dest ∨ !s.rangeLoaded h.dest then refuse s 4
      else
        match recFetch (chainCheck s h.dest) h.dest with
        | (s, .got r) =>
          if recSusp r then refuse s 4
          else if recPending r = 65535 ∨ 64 ≤ (s.bucketChain (bucketOf h.dest)).length then
            refuse s 5
          else
            let s : State := { s with lnk := { s.lnk with
              queue := s.lnk.queue ++ [{ slot := n, dest := h.dest, relay := h.type == 0 }]
              incs := s.lnk.incs.put h.dest (s.lnk.incs.get h.dest 0 + 1) } }
            (recStore (s.storeDir (bucketOf h.dest) n) h.dest (recSet r 56 2 (recPending r + 1)), 0)
        | (s, _) => refuse s 4

/-- WITHDRAW of slot n (R220): the refusal cause, 0 for none. -/
def withdraw (s : State) (n : Nat) : State × Nat :=
  let s := match s.queued n with | some q => chainCheck s q.dest | none => s
  if (s.queued n).isNone then (dlRefused s 2, 2)
  else if s.slotHeld n then (dlRefused s 6, 6)
  else (unqueue s n, 0)

/-- A write of LNK.DLQ, or of OD 0x2900.01 or .02 (R219, R220). A number above 262,143 does not fit SLOT. -/
def dlqWrite (s : State) (v : Word) : State × Nat :=
  let s := s.plainWrite Reg.LNK_DLQ v
  let n := fld v 17 0
  match bit v 30, bit v 31 with
  | true, true => (dlRefused s 1, 1)
  | true, false => enqueue s n
  | false, true => withdraw s n
  | false, false => (s, 0)

/-- The unheld slots of a record that a call sheet deletes or suspends are withdrawn and released (R222). -/
def withdrawDest (s : State) (a : Nat) : State :=
  let s := chainCheck s a
  (s.lnk.queue.filter fun q => q.dest == a).foldl (fun (s : State) q => if s.slotHeld q.slot then s else unqueue s q.slot) s

/-- A queued slot is of TYPE 0: by its FRAME as it stands (R217), or as it was enqueued where that cannot be read. -/
def State.relaySlot (s : State) (q : QSlot) : Bool := match s.slotHead q.slot with | some h => h.type == 0 | none => q.relay

/-- RELAY is left (R239): unheld relay uplinks are withdrawn, ARMED entries that name one end MISSED, and those committed
drop their slot at their end.
DEDUCED (unsafe), log entry 54. -/
def relayEnd (s : State) : State :=
  let relay := (s.lnk.queue.filter s.relaySlot).map (·.slot)
  let s := relay.foldl (fun (s : State) n => if s.slotHeld n then s else unqueue s n) s
  let s := s.lnk.arms.foldl (fun (s : State) a =>
    let x := s.entry a.1
    if x.state = 1 ∧ x.slot ∈ relay then unqueue (freeEntry s a.1 0x22) x.slot else s) s
  let mark (t : Tx) : Tx := match t.what with
    | .entry e n d p _ => if fcType (fcOf t.mhr) = 0 then { t with what := .entry e n d p true } else t
    | _ => t
  { s with rfs := { s.rfs with txs := s.rfs.txs.map mark } }

end Sys2Proof.Machine
end

