-- ==== Sys2Proof/Machine/Sheets.lean ====
section
/-! DEFINITION. Call sheets, the snapshot, and the registers of EPR (spec/10_endpoint_registry.md R262, R265, R269-R289). -/

namespace Sys2Proof.Machine

/-! ### Call sheets (R269-R275) -/

/-- The registry region is usable (EPR.STAT.READY). -/
def State.eprReady (s : State) : Bool := s.rb Reg.EPR_STAT 0

/-- EPR.GEN. -/
def State.eprGen (s : State) : Nat := s.rd64 (Reg.EPR_GEN 0)

/-- The CIP job number of the sheet's tag. -/
def sheetJob : Nat := 1

/-- The header of a sheet: octets 0-31. COUNT, GEN and APPLYAT. -/
def sheetCount (b : List Nat) : Nat := field b 6 2
def sheetGen (b : List Nat) : Nat := field b 8 8
def sheetAt (b : List Nat) : Nat := field b 16 8

/-- Octets of a sheet of E entries. -/
def sheetLen (e : Nat) : Nat := 48 + 64 * e

/-- MAGIC, VERSION, COUNT and the reserved header field are right. -/
def sheetHeaderOk (b : List Nat) : Bool :=
  b.take 4 == [0x4C, 0x44, 0x43, 0x53] && field b 4 2 == 1 && decide (1 ≤ sheetCount b) && decide (sheetCount b ≤ 4096)
    && field b 24 8 == 0

/-- A sheet is refused (R272).
DEDUCED (unsafe), log entry 57. -/
def sheetRefused (s : State) (cause entry : Nat) : State :=
  (((((s.wb Reg.EPR_CSSTAT 31 true).wf Reg.EPR_CSSTAT 27 24 cause).wf Reg.EPR_CSSTAT 23 12 entry).inc Reg.EPR_SREFCNT)).emit [34]

/-- A sheet with header `h` and octets `b` (none: unreadable) is submitted into CIP queue q (R271-R273): the refusal cause, 0 for
none. Of a header that cannot be read nothing is known, and T is that of a sheet without entries.
DEDUCED (unsafe), log entry 57. -/
def sheetSubmit (s : State) (q : Nat) (h b : Option (List Nat)) : State × Nat :=
  let refuse (c : Nat) : State × Nat := (sheetRefused s c 0, c)
  let wait (e g t : Nat) : State × Nat :=
    let x : Sheet := { octets := b, sub := s.slate, at_ := t, gen := g, count := e }
    let s : State := { s with epr := { s.epr with sheet := some x } }
    let s := (s.wb Reg.EPR_CSSTAT 28 true).wr64 (Reg.EPR_CSAT 0) t
    match b with
    | some b =>
      let n := 32 + 64 * e
      ((s.cipCollect sheetJob).cipInline q sheetJob (cmacVerify (s.rf Reg.EPR_CSKEY 11 0) n 16) (b.take n) []
        ((b.drop n).take 16), 0)
    | none => (s, 0)
  let ready := s.eprReady && s.mode != 7
  if s.epr.sheet.isSome then refuse 1
  else match h with
    | none => if ready then wait 0 (s.eprGen + 1) (s.slate + 256000) else refuse 10
    | some h =>
      if !sheetHeaderOk h then refuse 2
      else if sheetGen h ≤ s.eprGen then refuse 3
      else if s.eprGen + 1 < sheetGen h then refuse 4
      else if ready then wait (sheetCount h) (sheetGen h) (max (sheetAt h) (s.slate + 256000 + 64 * sheetCount h))
      else refuse 10

/-- `n` octets of a sheet at usable offset `o` of DRAM, with what reading them reports. -/
def sheetOctets (s : State) (o n : Nat) : State × Option (List Nat) :=
  if !s.memOn 14 ∨ s.dramOctets < o + n then (s, none)
  else (s.readReport 7 14 o n, (s.peek 14 o n).map octs)

/-- The submission of the sheet at usable offset `o` of DRAM into CIP queue q, captured at the submission tick.
DEDUCED (unsafe), log entry 57. -/
def sheetFrom (s : State) (q o : Nat) : State × Nat :=
  match sheetOctets s o 32 with
  | (s, none) => sheetSubmit s q none none
  | (s, some h) =>
    if sheetHeaderOk h then
      let x := sheetOctets s o (sheetLen (sheetCount h))
      sheetSubmit x.1 q (some h) x.2
    else sheetSubmit s q (some h) none

/-- A core's submission: the sheet at EPR.CSADDR in the DRAM window.
DEDUCED (unsafe), log entry 57. -/
def coreSheet (s : State) (core : Nat) : State × Nat :=
  sheetFrom s (core + 1) (s.winBase + s.rd64 (Reg.EPR_CSADDR 0) % 2 ^ 33 / 64 * 64)

/-- A dictionary submission: the sheet buffer, OD 0x3010.
DEDUCED (unsafe), log entry 57. -/
def odxSheet (s : State) : State × Nat := sheetFrom s 6 s.sheetBuffer

/-- A sheet entry (R270). -/
structure SheetEntry where
  op : Nat
  addr : Nat
  mask : Nat
  flags : Nat
  b : List Nat
  deriving DecidableEq, Repr

/-- Entry i of a sheet. -/
def sheetEntry (b : List Nat) (i : Nat) : SheetEntry :=
  let e := (b.drop (32 + 64 * i)).take 64
  let w := field e 0 4
  { op := w / 2 ^ 28, addr := w % 2 ^ 25, mask := field e 4 2, flags := field e 6 2, b := e }

/-- Reserved bits of an entry are zero. -/
def SheetEntry.clean (e : SheetEntry) : Bool :=
  nfld (field e.b 0 4) 27 25 == 0
    && (if e.op = 2 then (e.b.drop 4).all (· == 0)
      else decide (e.mask < 32) && e.flags &&& 0x80FF == 0 && (e.b.drop 50).all (· == 0))

/-- The provisioned record of an address, as a sheet sees it. -/
def State.sheetRecord (s : State) (a : Nat) : Option Rec :=
  match s.recPeek a with
  | .got r => if recValid r then some r else none
  | .ue => none

/-- An UPSERT that replaces a record whole, without reading it (R289). -/
def SheetEntry.whole (e : SheetEntry) : Bool := e.op == 1 && e.mask % 32 == 0x1F

/-- An entry is valid (R272, cause 6), where `seen` are the addresses of the earlier ones. -/
def State.entryOk (s : State) (e : SheetEntry) (seen : List Nat) : Bool :=
  (e.op == 1 || e.op == 2) && e.addr != 0 && decide (e.addr ≤ s.eprLimit) && e.clean && !seen.contains e.addr
    && (e.op == 2 || (e.mask.testBit 0 && e.mask.testBit 1) || !s.rangeLoaded e.addr || (s.sheetRecord e.addr).isSome)

/-- The first entry from i on that fails cause 6. -/
def State.firstInvalid (s : State) : List SheetEntry → Nat → List Nat → Option Nat
  | [], _, _ => none
  | e :: es, i, seen => if s.entryOk e seen then s.firstInvalid es (i + 1) (e.addr :: seen) else some i

/-- The first check of causes 8, 6 and 7 that fails at the apply tick, with its entry. -/
def State.entriesRefusal (s : State) (es : List SheetEntry) : Option (Nat × Nat) :=
  let first (p : SheetEntry → Bool) : Option Nat := (List.range es.length).find? fun i => (es[i]?.map p).getD false
  match first fun e => !e.whole && s.rangeLoaded e.addr && s.recPeek e.addr == .ue with
  | some i => some (8, i)
  | none =>
    match s.firstInvalid es 0 [] with
    | some i => some (6, i)
    | none => (first fun e => !s.rangeLoaded e.addr).map fun i => (7, i)

/-- The checks of a sheet's entries read the records that they name through the cache (R263), and what reading them meets is reported
(R289). -/
def State.sheetReads (s : State) (es : List SheetEntry) : State :=
  (es.filter fun e => !e.whole && s.rangeLoaded e.addr).foldl (fun (s : State) e => (recAccess s e.addr).1) s

/-- The range of a record that a sheet changed is marked for saving (R274, R279). -/
def State.sheetTouch (s : State) (a : Nat) : State :=
  let r := s.range (rangeOf a)
  if r.sheet.isSome then s else s.setRange (rangeOf a) { r with sheet := some s.slate }

/-- Takes and ACK requests see that the record of `a` was deleted (R268). -/
def State.markDeleted (s : State) (a : Nat) : State :=
  { s with lnk := { s.lnk with
    takes := s.lnk.takes.map fun (d, t) =>
      if t.ready ∧ t.reach5 ∧ (s.psdu d t).map sourceShort = some a then (d, { t with deleted := some (t.deleted.getD s.slate) }) else (d, t)
    acks := s.lnk.acks.map fun k => if k.addr = a then { k with deleted := true } else k } }

/-- The record that an UPSERT leaves, from base record r with generation g (R270, R274). -/
def SheetEntry.apply (e : SheetEntry) (r : Rec) (g : Nat) : Rec :=
  let m (k : Nat) (f : Rec → Rec) (r : Rec) : Rec := if e.mask.testBit k then f r else r
  let copy (o n src : Nat) (r : Rec) : Rec := recSet r o n (field e.b src n)
  let flag (hi lo : Nat) (r : Rec) : Rec := recSet r 58 2 (setFld (word (recFlags r)) hi lo (nfld e.flags hi lo)).toNat
  let r := m 0 (copy 0 8 8) r
  let r := m 1 (fun r => flag 13 12 (copy 8 24 16 r)) r
  let r := m 2 (fun r => copy 36 4 44 (copy 32 4 40 r)) r
  let r := m 3 (fun r => recSet (recSet (recSet (copy 52 2 48 r) 40 4 0) 44 8 0) 54 2 0) r
  let r := m 4 (fun r => flag 11 8 (flag 14 14 r)) r
  recSet (recSet r 58 2 (recFlags r ||| 0x8000)) 60 2 (g % 65536)

/-- The record that an UPSERT of a whole record starts from where the stored one cannot be used: only its pending count,
recounted from the queue directory (R289). -/
def State.recounted (s : State) (a : Nat) : Rec := recSet recZero 56 2 (s.lnk.queue.filter fun q => q.dest == a).length

/-- The stored record of `a` has an uncorrectable error or a record fault (R289). -/
def State.recBad (s : State) (a : Nat) : Bool := match s.recPeek a with | .ue => true | .got r => recFault a r

/-- The record that an UPSERT starts from, and the state after EPR's access to it: an insert starts at 0 (R270), and a whole record
over an error or a fault is not read (R289). -/
def sheetBase (s : State) (e : SheetEntry) : State × Rec :=
  if e.whole ∧ s.recBad e.addr then (s, s.recounted e.addr)
  else
    match recFetch s e.addr with
    | (s, .got r) => (s, r)
    | (s, .absent) => (s, recZero)
    | (s, .bad) => (s, match s.recPeek e.addr with | .got r => if recValid r then r else recZero | .ue => recZero)

/-- One entry of an accepted sheet takes effect (R274, R275). -/
def sheetEffect (s : State) (g : Nat) (e : SheetEntry) : State :=
  if g ≤ (s.range (rangeOf e.addr)).gen then s
  else if e.op = 2 then
    if (s.sheetRecord e.addr).isNone ∧ s.recPeek e.addr ≠ .ue then s
    else
      let s := withdrawDest s e.addr
      let s := ((recErase s e.addr).sheetTouch e.addr).dropCached fun c => c.addr == e.addr
      s.markDeleted e.addr
  else
    let x := sheetBase s e
    let s := (recStore x.1 e.addr (e.apply x.2 g)).sheetTouch e.addr
    let s := if e.mask.testBit 1 then s.dropCached fun c => c.addr == e.addr else s
    if e.mask.testBit 4 ∧ e.flags.testBit 14 then withdrawDest s e.addr else s

/-- The sheet that waits is gone. -/
def sheetGone (s : State) : State :=
  ({ s with epr := { s.epr with sheet := none } }.wb Reg.EPR_CSSTAT 28 false).cipCollect sheetJob

/-- The pending sheet is decided in the present tick (R272-R274); `code` is how its tag request ended.
DEDUCED (unsafe), log entry 57. DEDUCED (unsafe), log entry 58. -/
def sheetDecide (s : State) (x : Sheet) (code : Nat) : State :=
  let s := sheetGone s
  let key := s.rf Reg.EPR_CSKEY 11 0
  if slotClass key ≠ 1 ∨ (s.slot key).st = 0 ∨ code = 2 ∨ code = 3 ∨ code = 4 then sheetRefused s 9 0
  else
    match x.octets with
    | none => sheetRefused s 8 0
    | some b =>
      if code = 7 then sheetRefused s 8 0
      else if code ≠ 0 then sheetRefused s 5 0
      else
        let es := (List.range x.count).map (sheetEntry b)
        let refusal := s.entriesRefusal es
        let s := s.sheetReads es
        match refusal with
        | some (c, i) => sheetRefused s c i
        | none =>
          let s := es.foldl (fun (s : State) e => sheetEffect s x.gen e) s
          ((s.wr64 (Reg.EPR_GEN 0) x.gen).wb Reg.EPR_CSSTAT 30 true |>.inc Reg.EPR_SHEETCNT).emit [33]

/-- The pending sheet at its apply tick, or at the first tick after its verification finishes (R273). -/
def sheetApply (s : State) : State :=
  match s.epr.sheet with
  | none => s
  | some x =>
    if s.slate < x.at_ then s
    else if x.octets.isNone then sheetDecide s x 7
    else
      match s.cipDone sheetJob with
      | none => s
      | some r =>
        if r.tick ≤ x.at_ then sheetDecide s x r.code
        else if r.tick < s.slate then sheetDecide (s.wb Reg.EPR_CSSTAT 29 true) x r.code
        else s

/-! ### The snapshot (R276-R281) -/

/-- A snapshot record (R276). -/
def snapRecord (a : Nat) (r : Rec) : List Nat :=
  le 4 a ++ r.take 8 ++ recKey r ++ (r.drop 32).take 12 ++ (r.drop 52).take 2 ++ (r.drop 58).take 4 ++ [0, 0]

/-- A unit of 2,048 octets (R277). -/
def snapUnit (range idx sgen seq : Nat) (rs : List (List Nat)) : List Nat :=
  let body := rs.flatten ++ List.replicate (2016 - 56 * rs.length) 0
    ++ le 2 range ++ le 2 idx ++ [rs.length, 0, 0, 0] ++ le 8 sgen ++ le 4 seq ++ le 8 0
  body ++ le 4 (crc32 body)

/-- Units numbered from i on.
DESIGN CHOICE (unsafe), log entry 59. -/
def snapUnits (range sgen seq : Nat) : List (List (List Nat)) → Nat → List (List Nat)
  | [], _ => []
  | c :: cs, i => snapUnit range i sgen seq c :: snapUnits range sgen seq cs (i + 1)

/-- A unit's CRC-32 is right (R277). -/
def unitOk (u : List Nat) : Bool := u.length == 2048 && field u 2044 4 == crc32 (u.take 2044)

/-- A directory copy that can be used: its CRC-32 is right, and its format is that of this revision (R277). -/
def DirCopy.valid (d : DirCopy) : Bool := d.st == 1 && d.version == 1

/-- Copy B is the current directory: the valid copy with the higher sequence (R277). -/
def EprState.dirIsB (e : EprState) : Bool := e.dirB.valid && (!e.dirA.valid || decide (e.dirA.seq < e.dirB.seq))

/-- The current directory; an empty one where no copy is valid. -/
def EprState.dir (e : EprState) : DirCopy := if e.dirIsB then e.dirB else if e.dirA.valid then e.dirA else {}

/-- The directory with the copy that is not current written (R280). -/
def EprState.writeDir (e : EprState) (d : DirCopy) : EprState :=
  if e.dirA.valid && !e.dirIsB then { e with dirB := d } else { e with dirA := d }

/-- Units of live segments. -/
def State.snapLive (s : State) : Nat := (s.epr.dir.segs.map fun g => g.2.locs.length).foldl (· + ·) 0

/-- A new segment fits in the free units (R281), and live segments stay within half of the good units (R278). -/
def State.snapFits (s : State) (r : Nat) (g : Segment) : Bool :=
  let old := ((s.epr.dir.segs.find r).map fun o => o.locs.length).getD 0
  decide (s.snapLive + g.locs.length ≤ s.epr.units)
    && decide (s.snapLive - old + g.locs.length ≤ s.epr.units / 2)

/-- The `k` lowest free unit locations, none of them in a retired block (R281).
DESIGN CHOICE (unsafe), log entry 59. -/
def State.freeLocs (s : State) (k : Nat) : List Nat :=
  ((List.range (s.epr.nand.length + s.epr.retired.length + k)).filter fun n =>
    (s.epr.nand.find n).isNone && !s.epr.retired.contains n).take k

/-- The NAND with units written at locations. -/
def writeUnits (m : SMap (List Nat)) (locs : List Nat) (us : List (List Nat)) : SMap (List Nat) :=
  (locs.zip us).foldl (fun m x => m.put x.1 x.2) m

/-- The units of a segment are freed. -/
def freeUnits (m : SMap (List Nat)) (locs : List Nat) : SMap (List Nat) := locs.foldl (fun m l => m.del l) m

/-- EPR.SNAPCAP (R278). -/
def State.snapCap (s : State) : Nat := s.epr.units / 2 * 36

/-- Saving runs in the device mode (R279). -/
def State.savesNow (s : State) : Bool := decide (2 ≤ s.mode ∧ s.mode ≤ 6) && s.eprReady && s.epr.save.isNone

/-- Range r is due a save (R279). -/
def State.saveDue (s : State) (r : Nat) : Bool :=
  let x := s.range r
  let late (o : Option Nat) (secs : Nat) : Bool := match o with | some t => decide (t + 32000000 * secs ≤ s.slate) | none => false
  s.epr.saveAll.contains r
    || (decide (r < s.rangesPresent) && (late x.sheet (s.rf Reg.EPR_SNAPCFG 15 0) || late x.dirty (s.rf Reg.EPR_SNAPCFG 31 16)))

/-- The range that EPR saves next, in range order. -/
def State.saveNext (s : State) : Option Nat :=
  if s.savesNow then
    sortBy (fun a b => decide (a ≤ b)) (s.epr.saveAll ++ s.epr.ranges.keys) |>.find? s.saveDue
  else none

/-- A save of range r is abandoned: its delays start again (R281, R454).
DESIGN CHOICE (unsafe), log entry 59. -/
def saveAbandoned (s : State) (r : Nat) (dirty sheet : Option Nat) : State :=
  let now (o : Option Nat) : Option Nat := o.map fun _ => s.slate
  s.setRange r { s.range r with dirty := (s.range r).dirty <|> now dirty, sheet := (s.range r).sheet <|> now sheet }

/-- A range's segment does not fit (R281). -/
def snapFull (s : State) (r : Nat) (dirty sheet : Option Nat) : State :=
  saveAbandoned ((s.wb Reg.EPR_STAT 4 true).emit [38]) r dirty sheet

/-- Range r is captured and its segment written to free units (R279, R280); an uncorrectable record abandons the save (R454). -/
def rangeSaveStart (s : State) (r : Nat) : State :=
  let x := s.range r
  let s := (s.setRange r { x with dirty := none, sheet := none })
  let s : State := { s with epr := { s.epr with saveAll := s.epr.saveAll.filter (· != r) } }
  let recs := (s.rangeRecords r).map fun (a, q) => snapRecord a q
  let ue := s.rangeUe r
  let s := (s.rangeAddrs r).foldl recReport s
  if ue then saveAbandoned (s.wb Reg.EPR_STAT 5 true) r x.dirty x.sheet
  else
    let seq := s.epr.dir.seq + 1
    let us := snapUnits r s.eprGen seq (chunks 36 recs) 0
    let g : Segment := { seq := seq, gen := s.eprGen, locs := s.freeLocs us.length }
    if s.snapFits r g then
      { s with epr := { s.epr with
        nand := writeUnits s.epr.nand g.locs us
        save := some { range := r, seg := g, dirty := x.dirty, sheet := x.sheet } } }
    else snapFull s r x.dirty x.sheet

/-- The unit locations of `bad` are in blocks that failed to program: EPR retires them, and SNAPCAP follows (R278, R281). -/
def retireUnits (s : State) (bad : List Nat) : State :=
  let new := bad.eraseDups.filter fun l => !s.epr.retired.contains l
  let s : State := { s with epr := { s.epr with units := s.epr.units - new.length, retired := s.epr.retired ++ new } }
  s.wr Reg.EPR_SNAPCAP (word s.snapCap)

/-- The units of segment g that lie in retired blocks are written elsewhere (R281). -/
def rewriteUnits (s : State) (g : Segment) : State × Segment :=
  let lost := g.locs.filter s.epr.retired.contains
  let moves := lost.zip (s.freeLocs lost.length)
  let place (l : Nat) : Nat := ((moves.find? fun x => x.1 == l).map Prod.snd).getD l
  let nand := moves.foldl (fun (m : SMap (List Nat)) x => (m.put x.2 (s.epr.nand.get x.1 [])).del x.1) s.epr.nand
  ({ s with epr := { s.epr with nand := nand } }, { g with locs := g.locs.map place })

/-- The directory write of the save in progress completes (R280): the copy that is not current lists the new segment, and then the
old segment's units are freed. `bad` names the unit locations in blocks that failed to program meanwhile: they are retired, and the
segment's units among them written elsewhere (R281).
DESIGN CHOICE (unsafe), log entry 59. -/
def rangeSaved (s : State) (bad : List Nat) : State :=
  match s.epr.save with
  | none => s
  | some v =>
    let x := rewriteUnits (retireUnits { s with epr := { s.epr with save := none } } bad) v.seg
    let s := x.1
    let v := { v with seg := x.2 }
    let d := s.epr.dir
    if s.snapFits v.range v.seg then
      let old := ((d.segs.find v.range).map fun g => g.locs).getD []
      let e := s.epr.writeDir { st := 1, seq := v.seg.seq, segs := d.segs.put v.range v.seg }
      let s : State := { s with epr := { e with nand := freeUnits e.nand old } }
      ((s.wf Reg.EPR_SNAPSTAT 8 0 v.range).inc Reg.EPR_SAVECNT).emit [37]
    else
      snapFull { s with epr := { s.epr with nand := freeUnits s.epr.nand v.seg.locs } } v.range v.dirty v.sheet

/-- EPR.SNAPCMD.ALL (R279).
DESIGN CHOICE (unsafe), log entry 59. -/
def saveAll (s : State) : State := { s with epr := { s.epr with saveAll := List.range s.rangesPresent } }

/-- A save in progress ends without effect: the block is reset or enters HIBERNATE. -/
def saveCancel (s : State) : State :=
  match s.epr.save with
  | none => { s with epr := { s.epr with saveAll := [] } }
  | some v =>
    saveAbandoned { s with epr := { s.epr with save := none, saveAll := [], nand := freeUnits s.epr.nand v.seg.locs } }
      v.range v.dirty v.sheet

/-! ### Loading (R282-R285) -/

/-- The record that a snapshot record loads as (R283). -/
def loadRecord (u : List Nat) (adv : Nat) : Nat × Rec :=
  let a := field u 0 4 % 2 ^ 25
  let h := min 0xFFFFFFFF (field u 36 4 + adv)
  let r := (u.drop 4).take 32 ++ le 4 h ++ (if adv = 0 then (u.drop 40).take 4 else le 4 0xFFFFFFFF) ++ (u.drop 44).take 4
    ++ le 8 0 ++ (u.drop 48).take 2 ++ le 2 0 ++ le 2 0 ++ (u.drop 50).take 2 ++ (u.drop 52).take 2 ++ [0, 0]
  (a, recSeal a r)

/-- The records of a unit. -/
def unitRecords (u : List Nat) : List (List Nat) := (chunks 56 (u.take 2016)).take (u.getD 2020 0)

/-- The load of every present range has ended: LOADING clears and the cue EPR.LOAD_DONE fires (R283). -/
def loadDone (s : State) : State :=
  if (List.range s.rangesPresent).all fun r => decide (2 ≤ (s.range r).st) then (s.wb Reg.EPR_STAT 1 false).emit [36] else s

/-- Boot step 12 (R282-R285): the load begins; false where neither directory copy is valid. -/
def loadStart (s : State) : State × Bool :=
  let all (s : State) (st : Nat) : State :=
    (List.range s.rangesPresent).foldl (fun (s : State) r => s.setRange r { st := st }) s
  let s := s.wr Reg.EPR_SNAPCAP (word s.snapCap)
  let d := s.epr.dir
  if s.epr.dirA.st = 0 ∧ s.epr.dirB.st = 0 then
    (loadDone (((all s 2).wr64 (Reg.EPR_GEN 0) 0).emit [35] s.rangesPresent), true)
  else if d.valid then
    let sgen (r : Nat) : Nat := ((d.segs.find r).map fun g => g.gen).getD 0
    let gen := ((List.range s.rangesPresent).map sgen).foldl min (sgen 0)
    ((((all s 0).setRange 0 { st := 1 }).wb Reg.EPR_STAT 1 true).wr64 (Reg.EPR_GEN 0) gen, true)
  else (loadDone ((all s 3).wb Reg.EPR_STAT 3 true), false)

/-- The segment that the snapshot holds for range r; an empty one where it was never saved. -/
def State.segment (s : State) (r : Nat) : Segment := (s.epr.dir.segs.find r).getD { seq := 0, gen := 0, locs := [] }

/-- The units of range r, none where one is missing or its CRC-32 fails (R285). -/
def State.rangeUnits (s : State) (r : Nat) : Option (List (List Nat)) :=
  let us := (s.segment r).locs.map fun l => s.epr.nand.get l []
  if us.all unitOk then some us else none

/-- The last unit of range r has been written to DRAM, or one of its units failed (R283, R285): `good`, the NAND device could read
them all.
DEDUCED (safe), log entry 56. DESIGN CHOICE (unsafe), log entry 88. -/
def rangeLoaded (s : State) (r : Nat) (good : Bool) : State :=
  if (s.range r).st ≠ 1 then s
  else
    let s := match (if good then s.rangeUnits r else none) with
      | some us =>
        let adv := s.rf Reg.EPR_LOADADV 15 0
        let s := (us.flatMap unitRecords).foldl (fun (s : State) u =>
          let x := loadRecord u adv; s.poke 14 (64 * x.1) (ofOcts x.2)) s
        (s.setRange r { s.range r with st := 2, gen := (s.segment r).gen }).emit [35]
      | none => (s.setRange r { s.range r with st := 3 }).wb Reg.EPR_STAT 3 true
    let s := if r + 1 < s.rangesPresent ∧ (s.range (r + 1)).st = 0 then s.setRange (r + 1) { s.range (r + 1) with st := 1 } else s
    loadDone s

/-- A write of EPR.LOADCMD (R285). -/
def rangeRelease (s : State) (v : Word) : State :=
  let s := s.plainWrite Reg.EPR_LOADCMD v
  if !bit v 31 then s
  else
    (List.range s.rangesPresent).foldl (fun (s : State) r =>
      if (bit v 30 ∨ r = fld v 8 0) ∧ (s.range r).st = 3 then s.setRange r { st := 2 } else s) s

/-- Some present range holds a provisioned record. -/
def State.registryEmpty (s : State) : Bool := (List.range s.rangesPresent).all fun r => (s.rangeRecords r).isEmpty

/-- A write of EPR.GENCMD (R285): the refusal cause, 0 for none. -/
def generationSeed (s : State) (v : Word) : State × Nat :=
  let s := s.plainWrite Reg.EPR_GENCMD v
  if !bit v 0 ∨ fld v 31 16 ≠ 0x6480 then (s, 0)
  else if s.registryEmpty && ((List.range s.rangesPresent).all fun r => decide (2 ≤ (s.range r).st)) && s.epr.sheet.isNone then
    (s.wr64 (Reg.EPR_GEN 0) (s.rd64 (Reg.EPR_GENSET 0)), 0)
  else (((s.wb Reg.EPR_CSSTAT 31 true).wf Reg.EPR_CSSTAT 27 24 11).emit [34], 11)

/-! ### Registers -/

/-- A write of EPR.KEKG: a generation whose KEK changes loses its TRANSIENT slots (R303). -/
def kekgWrite (s : State) (v : Word) : State :=
  let t := s.plainWrite Reg.EPR_KEKG v
  t.dropCached fun c => s.kekOf c.gen != t.kekOf c.gen

/-- A write to a register of EPR by requester `req`.
DEDUCED (unsafe), log entry 57. -/
def eprBusWrite (s : State) (req a : Nat) (v : Word) : State :=
  if a = Reg.EPR_GENCMD then (generationSeed s v).1
  else if a = Reg.EPR_KEKG then kekgWrite s v
  else if a = Reg.EPR_CSCMD then if bit v 0 then (coreSheet s (min req 4)).1 else s
  else if a = Reg.EPR_LOADCMD then rangeRelease s v
  else if a = Reg.EPR_SNAPCFG then
    if 60 ≤ fld v 31 16 ∧ 1 ≤ fld v 15 0 ∧ fld v 15 0 ≤ 3600 then s.plainWrite a v else s
  else if a = Reg.EPR_SNAPCMD then if bit v 0 then saveAll s else s
  else if a = Reg.EPR_LOADADV then if v.toNat ≤ 65535 then s.plainWrite a v else s
  else if a = Reg.EPR_RECSEL then recordCapture s (fld v 24 0)
  else s.plainWrite a v

/-- Bit b of word j: a range of 32 j + b for which p holds. -/
def State.rangeMap (s : State) (j : Nat) (p : EprRange → Bool) : Word :=
  word (((List.range 32).filter fun b => decide (32 * j + b < s.rangesPresent) && p (s.range (32 * j + b))).foldl (fun n b => n + 2 ^ b) 0)

/-- The registers of EPR that show the ranges. -/
def State.eprView (s : State) (a : Nat) : Word :=
  let r := s.rf Reg.EPR_RSEL 8 0
  let dirty (x : EprRange) : Bool := x.dirty.isSome || x.sheet.isSome
  if a = Reg.EPR_STAT then s.rd a ||| word (4 * b2n s.epr.save.isSome)
  else if a = Reg.EPR_RINFO then
    word ((if r < s.rangesPresent then (s.range r).st else 2) * 2 ^ 30 + b2n (dirty (s.range r)) * 2 ^ 29 + (s.rangeRecords r).length)
  else if a = Reg.EPR_RGEN 0 then word (s.range r).gen
  else if a = Reg.EPR_RGEN 1 then word ((s.range r).gen >>> 32)
  else if a = Reg.EPR_SNAPSTAT then
    s.rd a ||| word (65536 * (s.epr.ranges.filter fun x => dirty x.2).length)
  else if Reg.EPR_LOADMAP 0 ≤ a ∧ a ≤ Reg.EPR_LOADMAP 15 then s.rangeMap ((a - Reg.EPR_LOADMAP 0) / 4) fun x => x.st == 2
  else if Reg.EPR_FAILMAP 0 ≤ a ∧ a ≤ Reg.EPR_FAILMAP 15 then s.rangeMap ((a - Reg.EPR_FAILMAP 0) / 4) fun x => x.st == 3
  else s.rd a

/-! ### Commands -/

/-- SHEET_SUBMIT (R271): by core `src`, or through the dictionary (5). -/
def execSheetSubmit (src : Nat) (s : State) : Out :=
  ok (src < 6) (s.onMain (if src = 5 then (odxSheet s).1 else (coreSheet s src).1))

/-- SHEET_APPLY (R274). -/
def execSheetApply (s : State) : Out := .next (sheetApply s)

/-- SAVE_ALL (R279): a write of EPR.SNAPCMD with ALL set. -/
def execSaveAll (s : State) : Out := .next (s.onMain (saveAll s))

/-- RANGE_SAVED (R280). -/
def execRangeSaved (retired : List Nat) (s : State) : Out := .next (rangeSaved s retired)

/-- RANGE_LOADED (R283). -/
def execRangeLoaded (r : Nat) (good : Bool) (s : State) : Out := ok (r < 512) (rangeLoaded s r good)

/-- RANGE_RELEASE (R285): a write of EPR.LOADCMD with RELEASE set. -/
def execRangeRelease (val : Word) (s : State) : Out := ok (bit val 31) (s.onMain (rangeRelease s val))

/-- GENERATION_SEED (R285): a write of EPR.GENCMD with GO set. -/
def execGenerationSeed (val : Word) (s : State) : Out := ok (bit val 0) (s.onMain (generationSeed s val).1)

end Sys2Proof.Machine
end

