-- ==== Sys2Proof/Machine/Transmit.lean ====
section
/-! DEFINITION. Transmissions that LNK commits: ACKs, schedule entries and beacons, their ends, replies and sizing
(spec/07_link_timing_engine.md R196-R211, spec/08_sleepy_downlink_beacons.md R224-R232). -/

namespace Sys2Proof.Machine

/-! ### Common operations -/

/-- Ticks from the first to the end of the last symbol of `copies` back-to-back copies (R136, R224, R227, R228). -/
def airTicks (pw : List Word) (pre len copies : Nat) : Nat :=
  symTicks (copies * (pre + pwSyncSyms pw + pwFrameSyms pw len)) (pwRate pw)

/-- The device transmit counter can give a value (R175). -/
def State.counterLeft (s : State) : Bool := !s.rb Reg.LNK_STAT 3

/-- Order in which transmissions latched in one tick take values: T0, then the lower chain (R175). -/
def latchLe (a b : Nat × Nat × Nat) : Bool := decide (a.1 < b.1) || (a.1 == b.1 && decide (a.2.1 ≤ b.2.1))

/-- Transmission `id`, with first symbol at `t0` on chain n, takes a value of the device transmit counter in the present tick;
every transmission latched in this tick then holds the value of its place. -/
def takeCounter (s : State) (t0 n id : Nat) : State :=
  let old := if s.lnk.latchAt = s.slate then s.lnk.latches else []
  let all := insertBy latchLe (t0, n, id) old
  let next := (s.rd Reg.LNK_TXCTR).toNat
  let give (t : Tx) : Tx :=
    match (List.range all.length).find? fun i => (all.map fun l => l.2.2).getD i 0 == t.id with
    | some i => { t with counter := some (next - old.length + i), mhr := setCounter t.mhr (next - old.length + i) }
    | none => t
  let s : State := { s with
    lnk := { s.lnk with latches := all, latchAt := s.slate }
    rfs := { s.rfs with txs := s.rfs.txs.map give } }
  (s.wr Reg.LNK_TXCTR (word (next + 1))).wb Reg.LNK_STAT 3 (next == 0xFFFFFFFF)

/-- A fresh number for a transmission. -/
def State.nextId (s : State) : Nat × State := (s.lnk.seq, { s with lnk := { s.lnk with seq := s.lnk.seq + 1 } })

/-- The chain cannot start this transmission (R51, R76).
DEDUCED (unsafe), log entry 49. -/
def State.chainRefuses (s : State) (n : Nat) : Bool := !s.roleTx n || s.chainBusy n

/-! ### ACKs (R196-R200) -/

/-- The take of an ACK request, where it has not been released. -/
def State.ackTake (s : State) (a : AckReq) : Option Take :=
  (s.lnk.takes.find a.demod).filter fun t => t.stamp == a.stamp

/-- ACK request `a` is gone; `f` is what becomes of its take where that has not been released. -/
def dropAck (s : State) (a : AckReq) (f : Take → Take) : State :=
  let s : State := { s with lnk := { s.lnk with acks := s.lnk.acks.filter fun b => b.id != a.id } }
  match s.ackTake a with
  | some t => s.setTake a.demod (f t)
  | none => s

/-- PEND of an ACK (R182): a pending count that is not 0, without the increments of the present tick (R33), and 0 for a deleted record
(R268). A record that cannot be read gives 0.
DEDUCED (unsafe), log entry 51. DESIGN CHOICE (unsafe), log entry 110. -/
def ackPending (s : State) (a : AckReq) : State × Bool :=
  if a.deleted then (s, false)
  else
    match recFetch s a.addr with
    | (s, .got r) => (s, decide (s.lnk.incs.get a.addr 0 < recPending r))
    | (s, _) => (s, false)

/-- The key of an ACK (R268, R305). -/
def ackKey (s : State) (a : AckReq) : State × KeyFound :=
  if a.sec = 0 then (s, .key [])
  else if !a.key.isEmpty then (s, .key a.key)
  else endpointKey s a.addr (recKgen a.record) (recKey a.record)

/-- The transmission of ACK request `a` (R197, R198). -/
def State.ackTx (s : State) (a : AckReq) (pend : Bool) : Tx :=
  let mhr := ackMhr (mkFc 2 a.sec false pend false 0 a.tc.isSome) a.net a.counter a.addr a.tc
  let t1 := a.t0 + airTicks a.pw (pwPmin a.pw) (mhr.length + micLen a.sec) 1
  { s.mkTx a.id (.ack a.reack a.addr pend) a.chain a.ch a.prof a.word a.commitAt a.t0 t1 with
    mhr := mhr, long := a.long, pre := pwPmin a.pw, pw := a.pw }

/-- ACK request `a` at its commit point (R199).
DEDUCED (unsafe), log entry 50. DEDUCED (unsafe), log entry 51. -/
def ackCommit (s : State) (a : AckReq) : State :=
  if !s.operating then dropAck s a fun t => { t with acked := false }
  else
    let (s, pend) := ackPending s a
    let s := dropAck s a id
    let x := s.ackTx a pend
    if s.chainRefuses a.chain then s.countTx 0x24
    else if s.txConflict a.chain x.since (s.backOf a.chain x.t1) true then s.countTx 0x24
    else
      match budgetCheck s a.id a.word x.us .ack with
      | (s, .approved) =>
        let s := s.inc Reg.LNK_ACKCNT
        let s := if a.reack then s.inc Reg.LNK_REACKCNT else s
        match ackKey s a with
        | (s, .key k) => latchTx (laneWork s 28) { x with key := k }
        | (s, _) => (s.unreserve a.id).countTx 0x24
      | (s, _) => s.countTx 0x21

/-! ### Sizing of wake-path entries (R226, R227) -/

/-- L, u and T0 of listen instant k. -/
structure WakeInstant where
  l : Nat
  u : Nat
  t0 : Int

/-- The k-th listen instant of record r under downlink set i. -/
def State.wakeInstant (s : State) (r : Rec) (k : Nat) : WakeInstant :=
  let i := recPset r
  let l := cdiv ((recHeard r : Int) + k * recPeriod r).toNat 8
  let b := (recDrift r).natAbs + 65536 * s.rf (Reg.LNK_DSET_B i) 7 0
  let u := cdiv (b * (8 * l - recHeard r)) (8 * 65536000000)
  let hold := if s.pstate = 3 then cdiv (s.rf Reg.LNK_HOLD 7 0 * (8 * l - s.rd64 (Reg.LNK_PLAST 0))) 8000000 else 0
  let u := u + hold
  { l := l, u := u, t0 := (l : Int) - u - 16 * s.rf (Reg.LNK_DSET_B i) 31 16 }

/-- The least k in (lo, hi] with `p k`, where `p hi` holds and `p` is rising.
DEDUCED (unsafe), log entry 53. -/
def bisect (p : Nat → Bool) : Nat → Nat → Nat → Nat
  | 0, _, hi => hi
  | fuel + 1, lo, hi =>
    if hi ≤ lo + 1 then hi
    else if p ((lo + hi) / 2) then bisect p fuel lo ((lo + hi) / 2) else bisect p fuel ((lo + hi) / 2) hi

/-- The earliest listen instant whose T0 is at or after `target`. -/
def State.wakeSearch (s : State) (r : Rec) (target : Nat) : WakeInstant :=
  let good (k : Nat) : Bool := decide ((target : Int) ≤ (s.wakeInstant r k).t0)
  let hi := ((List.range 64).map fun i => 2 ^ i).find? good
  s.wakeInstant r (bisect good 64 0 (hi.getD (2 ^ 63)))

/-- What sizing gives. -/
inductive Sized where
  | refused (cause : Nat)
  /-- TIME, PMODE, and PRELEN or the number of copies. -/
  | ok (time pmode n : Nat)
  deriving DecidableEq, Repr

/-- Sizing of an entry of profile `prof` that names queued slot `q`, armed with PMODE `pm` (2 or 3) and NREP `nrep`, for a T0
at or after `earliest` (R226, R227).
DEDUCED (unsafe), log entry 53. -/
def sizeWake (s : State) (q : QSlot) (prof pm nrep earliest setup : Nat) : State × Sized :=
  if s.eprLimit < q.dest ∨ !s.rangeLoaded q.dest then (s, .refused 7)
  else
    match recFetch s q.dest with
    | (s, .got r) =>
      if recSusp r || !wakeValid (recInterval r) || recHeard r == 0 then (s, .refused 7)
      else
        let pw := s.profWords active prof
        if !pwValid pw || !pwOk pw then (s, .refused 8)
        else
          let i := recPset r
          let w := s.wakeSearch r (max earliest (s.slate + setup + 1))
          let tp := 2 * w.u + 32 * s.rf (Reg.LNK_DSET_B i) 31 16
          let n := max (pwPmin pw) (cdiv (tp * pwRate pw) 32000000)
          if pm = 2 ∧ n ≤ s.rf (Reg.LNK_DSET_A i) 11 0 then (s, .ok w.t0.toNat 2 n)
          else
            match s.slotHead q.slot with
            | none => (s, .refused 8)
            | some h =>
              let f := airTicks pw (pwPmin pw) h.len 1
              let copies := if nrep = 0 then cdiv tp f + 1 else nrep
              if 16 < copies ∨ (s.rf (Reg.LNK_DSET_A i) 31 28 + 1) * 32000 < f ∨ 511 < h.len then (s, .refused 8)
              else (s, .ok w.t0.toNat 3 copies)
    | (s, _) => (s, .refused 7)

/-- The entry as sizing leaves it (R226, R227): 16 copies do not fit NREP, which then reads 0. -/
def Entry.sized (x : Entry) (time pm n : Nat) : Entry :=
  let x := ((Entry.setTime x time).setCtrl 19 18 pm)
  if pm = 3 then x.setCtrl 15 12 n else x.setCtrl 11 0 n

/-- Copies that an entry sends (R228). -/
def Entry.copies (x : Entry) : Nat := if x.pmode ≠ 3 then 1 else if x.nrep = 0 then 16 else x.nrep

/-! ### ARM and CANCEL (R206, R207, R223) -/

/-- A schedule command is refused. -/
def schedRefused (s : State) (cause : Nat) : State × Nat :=
  (((s.wb Reg.LNK_SSTAT 0 true).wf Reg.LNK_SSTAT 11 8 cause).wb Reg.LNK_STAT 0 true, cause)

/-- Entry e is placed ARMED with T_setup `setup`. -/
def placeEntry (s : State) (e : Nat) (x : Entry) (a : ArmInfo) : State :=
  let s := s.setEntry e ((x.setCtrl 23 20 1).setCtrl 31 24 0)
  { s with lnk := { s.lnk with arms := s.lnk.arms.put e a } }

/-- The slack check and the placing of an ARM (R207).
DEDUCED (unsafe), log entry 53. -/
def armPlace (s : State) (e : Nat) (x : Entry) (a : ArmInfo) : State × Nat :=
  let lam : Int := (s.slate + 1 + a.setup : Nat) - (x.time : Int)
  if (s.rf Reg.LNK_SLACK 15 0 : Int) < lam then schedRefused (s.setEntry e ((s.entry e).setCtrl 31 24 0x22)) 2
  else (placeEntry s e ((if 1 ≤ lam then Entry.setTime x (s.slate + 1 + a.setup) else x).setCtrl 17 17 0) a, 0)

/-- ARM of entry e (R207): the refusal cause, 0 for none.
DEDUCED (unsafe), log entry 53. -/
def armEntry (s : State) (e : Nat) : State × Nat :=
  let x := s.entry e
  let pw := s.profWords active x.prof
  let setup := s.setup x.chain
  if !s.entryFree e then schedRefused s 1
  else if s.entryBad e then (freeEntry (s.readReport 6 11 (16 * e) 16) e 0x22, 0)
  else
    match s.queued x.slot with
    | none => schedRefused s 6
    | some q =>
      if s.slotHeld x.slot then schedRefused s 6
      else if x.pmode = 1 ∧ x.prelen < pwPmin pw then schedRefused s 3
      else if x.pmode = 3 ∧ x.nrep = 1 then schedRefused s 4
      else
        let a : ArmInfo := { setup := setup, pmode := x.pmode, nrep := x.nrep }
        if x.pmode < 2 then armPlace s e x a
        else
          match sizeWake s q x.prof x.pmode x.nrep x.time setup with
          | (s, .refused c) => schedRefused s c
          | (s, .ok time pm n) => armPlace s e (x.sized time pm n) a

/-- CANCEL of entry e (R206): the refusal cause, 0 for none.
DEDUCED (unsafe), log entry 53. -/
def cancelEntry (s : State) (e : Nat) : State × Nat :=
  if s.entryFree e then (s, 0)
  else if (s.entry e).state = 1 then
    let s := s.setEntry e (((s.entry e).setCtrl 23 20 0).setCtrl 31 24 0)
    ({ s with lnk := { s.lnk with arms := s.lnk.arms.del e } }, 0)
  else schedRefused s 5

/-- A write of LNK.SCMD: with both bits set, only ARM acts. -/
def scmdWrite (s : State) (v : Word) : State :=
  let e := s.rf Reg.LNK_SIDX 11 0
  if bit v 0 then (armEntry s e).1 else if bit v 1 then (cancelEntry s e).1 else s

/-! ### Dispatch (R207-R209, R229, R251) -/

/-- The dispatch instant D of an entry armed with `a`. -/
def Entry.dispatchAt (x : Entry) (a : ArmInfo) : Int := (Entry.time x : Int) - a.setup

/-- The kind of request that DCB sees (R245, R250). -/
def Entry.kind (x : Entry) : TxKind := if Entry.origin x then .reply else .entry

/-- A reservation is released and entry e ends with verdict v. -/
def entryEnds (s : State) (e id v : Nat) : State := freeEntry (s.unreserve id) e v

/-- Entry e, deferred to tick X, is ARMED again (R229, R251).
DEDUCED (unsafe), log entry 53. -/
def deferEntry (s : State) (e : Nat) (x : Entry) (a : ArmInfo) (q : QSlot) (at_ : Nat) : State :=
  let t := at_ + a.setup
  if a.pmode < 2 then s.setEntry e (x.setTime t)
  else
    match sizeWake s q x.prof a.pmode a.nrep t a.setup with
    | (s, .ok time pm n) => s.setEntry e (x.sized time pm n)
    | (s, .refused _) => freeEntry ((s.inc Reg.DCB_REFCNT).emit [31]) e 0x21

/-- The key and the long address of the frame of slot header h to queued destination `q` (R179, R239, R305). -/
def entryKey (s : State) (q : QSlot) (h : SlotHead) (r : Rec) : State × KeyFound × Nat :=
  if h.type = 0 then
    let x := if h.sec = 0 then (s, KeyFound.key []) else hostKey s (s.rf Reg.LNK_PKEY 27 16) 4
    (x.1, x.2, Config.eui64)
  else
    let x := if h.sec = 0 then (s, KeyFound.key []) else endpointKey s q.dest (recKgen r) (recKey r)
    (x.1, x.2, recLong r)

/-- PEND of an entry's frame (R182): more downlinks for the endpoint, or more relay uplinks.
DEDUCED (unsafe), log entry 54. -/
def State.entryPend (s : State) (q : QSlot) (h : SlotHead) (r : Rec) : Bool :=
  if h.type = 0 then s.lnk.queue.any fun p => s.relaySlot p && p.slot != q.slot else decide (1 < recPending r)

/-- The header of an entry's frame, its counter still 0 (R176, R239).
DEDUCED (unsafe), log entry 54. -/
def State.entryMhr (s : State) (q : QSlot) (h : SlotHead) (pend : Bool) : List Nat :=
  let fc := mkFc h.type h.sec (h.ack && h.type != 1) pend false 0 false
  let net := s.rf (Reg.LNK_NETID 0) 15 0
  if h.type = 0 then downMhr fc net 0 s.ownAddr (s.rf Reg.LNK_PADDR 24 0) ++ le 2 0
  else downMhr fc net 0 s.ownAddr q.dest

/-- The slot header from which checks 7 and 8 of R208 take the length of the transmission: the slot's, or, where it cannot be read,
that of an empty downlink.
DESIGN CHOICE (unsafe), log entry 93. -/
def State.sizedHead (s : State) (n : Nat) : SlotHead := (s.slotHead n).getD { dest := 0, type := 1, sec := 0, ack := false, plen := 0 }

/-- The slot as it is read whole at the latch: its header and the octets in use, none where the read is uncorrectable or the header
breaks cause 3 of R219 (R208, R217).
DEDUCED (unsafe), log entry 52. -/
def State.slotRead (s : State) (n : Nat) : Option (SlotHead × List Nat) :=
  match s.peek 14 (s.slotAt n) 512 with
  | some b =>
    let h := Machine.slotHead (octs b)
    if s.headOk h then some (h, (octs b).take (8 + h.plen)) else none
  | none => none

/-- Entry e, approved, at the latch (R209, R217, R222, R305). -/
def entryLatch (s : State) (e : Nat) (t : Tx) (a : ArmInfo) (q : QSlot) (r : Rec) : State :=
  let s := s.readReport 6 14 (s.slotAt q.slot) 512
  match s.slotRead q.slot with
  | none => entryEnds s e t.id 0x22
  | some (h, b) =>
    if a.setup < s.setup t.chain then entryEnds s e t.id 0x24
    else
      match entryKey s q h r with
      | (s, .key k, long) =>
        let s := laneWork s (40 + 2 * cdiv h.len 16)
        let s := s.setEntry e ((s.entry e).setCtrl 23 20 3)
        takeCounter (latchTx s { t with payload := b.drop 8, key := k, long := long }) t.t0 t.chain t.id
      | (s, _, _) => entryEnds (takeCounter s t.t0 t.chain t.id) e t.id 0x24

/-- Checks 3 to 8 of R208 for entry e, whose TIME is up to date, with record r. -/
def entryCommit (s : State) (e : Nat) (d : Int) (a : ArmInfo) (q : QSlot) (r : Rec) : State :=
  let x := s.entry e
  let n := x.chain
  let expired := match s.holdExpiry with | some t => !x.origin && decide ((t : Int) ≤ d) | none => false
  if s.chainRefuses n then freeEntry s e 0x24
  else if !s.txPlanOk n x.ch x.prof then freeEntry s e 0x24
  else if expired then freeEntry s e 0x23
  else if !s.counterLeft then freeEntry s e 0x25
  else
    let h := s.sizedHead q.slot
    let pw := s.profWords active x.prof
    let pre := if x.pmode = 1 ∨ x.pmode = 2 then x.prelen else pwPmin pw
    let pend := s.entryPend q h r
    let t1 := x.time + airTicks pw pre h.len x.copies
    let w := tuneWord (s.chanHz active n x.ch)
    let since := (x.dispatchAt a).toNat
    if s.txConflict n since (s.backOf n t1) true then freeEntry s e 0x24
    else
      let (id, s) := s.nextId
      let t : Tx := { s.mkTx id (.entry e q.slot q.dest pend false) n x.ch x.prof w since x.time t1 with
        mhr := s.entryMhr q h pend, copies := x.copies, pre := pre }
      match budgetCheck s id w t.us x.kind with
      | (s, .approved) => entryLatch s e t a q r
      | (s, .deferred at_) => deferEntry s e x a q at_
      | (s, .refused) => freeEntry s e 0x21

/-- A transmission of entry e is latched. -/
def State.inAir (s : State) (e : Nat) : Bool :=
  s.rfs.txs.any fun t => match t.what with | .entry f _ _ _ _ => f == e | _ => false

/-- Entry e at its dispatch (R208); one that cannot be read ends MISSED (R454). It waits while no transmission may start.
DEDUCED (unsafe), log entry 49. DEDUCED (unsafe), log entry 52. -/
def dispatchEntry (s : State) (e : Nat) : State :=
  match s.lnk.arms.find e with
  | none => s
  | some a =>
    let x := s.entry e
    let d := x.dispatchAt a
    if s.entryBad e then
      if s.inAir e ∨ (s.slate : Int) < d then s else freeEntry (s.readReport 6 11 (16 * e) 16) e 0x22
    else if x.state ≠ 1 ∨ (s.slate : Int) < d ∨ d + s.rf Reg.LNK_SLACK 15 0 < s.slate ∨ !s.operating ∨ s.draining.isSome then s
    else
      let s := (s.readReport 6 11 (16 * e) 16).setEntry e (x.setTime (s.slate + a.setup))
      match s.queued x.slot with
      | none => freeEntry s e 0x22
      | some q =>
        if s.eprLimit < q.dest ∨ !s.rangeLoaded q.dest then unqueue (freeEntry s e 0x22) q.slot
        else
          match recFetch s q.dest with
          | (s, .got r) => if recSusp r then unqueue (freeEntry s e 0x22) q.slot else entryCommit s e d a q r
          | (s, _) => unqueue (freeEntry s e 0x22) q.slot

/-- An ARMED entry that could not be dispatched ends MISSED at D + SLACK + 1 (R47). -/
def slackExpiry (s : State) (e : Nat) : State :=
  match s.lnk.arms.find e with
  | none => s
  | some a =>
    if !s.entryBad e ∧ (s.entry e).state = 1 ∧ (s.entry e).dispatchAt a + s.rf Reg.LNK_SLACK 15 0 < s.slate then
      freeEntry (s.readReport 6 11 (16 * e) 16) e 0x22
    else s

/-! ### Beacons (R230-R232) -/

/-- Slate second `sec` is due a beacon, while beacons are emitted.
DESIGN CHOICE (unsafe), log entry 55. -/
def State.beaconDue (s : State) (sec : Nat) : Bool :=
  let p := s.rf Reg.LNK_BCNTIM 24 16
  s.mainOn && s.rb Reg.LNK_BCNCFG 31 && sec % p == s.rf Reg.LNK_BCNTIM 7 0 % p

/-- A beacon that is not sent (R232). -/
def beaconSkipped (s : State) : State := (s.inc Reg.LNK_BSKIP).emit [25]

/-- The beacon of second `sec` ends with a verdict other than SENT at its commit. -/
def beaconRefused (s : State) (v : Nat) : State := beaconSkipped (s.countTx v)

/-- The payload of a beacon (R231), cut to fit; none where its slot cannot be read.
DEDUCED (unsafe), log entry 52. -/
def State.beaconPayload (s : State) : Option (List Nat) :=
  if !s.rb Reg.LNK_BCNPL 31 then some []
  else
    let n := s.rf Reg.LNK_BCNPL 17 0
    match s.slotHead n, s.peek 14 (s.slotAt n) 512 with
    | some h, some b => some (((octs b).drop 8).take (min h.plen 475))
    | _, _ => none

/-- The beacon of second `sec` at its commit.
DEDUCED (unsafe), log entry 52. DESIGN CHOICE (unsafe), log entry 55. -/
def beaconCommit (s : State) (sec : Nat) : State :=
  let n := s.rf Reg.LNK_BCNCFG 26 24
  let k := s.rf Reg.LNK_BCNCFG 23 18
  let p := s.rf Reg.LNK_BCNCFG 17 14
  let t0 := 32000000 * sec
  let setup := s.setup n
  if !s.beaconDue sec || !s.operating || s.draining.isSome || s.lnk.bcnDone == sec || s.lnk.bcnMissed == sec
      || s.slate + setup != t0 then s
  else
    let s : State := { s with lnk := { s.lnk with bcnDone := sec } }
    let pw := s.profWords active p
    let key := s.rf Reg.LNK_BCNCFG 11 0
    if s.chainRefuses n || !s.txPlanOk n k p || (s.slot key).st == 0 then beaconRefused s 0x24
    else if !s.counterLeft then beaconRefused s 0x25
    else
      let s : State := if s.rb Reg.LNK_BCNPL 31 then s.readReport 6 14 (s.slotAt (s.rf Reg.LNK_BCNPL 17 0)) 512 else s
      match s.beaconPayload with
      | none => beaconRefused s 0x24
      | some m =>
        let t1 := t0 + airTicks pw (pwPmin pw) (28 + m.length + 8) 1
        let w := tuneWord (s.chanHz active n k)
        if s.txConflict n s.slate (s.backOf n t1) false then beaconRefused s 0x24
        else
          let (id, s) := s.nextId
          let mhr := beaconMhr 0x7101 (s.rf (Reg.LNK_NETID 0) 15 0) 0 s.ownAddr Config.eui64 (s.rf Reg.LNK_BSEQ 15 0) sec
            (s.rf Reg.LNK_BCNTIM 24 16)
          let t : Tx := { s.mkTx id (.beacon sec) n k p w s.slate t0 t1 with
            mhr := mhr, payload := m, long := Config.eui64, pre := pwPmin pw }
          match budgetCheck s id w t.us .beacon with
          | (s, .approved) =>
            match hostKey s key 4 with
            | (s, .key kk) => takeCounter (latchTx s { t with key := kk }) t0 n id
            | (s, _) => beaconRefused ((takeCounter s t0 n id).unreserve id) 0x24
          | (s, _) => beaconRefused s 0x21

/-- The boundary of second `sec` (R230, R232).
DESIGN CHOICE (unsafe), log entry 55. -/
def beaconBoundary (s : State) (sec : Nat) : State :=
  if sec ≤ s.lnk.bcnSec ∨ s.slate < 32000000 * sec then s
  else
    let s : State := { s with lnk := { s.lnk with bcnSec := sec } }
    if s.beaconDue sec then
      let s := s.wf Reg.LNK_BSEQ 15 0 (s.rf Reg.LNK_BSEQ 15 0 + 1)
      if s.lnk.bcnDone = sec then s else beaconSkipped s
    else s

/-- Every boundary that the present tick passes (R230, R232): the one it stands on, or, after a step of the slate, those of the
skipped ticks too (R512). -/
def beaconBoundaries (s : State) : State :=
  let now := s.slate / 32000000
  (List.range (now - s.lnk.bcnSec)).foldl (fun (t : State) i => beaconBoundary t (s.lnk.bcnSec + 1 + i)) s

/-! ### Ends of transmissions (R71, R77, R222-R225) -/

/-- The next reply for endpoint `addr` after transmission t (R224, R225). -/
def placeReply (s : State) (t : Tx) (addr : Nat) : State :=
  let s := chainCheck s addr
  match s.lnk.queue.find? fun q => q.dest == addr && !s.slotHeld q.slot with
  | none => s.inc Reg.LNK_RPLMISS
  | some q =>
    match recFetch s addr with
    | (s, .got r) =>
      match lowest 4096 s.entryFree with
      | some e =>
        let time := t.t1 + 32000 * s.rf (Reg.LNK_DSET_A (recPset r)) 23 16
        let x : Entry := le 8 time ++ le 4 (t.prof * 2 ^ 28 + t.chain * 2 ^ 25 + t.ch * 2 ^ 19 + q.slot) ++ le 4 (2 ^ 17)
        ((placeEntry s e x { setup := s.setup t.chain, pmode := 0, nrep := 0 }).inc Reg.LNK_RPLCNT).emit [24]
      | none => s.inc Reg.LNK_RPLMISS
    | (s, _) => s.inc Reg.LNK_RPLMISS

/-- Transmission t has ended with verdict v. -/
def txEnds (s : State) (t : Tx) (v : Nat) : State :=
  match t.what with
  | .ack _ addr pend =>
    let s := s.countTx v
    if v ≠ 0x20 then s
    else
      let s := s.emit [21, 218]
      if pend then placeReply s t addr else s
  | .entry e slot dest pend drop =>
    let reply := (s.entry e).origin
    let s := freeEntry s e v
    let s := if v = 0x20 ∨ drop then unqueue s slot else s
    if v = 0x20 ∧ reply ∧ pend then placeReply s t dest else s
  | .beacon sec =>
    -- A beacon whose emission missed its deadline is skipped at its boundary (R30).
    if s.lnk.bcnMissed = sec then s else if v = 0x20 then (s.countTx v).emit [25] else beaconRefused s v

/-- The end of the radiated interval of transmission t. -/
def txRadiated (s : State) (t : Tx) : State :=
  if t.up ∧ !t.down ∧ t.radEnd ≤ s.slate then txEnds (radiatedEnd s t) t t.verdict else s

/-- The synthesizer of chain n loses lock (R71).
DEDUCED (unsafe), log entry 45. -/
def lockLoss (s : State) (n : Nat) : State :=
  if !(s.chain n).on then s
  else
    let s := (s.wb (Reg.RFC_STAT n) 15 true).emit [84 + 4 * n]
    let s := s.setChain n { s.chain n with locked := false, relockAt := some (s.slate + 1280) }
    let s := (truncateChain s n).addOut n .unlock none
    match s.rfs.txs.find? fun t => t.chain == n && decide (t.since ≤ s.slate) && !t.down with
    | none => s
    | some t =>
      if t.up then
        let t := { t with verdict := 0x24 }
        shortenTx (s.setTx t) t (min t.radEnd (s.slate + t.ramp))
      else txEnds (femPins (((dropTx s t).endOut n .own).unreserve t.id) n) t 0x24

/-! ### Missed deadlines (R30) -/

/-- The deadline path exists and stands at or past its deadline instant unfinished (R30). -/
def State.pathMissed (s : State) (path : DeadlinePath) : Bool :=
  let ack (id : Nat) : Bool := s.lnk.acks.any fun a => a.id == id && decide (a.commitAt ≤ s.slate)
  let armed (e : Nat) : Bool :=
    match s.lnk.arms.find e with
    | some a => (s.entry e).state == 1 && decide ((s.entry e).dispatchAt a ≤ s.slate)
    | none => false
  let beacon (sec lead : Nat) : Bool :=
    s.beaconDue sec && s.operating && decide (32000000 * sec ≤ s.slate + lead) && s.lnk.bcnMissed != sec && decide (s.lnk.bcnSec < sec)
  match path with
  | .ackBuild id => ack id
  | .budgetAck id => ack id
  | .takeRelease d =>
    match s.lnk.takes.find d with
    | some t => s.releaseLate t
    | none => false
  | .budgetEntry e => armed e
  | .dispatch e => armed e
  | .budgetBeacon sec => beacon sec (s.setup (s.rf Reg.LNK_BCNCFG 26 24)) && s.lnk.bcnDone != sec
  | .beacon sec => beacon sec 0 && (s.lnk.bcnDone != sec || s.rfs.txs.any fun t => t.what == .beacon sec && !t.down)

/-- The latched beacon of second `sec` is not sent (R30): a ramp that has begun goes down again, and the chain returns to its receiver. -/
def beaconDrop (s : State) (sec : Nat) : State :=
  match s.rfs.txs.find? fun t => t.what == .beacon sec && !t.down with
  | some t =>
    if t.up then shortenTx s { t with verdict := 0x22 } (min t.radEnd (s.slate + t.ramp))
    else femPins (((dropTx s t).endOut t.chain .own).unreserve t.id) t.chain
  | none => s

/-- The fallback of a deadline path that has not finished at its deadline instant, with MARGIN_LOST.
DESIGN CHOICE (safe), log entry 84. -/
def missFallback (s : State) (path : DeadlinePath) : State :=
  match path with
  | .ackBuild id =>
    match s.lnk.acks.find? fun a => a.id == id with
    | some a => dropAck s a fun t => t.ackMissed a.commitAt
    | none => s
  | .takeRelease d => s.onTake d fun t => releaseMissed s d t
  | .budgetAck id =>
    match s.lnk.acks.find? fun a => a.id == id with
    | some a => (dropAck s a fun t => t).countTx 0x22
    | none => s
  | .budgetEntry e => freeEntry s e 0x22
  | .dispatch e => freeEntry s e 0x22
  | .budgetBeacon sec => beaconRefused { s with lnk := { s.lnk with bcnDone := sec } } 0x22
  | .beacon sec =>
    let s := beaconDrop s sec
    { s with lnk := { s.lnk with bcnMissed := sec, bcnDone := if s.lnk.bcnDone = sec then 0 else s.lnk.bcnDone } }

/-- DEADLINE_MISS's effect (R30): nothing where the path does not exist or has not come to its deadline.
DESIGN CHOICE (safe), log entry 84. -/
def deadlineMiss (s : State) (path : DeadlinePath) : State :=
  if s.pathMissed path then missFallback (s.raiseMargin 1) path else s

/-! ### Registers -/

/-- A write of LNK.TXRST (R210).
DESIGN CHOICE (unsafe), log entry 55. -/
def txCounterReset (s : State) (v : Word) : State :=
  let s := s.plainWrite Reg.LNK_TXRST v
  if bit v 0 ∧ fld v 31 16 = 0x6480 then
    if s.mode = 2 ∨ s.mode = 3 then (s.wr Reg.LNK_TXCTR 0).wb Reg.LNK_STAT 3 false else s.wb Reg.LNK_STAT 2 true
  else s

/-- A write of the window register of the selected entry's word at octet `o`: ignored unless the entry is FREE, and a write into an ECC
word that cannot be read does not take place (R449). -/
def windowWrite (s : State) (o : Nat) (f : Word → Word) : State :=
  let e := s.rf Reg.LNK_SIDX 11 0
  if s.entryFree e then (s.write 6 11 (16 * e + o) (bytesLE 4 (f (word (field (s.entry e) o 4))).toNat)).1 else s

/-- A write to a register of LNK. -/
def lnkBusWrite (s : State) (a : Nat) (v : Word) : State :=
  let old := s.rd a
  let keep (v : Word) (hi lo : Nat) (good : Bool) : Word := if good then v else setFld v hi lo (fld old hi lo)
  let guard (v : Word) (i : Nat) : Word := keep v (8 * i + 7) (8 * i) (decide (fld v (8 * i + 7) (8 * i) ≤ 128))
  let isOf (f : Nat → Nat) (n : Nat) : Bool := (List.range n).any fun i => f i == a
  if a = Reg.LNK_SLACK then s.plainWrite a (word (min 32000 (fld v 15 0)))
  else if a = Reg.LNK_SAMEWIN then s.plainWrite a (word (min 160 (fld v 7 0)))
  else if isOf Reg.LNK_TACK 16 then
    if 12800 ≤ fld v 19 0 ∧ fld v 19 0 ≤ 640000 then s.plainWrite a v else s
  else if a = Reg.LNK_TXRST then txCounterReset s v
  else if isOf Reg.LNK_SHGDLO 8 || isOf Reg.LNK_SHGDHI 8 then s.plainWrite a ((List.range 4).foldl guard v)
  else if a = Reg.LNK_STIME 0 then windowWrite s 0 fun _ => v
  else if a = Reg.LNK_STIME 1 then windowWrite s 4 fun _ => v
  else if a = Reg.LNK_SROUTE then windowWrite s 8 fun _ => v &&& 0xFFFBFFFF
  else if a = Reg.LNK_SCTRL then windowWrite s 12 fun old => (old &&& 0xFFF20000) ||| (v &&& 0x000CFFFF)
  else if a = Reg.LNK_SCMD then scmdWrite s v
  else if isOf Reg.LNK_DSET_A 16 then
    s.plainWrite a (keep (keep v 23 16 (fld v 23 16 != 0)) 11 0 (decide (16 ≤ fld v 11 0)))
  else if isOf Reg.LNK_DSET_B 16 then s.plainWrite a (keep v 7 0 (decide (fld v 7 0 ≤ 200)))
  else if a = Reg.LNK_DLQ then (dlqWrite s v).1
  else if a = Reg.LNK_BCNTIM then s.plainWrite a (keep v 24 16 (decide (1 ≤ fld v 24 16 ∧ fld v 24 16 ≤ 256)))
  else if a = Reg.LNK_BWIN then if fld v 15 0 = 0 ∨ fld v 31 16 < fld v 15 0 then s else s.plainWrite a v
  else if a = Reg.LNK_HOLD then s.plainWrite a (keep v 31 16 (fld v 31 16 != 0))
  else s.plainWrite a v

/-- The registers of LNK that show the schedule and the queue. -/
def State.lnkView (s : State) (a : Nat) : Word :=
  let x := s.entry (s.rf Reg.LNK_SIDX 11 0)
  if a = Reg.LNK_STIME 0 then word x.time
  else if a = Reg.LNK_STIME 1 then word (x.time >>> 32)
  else if a = Reg.LNK_SROUTE then x.route
  else if a = Reg.LNK_SCTRL then x.ctrl
  else if a = Reg.LNK_SSTAT then s.rd a ||| word (65536 * s.lnk.arms.length)
  else if a = Reg.LNK_DLSTAT then s.rd a ||| word s.lnk.queue.length
  else s.rd a

/-! ### Commands -/

/-- LOCK_LOSS (R71). -/
def execLockLoss (n : Nat) (s : State) : Out := ok (n < 8) (lockLoss s n)

/-- RADIATED_INTERVAL_END (R77). -/
def execRadiatedIntervalEnd (id : Nat) (s : State) : Out :=
  .next (match s.tx id with | some t => txRadiated s t | none => s)

/-- ACK_COMMIT (R199): ACK request `id` at its commit point. -/
def execAckCommit (id : Nat) (s : State) : Out :=
  .next (match s.lnk.acks.find? fun a => a.id == id with
    | some a => if a.commitAt ≤ s.slate then ackCommit s a else s
    | none => s)

/-- DEADLINE_MISS (R30). -/
def execDeadlineMiss (path : DeadlinePath) (s : State) : Out := .next (deadlineMiss s path)

/-- SCHEDULE_ARM (R207): a write of LNK.SCMD with ARM set. -/
def execScheduleArm (val : Word) (s : State) : Out := ok (bit val 0) (s.onMain (scmdWrite s val))

/-- SCHEDULE_CANCEL (R206): a write of LNK.SCMD with only CANCEL set. -/
def execScheduleCancel (val : Word) (s : State) : Out := ok (bit val 1 && !bit val 0) (s.onMain (scmdWrite s val))

/-- SCHEDULE_DISPATCH (R208). -/
def execScheduleDispatch (e : Nat) (s : State) : Out := ok (e < 4096) (dispatchEntry s e)

/-- DISPATCH_SLACK_EXPIRY (R47). -/
def execDispatchSlackExpiry (e : Nat) (s : State) : Out := ok (e < 4096) (slackExpiry s e)

/-- TX_COUNTER_RESET (R210): a write of LNK.TXRST with GO set. -/
def execTxCounterReset (val : Word) (s : State) : Out := ok (bit val 0) (s.onMain (txCounterReset s val))

/-- BEACON_COMMIT (R232). -/
def execBeaconCommit (sec : Nat) (s : State) : Out := .next (beaconCommit s sec)

/-- BEACON_DUE_BOUNDARY (R232). -/
def execBeaconDueBoundary (sec : Nat) (s : State) : Out := .next (beaconBoundary s sec)

end Sys2Proof.Machine
end

