-- ==== Sys2Proof/Machine/Sha.lean ====
section
/-! DEFINITION. SHA-256 (FIPS 180-4) and the verification of ECDSA signatures over P-256 (FIPS 186-5), which firmware images
carry (spec/21_firmware_update.md, R518). -/

namespace Sys2Proof.Machine

/-- The constants K of SHA-256. -/
def shaK : List Nat :=
  [0x428A2F98, 0x71374491, 0xB5C0FBCF, 0xE9B5DBA5, 0x3956C25B, 0x59F111F1, 0x923F82A4, 0xAB1C5ED5]
    ++ [0xD807AA98, 0x12835B01, 0x243185BE, 0x550C7DC3, 0x72BE5D74, 0x80DEB1FE, 0x9BDC06A7, 0xC19BF174]
    ++ [0xE49B69C1, 0xEFBE4786, 0x0FC19DC6, 0x240CA1CC, 0x2DE92C6F, 0x4A7484AA, 0x5CB0A9DC, 0x76F988DA]
    ++ [0x983E5152, 0xA831C66D, 0xB00327C8, 0xBF597FC7, 0xC6E00BF3, 0xD5A79147, 0x06CA6351, 0x14292967]
    ++ [0x27B70A85, 0x2E1B2138, 0x4D2C6DFC, 0x53380D13, 0x650A7354, 0x766A0ABB, 0x81C2C92E, 0x92722C85]
    ++ [0xA2BFE8A1, 0xA81A664B, 0xC24B8B70, 0xC76C51A3, 0xD192E819, 0xD6990624, 0xF40E3585, 0x106AA070]
    ++ [0x19A4C116, 0x1E376C08, 0x2748774C, 0x34B0BCB5, 0x391C0CB3, 0x4ED8AA4A, 0x5B9CCA4F, 0x682E6FF3]
    ++ [0x748F82EE, 0x78A5636F, 0x84C87814, 0x8CC70208, 0x90BEFFFA, 0xA4506CEB, 0xBEF9A3F7, 0xC67178F2]

/-- The initial hash value of SHA-256. -/
def shaH : List Nat := [0x6A09E667, 0xBB67AE85, 0x3C6EF372, 0xA54FF53A, 0x510E527F, 0x9B05688C, 0x1F83D9AB, 0x5BE0CD19]

/-- Rotation right within 32 bits. -/
def ror32 (n x : Nat) : Nat := (x >>> n) ||| (x <<< (32 - n)) % 2 ^ 32

/-- The message schedule: the block's 16 words extended to 64, newest first. -/
def shaSchedule : Nat → List Nat → List Nat
  | 0, w => w
  | n + 1, w =>
    let a := w.getD 14 0
    let b := w.getD 1 0
    let s0 := ror32 7 a ^^^ ror32 18 a ^^^ (a >>> 3)
    let s1 := ror32 17 b ^^^ ror32 19 b ^^^ (b >>> 10)
    shaSchedule n (((s1 + w.getD 6 0 + s0 + w.getD 15 0) % 2 ^ 32) :: w)

/-- The working variables a-h. -/
structure ShaVars where
  a : Nat
  b : Nat
  c : Nat
  d : Nat
  e : Nat
  f : Nat
  g : Nat
  h : Nat

/-- One round with K + W in `kw`. -/
def ShaVars.round (v : ShaVars) (kw : Nat) : ShaVars :=
  let s1 := ror32 6 v.e ^^^ ror32 11 v.e ^^^ ror32 25 v.e
  let ch := (v.e &&& v.f) ^^^ ((v.e ^^^ 0xFFFFFFFF) &&& v.g)
  let t1 := v.h + s1 + ch + kw
  let s0 := ror32 2 v.a ^^^ ror32 13 v.a ^^^ ror32 22 v.a
  let maj := (v.a &&& v.b) ^^^ (v.a &&& v.c) ^^^ (v.b &&& v.c)
  { a := (t1 + s0 + maj) % 2 ^ 32, b := v.a, c := v.b, d := v.c, e := (v.d + t1) % 2 ^ 32, f := v.e, g := v.f, h := v.g }

/-- The hash value `hs` taken through one 64-octet block. -/
def shaBlock (hs block : List Nat) : List Nat :=
  let w := (shaSchedule 48 ((chunks 4 block).map numBE).reverse).reverse
  let g (i : Nat) : Nat := hs.getD i 0
  let v := (w.zip shaK).foldl (fun v x => v.round (x.1 + x.2))
    { a := g 0, b := g 1, c := g 2, d := g 3, e := g 4, f := g 5, g := g 6, h := g 7 : ShaVars }
  [(g 0 + v.a) % 2 ^ 32, (g 1 + v.b) % 2 ^ 32, (g 2 + v.c) % 2 ^ 32, (g 3 + v.d) % 2 ^ 32, (g 4 + v.e) % 2 ^ 32,
    (g 5 + v.f) % 2 ^ 32, (g 6 + v.g) % 2 ^ 32, (g 7 + v.h) % 2 ^ 32]

/-- SHA-256 of octets. -/
def sha256 (m : List Nat) : List Nat :=
  let pad := 0x80 :: List.replicate ((119 - m.length % 64) % 64) 0 ++ octsBE 8 (8 * m.length)
  ((chunks 64 (m ++ pad)).foldl shaBlock shaH).flatMap (octsBE 4)

/-! ### P-256 -/

/-- The field prime, the group order, and the curve coefficient b. -/
def p256 : Nat := 0xFFFFFFFF00000001000000000000000000000000FFFFFFFFFFFFFFFFFFFFFFFF
def p256n : Nat := 0xFFFFFFFF00000000FFFFFFFFFFFFFFFFBCE6FAADA7179E84F3B9CAC2FC632551
def p256b : Nat := 0x5AC635D8AA3A93E7B3EBBD55769886BC651D06B0CC53B0F63BCE3C3E27D2604B

/-- A point of the curve, none for the point at infinity. -/
abbrev EcPoint := Option (Nat × Nat)

/-- The base point. -/
def p256G : EcPoint :=
  some (0x6B17D1F2E12C4247F8BCE6E563A440F277037D812DEB33A0F4A13945D898C296,
    0x4FE342E2FE1A7F9B8EE7EB4A7C0F9E162BCE33576B315ECECBB6406837BF51F5)

/-- b^e modulo m, over `k` bits of e from the top. -/
def powMod (m b e : Nat) : Nat → Nat
  | 0 => 1 % m
  | k + 1 => let r := powMod m b (e / 2) k; if e % 2 = 1 then r * r % m * b % m else r * r % m

/-- The inverse of `a` modulo the prime `m`. -/
def invMod (m a : Nat) : Nat := powMod m (a % m) (m - 2) 256

/-- The sum of two points. -/
def ecAdd (p q : EcPoint) : EcPoint :=
  match p, q with
  | none, _ => q
  | _, none => p
  | some (x1, y1), some (x2, y2) =>
    if x1 = x2 ∧ (y1 + y2) % p256 = 0 then none
    else
      let l := if x1 = x2 then (3 * x1 * x1 + (p256 - 3)) * invMod p256 (2 * y1) % p256
        else (y2 + p256 - y1) * invMod p256 (x2 + p256 - x1) % p256
      let x3 := (l * l + 2 * p256 - x1 - x2) % p256
      some (x3, (l * (x1 + p256 - x3) + p256 - y1) % p256)

/-- The multiple e·p, over `k` bits of e. -/
def ecMul (p : EcPoint) (e : Nat) : Nat → EcPoint
  | 0 => none
  | k + 1 => let r := ecMul p (e / 2) k; let d := ecAdd r r; if e % 2 = 1 then ecAdd d p else d

/-- Signature r ‖ s over octets `m` verifies under the public key q (FIPS 186-5, with SHA-256). -/
def ecdsaVerify (q : Nat × Nat) (m sig : List Nat) : Bool :=
  let r := numBE (sig.take 32)
  let s := numBE (sig.drop 32)
  if r = 0 ∨ p256n ≤ r ∨ s = 0 ∨ p256n ≤ s then false
  else
    let w := invMod p256n s
    match ecAdd (ecMul p256G (numBE (sha256 m) * w % p256n) 256) (ecMul (some q) (r * w % p256n) 256) with
    | some (x, _) => x % p256n == r
    | none => false

end Sys2Proof.Machine
end

