-- ==== Sys2Proof/Machine/Update.lean ====
section
/-! DEFINITION. The update engine (spec/21_firmware_update.md): image headers and sections, the boot record, and staging
sessions. -/

namespace Sys2Proof.Machine

/-! ### Images (R516-R521) -/

/-- Fields of an image header (R518). -/
def hdrComp (h : List Nat) : Nat := h.getD 6 0
def hdrKey (h : List Nat) : Nat := h.getD 7 0
def hdrVersion (h : List Nat) : Nat := field h 16 4
def hdrLen (h : List Nat) : Nat := field h 20 4
def hdrEntry (h : List Nat) : Nat := field h 120 4

/-- The window of the header for component k: MIN and MAX (R518). -/
def hdrCompat (h : List Nat) (k : Nat) : Nat × Nat := (field h (16 + 8 * k) 4, field h (20 + 8 * k) 4)

/-- The format version that the header lists for a block, 0 for none (R528). -/
def hdrFormat (h : List Nat) (block : Nat) : Nat :=
  (((List.range 8).find? fun i => h.getD (56 + 4 * i) 0 == block && block != 0).map fun i => field h (58 + 4 * i) 2).getD 0

/-- The largest body of component c (R516). -/
def bodyMax (c : Nat) : Nat := match c with | 3 => 8388352 | 4 => 2096896 | _ => 1048320

/-- Every octet of `h` from `o` on, `n` of them, is zero. -/
def zeroAt (h : List Nat) (o n : Nat) : Bool := ((h.drop o).take n).all fun b => b == 0

/-- MAGIC, HVER and the zero fields are right (R523, cause 2). -/
def hdrMagicOk (h : List Nat) : Bool :=
  h.take 4 == [0x4C, 0x44, 0x36, 0x34] && field h 4 2 == 1 && zeroAt h 13 3 && zeroAt h 124 68
    && ((List.range 8).all fun i => h.getD (57 + 4 * i) 0 == 0)
    && (!(hdrComp h == 1 || hdrComp h == 4) || hdrEntry h == 0)

/-- Every window has MIN no higher than MAX, and the image's own entry is zero (R523, cause 7). -/
def hdrWindowsOk (h : List Nat) : Bool :=
  ((List.range 4).all fun i => decide ((hdrCompat h (i + 1)).1 ≤ (hdrCompat h (i + 1)).2)) && hdrCompat h (hdrComp h) == (0, 0)

/-- The signing key has been revoked (R519). -/
def State.keyRevoked (s : State) (i : Nat) : Bool := s.upd.revoked.testBit i

/-- The first cause of 2-7 that a header meets, 0 for none (R523). -/
def State.hdrCause (s : State) (h : List Nat) : Nat :=
  if !hdrMagicOk h then 2
  else if hdrComp h = 0 ∨ 4 < hdrComp h ∨ hdrLen h = 0 ∨ bodyMax (hdrComp h) < hdrLen h then 3
  else if field h 8 4 ≠ 0x6480 ∨ 0xB0 < h.getD 12 0 then 4
  else if s.keyRevoked (hdrKey h) then 5
  else if 3 < hdrKey h ∨ !ecdsaVerify (Config.signKey (hdrKey h)) (h.take 192) ((h.drop 192).take 64) then 6
  else if !hdrWindowsOk h then 7
  else 0

/-- A section of a body (R521). -/
structure Section where
  dest : Nat
  addr : Nat
  data : List Nat
  deriving DecidableEq, Repr

/-- The sections of a body, none where the list is invalid (R521); `fuel` bounds their number. -/
def sections (comp : Nat) : Nat → List Nat → Option (List Section)
  | _, [] => some []
  | 0, _ => none
  | fuel + 1, b =>
    let dest := b.getD 0 0
    let addr := field b 4 4
    let len := field b 8 4
    let pad := (len + 3) / 4 * 4
    let fits := if dest = 5 then decide (0x10000000 ≤ addr) && decide (addr + len ≤ 0x10200000) else decide (addr + len ≤ 0x20000)
    let allowed := if comp = 2 then dest == 4 else decide (dest ≤ 3) || dest == 5 || dest == 6
    if b.length < 12 + pad ∨ !zeroAt b 1 3 ∨ !fits ∨ !allowed then none
    else
      match sections comp fuel (b.drop (12 + pad)) with
      | some l => some ({ dest := dest, addr := addr, data := (b.drop 12).take len } :: l)
      | none => none

/-- The section list of a body of component c is valid; the bodies of components 1 and 4 are opaque. -/
def sectionsOk (c : Nat) (body : List Nat) : Bool :=
  if c = 2 ∨ c = 3 then (sections c body.length body).isSome else true

/-- Digest and sections of an image hold (R518, R521). -/
def FwImage.bodyOk (i : FwImage) : Bool :=
  i.body.length == hdrLen i.hdr && sha256 i.body == (i.hdr.drop 88).take 32 && sectionsOk (hdrComp i.hdr) i.body

/-- The image of component c in place w (0 and 1 the final-cut slots, 2 the rough cut). -/
def State.image (s : State) (c w : Nat) : Option FwImage := s.upd.imgs.find (3 * c + w)

/-- The state with that image replaced. -/
def State.setImage (s : State) (c w : Nat) (i : FwImage) : State :=
  { s with upd := { s.upd with imgs := s.upd.imgs.put (3 * c + w) i } }

/-- The image in a place verifies in full: header, signature, digest and sections (R525, R527). -/
def State.imageOk (s : State) (c w : Nat) : Bool :=
  match s.image c w with
  | some i => s.hdrCause i.hdr == 0 && hdrComp i.hdr == c && i.bodyOk
  | none => false

/-- The sections of an image loaded into the cores' memories (R521). -/
def loadSections (s : State) (comp : Nat) (body : List Nat) : State :=
  ((sections comp body.length body).getD []).foldl (fun (s : State) x =>
    let at_ (s : State) (m o : Nat) : State := s.poke m o (ofOcts x.data)
    match x.dest with
    | 5 => at_ s 5 (x.addr - 0x10000000)
    | 6 => (List.range 4).foldl (fun (s : State) k => at_ s k x.addr) s
    | k => at_ s k x.addr) s

/-! ### The boot record (R520) -/

/-- The current copy: the one with the higher sequence. -/
def State.bootRec (s : State) : Option BootRec :=
  match s.upd.recA, s.upd.recB with
  | some a, some b => if a.seq < b.seq then some b else some a
  | some a, none => some a
  | none, b => b

/-- Component c of the current record; where no copy is valid, slot 0 is active and nothing is staged. -/
def State.comp (s : State) (c : Nat) : CompRec :=
  match s.bootRec with
  | some r => r.comps.getD (c - 1) {}
  | none => { valid0 := true }

/-- Slot w of a component holds an image that may be used. -/
def CompRec.valid (r : CompRec) (w : Nat) : Bool := if w = 0 then r.valid0 else r.valid1

/-- The record with VALID of slot w set. -/
def CompRec.setValid (r : CompRec) (w : Nat) (v : Bool) : CompRec :=
  if w = 0 then { r with valid0 := v } else { r with valid1 := v }

/-- A component's four octets of the record. -/
def CompRec.octets (r : CompRec) : List Nat := [r.active, b2n r.valid0 + 2 * b2n r.valid1, b2n r.staged, 0]

/-- A copy as its place in the flash holds it: MAGIC "LDBR", the sequence, the components, and the CRC-32 of these. -/
def BootRec.image (r : BootRec) : List Nat :=
  let b := [0x4C, 0x44, 0x42, 0x52] ++ le 4 r.seq ++ r.comps.flatMap CompRec.octets
  b ++ le 4 (crc32 b)

/-- The offset in QSPI0 of component c's place w, as `State.image` numbers them (R517). -/
def imageAt (c w : Nat) : Nat :=
  match c with
  | 1 => [0x400000, 0x500000, 0x1C00000].getD w 0
  | 2 => [0x600000, 0x700000, 0x1D00000].getD w 0
  | 3 => [0x800000, 0x1000000, 0x1E00000].getD w 0
  | _ => [0x1800000, 0x1A00000, 0x2600000].getD w 0

/-- The state whose boot record has been rewritten with component c as `f c`: the copy that is not current is written, its sequence, a
U32, one higher. -/
def State.setComps (s : State) (f : Nat → CompRec) : State :=
  let n : BootRec :=
    { seq := (((s.bootRec.map fun b => b.seq).getD 0) + 1) % 2 ^ 32, comps := (List.range 4).map fun i => f (i + 1) }
  let aCurrent := s.upd.recA.isSome && s.bootRec == s.upd.recA
  if aCurrent then { s with upd := { s.upd with recB := some n } } else { s with upd := { s.upd with recA := some n } }

/-- The state whose boot record has component c changed. -/
def State.setComp (s : State) (c : Nat) (r : CompRec) : State := s.setComps fun k => if k = c then r else s.comp k

/-- The state with the STAGED bit of component c set to `v`. -/
def State.setStaged (s : State) (c : Nat) (v : Bool) : State :=
  if (s.comp c).staged = v then s else s.setComp c { s.comp c with staged := v }

/-! ### Staging (R522, R523) -/

/-- UPD.STAT.STATE. -/
def State.updState (s : State) : Nat := s.rf Reg.UPD_STAT 2 0

/-- A refused command: CAUSE is set; the second part is the cause.
DEDUCED (unsafe), log entry 81. -/
def updRefused (s : State) (cause : Nat) : State × Nat := (s.wf Reg.UPD_STAT 11 8 cause, cause)

/-- The move to FAILED, with its cause and the cue UPD.DONE. -/
def updFailed (s : State) (cause : Nat) : State := ((s.wf Reg.UPD_STAT 11 8 cause).wf Reg.UPD_STAT 2 0 4).emit [14]

/-- A command of the session has been accepted. -/
def State.updTouch (s : State) : State := { s with upd := { s.upd with last := s.slate } }

/-- A session is open, and `src` is not its source. -/
def State.updForeign (s : State) (src : Nat) : Bool :=
  (s.updState == 1 || s.updState == 2) && s.rf Reg.UPD_STAT 31 24 != src

/-- BEGIN with a header, by source `src` (a principal, or 0x80 + a core); the second part is the refusal cause, 0 for none.
DEDUCED (unsafe), log entry 81. -/
def stageBegin (s : State) (src : Nat) (hdr : List Nat) : State × Nat :=
  if s.updState = 1 ∨ s.updState = 2 then updRefused s 1
  else if s.mode = 7 then updRefused s 11
  else
    let c := s.hdrCause hdr
    if c ≠ 0 then (updFailed s c, c)
    else
      let comp := hdrComp hdr
      let s := { s with upd := { s.upd with ses := s.upd.ses + 1, hdr := hdr, rx := [],
                                            ops := s.upd.ops ++ [FlashOp.erase (s.upd.ses + 1) comp hdr] } }
      let s := ((s.wf Reg.UPD_STAT 31 24 src).wf Reg.UPD_STAT 17 16 (comp - 1)).wf Reg.UPD_STAT 2 0 1
      ((s.wr Reg.UPD_RXOFS 0).updTouch, 0)

/-- Octets of chunks that wait in the 32 KiB chunk buffer. -/
def State.chunkOctets (s : State) : Nat :=
  (s.upd.ops.map fun o => match o with | .chunk _ _ d => d.length | _ => 0).foldl (· + ·) 0

/-- CHUNK of `data` at body offset `ofs`.
DEDUCED (unsafe), log entry 81. -/
def stageChunk (s : State) (src ofs : Nat) (data : List Nat) : State × Nat :=
  let rx := (s.rd Reg.UPD_RXOFS).toNat
  if s.updState ≠ 1 ∨ s.updForeign src ∨ ofs ≠ rx ∨ data.length = 0 ∨ 8000 < data.length
      ∨ hdrLen s.upd.hdr < rx + data.length then updRefused s 8
  else if s.mode = 7 then updRefused s 11
  else if 32768 < s.chunkOctets + data.length then updRefused s 12
  else
    let s := { s with upd := { s.upd with rx := s.upd.rx ++ data,
                                          ops := s.upd.ops ++ [FlashOp.chunk s.upd.ses (hdrComp s.upd.hdr) data] } }
    ((s.wr Reg.UPD_RXOFS (word (rx + data.length))).updTouch, 0)

/-- FINISH: the outcome waits for its turn on QSPI0 (R524).
DEDUCED (unsafe), log entry 81. -/
def stageFinish (s : State) (src : Nat) : State × Nat :=
  if s.updState ≠ 1 ∨ s.updForeign src ∨ (s.rd Reg.UPD_RXOFS).toNat ≠ hdrLen s.upd.hdr then updRefused s 8
  else if s.mode = 7 then updRefused s 11
  else
    let s := { s with upd := { s.upd with ops := s.upd.ops ++ [FlashOp.verify s.upd.ses] } }
    ((s.wf Reg.UPD_STAT 2 0 2).updTouch, 0)

/-- ABORT.
DEDUCED (unsafe), log entry 81. -/
def stageAbort (s : State) (src : Nat) : State × Nat :=
  if s.updForeign src then updRefused s 8
  else if s.mode = 7 then updRefused s 11
  else (s.wf Reg.UPD_STAT 2 0 0, 0)

/-- The state without the head operation of QSPI0.
DESIGN CHOICE (unsafe), log entry 82. -/
def State.opDone (s : State) : State := { s with upd := { s.upd with ops := s.upd.ops.drop 1 } }

/-- UNSTAGE of component c: the boot record is written in its turn on QSPI0 (R524). -/
def unstage (s : State) (c : Nat) : State × Nat :=
  if s.mode = 7 then updRefused s 11
  else ({ s with upd := { s.upd with ops := s.upd.ops ++ [FlashOp.unstage c] } }.updTouch, 0)

/-- A read-back for FINISH has its turn on QSPI0: the session that asked for it. -/
def State.verifying (s : State) : Option Nat :=
  match s.upd.ops with
  | .verify n :: _ => some n
  | _ => none

/-- The outcome of FINISH, where its session is still VERIFYING: the digest of the programmed body and its sections. -/
def stageVerify (s : State) : State :=
  match s.verifying with
  | none => s
  | some n =>
    let s := s.opDone
    if n ≠ s.upd.ses ∨ s.updState ≠ 2 then s
    else
      let c := hdrComp s.upd.hdr
      let good := match s.image c 2 with
        | some i => i.hdr == s.upd.hdr && i.bodyOk
        | none => false
      if good then ((s.setStaged c true).wf Reg.UPD_STAT 2 0 3).emit [14] else updFailed s 10

/-- No command has been accepted for UPD.TOUT seconds while RECEIVING (R523). -/
def State.stageStallDue (s : State) : Bool :=
  s.updState == 1 && decide (s.upd.last + s.rf Reg.UPD_TOUT 15 0 * 32000000 ≤ s.slate)

/-- The head operation of a staging session or of UNSTAGE ends on QSPI0: it has taken effect, or it failed (cause 9). The component of
an erased rough cut has no STAGED bit from then on.
DESIGN CHOICE (unsafe), log entry 82. DESIGN CHOICE (unsafe), log entry 88. -/
def stageFlash (s : State) (good : Bool) : State :=
  let failed (s : State) (n : Nat) : State :=
    if n = s.upd.ses ∧ (s.updState = 1 ∨ s.updState = 2) then updFailed s 9 else s
  match s.upd.ops with
  | .erase n c hdr :: _ =>
    let s := s.opDone.setStaged c false
    if good then s.setImage c 2 { hdr := hdr, body := [] } else failed s n
  | .chunk n c data :: _ =>
    let s := s.opDone
    if good then
      match s.image c 2 with
      | some i => s.setImage c 2 { i with body := i.body ++ data }
      | none => s
    else failed s n
  | .unstage c :: _ => if good then s.opDone.setStaged c false else s.opDone
  | .verify _ :: _ => s
  | .save :: _ => s
  | [] => s

/-- The keys of the images that are active in the final cut (R519). -/
def State.activeKeys (s : State) : List Nat :=
  (List.range 4).filterMap fun i => (s.image (i + 1) (s.comp (i + 1)).active).map fun x => hdrKey x.hdr

/-- Revocation of key i: refused where it would leave no key unrevoked, or where an active image carries it (R519).
DEDUCED (unsafe), log entry 81. -/
def revokeKey (s : State) (i : Nat) : State × Bool :=
  let r := s.upd.revoked ||| 2 ^ i
  if r % 16 = 15 ∨ s.activeKeys.contains i then (s, false)
  else ({ s with upd := { s.upd with revoked := r } }, true)

/-- Octets at a window-region offset, read by UPD; none where they lie outside the region or cannot be read. -/
def updFetch (s : State) (o n : Nat) : State × Option (List Nat) :=
  let a := s.winBase + o
  if !s.memOn 14 ∨ s.dramOctets < a + n then (s, none)
  else (s.readReport 12 14 a n, (s.peek 14 a n).map octs)

/-- BEGIN through the registers, by core n. -/
def coreBegin (s : State) (n : Nat) : State × Nat :=
  let r := updFetch s (s.rd64 (Reg.UPD_SRC 0)) 256
  stageBegin r.1 (0x80 + n) (r.2.getD [])

/-- CHUNK through the registers, by core n. -/
def coreChunk (s : State) (n : Nat) : State × Nat :=
  let len := (s.rd Reg.UPD_LEN).toNat
  if 8000 < len then updRefused s 8
  else
    let r := updFetch s (s.rd64 (Reg.UPD_SRC 0)) len
    stageChunk r.1 (0x80 + n) (s.rd Reg.UPD_RXOFS).toNat (r.2.getD [])

/-- A write of UPD.CMD by core n: of several bits only the lowest acts. -/
def updCmd (s : State) (n : Nat) (v : Word) : State :=
  let s := s.plainWrite Reg.UPD_CMD v
  if bit v 0 then (coreBegin s n).1
  else if bit v 1 then (coreChunk s n).1
  else if bit v 2 then (stageFinish s (0x80 + n)).1
  else if bit v 3 then (stageAbort s (0x80 + n)).1
  else if bit v 4 then (unstage s (fld v 7 6 + 1)).1
  else s

/-- A write to a register of UPD by requester `req`. -/
def updBusWrite (s : State) (req a : Nat) (v : Word) : State :=
  if a = Reg.UPD_CMD then updCmd s (min req 4) v
  else if a = Reg.UPD_TOUT then if fld v 15 0 = 0 then s else s.plainWrite a v
  else s.plainWrite a v

/-- The registers of UPD that show the boot record and the fuses. -/
def State.updView (s : State) (a : Nat) : Word :=
  if a = Reg.UPD_STAT then
    s.rd a ||| word (((List.range 4).map fun i => b2n (s.comp (i + 1)).staged * 2 ^ (4 + i)).foldl (· + ·) 0)
  else if a = Reg.UPD_KEYS then word (s.upd.revoked % 16)
  else s.rd a

/-- The session ends: a reset of the main domain, or entry to HIBERNATE (R523). The component of a BEGIN whose erasure still waits has no
STAGED bit either.
DESIGN CHOICE (unsafe), log entry 90. -/
def updReset (s : State) : State :=
  let t := s.upd.ops.foldl (fun (t : State) o => match o with | .erase _ c _ => t.setStaged c false | _ => t) s
  { t with upd := { t.upd with ops := [], hdr := [], rx := [] } }

/-! ### Commands -/

/-- A source of staging commands: a principal, or 0x80 + a core. -/
def stageSource (src : Nat) : Bool := decide (src < 16) || (decide (0x80 ≤ src) && decide (src < 0x85))

/-- STAGE_BEGIN (R522): the ACTION of principal `src` with its argument, or a core's UPD.CMD. -/
def execStageBegin (src : Nat) (hdr : List Nat) (s : State) : Out :=
  ok (stageSource src) (s.onMain (if src < 16 then (stageBegin s src hdr).1 else (coreBegin s (src - 0x80)).1))

/-- STAGE_CHUNK (R522). -/
def execStageChunk (src ofs : Nat) (data : List Nat) (s : State) : Out :=
  ok (stageSource src) (s.onMain (if src < 16 then (stageChunk s src ofs data).1 else (coreChunk s (src - 0x80)).1))

/-- STAGE_FINISH (R522). -/
def execStageFinish (src : Nat) (s : State) : Out := ok (stageSource src) (s.onMain (stageFinish s src).1)

/-- STAGE_ABORT (R522). -/
def execStageAbort (src : Nat) (s : State) : Out := ok (stageSource src) (s.onMain (stageAbort s src).1)

/-- UNSTAGE (R522): component c. -/
def execUnstage (c : Nat) (s : State) : Out := ok (1 ≤ c ∧ c ≤ 4) (s.onMain (unstage s c).1)

/-- REVOKE_KEY (R519). -/
def execRevokeKey (key : Nat) (s : State) : Out := ok (key < 4) (s.onMain (revokeKey s key).1)

/-- STAGE_VERIFY_DONE (R522). -/
def execStageVerifyDone (s : State) : Out := .next (stageVerify s)

/-- STAGE_STALL (R523). -/
def execStageStall (s : State) : Out := .next (if s.stageStallDue then updFailed s 13 else s)

/-- STAGE_FLASH_COMPLETE (R522, R524). -/
def execStageFlashComplete (good : Bool) (s : State) : Out := .next (stageFlash s good)

end Sys2Proof.Machine
end

