-- ==== Sys2Proof/Machine/Modes.lean ====
section
/-! DEFINITION. Device modes, chain roles, HIBERNATE, resets and the guards that power the RF domain down
(spec/02_modes_reset_boot.md; R541, R548). -/

namespace Sys2Proof.Machine

/-! ### The RF domain powers down at once (R541, R548) -/

/-- Every radiated interval ends in the present tick and is charged; a transmission that has not ramped up yet radiates
nothing and is not charged (R71, R248).
DESIGN CHOICE (unsafe), log entry 32. -/
def radioStop (s : State) : State :=
  s.rfs.txs.foldl (fun (s : State) (t : Tx) =>
    if t.down then dropTx s t
    else if t.up then
      let t := { t with verdict := 0x24, radEnd := s.slate }
      let s := txEnds (radiatedEnd (shortenTx s t s.slate) t) t 0x24
      dropTx s t
    else txEnds (((dropTx s t).endOut t.chain .own).unreserve t.id) t 0x24) s

/-- The RF domain powers down in the present tick; every take in flight ends TRUNCATED.
DESIGN CHOICE (unsafe), log entry 32. -/
def rfStop (s : State) : State := (List.range 8).foldl femPins (powerChains (truncateChain (radioStop s) 8))

/-! ### What the main domain loses (R53, R57, R59) -/

/-- The bits of word w that belong to routes of the always-on segment (R358).
DESIGN CHOICE (unsafe), log entry 32. -/
def aonMask (w : Nat) : Nat := ((List.range 32).map fun b => if aonRoute (32 * w + b) then 2 ^ b else 0).foldl (· + ·) 0

/-- MEM's registers of memory m. -/
def memRegs (m : Nat) : List Nat :=
  [Reg.MEM_SCRUB m, Reg.MEM_SCRPOS m, Reg.MEM_SCRPASS m, Reg.MEM_CECNT m, Reg.MEM_UECNTM m, Reg.MEM_LEVEL m]

/-- The registers in the main domain's blocks that keep bits, with those bits: the always-on segment of CUE (R358), MEM's
registers of memories 4, 9 and 13 (R460), what describes the DRAM, which keeps its contents (R453), and the state that EPR
restores from its control block (R266).
DESIGN CHOICE (unsafe), log entry 32. -/
def keptBits : List (Nat × Nat) :=
  let all := 0xFFFFFFFF
  (List.range 7).map (fun w => (Reg.CUE_EN w, aonMask w))
    ++ (List.range 5).map (fun w => (Reg.CUE_IPEND w, aonMask w))
    ++ ((List.range 224).filter aonRoute).map (fun r => (Reg.CUE_CNT (routeInput r), all))
    ++ [0, 1].flatMap (fun n => [(Reg.CUE_GPIO_CFG n, all), (Reg.CUE_GPIO_STUCK n, all), (Reg.CUE_GPIO_NOISE n, all),
      (Reg.CUE_GPIO_STATE n, all)])
    ++ ([4, 9, 13].flatMap memRegs).map (fun a => (a, all))
    ++ [(Reg.MEM_STAT, 1), (Reg.MEM_DCFG, all), (Reg.MEM_RGSIZE, all), (Reg.MEM_WINBASE, all), (Reg.MEM_WINSIZE, all),
      (Reg.EPR_STAT, 3), (Reg.EPR_SNAPCAP, all), (Reg.EPR_LIMIT, all), (Reg.EPR_GEN 0, all), (Reg.EPR_GEN 1, all)]

/-- The register file with the main and RF domains' registers at their reset values but for the bits that are kept.
DESIGN CHOICE (unsafe), log entry 32. -/
def mainRegsReset (s : State) : State :=
  let t : State := { s with regs := s.regs.filter fun e => regDomain e.1 == .backup || regDomain e.1 == .alwaysOn }
  keptBits.foldl (fun (t : State) (e : Nat × Nat) => t.wr e.1 (s.rd e.1 &&& word e.2 ||| regReset e.1 &&& ~~~(word e.2))) t

/-- The memories of the main domain but the hot cache and the schedule table (R444).
DESIGN CHOICE (unsafe), log entry 32. -/
def mainMems : List Nat := [0, 1, 2, 3, 5, 7, 8, 10, 12]

/-- EPR's own state is copied to its control block (R266): the generation, and each range's state, generation and dirty marks. Where DRAM
is not usable there is nothing to keep.
DESIGN CHOICE (unsafe), log entry 99. -/
def State.storeControl (s : State) : State :=
  if !s.rb Reg.MEM_STAT 0 then s
  else
    s.epr.ranges.foldl (fun (s : State) r =>
      s.poke 14 (s.controlWord r.1) (ofOcts (le 8 r.2.gen ++ [r.2.st, b2n r.2.dirty.isSome, b2n r.2.sheet.isSome, 0, 0, 0, 0, 0])))
      (s.poke 14 s.dramRg (ofOcts (le 8 s.eprGen ++ List.replicate 8 0)))

/-- The transmissions that radiate stop within the PA ramp-down time and are charged for what they radiated (R59). -/
def discardTx (s : State) : State :=
  s.rfs.txs.foldl (fun (s : State) (t : Tx) =>
    if t.up ∧ !t.down then
      charge s t.id (t.t0 - t.ramp) (min t.radEnd (s.slate + t.ramp) - (t.t0 - t.ramp))
    else s.unreserve t.id) s

/-- The part of a waiting event that the always-on segment of the fabric emits (R358): nothing where no route of it lies there. -/
def CueEvent.alwaysOn (e : CueEvent) : Option CueEvent :=
  match e.routes.filter fun r => aonRoute r.1 with
  | [] => none
  | rs => some { e with routes := rs }

/-- The RF domain's transmit state as a step into HIBERNATE leaves it: the transmissions run to their ends, each with its chain
powered until then (R46); after a MAIN reset there are none (R59).
DEDUCED (unsafe), log entry 94. -/
def State.rfKept (s : State) (hib : Bool) : RfState :=
  if hib then { chains := s.rfs.chains.filter fun c => s.txOn c.1, txs := s.rfs.txs, sent := s.rfs.sent } else {}

/-- The main and RF domains lose their state: at a MAIN reset, or (`hib`) with the main domain powered down for HIBERNATE. The
registry in DRAM, the queue directory, the budget accounts and what ODX and SPH hold stay; so do, in HIBERNATE, the schedule
table (R47) and the transmissions that run (R46). A take that a drain's limit truncated and whose release instant has not come is lost
with its demodulator, uncounted.
DESIGN CHOICE (unsafe), log entry 32. DEDUCED (unsafe), log entry 94. DESIGN CHOICE (unsafe), log entry 103. -/
def mainDown (s : State) (hib : Bool) : State :=
  let s := s.storeControl
  let enabled := (List.range 32).filter fun k => s.acctOn k || s.dcb.kept.contains k
  let s := if hib then saveCancel s else (discardTx (saveCancel s)).clearMem 11
  let s := updReset (cipMainReset s)
  let s := mainRegsReset s
  let s := mainMems.foldl (fun (s : State) m => s.clearMem m) s
  let kss := { s.core 4 with chans := [] }
  let s := s.wb Reg.ODX_FWCNT 31 false
  { s with
    cue := { pending := s.cue.pending.filter (fun c => aonRoute c.route), deferred := s.cue.deferred.filterMap CueEvent.alwaysOn,
             gpio := s.cue.gpio.filter (fun p => decide (p.1 < 2)), aonAt := s.cue.aonAt, mainAt := s.slate }
    tmr := []
    tmrGroup := false
    ueAt := none
    reels := []
    epr := { s.epr with sheet := none }
    dcb := { s.dcb with
      reserved := if hib then s.dcb.reserved.filter fun r => s.rfs.txs.any fun t => t.id == r.id else []
      kept := enabled }
    rfs := s.rfKept hib
    chz := {}
    lnk := { queue := s.lnk.queue, seq := s.lnk.seq, bcnSec := s.syn.second, arms := if hib then s.lnk.arms else [] }
    cores := [(4, kss)]
    odx := { s.odx with saving := none, saveReq := s.odx.saveReq || s.odx.saving.isSome }
    host := { s.host with eth := [] } }

/-! ### Steps of a transition (R39, R42, R44, R572) -/

/-- How one mode moves to another (R42). -/
inductive Move where
  | same | d | dd | s | sd | a | x
  deriving DecidableEq, Repr

/-- The table of R42. -/
def move (cur to_ : Nat) : Move :=
  if cur = to_ then .same
  else match cur with
    | 1 => if to_ = 2 then .d else .s
    | 2 => .d
    | 3 => if to_ = 2 then .d else .s
    | 4 => if to_ = 5 then .d else if to_ = 6 then .dd else .sd
    | 5 => if to_ = 4 then .d else if to_ = 6 then .dd else .sd
    | 6 => if to_ = 2 ∨ to_ = 4 ∨ to_ = 5 then .d else .s
    | _ => if to_ = 2 then .a else .x

/-- Entry into HIBERNATE (R53): the hot cache is written back and powered down where it is not retained.
DESIGN CHOICE (unsafe), log entry 32. -/
def hibernate (s : State) : State :=
  let s := if s.rb Reg.SYS_HIBCTL 0 then s else (s.flushCache).clearMem 6
  mainDown (s.wb Reg.MEM_DCFG 16 true) true

/-- CUE SYS.MODE_CHANGED in the tick of a completed step (R39); its generation follows a SYS.WAKE trigger (R360). -/
def modeChanged (s : State) : State :=
  match s.sys.wakeGen with
  | some g => s.materialise { routes := [(0, 1)], gen := g + 1, em := s.slate }
  | none => s.emit [0]

/-- A completed step into mode `m`.
DEDUCED (unsafe), log entry 34. -/
def stepTo (s : State) (m : Nat) : State :=
  let old := s.mode
  let s := (s.wf Reg.SYS_MODE 7 4 old).wf Reg.SYS_MODE 3 0 m
  let s := if old = 5 then relayEnd (parentStop s) else s
  let s := if m = old then s else s.dropOcc
  let s := if old = 3 ∨ old = 7 then loopLeave s else s
  let s := if m = 5 then parentStart s else s
  let s : State := if m = 7 then { s.wr Reg.SYS_VSTAT 0 with sys := { s.sys with testing := true, tested := 0 } }
    else { s with sys := { s.sys with testing := false, testToBoot := s.sys.testToBoot && old != 7 } }
  let s := modeChanged s
  let s : State := if m = 1 then hibernate s else s
  let s := powerChains s
  if s.loopMode then loopEnter s else s

/-- The state with the transition in progress, and BUSY with it. -/
def State.setTrans (s : State) (t : Option Transition) : State :=
  { s.wb Reg.SYS_MODE 12 t.isSome with sys := { s.sys with trans := t } }

/-- A transition has completed. -/
def transDone (s : State) : State :=
  let s := s.setTrans none
  { s with sys := { s.sys with wakeGen := none } }

/-! ### Requests (R38-R43) -/

/-- A refusal (R39, R40): the second part is its cause.
DEDUCED (unsafe), log entry 31. -/
def modeRefused (s : State) (cause : Nat) : State × Nat :=
  (((s.wb Reg.SYS_MODE 16 true).wf Reg.SYS_MODE 27 24 cause).emit [1], cause)

/-- The current copy of the persistent store (R472). -/
def State.storeCopy (s : State) : Option StoreCopy :=
  match s.odx.copyA, s.odx.copyB with
  | some a, some b => if a.seq < b.seq then some b else some a
  | some a, none => some a
  | none, b => b

/-- The value that the store holds for an entry. -/
def State.storeValue (s : State) (index sub : Nat) : Option (List Nat) :=
  (s.storeCopy.bind fun c => c.recs.find? fun r => r.index == index && r.sub == sub).map fun r => r.value

/-- A parent channel is configured (R43): in LNK.PCHj, or, while the main domain is off, in what the wake applies: the value held
for OD 0x2A10.04, else the persistent store's. -/
def State.hasParent (s : State) : Bool :=
  if s.mainOn then (List.range 4).any fun j => s.rb (Reg.LNK_PCH j) 31
  else
    let v := (s.odx.stored.find (0x2A10 * 256 + 4) <|> s.storeValue 0x2A10 4).getD []
    (List.range 4).any fun j => (v.getD (4 * j + 3) 0).testBit 7

/-- Some chain has role RX or RX+TX. -/
def receives (roles : Word) : Bool :=
  (List.range 8).any fun n => fld roles (4 * n + 3) (4 * n) == 1 || fld roles (4 * n + 3) (4 * n) == 3

/-- The first condition of R43 that mode `m` fails, 0 for none. A boot that stopped at step 5 gives 5 (R60), though it did not
reach the microcode.
DESIGN CHOICE (unsafe), log entry 33. -/
def State.targetCause (s : State) (m : Nat) : Nat :=
  if m ≠ 4 ∧ m ≠ 5 then 0
  else if !s.sys.microcode ∧ s.rf Reg.SYS_BOOTSTAT 23 16 ≠ 0x20 then 3
  else if !s.rb Reg.MEM_STAT 0 then 5
  else if !receives (s.rd Reg.SYS_ROLE) then 4
  else if m = 5 ∧ !s.hasParent then 4
  else 0

/-- The wake sequence starts (R54), to go on to mode `m`.
DESIGN CHOICE (unsafe), log entry 33. -/
def wakeStart (s : State) (m : Nat) (gen : Option Nat) : State :=
  let s := s.setTrans (some { target := m, since := s.slate })
  { s with sys := { s.sys with wakeAt := some s.slate, wakeTo := m, wakeGen := gen, wakeDue := false,
                                wakeDueGen := none, wakeReq := false } }

/-- A drain begins (R45): detections stamped at or after the request tick are discarded, those that wait for their allocation among
them (R110). -/
def drainBegin (s : State) (t : Transition) : State :=
  let s := s.setTrans (some { t with drain := true })
  { s with chz := { s.chz with dets := s.chz.dets.filter fun d => decide (d.stamp < 8 * t.since) } }

/-- A transition in the table's manner `k` begins in its request tick (R572). -/
def moveBegin (s : State) (m : Nat) (k : Move) : State :=
  if s.mode = 1 ∧ k ≠ .same then
    let s := wakeStart s m none
    { s with sys := { s.sys with wakeReq := true } }
  else
    let t : Transition := { target := m, since := s.slate }
    match k with
    | .same => s
    | .x => s
    | .d => transDone (stepTo s m)
    | .a =>
      let s := s.wb Reg.SYS_VSTAT 30 true
      transDone (stepTo s 2)
    | .s => stepTo (s.setTrans (some { t with second := true })) 2
    | .dd => drainBegin s t
    | .sd => drainBegin s t

/-- A write of SYS.MODE.REQ (R40): the second part is the refusal cause, 0 for none.
DEDUCED (unsafe), log entry 31. -/
def modeRequest (s : State) (m : Nat) : State × Nat :=
  if m = 0 ∨ 8 ≤ m then modeRefused s 6
  else if s.rb Reg.SYS_MODE 12 then modeRefused s 2
  else if move s.mode m = .same then (s, 0)
  else if move s.mode m = .x then modeRefused s 1
  else
    let c := s.targetCause m
    if c ≠ 0 then modeRefused s c
    else
      let t := s.wf Reg.SYS_MODE 11 8 m
      let t : State := { t with sys := { t.sys with testToBoot := false } }
      (moveBegin t m (move s.mode m), 0)

/-! ### Drains (R45, R46) -/

/-- No draining take and no ACK of one is left. -/
def State.drained (s : State) : Bool :=
  s.lnk.takes.isEmpty && s.chz.dets.isEmpty && s.lnk.acks.isEmpty
    && !(s.rfs.txs.any fun t => (match t.what with | .ack _ _ _ => true | _ => false) && !t.down)

/-- The drain in progress ends in the present tick. -/
def State.drainDue (s : State) : Bool :=
  match s.sys.trans with
  | some t =>
    t.drain && ((decide (t.since + 64 ≤ s.slate) && s.drained) || decide (t.since + (s.rd Reg.SYS_DRAIN).toNat ≤ s.slate))
  | none => false

/-- The end of a drain: what is still in flight is truncated, ACKs with a later commit point are dropped, and the next step
follows (R46, R572). -/
def drainEnd (s : State) : State :=
  match s.sys.trans with
  | some t =>
    if s.drainDue then
      let s := truncateChain s 8
      let s := s.lnk.acks.foldl (fun (s : State) a => dropAck s a fun x => { x with acked := false }) s
      if move s.mode t.target = .dd then transDone (stepTo s t.target)
      else if t.target = 2 then transDone (stepTo s 2)
      else stepTo (s.setTrans (some { t with since := s.slate, drain := false, second := true })) 2
    else s
  | none => s

/-- The step from STANDBY into the target, in the tick after the step into STANDBY. A wake source that fired while HIBERNATE was
being entered starts the wake at once (R55). -/
def secondStep (s : State) : State :=
  match s.sys.trans with
  | some t =>
    if t.second ∧ t.since < s.slate then
      let s := transDone (stepTo s t.target)
      if t.target = 1 ∧ s.sys.wakeDue then wakeStart s (s.rf Reg.SYS_HIBCTL 7 4) s.sys.wakeDueGen else s
    else s
  | none => s

/-! ### Roles (R49-R52) -/

/-- The roles after a write: 5-15 ignored field by field (R49). -/
def rolesWritten (old v : Word) : Word :=
  (List.range 8).foldl (fun w n =>
    if fld v (4 * n + 3) (4 * n) ≤ 4 then setFld w (4 * n + 3) (4 * n) (fld v (4 * n + 3) (4 * n)) else w) old

/-- A write of SYS.ROLE (R52): false where it is refused. -/
def roleWrite (s : State) (v : Word) : State × Bool :=
  let w := rolesWritten (s.rd Reg.SYS_ROLE) v
  if s.operating ∧ !receives w then ((modeRefused s 4).1, false)
  else (powerChains (s.wr Reg.SYS_ROLE w), true)

/-! ### Wake sources (R55, R359) -/

/-- Wake sources (bits of SYS.WAKESRC) that SYS.HIBCTL enables. -/
def State.wakeSources (s : State) (sources : Nat) : Nat :=
  ((List.range 4).filter fun i => sources.testBit i && s.rb Reg.SYS_HIBCTL (8 + i)).foldl (fun n i => n + 2 ^ i) 0

/-- Wake sources fire, in HIBERNATE or while it is being entered.
DESIGN CHOICE (unsafe), log entry 33. DEDUCED (unsafe), log entry 76. -/
def wakeFired (s : State) (sources : Nat) (gen : Option Nat) : State :=
  let w := s.wakeSources sources
  let entering := match s.sys.trans with | some t => t.target == 1 | none => false
  if w = 0 then s
  else if s.mode = 1 then
    let s := s.setBits Reg.SYS_WAKESRC w
    if s.sys.wakeAt.isSome then s else wakeStart s (s.rf Reg.SYS_HIBCTL 7 4) gen
  else if entering then
    let s := s.setBits Reg.SYS_WAKESRC w
    if s.sys.wakeDue then s else { s with sys := { s.sys with wakeDue := true, wakeDueGen := gen } }
  else s

/-! ### Resets (R56-R59) -/

/-- Registers kept by every reset but POR and BKUP: the violation counters and the crash records (R543). -/
def crashReg (a : Nat) : Bool := decide (Reg.SUP_VIOL 0 ≤ a) && decide (a ≤ Reg.SUP_WDPC)

/-- A register that a reset of the always-on domain keeps: the backup domain's, the ageing index, which never resets (R537), and, where
`crash` says so, those of R543. -/
def keptReg (crash : Bool) (a : Nat) : Bool := regDomain a == .backup || a == Reg.SUP_AGE || (crash && crashReg a)

/-- A reset that reaches the always-on domain, with its bit of SYS.RSTCAUSE. The backup domain, the fuses and the flash
devices keep their contents; the START run follows, and the boot ROM from step 1.
DEDUCED (unsafe), log entry 34. DESIGN CHOICE (unsafe), log entry 85. DESIGN CHOICE (unsafe), log entry 87. -/
def aonReset (s : State) (cause : Nat) : State :=
  let t : State := {}
  let crash := decide (2 ≤ cause)
  { t with
    pending := s.pending
    regs := SMap.store (regReset Reg.SYS_RSTCAUSE)
      (s.regs.filter fun e => keptReg crash e.1) Reg.SYS_RSTCAUSE (word (2 ^ cause))
    cal := { s.cal with freezeAt := s.cal.freezeAt.map fun _ => 0, winOk := false, winTick := 0, winEdges := 0 }
    mem := s.mem.filter fun e => e.1 / 2 ^ 40 == 13
    ecc := s.ecc.filter fun e => e.1 / 2 ^ 40 == 13
    undef := s.undef.filter fun u => u.m == 13
    free := s.free
    sys := { t.sys with volt33 := s.sys.volt33, testPin := s.sys.testPin }
    sup := { t.sup with hourSeen := s.sup.hourSeen }
    cip := { t.cip with rootOk := s.cip.rootOk }
    epr := { t.epr with dirA := s.epr.dirA, dirB := s.epr.dirB, units := s.epr.units, retired := s.epr.retired, nand := s.epr.nand }
    upd := { t.upd with imgs := s.upd.imgs, recA := s.upd.recA, recB := s.upd.recB, revoked := s.upd.revoked }
    odx := { t.odx with copyA := s.odx.copyA, copyB := s.odx.copyB }
    rdata := s.rdata }

/-- POR: the backup domain starts from cold too. Each VDDIO bank senses its supply (R552), and TEST is read (R555): what the board
gives them is free.
DEDUCED (unsafe), log entry 34. DESIGN CHOICE (unsafe), log entry 87. DESIGN CHOICE (unsafe), log entry 85. -/
def porReset (s : State) : State :=
  let s := calReset (((aonReset s 0).clearMem 13))
  { s with
    sup := { s.sup with hourSeen := false }
    cal := { s.cal with lost := false }
    sys := { s.sys with volt33 := Config.bankSupply s.free % 32, testPin := Config.testPin s.free }
    free := s.free + 1 }

/-- The relay uplinks whose transmission the end of RELAY marked leave the queue with it (R239). -/
def relayDrop (s : State) : State :=
  s.rfs.txs.foldl (fun (s : State) t => match t.what with | .entry _ n _ _ true => unqueue s n | _ => s) s

/-- MAIN reset (R57, R59): the boot resumes at step 9. From RELAY, the move to SERVICE ends the relay uplinks, those in transmission
with it (R239).
DEDUCED (unsafe), log entry 34. -/
def mainReset (s : State) : State :=
  let s := if s.mode = 5 then relayDrop (relayEnd s) else s
  let s := (s.flushCache).clearMem 6
  let s := mainDown (s.wb Reg.MEM_DCFG 16 true) false
  let s := (s.setTrans none).wf Reg.SYS_MODE 3 0 3
  let s : State := { s with sys := { s.sys with
    boot := 9, mainBoot := true, microcode := false, testing := false, testToBoot := false, wakeAt := none, wakeDue := false,
    wakeDueGen := none, wakeReq := false, wakeGen := none } }
  powerChains (s.wb Reg.SYS_RSTCAUSE 6 true)

/-- The core resets that a keyed write of SYS.RST asks for.
DESIGN CHOICE (unsafe), log entry 95. -/
def rstCores (s : State) (v : Word) : State :=
  (List.range 4).foldl (fun (s : State) k => if bit v (8 + k) then coreResetCmd s k else s) s

/-- A write of SYS.RST (R56): without the key it has no effect. Of several bits of one write SYS acts alone, since it resets all
that the others reach; else the cores are reset, then the main domain.
DESIGN CHOICE (unsafe), log entry 95. -/
def rstWrite (s : State) (v : Word) : State :=
  if fld v 31 16 ≠ 0x6480 then s
  else if bit v 0 then aonReset s 3
  else
    let s := rstCores (s.plainWrite Reg.SYS_RST v) v
    if bit v 1 then mainReset s else s

/-! ### The guards of the RF domain (R541, R548) -/

/-- TCXO_LOSS's effect.
DEDUCED (unsafe), log entry 41. DESIGN CHOICE (unsafe), log entry 87. -/
def tcxoLoss (s : State) : State :=
  if !s.aonOn ∨ s.sup.held then s
  else
    let s := ((s.wb Reg.SUP_STAT 7 true).raiseMargin 6).violation 5
    rfStop { s with sup := { s.sup with held := true } }

/-- THERMAL_SHUTDOWN's effect.
DEDUCED (unsafe), log entry 41. DESIGN CHOICE (unsafe), log entry 87. -/
def thermalShutdown (s : State) : State :=
  if !s.aonOn ∨ s.sup.hot then s
  else
    let s := s.violation 6
    rfStop { s with sup := { s.sup with hot := true } }

/-! ### Commands -/

/-- POWER_ON_RESET (R56). -/
def execPowerOnReset (s : State) : Out := .next (porReset s)

/-- The effect of a low level of nRESET that its filter has accepted (R555): a PIN reset, in which the part stays for the present tick.
DESIGN CHOICE (unsafe), log entry 87. -/
def pinReset (s : State) : State :=
  let s := aonReset s 2
  { s with sys := { s.sys with pinLow := true } }

/-- PIN_RESET (R555): in each tick in which nRESET stands low. -/
def execPinReset (s : State) : Out := .next (if s.aonOn then pinReset s else s)

/-- BROWN_OUT_RESET (R558): not in BACKUP. -/
def execBrownOutReset (s : State) : Out := .next (if s.aonOn then aonReset s 5 else s)

/-- MAIN_SUPPLY_LOSS (R558): to BACKUP, or the loss of the backup domain where VBAT does not hold. -/
def execMainSupplyLoss (vbatOk : Bool) (s : State) : Out :=
  .next (if !s.aonOn then s
    else
      let s := (aonReset s 1).wf Reg.SYS_MODE 3 0 0
      if vbatOk then s else { (calReset s).clearMem 13 with cal := { lost := true } })

/-- MAIN_SUPPLY_RETURN (R37, R394). -/
def execMainSupplyReturn (s : State) : Out :=
  .next (if s.aonOn then s else if s.cal.lost then porReset s else aonReset s 1)

/-- SYSTEM_RESET_CMD (R56): a keyed write of SYS.RST.SYS. -/
def execSystemResetCmd (s : State) : Out := .next (if s.aonOn then aonReset s 3 else s)

/-- MAIN_RESET_CMD (R57): a keyed write of SYS.RST.MAIN. -/
def execMainResetCmd (s : State) : Out := .next (s.onAon (rstWrite s 0x64800002))

/-- CORE_RESET_CMD (R56, R403): a keyed write of SYS.RST with bit k of KSA. -/
def execCoreResetCmd (k : Nat) (s : State) : Out := ok (k < 4) (s.onAon (rstWrite s (word (0x64800000 + 2 ^ (8 + k)))))

/-- WATCHDOG_EXPIRY (R421, R543). -/
def execWatchdogExpiry (s : State) : Out :=
  .next (if s.wdogDue then aonReset (s.wr Reg.SUP_WDPC (word (s.core 4).pc)) 4 else s)

/-- MODE_REQUEST (R40): a write of SYS.MODE.REQ. -/
def execModeRequest (m : Nat) (s : State) : Out := ok (m < 16) (if s.aonOn then (modeRequest s m).1 else s)

/-- DRAIN_END (R46). -/
def execDrainEnd (s : State) : Out := .next (drainEnd s)

/-- TRANSITION_SECOND_STEP (R572). -/
def execTransitionSecondStep (s : State) : Out := .next (secondStep s)

/-- ROLE_WRITE (R52): a write of SYS.ROLE. -/
def execRoleWrite (val : Word) (s : State) : Out := .next (if s.aonOn then (roleWrite s val).1 else s)

/-- SYS_WAKE_TRIGGER (R359): the trigger counts, and its sources wake the device. -/
def execSysWakeTrigger (sources count gen : Nat) (s : State) : Out :=
  ok (sources < 16) (s.onAon (wakeFired (s.countCue 213 count) sources (some gen)))

/-- TCXO_LOSS (R541). -/
def execTcxoLoss (s : State) : Out := .next (tcxoLoss s)

/-- TCXO_RECOVERY (R541): a MAIN reset; the slate goes on. -/
def execTcxoRecovery (s : State) : Out :=
  .next (if s.sup.held then
    let s := { s with sup := { s.sup with held := false } }
    mainReset s else s)

/-- THERMAL_SHUTDOWN (R548). -/
def execThermalShutdown (s : State) : Out := .next (thermalShutdown s)

/-- THERMAL_RECOVERY (R548). -/
def execThermalRecovery (s : State) : Out :=
  .next (if s.sup.hot then
    let s := { s with sup := { s.sup with hot := false } }
    let s := powerChains s
    if s.loopMode then loopEnter s else s
    else s)

end Sys2Proof.Machine
end

