-- ==== Sys2Proof/Machine/Odp.lean ====
section
/-! DEFINITION. Obvor Dictionary Protocol messages on their way in and out (spec/19_object_dictionary.md, R475-R479): the
checks at arrival, the verification, and the tag of an answer. -/

namespace Sys2Proof.Machine

/-- Fields of a request (R476). -/
def odpOp (m : List Nat) : Nat := m.getD 1 0
def odpPrin (m : List Nat) : Nat := m.getD 2 0 / 16
def odpRole (m : List Nat) : Nat := m.getD 2 0 % 4
def odpFlags (m : List Nat) : Nat := m.getD 3 0
def odpCtr (m : List Nat) : Nat := field m 4 4
def odpIndex (m : List Nat) : Nat := field m 8 2
def odpSub (m : List Nat) : Nat := m.getD 10 0
def odpCount (m : List Nat) : Nat := m.getD 11 0
def odpOffset (m : List Nat) : Nat := field m 12 4
def odpLen (m : List Nat) : Nat := field m 18 2
def odpPayload (m : List Nat) : List Nat := (m.drop 24).take (odpLen m)

/-- The largest response accepted: RESPMAX, of which R476 admits no more than 8,192.
DEDUCED (unsafe), log entry 71. -/
def odpRespMax (m : List Nat) : Nat := if field m 16 2 = 0 then 1452 else min 8192 (field m 16 2)

/-- ODX serves the port (R475): 0 SPH, 1-3 ETH0-ETH2. -/
def State.odpPort (s : State) (port : Nat) : Bool := if port = 0 then s.rb Reg.ODX_CTL 3 else s.rb Reg.ODX_CTL (port - 1)

/-- Principal 15 is the open Observer (R481). -/
def State.openObs (s : State) (p : Nat) : Bool := p == 15 && s.rb Reg.ODX_CTL 8

/-- The key slot of principal p. -/
def State.prinSlot (s : State) (p : Nat) : Nat := s.rf (Reg.ODX_P_CFG p) 11 0

/-- Principal p is enabled, and its key slot holds a key (R478). -/
def State.prinOk (s : State) (p : Nat) : Bool := s.rb (Reg.ODX_P_CFG p) 31 && (s.slot (s.prinSlot p)).st != 0

/-- A dropped message or response (R475, R478, R488). -/
def odpDrop (s : State) : State := s.inc Reg.ODX_DROPCNT

/-- A message that R475 admits. -/
def odpWellFormed (m : List Nat) : Bool :=
  decide (32 ≤ m.length) && decide (m.length ≤ 8192) && m.getD 0 0 == 1 && m.length == 32 + odpLen m

/-- Requests of the open Observer that arrive in one tick keep the order of their ports (R479). -/
def OdpReq.portLe (a b : OdpReq) : Bool := a.open_.isNone || a.open_ != b.open_ || decide (a.peer.port ≤ b.peer.port)

/-- The arrival of a message (R475, R478, R479): its verification is submitted. -/
def odpArrive (s : State) (peer : OdpPeer) (m : List Nat) : State :=
  if !s.aonOn || !s.odpPort peer.port then s
  else if !odpWellFormed m then odpDrop s
  else
    let p := odpPrin m
    let job := s.odx.seq
    let accept (s : State) (o : Option Nat) : State :=
      { s with odx := { s.odx with
        seq := job + 1, reqs := insertBy OdpReq.portLe { job := job, peer := peer, msg := m, open_ := o } s.odx.reqs } }
    if s.openObs p then accept s (some (s.slate + 1))
    else if !s.prinOk p then odpDrop s
    else if s.queueFull 6 then odpDrop (s.cipFull 6)
    else
      let n := m.length - 8
      accept (s.cipVerify peer.port job (cmacVerify (s.prinSlot p) n 8) (m.take n) (m.drop n)) none

/-- A message without its tag is ready to leave (R478): its tag is requested under principal `p`'s key, none for the open
Observer; `skip` counts a request that ends FULL. -/
def odpEmit (s : State) (peer : OdpPeer) (p : Option Nat) (m : List Nat) (skip : State → State) : State :=
  let out (s : State) (j : Option Nat) : State :=
    { s with odx := { s.odx with outs := s.odx.outs ++ [{ job := j, peer := peer, msg := m }] } }
  match p with
  | none => out s none
  | some p =>
    if s.queueFull 6 then skip (s.cipFull 6)
    else
      let job := s.odx.seq
      let d : CipDesc := { cmacVerify (s.prinSlot p) m.length 8 with dir := 0 }
      let s := { s with odx := { s.odx with seq := job + 1 } }
      out (s.cipInline 6 job d m [] []) (some job)

/-- The answer that may leave first: one without a tag, or the one whose tag was published first (R488). -/
def State.odpOutDue (s : State) : Option OdpOut :=
  match s.odx.outs.find? fun o => o.job.isNone with
  | some o => some o
  | none => (s.cip.done.filterMap fun d => s.odx.outs.find? fun o => o.job == some d.job).head?

/-- The state without answer `o`.
DESIGN CHOICE (unsafe), log entry 78. -/
def odpOutGone (s : State) (o : OdpOut) : State :=
  let s := match o.job with
    | some j => s.cipCollect j
    | none => s
  { s with odx := { s.odx with outs := s.odx.outs.filter fun x => x != o } }

/-- The octets of the answer with its tag; none where the tag request did not end OK. -/
def State.odpTagged (s : State) (o : OdpOut) : Option (List Nat) :=
  match o.job with
  | none => some (o.msg ++ List.replicate 8 0)
  | some j =>
    match s.cipDone j with
    | some d => if d.code = 0 then some (o.msg ++ d.give.take 8) else none
    | none => none

/-- An answer to request `m` of a peer with its effect tick, status, DETAIL, TOTAL and payload (R477, R488); principal `p`
as in `odpEmit`. -/
def odpRespond (s : State) (peer : OdpPeer) (p : Option Nat) (m : List Nat) (tick status detail total : Nat)
    (payload : List Nat) : State :=
  odpEmit s peer p ([1, (odpOp m + 0x80) % 256, m.getD 2 0, status] ++ le 4 (odpCtr m) ++ le 2 (odpIndex m)
    ++ [odpSub m, detail % 256] ++ le 4 (odpOffset m) ++ le 8 tick ++ le 4 total ++ le 2 payload.length ++ [0, 0] ++ payload) odpDrop

/-! ### Firmware ACTIONs (R493) -/

/-- The pending firmware ACTION ends with a status, DETAIL and result. -/
def fwEnd (s : State) (w : OdpWait) (status detail : Nat) (result : List Nat) : State :=
  odpRespond { s with odx := { s.odx with fw := none } } w.peer (some (odpPrin w.msg)) w.msg w.tick status detail 0 result

/-- A write of ODX.FWDONE (R493): the result of the pending ACTION is read at its value address, `value` of the wait
holding that address and the descriptor's size. -/
def fwDone (s : State) (v : Word) : State :=
  let s := s.plainWrite Reg.ODX_FWDONE v
  match s.odx.fw with
  | some w =>
    if bit v 31 then
      let n := min (fld v 13 0) (w.value.getD 1 0)
      let o := w.value.getD 0 0 - 0x10000000
      let st := fld v 23 16
      let t := s.readReport 10 5 o n
      match s.peek 5 o n with
      | some b => if odpRespMax w.msg < 40 + n then fwEnd t w 0x08 0 [] else fwEnd t w (if st = 0 then 0 else 6) st (octs b)
      | none => fwEnd t w 0x0B 5 []
    else s
  | none => s

/-- FWTO ms have passed with a firmware ACTION pending (R493). -/
def State.fwDue (s : State) : Option OdpWait := s.odx.fw.filter fun w => decide (w.till ≤ s.slate)

/-- FW_ACTION_DONE (R493): a write of ODX.FWDONE. -/
def execFwActionDone (val : Word) (s : State) : Out := .next (fwDone s val)

/-- FW_ACTION_TIMEOUT (R493): the response ends FW_TIMEOUT, and FWPEND clears. -/
def execFwActionTimeout (s : State) : Out :=
  .next (match s.fwDue with
    | some w => fwEnd (s.wb Reg.ODX_STAT 3 true) w 0x0C 0 []
    | none => s)

/-! ### Registers -/

/-- A write of ODX.Pn.CFG: MAXROLE 3 and a slot below 16 keep their fields; KEYSLOT starts the principal afresh (R480). -/
def prinWrite (s : State) (p : Nat) (v : Word) : State :=
  let a := Reg.ODX_P_CFG p
  let v := if fld v 29 28 = 3 then setFld v 29 28 (s.rf a 29 28) else v
  if fld v 11 0 < 16 then s.plainWrite a (setFld v 11 0 (s.rf a 11 0)) else prinReset (s.plainWrite a v) p

/-- ODX.FWCHGj has no address of its own for j = 16-20: the register map gives 0x0080-0x0090 to five counters as well.
DESIGN CHOICE (unsafe), log entry 111. -/
def chgHidden (j : Nat) : Bool := decide (16 ≤ j ∧ j ≤ 20)

/-- Bit d of ODX.FWCHG is set (R492).
DESIGN CHOICE (unsafe), log entry 111. -/
def fwChanged (s : State) (d : Nat) : State :=
  let j := d / 32
  if chgHidden j then { s with odx := { s.odx with chg := s.odx.chg.put j ((s.odx.chg.find j).getD 0 ||| 2 ^ (d % 32)) } }
  else s.wb (Reg.ODX_FWCHG j) (d % 32) true

/-- A write to a register of ODX. -/
def odxBusWrite (s : State) (a : Nat) (v : Word) : State :=
  if a = Reg.ODX_PSTORE then
    let s := if bit v 31 then { s with odx := { s.odx with saveReq := true } } else s
    if fld v 15 0 = 0 then s else s.plainWrite a v
  else if a = Reg.ODX_FWCNT then s.plainWrite a (if 1024 < fld v 10 0 then setFld v 10 0 1024 else v)
  else if a = Reg.ODX_FWDONE then fwDone s v
  else if a = Reg.ODX_FWTO then if fld v 15 0 = 0 then s else s.plainWrite a v
  else if Reg.ODX_P_CFG 0 ≤ a ∧ a ≤ Reg.ODX_P_CFG 15 ∧ a % 16 = 0 then prinWrite s ((a - Reg.ODX_P_CFG 0) / 16) v
  else if Reg.ODX_REQCNT ≤ a ∧ a ≤ Reg.ODX_NSKIP then
    let j := 16 + (a - Reg.ODX_REQCNT) / 4
    { s with odx := { s.odx with chg := s.odx.chg.put j (word ((s.odx.chg.find j).getD 0) &&& ~~~v).toNat } }
  else s.plainWrite a v

/-- The registers of ODX that show a state. -/
def State.odxView (s : State) (a : Nat) : Word :=
  if a = Reg.ODX_STAT then
    s.rd a ||| word (2 * b2n s.odx.saving.isSome + b2n (s.odx.dirtyAt.isSome || s.odx.saveReq))
  else if a = Reg.ODX_FWPEND then
    match s.odx.fw with
    | some w => word (2 ^ 31 + w.desc % 1024 * 65536 + w.value.getD 2 0 % 16384)
    | none => 0
  else s.rd a

end Sys2Proof.Machine
end

