-- ==== Sys2Proof/Machine/FwTable.lean ====
section
/-! DEFINITION. The firmware-defined entries (spec/19_object_dictionary.md, R492): the descriptors in shared SRAM, and what
a boot's first use of the table restores (R474, R528). -/

namespace Sys2Proof.Machine

/-- A firmware descriptor, with its number. -/
structure FwDesc where
  num : Nat
  octets : List Nat
  deriving DecidableEq, Repr

/-- Fields of the descriptor (R482, R492). -/
def FwDesc.index (d : FwDesc) : Nat := field d.octets 0 2
def FwDesc.sub (d : FwDesc) : Nat := d.octets.getD 2 0
def FwDesc.ty (d : FwDesc) : DTy := DTy.ofCode (d.octets.getD 3 0) (field d.octets 4 2) (d.octets.getD 34 0)
def FwDesc.size (d : FwDesc) : Nat := field d.octets 4 2
def FwDesc.rights (d : FwDesc) : Nat := d.octets.getD 6 0
def FwDesc.pers (d : FwDesc) : Bool := (d.octets.getD 7 0).testBit 0
def FwDesc.fmt (d : FwDesc) : Nat := d.octets.getD 31 0
/-- The default: its field's octets 0-6, octet 7 being the format. -/
def FwDesc.dflt (d : FwDesc) : List Nat := ((d.octets.drop 24).take 7 ++ List.replicate d.size 0).take d.size
def FwDesc.addr (d : FwDesc) : Nat := field d.octets 40 4

/-- The value's octets in shared SRAM, 0 for an address outside it. -/
def FwDesc.at_ (d : FwDesc) : Nat := d.addr - 0x10000000

/-- The value lies in shared SRAM. -/
def FwDesc.placed (d : FwDesc) : Bool := decide (0x10000000 ≤ d.addr) && decide (d.addr + d.size ≤ 0x10200000)

/-- Descriptors in use: none while ODX.FWCNT.EN is 0. -/
def State.fwCount (s : State) : Nat := if s.rb Reg.ODX_FWCNT 31 ∧ s.mainOn then s.rf Reg.ODX_FWCNT 10 0 else 0

/-- Octet of shared SRAM at which descriptor d starts. -/
def State.fwBase (s : State) (d : Nat) : Nat := s.rf Reg.ODX_FWTAB 31 4 * 16 + 48 * d - 0x10000000

/-- Descriptor d, none where shared SRAM does not hold it or gives an uncorrectable word. -/
def State.fwDesc (s : State) (d : Nat) : Option FwDesc :=
  let o := s.fwBase d
  if 0x10000000 ≤ s.rf Reg.ODX_FWTAB 31 4 * 16 ∧ o + 48 ≤ 0x200000 then
    (s.peek 5 o 48).map fun b => { num := d, octets := octs b }
  else none

/-- The descriptors of the table that are served (R492): an index in the range, no second descriptor for the same index
and sub-index, and a value in shared SRAM.
DEDUCED (unsafe), log entry 75. -/
def State.fwEntries (s : State) : List FwDesc :=
  let l := (List.range s.fwCount).filterMap s.fwDesc
  l.filter fun d => decide (0x5000 ≤ d.index) && decide (d.index ≤ 0x5FFF) && d.placed
    && (l.filter fun x => x.index == d.index && x.sub == d.sub).length == 1

/-- The served descriptor of an entry. -/
def State.fwFind (s : State) (index sub : Nat) : Option FwDesc := s.fwEntries.find? fun d => d.index == index && d.sub == sub

/-- One entry reset for format is listed (R528): the first 254, and the count of all. -/
def listReset (s : State) (index sub comp : Nat) : State :=
  { s with upd := { s.upd with
    resets := s.upd.resets + 1
    resetList := if s.upd.resets < 254 then s.upd.resetList ++ [(index, sub, comp)] else s.upd.resetList } }

/-- The stored values of the firmware entries are applied; where the format differs the entry takes its default and is listed (R474,
R528).
DEDUCED (unsafe), log entry 75. -/
def fwRestore (s : State) : State :=
  let recs := (s.storeCopy.map fun c => c.recs).getD []
  s.fwEntries.foldl (fun (s : State) d =>
    match recs.find? fun r => r.index == d.index && r.sub == d.sub with
    | some r =>
      if d.pers && r.value.length == d.size then
        if r.fmt = d.fmt then (s.write 10 5 d.at_ (ofOcts r.value)).1
        else listReset (s.write 10 5 d.at_ (ofOcts d.dflt)).1 d.index d.sub 3
      else s
    | none => s) s

/-- A write to a register of ODX, the firmware table coming into use with it (R492, R528). -/
def odxWrite (s : State) (a : Nat) (v : Word) : State :=
  let t := odxBusWrite s a v
  if a = Reg.ODX_FWCNT ∧ t.rb a 31 ∧ !s.odx.fwChecked then
    fwRestore { t with odx := { t.odx with fwChecked := true } }
  else t

end Sys2Proof.Machine
end

