-- ==== Sys2Proof/Machine/Ethernet.lean ====
section
/-! DEFINITION. The Ethernet ports (spec/20_host_sync_interfaces.md, R496-R503): classification of received frames, hardware
replies, UDP, the descriptor rings, PTP stamps and reel batches. Frames are octets from the destination address on,
without the FCS. -/

namespace Sys2Proof.Machine

/-- Port k. -/
def State.port (s : State) (k : Nat) : EthPort := s.host.eth.get k {}

/-- The state with port k replaced. -/
def State.setPort (s : State) (k : Nat) (p : EthPort) : State :=
  { s with host := { s.host with eth := s.host.eth.store {} k p } }

/-- Port k is enabled and its link is up. -/
def State.portUp (s : State) (k : Nat) : Bool := s.mainOn && s.rb (Reg.ETH_CTL k) 31 && s.rb (Reg.ETH_STAT k) 0

/-- A number of `n` octets, most significant first, at offset `o`. -/
def be (p : List Nat) (o n : Nat) : Nat := numBE ((p.drop o).take n)

/-! ### Addresses (R497) -/

/-- A MAC address from a register pair, octet 0 least significant. -/
def State.macAt (s : State) (lo hi : Nat) : List Nat := le 4 (s.rd lo).toNat ++ le 2 (s.rd hi).toNat

def State.portMac (s : State) (k : Nat) : List Nat := s.macAt (Reg.ETH_MACLO k) (Reg.ETH_MACHI k)
def State.portIp4 (s : State) (k : Nat) : List Nat := octsBE 4 (s.rd (Reg.ETH_IP4 k)).toNat
def State.portIp6 (s : State) (k : Nat) : List Nat := (List.range 4).flatMap fun i => octsBE 4 (s.rd (Reg.ETH_IP6 k i)).toNat

/-- The link-local address: fe80::/64 with the modified EUI-64 of the MAC address. -/
def linkLocal (mac : List Nat) : List Nat :=
  [0xFE, 0x80, 0, 0, 0, 0, 0, 0, mac.getD 0 0 ^^^ 2] ++ (mac.drop 1).take 2 ++ [0xFF, 0xFE] ++ mac.drop 3

/-- The port has a MAC address. -/
def State.portHasMac (s : State) (k : Nat) : Bool := s.portMac k != List.replicate 6 0

/-- The port's addresses in use: a zero address is not, nor the link-local one of a zero MAC address. -/
def State.portIp6s (s : State) (k : Nat) : List (List Nat) :=
  (if s.portIp6 k == List.replicate 16 0 then [] else [s.portIp6 k]) ++ (if s.portHasMac k then [linkLocal (s.portMac k)] else [])

def State.portHasIp4 (s : State) (k : Nat) (a : List Nat) : Bool := a != [0, 0, 0, 0] && s.portIp4 k == a

/-- The multicast MAC address of an IPv6 address's solicited-node group. -/
def solicitedMac (a : List Nat) : List Nat := [0x33, 0x33, 0xFF] ++ a.drop 13

/-! ### Frames -/

/-- The tag of a frame: its VID. -/
def frameVid (f : List Nat) : Option Nat := if be f 12 2 = 0x8100 then some (be f 14 2 % 4096) else none

/-- Octets before the EtherType. -/
def frameHead (f : List Nat) : Nat := if (frameVid f).isSome then 16 else 12

def frameType (f : List Nat) : Nat := be f (frameHead f) 2
def frameBody (f : List Nat) : List Nat := f.drop (frameHead f + 2)

/-- The Internet checksum of octets. -/
def inetSum (p : List Nat) : Nat :=
  let t := ((chunks 2 p).map fun c => c.getD 0 0 * 256 + c.getD 1 0).foldl (· + ·) 0
  let t := t % 65536 + t / 65536
  let t := t % 65536 + t / 65536
  65535 - t

/-- A UDP checksum as sent: 0 is written as 0xFFFF. -/
def udpSum (pseudo udp : List Nat) : Nat := let c := inetSum (pseudo ++ udp); if c = 0 then 0xFFFF else c

/-- The pseudo-header of a UDP or ICMPv6 payload of `n` octets. -/
def pseudoHeader (src dst : List Nat) (proto n : Nat) : List Nat :=
  if src.length = 4 then src ++ dst ++ [0, proto] ++ octsBE 2 n else src ++ dst ++ octsBE 4 n ++ [0, 0, 0, proto]

/-- An IP packet.
PRESUMED (unsafe), log entry 77. -/
def ipPacket (src dst : List Nat) (proto hop : Nat) (p : List Nat) : List Nat :=
  if src.length = 4 then
    let h := [0x45, 0] ++ octsBE 2 (20 + p.length) ++ [0, 0, 0x40, 0, hop, proto]
    h ++ octsBE 2 (inetSum (h ++ [0, 0] ++ src ++ dst)) ++ src ++ dst ++ p
  else [0x60, 0, 0, 0] ++ octsBE 2 p.length ++ [proto, hop] ++ src ++ dst ++ p

/-- A UDP datagram in its IP packet, with its checksum (R498).
PRESUMED (unsafe), log entry 77. -/
def udpPacket (src dst : List Nat) (sport dport : Nat) (p : List Nat) : List Nat :=
  let n := 8 + p.length
  let h := octsBE 2 sport ++ octsBE 2 dport ++ octsBE 2 n
  let c := udpSum (pseudoHeader src dst 17 n) (h ++ [0, 0] ++ p)
  ipPacket src dst 17 64 (h ++ octsBE 2 c ++ p)

/-- A frame of EtherType `ty`, with a tag where `vid` gives one, padded to the least length. -/
def mkFrame (dst src : List Nat) (vid : Option Nat) (ty : Nat) (p : List Nat) : List Nat :=
  let f := dst ++ src ++ (match vid with | some v => [0x81, 0] ++ octsBE 2 v | none => []) ++ octsBE 2 ty ++ p
  f ++ List.replicate (60 - f.length) 0

/-- The tag of the frames that port k sends. -/
def State.portVid (s : State) (k : Nat) : Option Nat :=
  if s.rb (Reg.ETH_CTL k) 29 then some (s.rf (Reg.ETH_CTL k) 27 16) else none

/-- A frame as port k transmits it (R496): with CTL.VLAN one tag, that of the port's VID, in place of one that the frame has.
DESIGN CHOICE (unsafe), log entry 78. -/
def State.tagged (s : State) (k : Nat) (f : List Nat) : List Nat :=
  match s.portVid k with
  | some v => f.take 12 ++ [0x81, 0] ++ octsBE 2 v ++ f.drop (frameHead f)
  | none => f

/-- Port k sends a frame, padded to the least length. -/
def sendFrame (s : State) (k : Nat) (f : List Nat) : State :=
  let f := s.tagged k f
  (s.setPort k { s.port k with sent := f ++ List.replicate (60 - f.length) 0 }).inc (Reg.ETH_TXCNT k)

/-- A UDP datagram leaves port k. -/
def sendUdp (s : State) (k : Nat) (mac src dst : List Nat) (vid : Option Nat) (sport dport : Nat) (p : List Nat) : State :=
  sendFrame s k (mkFrame mac (s.portMac k) vid (if src.length = 4 then 0x0800 else 0x86DD) (udpPacket src dst sport dport p))

/-! ### Rings in shared SRAM (R498) -/

/-- The shared-SRAM octet of an address, where `n` octets fit. -/
def sramAt (a n : Nat) : Option Nat :=
  if 0x10000000 ≤ a ∧ a + n ≤ 0x10200000 then some (a - 0x10000000) else none

/-- The descriptor at place `i` of the ring at `base`: its octet in shared SRAM and its contents, where the port owns it. -/
def State.ringDesc (s : State) (base i : Nat) : Option (Nat × List Nat) :=
  match sramAt (base / 16 * 16 + 16 * i) 16 with
  | some o =>
    match s.peek 5 o 16 with
    | some b => if field (octs b) 6 2 % 2 = 1 then some (o, octs b) else none
    | none => none
  | none => none

/-- The place after `i` in a ring of `n`. -/
def ringNext (i n : Nat) : Nat := if i + 1 < n then i + 1 else 0

/-- The message of a PTP frame and its offset in the frame (R499): EtherType 0x88F7, or UDP to ports 319 and 320. -/
def ptpMessage (f : List Nat) : Option Nat :=
  let h := frameHead f + 2
  let b := frameBody f
  let udp (o : Nat) : Option Nat := if be b (o + 2) 2 = 319 ∨ be b (o + 2) 2 = 320 then some (h + o + 8) else none
  if frameType f = 0x88F7 then some h
  else if frameType f = 0x0800 ∧ b.getD 9 0 = 17 ∧ b.getD 0 0 / 16 = 4 then udp (4 * (b.getD 0 0 % 16))
  else if frameType f = 0x86DD ∧ b.getD 6 0 = 17 then udp 40
  else none

/-- The frame carries a PTP event message: Sync, Delay_Req, Pdelay_Req or Pdelay_Resp. -/
def ptpEvent (f : List Nat) : Bool :=
  match ptpMessage f with
  | some o => decide (f.getD o 0 % 16 < 4)
  | none => false

/-- A frame dropped and counted (R496, R498, R503). -/
def ethDrop (s : State) (k : Nat) : State := s.inc (Reg.ETH_DROPCNT k)

/-- A frame into the receive ring, a PTP message with its stamp; one longer than its buffer is cut and marked with the error flag.
DESIGN CHOICE (unsafe), log entry 78. DEDUCED (unsafe), log entry 79. -/
def ringReceive (s : State) (k : Nat) (f : List Nat) (stamp : Nat) : State :=
  let n := s.rf (Reg.ETH_RINGLEN k) 15 0
  let i := (s.port k).rxAt
  if n = 0 then ethDrop s k
  else
    match s.ringDesc (s.rd (Reg.ETH_RXRING k)).toNat i with
    | none => ethDrop s k
    | some (o, d) =>
      let cap := field d 4 2
      let body := f.take cap
      match sramAt (field d 0 4) body.length with
      | none => ethDrop s k
      | some a =>
        let ptp := (ptpMessage f).isSome
        let flags := 2 * b2n ptp + 8 * b2n (decide (cap < f.length))
        let t := if ptp then stamp - s.rf (Reg.ETH_LAT k) 15 0 else 0
        let s := (s.write 13 5 a (ofOcts body)).1
        let s := (s.write 13 5 (o + 4) (ofOcts (le 2 body.length ++ le 2 flags ++ le 8 t))).1
        s.setPort k { s.port k with rxAt := ringNext i n }

/-! ### Reception (R496, R497) -/

/-- The longest frame of port k, FCS included. -/
def State.frameMax (s : State) (k : Nat) : Nat := if s.rb (Reg.ETH_CTL k) 30 then 9018 else 1518

/-- The frame is longer than R496 admits. -/
def State.frameLong (s : State) (k : Nat) (f : List Nat) : Bool :=
  decide (s.frameMax k + (if (frameVid f).isSome then 4 else 0) < f.length + 4)

/-- The frame is dropped and counted: bad FCS, runt, too long, or a VID that is not the port's.
DESIGN CHOICE (unsafe), log entry 78. -/
def State.frameBad (s : State) (k : Nat) (f : List Nat) (fcs : Bool) : Bool :=
  let v := frameVid f
  !fcs || decide (f.length + 4 < 64) || s.frameLong k f || (v.isSome && v != s.portVid k)

/-- The frame is for this port: its MAC address, broadcast, the solicited-node multicast of a port address, or PTP. -/
def State.frameOurs (s : State) (k : Nat) (f : List Nat) : Bool :=
  let d := f.take 6
  (s.portHasMac k && d == s.portMac k) || d == List.replicate 6 0xFF || (s.portIp6s k).any (fun a => solicitedMac a == d) || (ptpMessage f).isSome

/-- The reply to an ARP request for the port's IPv4 address.
PRESUMED (unsafe), log entry 77. -/
def State.arpReply (s : State) (k : Nat) (f : List Nat) : Option (List Nat) :=
  let b := frameBody f
  if frameType f = 0x0806 ∧ b.take 8 = [0, 1, 8, 0, 6, 4, 0, 1] ∧ s.portHasIp4 k ((b.drop 24).take 4) then
    some (mkFrame ((f.drop 6).take 6) (s.portMac k) (frameVid f) 0x0806
      ([0, 1, 8, 0, 6, 4, 0, 2] ++ s.portMac k ++ s.portIp4 k ++ (b.drop 8).take 10))
  else none

/-- The reply to an ICMPv6 Neighbour Solicitation for either IPv6 address.
PRESUMED (unsafe), log entry 77. -/
def State.ndReply (s : State) (k : Nat) (f : List Nat) : Option (List Nat) :=
  let b := frameBody f
  let src := (b.drop 8).take 16
  let dst := (b.drop 24).take 16
  let p := (b.drop 40).take (be b 4 2)
  let target := (p.drop 8).take 16
  if frameType f = 0x86DD ∧ b.getD 6 0 = 58 ∧ b.getD 7 0 = 255 ∧ p.getD 0 0 = 135 ∧ p.getD 1 0 = 0 ∧ 24 ≤ p.length
      ∧ inetSum (pseudoHeader src dst 58 p.length ++ p) = 0 ∧ (s.portIp6s k).contains target then
    let anyone := src == List.replicate 16 0
    let to_ := if anyone then [0xFF, 2] ++ List.replicate 13 0 ++ [1] else src
    let mac := if anyone then [0x33, 0x33, 0, 0, 0, 1] else (f.drop 6).take 6
    let body := [if anyone then 0x20 else 0x60, 0, 0, 0] ++ target ++ [2, 1] ++ s.portMac k
    let c := inetSum (pseudoHeader target to_ 58 (4 + body.length) ++ [136, 0, 0, 0] ++ body)
    some (mkFrame mac (s.portMac k) (frameVid f) 0x86DD (ipPacket target to_ 58 255 ([136, 0] ++ octsBE 2 c ++ body)))
  else none

/-- The ODP datagram that a frame carries (R497, order 2): its peer and message.
PRESUMED (unsafe), log entry 77. -/
def State.odpDatagram (s : State) (k : Nat) (f : List Nat) : Option (OdpPeer × List Nat) :=
  let b := frameBody f
  let v4 := frameType f == 0x0800 && b.getD 0 0 == 0x45 && be b 6 2 % 16384 == 0 && b.getD 9 0 == 17
  let v6 := frameType f == 0x86DD && b.getD 0 0 / 16 == 6 && b.getD 6 0 == 17
  let src := if v4 then (b.drop 12).take 4 else (b.drop 8).take 16
  let dst := if v4 then (b.drop 16).take 4 else (b.drop 24).take 16
  let u := if v4 then (b.take (be b 2 2)).drop 20 else (b.drop 40).take (be b 4 2)
  if (v4 || v6) && decide (8 ≤ u.length) && be u 2 2 == 47650 && be u 4 2 == u.length && be u 6 2 != 0
      && inetSum (pseudoHeader src dst 17 u.length ++ u) == 0
      && (if v4 then s.portHasIp4 k dst else (s.portIp6s k).contains dst) then
    some ({ port := k + 1, addr := src, udp := be u 0 2, mac := (f.drop 6).take 6, vlan := frameVid f, own := dst }, u.drop 8)
  else none

/-- A frame received at port k with `stamp` at its start-of-frame delimiter, in eighths.
DESIGN CHOICE (unsafe), log entry 78. DESIGN CHOICE (unsafe), log entry 88. -/
def ethReceive (s : State) (k : Nat) (f : List Nat) (fcs : Bool) (stamp : Nat) : State :=
  if !s.portUp k then s
  else if s.frameBad k f fcs then ethDrop s k
  else if frameType f = 0x8808 ∨ !s.frameOurs k f then s
  else
    let s := s.inc (Reg.ETH_RXCNT k)
    match s.arpReply k f, s.ndReply k f with
    | some r, _ => sendFrame s k r
    | none, some r => sendFrame s k r
    | none, none =>
      match s.odpDatagram k f with
      | some (peer, m) => odpArrive s peer m
      | none => ringReceive s k f stamp

/-! ### Transmission (R499, R500) -/

/-- The ten octets of a PTP timestamp for slate value t in eighths (R500). -/
def ptpTime (t : Nat) : List Nat :=
  octsBE 6 (t / 256000000 + 946684800) ++ octsBE 4 (t % 256000000 * 390625 / 100000)

/-- A one-step Sync with its originTimestamp; over IPv4 the UDP checksum is sent as zero, over IPv6 the flag is ignored. -/
def oneStep (f : List Nat) (t : Nat) : List Nat :=
  match ptpMessage f with
  | some o =>
    if f.getD o 0 % 16 ≠ 0 ∨ frameType f = 0x86DD then f
    else
      let f := f.take (o + 34) ++ ptpTime t ++ f.drop (o + 44)
      if frameType f = 0x0800 then f.take (o - 2) ++ [0, 0] ++ f.drop o else f
  | none => f

/-- Port k sends the frame of its next transmit descriptor, at `stamp`. An uncorrectable buffer or a frame longer than R496 admits is
not sent, and its descriptor returns with the error flag.
DEDUCED (unsafe), log entry 79. DESIGN CHOICE (unsafe), log entry 78. -/
def ethTransmit (s : State) (k : Nat) (stamp : Nat) : State :=
  let n := s.rf (Reg.ETH_RINGLEN k) 31 16
  let i := (s.port k).txAt
  if !s.portUp k ∨ n = 0 then s
  else
    match s.ringDesc (s.rd (Reg.ETH_TXRING k)).toNat i with
    | none => s
    | some (o, d) =>
      let len := field d 4 2
      match sramAt (field d 0 4) len with
      | none => s
      | some a =>
        let r := s.readReport 13 5 a len
        match (s.peek 5 a len).filter fun b => !s.frameLong k (s.tagged k (octs b)) with
        | none =>
          let r := (r.write 13 5 (o + 6) (ofOcts (le 2 8 ++ le 8 0))).1
          r.setPort k { r.port k with txAt := ringNext i n }
        | some b =>
          let t := stamp + s.rf (Reg.ETH_LAT k) 31 16
          let raw := octs b
          let f := if field d 6 2 / 4 % 2 = 1 then oneStep raw t else raw
          let event := ptpEvent raw
          let s := (r.write 13 5 (o + 6) (ofOcts (le 2 (2 * b2n event) ++ le 8 (if event then t else 0)))).1
          sendFrame (s.setPort k { s.port k with txAt := ringNext i n }) k f

/-! ### Batches (R501-R503) -/

/-- ETHk.BCFG.TAG, and the octets a tag takes. -/
def State.batchTag (s : State) (k : Nat) : Bool := s.rb (Reg.ETH_BCFG k) 30
def State.batchMax (s : State) (k : Nat) : Nat := s.rf (Reg.ETH_BDST k) 13 0

/-- The octets of a batch of `w` words, tag included. -/
def State.batchLen (s : State) (k w : Nat) : Nat := 24 + 4 * w + (if s.batchTag k then 8 else 0)

/-- The batch of reel n closes at port k; `why`: 1 size, 2 age, 3 flush.
DESIGN CHOICE (unsafe), log entry 78. -/
def batchClose (s : State) (k n why : Nat) : State :=
  match (s.port k).open_.find n with
  | none => s
  | some b =>
    let o := [0x4C, 0x44, 0x52, 0x42, 1, n, b2n (s.batchTag k) + 2 ^ why, 0] ++ le 4 b.seq ++ le 2 b.pkts ++ [0, 0]
      ++ le 8 s.slate ++ b.words.flatMap fun w => le 4 w.toNat
    let p := s.port k
    let s := s.setPort k { p with open_ := p.open_.del n }
    let add (s : State) (j : Option Nat) : State :=
      s.setPort k { s.port k with closed := (s.port k).closed ++ [{ reel := n, close := s.slate, octets := o, job := j }] }
    if !s.rb (Reg.ETH_STAT k) 0 then ethDrop s k
    else if !s.batchTag k then add s none
    else if s.queueFull 6 then ethDrop (s.cipFull 6) k
    else
      let job := s.odx.seq
      let d : CipDesc := { cmacVerify (s.rf (Reg.ETH_BCFG k) 27 16) o.length 8 with dir := 0 }
      add ({ s with odx := { s.odx with seq := job + 1 } }.cipInline 6 job d o [] []) (some job)

/-- The port takes the packets of reel n that have become visible; `fuel` bounds their number. -/
def batchTake (k n : Nat) : Nat → State → State
  | 0, s => s
  | fuel + 1, s =>
    match takePacket s n with
    | none => s
    | some (t, ws) =>
      if ws.isEmpty then batchTake k n fuel t
      else if s.batchMax k < 4 * ws.length + 32 then batchTake k n fuel (t.inc (Reg.REL_RREWCNT n))
      else
        let have_ := (((t.port k).open_.find n).map fun b => b.words.length).getD 0
        let t := if s.batchMax k < s.batchLen k (have_ + ws.length) then batchClose t k n 1 else t
        let seq := (t.reel n).seq
        let t := if ((t.port k).open_.find n).isNone then t.setReel n { t.reel n with seq := (seq + 1) % 2 ^ 32 } else t
        let b := (t.port k).open_.get n { seq := seq, words := [], pkts := 0, since := s.slate }
        let t := t.setPort k { t.port k with open_ := (t.port k).open_.put n { b with words := b.words ++ ws, pkts := b.pkts + 1 } }
        batchTake k n fuel t

/-- Every port with LINK and BCFG.EN pops the whole packets of its reels (R502), after the tick's other pops (R342). -/
def ethPops (s : State) : State :=
  (List.range 3).foldl (fun (s : State) k =>
    if s.portUp k && s.rb (Reg.ETH_BCFG k) 31 then
      (List.range 32).foldl (fun (s : State) n =>
        if s.reelOn n && s.reelCons n == k + 1 then batchTake k n (s.reel n).pkts s else s) s
    else s) s

/-- The open batch of reel n at port k has reached its age (R502). -/
def State.batchAgeDue (s : State) (k n : Nat) : Bool :=
  match (s.port k).open_.find n with
  | some b => decide (b.since + s.rf (Reg.ETH_BCFG k) 15 0 * 32000 ≤ s.slate)
  | none => false

/-- Every open batch of the port closes: a trigger at ETHk.FLUSH. -/
def batchFlush (s : State) (k : Nat) : State := (s.port k).open_.keys.foldl (fun (s : State) n => batchClose s k n 3) s

/-- Order of closed batches: close tick, then reel (R503). -/
def ClosedBatch.le (a b : ClosedBatch) : Bool := decide (a.close < b.close) || (a.close == b.close && decide (a.reel ≤ b.reel))

/-- The closed batch that leaves first. -/
def State.batchNext (s : State) (k : Nat) : Option ClosedBatch := (sortBy ClosedBatch.le (s.port k).closed).head?

/-- The batch that leaves first is sent, or discarded where its tag request did not end OK (R503). -/
def batchSend (s : State) (k : Nat) : State :=
  match s.batchNext k with
  | none => s
  | some b =>
    let gone (s : State) : State := s.setPort k { s.port k with closed := (s.port k).closed.filter fun x => x != b }
    let send (s : State) (tag : List Nat) : State :=
      let v6 := s.rb (Reg.ETH_BCFG k) 29
      let dst := if v6 then (List.range 4).flatMap fun i => octsBE 4 (s.rd (Reg.ETH_BDIP6 k i)).toNat
        else octsBE 4 (s.rd (Reg.ETH_BDIP4 k)).toNat
      let own := s.portIp6 k
      let src := if v6 then (if own == List.replicate 16 0 then linkLocal (s.portMac k) else own) else s.portIp4 k
      (sendUdp (gone s) k (s.macAt (Reg.ETH_BDMACLO k) (Reg.ETH_BDMACHI k)) src dst (s.portVid k) 47650
        (s.rf (Reg.ETH_BDST k) 31 16) (b.octets ++ tag)).inc (Reg.ETH_BATCHCNT k)
    if !s.portUp k then s
    else
      match b.job with
      | none => send s []
      | some j =>
        match s.cipDone j with
        | none => s
        | some d => if d.code = 0 then send (s.cipCollect j) (d.give.take 8) else ethDrop (gone (s.cipCollect j)) k

/-- A link of port k may run at a speed, coded as CTL.SPEED (R496): 1000BASE-X at 1,000 Mbit/s alone, SGMII and RGMII at each, and at
CTL.SPEED alone where that is no negotiated one.
DESIGN CHOICE (unsafe), log entry 78. -/
def State.linkSpeedOk (s : State) (k speed : Nat) : Bool :=
  let fixed := s.rf (Reg.ETH_CTL k) 1 0
  decide (1 ≤ speed) && decide (speed ≤ 3) && (k == 2 || s.rf (Reg.ETH_CTL k) 5 4 == 1 || speed == 3) && (fixed == 0 || fixed == speed)

/-- A link comes up at a speed, goes down, or fails: the partner offers half duplex only or no speed that the port runs at (R496), or
ETH2 is asked for 1,000 Mbit/s while its bank sensed 3.3 V (R553). Without a link the closed batches are dropped (R503).
DESIGN CHOICE (unsafe), log entry 85. -/
def ethLink (s : State) (k : Nat) (up : Bool) (speed : Nat) (halfOnly : Bool) : State :=
  let fail := halfOnly || (up && !s.linkSpeedOk k speed) || (k == 2 && s.sys.volt33.testBit 3 && up && speed % 4 == 3)
  let up := up && !fail
  let s := if fail then s.wb (Reg.ETH_STAT k) 3 true else s
  let s := (s.wb (Reg.ETH_STAT k) 0 up).wf (Reg.ETH_STAT k) 2 1 (if up then speed else 0)
  if up then s
  else
    let n := (s.port k).closed.length
    (s.setPort k { s.port k with closed := [] }).inc (Reg.ETH_DROPCNT k) n

/-- An answer of ODX leaves on its Ethernet port (R498). -/
def ethAnswer (s : State) (peer : OdpPeer) (m : List Nat) : State :=
  if s.portUp (peer.port - 1) then sendUdp s (peer.port - 1) peer.mac peer.own peer.addr peer.vlan 47650 peer.udp m else odpDrop s

/-! ### Registers -/

/-- A BCFG value that sets EN is refused (R503's registers). -/
def State.batchRefused (s : State) (k : Nat) (v : Word) : Bool :=
  let v6 := bit v 29
  let noAddr := if v6 then (List.range 4).all fun i => s.rd (Reg.ETH_BDIP6 k i) == 0 else s.rd (Reg.ETH_BDIP4 k) == 0
  noAddr || s.rf (Reg.ETH_BDST k) 31 16 == 0
    || decide (s.frameMax k - 18 < s.batchMax k + (if v6 then 48 else 28) + (if bit v 30 then 8 else 0))
    || (bit v 30 && decide (fld v 27 16 < 16))

/-- A write to a register of ETHk.
DESIGN CHOICE (unsafe), log entry 78. -/
def ethBusWrite (s : State) (a : Nat) (v : Word) : State :=
  let k := (a - Reg.ETH_CTL 0) / 0x10000
  let keep (hi lo : Nat) (bad : Bool) (v : Word) : Word := if bad then setFld v hi lo (s.rf a hi lo) else v
  if a = Reg.ETH_CTL k then
    let v := keep 27 16 (fld v 27 16 == 0 || fld v 27 16 == 4095) v
    s.plainWrite a (keep 5 4 (k == 2 || decide (1 < fld v 5 4)) v)
  else if a = Reg.ETH_BCFG k then
    if bit v 31 && s.batchRefused k v then s.wb (Reg.ETH_STAT k) 4 true else s.plainWrite a (keep 15 0 (fld v 15 0 == 0) v)
  else if a = Reg.ETH_BDST k then
    s.plainWrite a (keep 13 0 (decide (fld v 13 0 < 592) || decide (8972 < fld v 13 0)) v)
  else if a = Reg.ETH_RINGLEN k then
    s.plainWrite a (keep 31 16 (decide (4096 < fld v 31 16)) (keep 15 0 (decide (4096 < fld v 15 0)) v))
  else s.plainWrite a v

/-- The registers of ETHk; ETH2 shows mode 2. -/
def State.ethView (s : State) (a : Nat) : Word := if a = Reg.ETH_CTL 2 then setFld (s.rd a) 5 4 2 else s.rd a

/-! ### Commands -/

/-- ETH_FRAME_RECEIVE (R497). -/
def execEthFrameReceive (k : Nat) (frame : List Nat) (fcs : Bool) (stamp : Nat) (s : State) : Out :=
  ok (k < 3) (ethReceive s k frame fcs stamp)

/-- ETH_FRAME_TRANSMIT (R499). -/
def execEthFrameTransmit (k stamp : Nat) (s : State) : Out := ok (k < 3) (ethTransmit s k stamp)

/-- ETH_LINK_CHANGE (R496). -/
def execEthLinkChange (k : Nat) (up : Bool) (speed : Nat) (halfOnly : Bool) (s : State) : Out :=
  ok (k < 3) (if s.mainOn && s.rb (Reg.ETH_CTL k) 31 then ethLink s k up speed halfOnly else s)

/-- ETH_FLUSH (R359, R502): a trigger at ETHk.FLUSH. -/
def execEthFlush (k count : Nat) (s : State) : Out :=
  ok (k < 3) (s.onMain (batchFlush (s.inc (Reg.CUE_CNT (214 + k)) count) k))

/-- BATCH_AGE_EXPIRY (R502). -/
def execBatchAgeExpiry (k n : Nat) (s : State) : Out :=
  ok (k < 3 ∧ n < 32) (if s.batchAgeDue k n then batchClose s k n 2 else s)

/-- BATCH_SEND (R503). -/
def execBatchSend (k : Nat) (s : State) : Out := ok (k < 3) (batchSend s k)

end Sys2Proof.Machine
end

