-- ==== Sys2Proof/Machine/Spi.lean ====
section
/-! DEFINITION. The SPI host link (spec/20_host_sync_interfaces.md, R504-R507): each command is one transaction, decided at
the rising edge of nCS; `clocked` counts the octets clocked out after the status octet. -/

namespace Sys2Proof.Machine

/-- An enabled reel with CONS 4 holds a whole packet. -/
def State.sphReelReady (s : State) : Bool :=
  (List.range 32).any fun n => s.reelOn n && s.reelCons n == 4 && decide (0 < (s.reel n).pkts)

/-- The status octet (R504). -/
def State.sphStatus (s : State) : Nat :=
  b2n (!s.host.sph.isEmpty) + 2 * b2n s.sphReelReady + 4 * b2n (s.rb Reg.SPH_STAT 2) + 8 * b2n (s.rb Reg.SPH_STAT 3)

/-- SPH.STAT, with RESP; no transaction stands open between commands, and BUSY reads 1 only in a STATUS transaction. -/
def State.sphStat (s : State) : Word := s.rd Reg.SPH_STAT ||| word (2 * b2n (!s.host.sph.isEmpty))

/-- The state at the end of a transaction, with what it returned: the status octet, then `o`.
DESIGN CHOICE (safe), log entry 83. -/
def State.miso (s : State) (o : List Nat) : State :=
  { s with host := { s.host with miso := s.sphStatus :: o, sphAt := s.slate } }

/-- A frame or length error of a transaction: FRAMEERR, a violation of class 4 (R542).
DESIGN CHOICE (unsafe), log entry 80. -/
def sphError (s : State) : State := (s.wb Reg.SPH_STAT 3 true).violation 4

/-- WRITE-FRAME: `octets` followed the length `len` (R505).
DESIGN CHOICE (unsafe), log entry 88. -/
def sphWriteFrame (s : State) (len : Nat) (octets : List Nat) : State :=
  let s := s.miso (List.replicate (2 + octets.length) 0)
  if octets.length = len then odpArrive (s.inc Reg.SPH_FRMCNT) { port := 0 } octets else sphError s

/-- READ-FRAME: the oldest waiting answer, removed where all of it was clocked out (R505). -/
def sphReadFrame (s : State) (clocked : Nat) : State :=
  match s.host.sph with
  | [] => s.miso (List.replicate clocked 0)
  | m :: rest =>
    let o := le 2 m.length ++ m
    let s := s.miso ((o ++ List.replicate (clocked - o.length) 0).take clocked)
    if o.length ≤ clocked then { s with host := { s.host with sph := rest } } else s

/-- Whole packets of reel n of at most `maxw` words in all; `fuel` bounds their number. -/
def sphPackets (n : Nat) : Nat → State → Nat → List Word → State × List Word
  | 0, s, _, ws => (s, ws)
  | fuel + 1, s, maxw, ws =>
    match takePacket s n with
    | some (t, p) => if ws.length + p.length ≤ maxw then sphPackets n fuel t maxw (ws ++ p) else (s, ws)
    | none => (s, ws)

/-- READ-REEL: whole packets of an enabled reel with CONS 4, removed where all of them were clocked out (R504, R505).
DESIGN CHOICE (unsafe), log entry 80. -/
def sphReadReel (s : State) (n maxw clocked : Nat) : State :=
  let serve := s.mainOn && decide (n < 32) && s.reelOn n && s.reelCons n == 4
  let r := if serve then sphPackets n (s.reel n).pkts s maxw [] else (s, [])
  let o := le 2 r.2.length ++ r.2.flatMap fun w => le 4 w.toNat
  let back := (o ++ List.replicate (clocked - o.length) 0).take clocked
  let t := s.miso back
  if o.length ≤ clocked then { r.1 with host := { r.1.host with miso := t.host.miso, sphAt := s.slate } } else t

/-- SPH.TOUT ticks can have passed with nCS low and no SCK edge: that many since the last transaction ended (R506).
DESIGN CHOICE (unsafe), log entry 80. -/
def State.sphIdle (s : State) : Bool := decide (s.host.sphAt + (s.rd Reg.SPH_TOUT).toNat ≤ s.slate)

/-- No SCK edge for SPH.TOUT ticks with nCS low (R506): the transaction ends, a violation of class 3 (R542).
DESIGN CHOICE (unsafe), log entry 80. -/
def sphAbandoned (s : State) : State :=
  let t := { s with host := { s.host with sphAt := s.slate } }
  (((t.wb Reg.SPH_STAT 2 true).inc Reg.SPH_ABNCNT).emit [13]).violation 3

/-- An answer of ODX joins the queue of eight, or is dropped (R505). -/
def sphAnswer (s : State) (m : List Nat) : State :=
  if s.host.sph.length < 8 then { s with host := { s.host with sph := s.host.sph ++ [m] } } else odpDrop s

/-- IRQ_OUT is asserted: mask set 5 of R362 is active, or a response waits and CTL.RESPIRQ = 1 (R507). -/
def State.irqOut (s : State) : Bool := s.cueLine 5 || (s.rb Reg.SPH_CTL 8 && !s.host.sph.isEmpty)

/-- nPOR_OUT is released: KSS is out of reset, which no MAIN or KSA reset changes (R555). -/
def State.porOut (s : State) : Bool := s.aonOn && s.sup.started

/-- A write to a register of SPH. -/
def sphBusWrite (s : State) (a : Nat) (v : Word) : State :=
  if a = Reg.SPH_TOUT then s.wr a (if v.toNat < 3200 then 3200 else v) else s.plainWrite a v

/-- The answer that may leave first leaves on its port (R478, R488): one whose tag request did not end OK is dropped. -/
def odpSend (s : State) : State :=
  match s.odpOutDue with
  | none => s
  | some o =>
    let m := s.odpTagged o
    let s := odpOutGone s o
    match m with
    | none => odpDrop s
    | some m => if o.peer.port = 0 then sphAnswer s m else ethAnswer s o.peer m

/-- SPH_WRITE_FRAME (R505). -/
def execSphWriteFrame (len : Nat) (octets : List Nat) (s : State) : Out :=
  .next (if s.aonOn then sphWriteFrame s len octets else s)

/-- SPH_READ_FRAME (R505). -/
def execSphReadFrame (clocked : Nat) (s : State) : Out := .next (if s.aonOn then sphReadFrame s clocked else s)

/-- SPH_STATUS (R504). -/
def execSphStatus (s : State) : Out := .next (if s.aonOn then s.miso (le 4 (s.sphStat ||| 1).toNat) else s)

/-- SPH_UNKNOWN_COMMAND (R504): ignored, with zero octets back. -/
def execSphUnknownCommand (clocked : Nat) (s : State) : Out :=
  .next (if s.aonOn then sphError (s.miso (List.replicate clocked 0)) else s)

/-- SPH_ABANDONED (R506). -/
def execSphAbandoned (s : State) : Out := .next (if s.aonOn && s.sphIdle then sphAbandoned s else s)

/-- ODP_RESPONSE_SEND (R478). -/
def execOdpResponseSend (s : State) : Out := .next (odpSend s)

end Sys2Proof.Machine
end

