-- ==== Sys2Proof/Machine/TestMode.lean ====
section
/-! DEFINITION. The checker test mode of MEM and its registers (spec/18_memory_ecc.md R461): raw and decoded accesses to one ECC word,
and what a raw write changes in a structure that is stored there. -/

namespace Sys2Proof.Machine

/-- MEM.TSEL names an ECC word of a memory, in a mode that allows tests (R461). -/
def State.testOk (s : State) : Bool :=
  (s.mode == 3 || s.mode == 7) && decide (s.rf Reg.MEM_TSELH 31 28 < 15)
    && decide (s.rf Reg.MEM_TSEL 27 0 < s.eccWords (s.rf Reg.MEM_TSELH 31 28))

/-- The TDATA words as one number. -/
def State.tdata (s : State) : Nat :=
  natLE ((List.range 4).flatMap fun i => bytesLE 4 (s.rd (Reg.MEM_TDATA i)).toNat)

/-- The data bits TDATA0-3 hold for a word of memory `m`: a reel word's END is TDATA1 [0] (R461). -/
def testIn (m t : Nat) : Nat :=
  if m = 14 then t % 2 ^ 128 else if m = 7 then t % 2 ^ 33 else t % 2 ^ 64

/-- The state with a word's data shown in TDATA0-3. -/
def State.setTdata (s : State) (d : Nat) : State :=
  (List.range 4).foldl (fun s i => s.wr (Reg.MEM_TDATA i) (word (d >>> (32 * i)))) s

/-- A test command: `act` where the mode and the word allow it, else TESTREF (R461). -/
def State.test (s : State) (act : Nat → Nat → State) : State :=
  if s.testOk then act (s.rf Reg.MEM_TSELH 31 28) (s.rf Reg.MEM_TSEL 27 0) else s.wb Reg.MEM_STAT 3 true

/-- Data, check bits and valid copies of ECC word `i` of memory `m` as TDATA and TCHK give them (R461). -/
def rawWrite (s : State) (m i : Nat) : State :=
  let d := testIn m s.tdata
  let c := (s.rd Reg.MEM_TCHK).toNat
  ((s.setEccData m i d).setMark m i
    { syn := (c % 2 ^ eccR m) ^^^ eccCheck (eccR m) (eccK m) d, v0 := nfld c 11 9, v1 := if m = 14 then nfld c 14 12 else 0 }).settle
    m (i * eccOctets m) (eccOctets m)

/-- Key slot n as its 128 octets in the key store now say, where they can be read. -/
def slotReload (s : State) (n : Nat) : State :=
  match s.peek 9 (128 * n) 128 with
  | some b => { s with cip := { s.cip with slots := s.cip.slots.store {} n (slotOfImage (octs b)) } }
  | none => s

/-- TRANSIENT slot t as its 64 octets now say, where they can be read and it is in use. -/
def cacheReload (s : State) (t : Nat) : State :=
  match s.peek 10 (cacheOctet t) 64 with
  | some b => { s with cip := { s.cip with cache := s.cip.cache.map fun c => if c.slot = t then cachedOfImage c (octs b) else c } }
  | none => s

/-- The counter of consumer input i as its engine-state word now says, where that can be read. -/
def counterReload (s : State) (i : Nat) : State :=
  match s.peek 12 (8 * i) 8 with
  | some b => if i < 217 then s.wr (Reg.CUE_CNT i) (word (natLE b)) else s
  | none => s

/-- What a test write to ECC word `i` of memory `m` changes in a structure whose storage the word is (R461).
DESIGN CHOICE (unsafe), log entry 99. -/
def reload (s : State) (m i : Nat) : State :=
  if m = 9 then slotReload s (i / 16)
  else if m = 10 then cacheReload s (1024 + i / 8)
  else if m = 12 then counterReload s i
  else if m = 14 then bucketReload (chainReload s (16 * i)) (16 * i)
  else s

/-- RAWWR (R461): data, check bits and valid copies as given. -/
def testRawWrite (s : State) : State := s.test fun m i => reload (rawWrite s m i) m i

/-- RAWRD (R461). -/
def testRawRead (s : State) : State :=
  s.test fun m i =>
    let d := s.eccData m i
    let k := s.eccMark m i
    (s.setTdata d).wr Reg.MEM_TCHK
      (word ((eccCheck (eccR m) (eccK m) d ^^^ k.syn) + k.v0 * 512 + k.v1 * 4096))

/-- TRES.CLASS of a read. -/
def EccClass.code : EccClass → Nat
  | .good => 0
  | .corrected => 1
  | .uncorrectable => 2
  | .unwritten => 3

/-- DECRD (R461): the returned value, class, syndrome and corrected bit; nothing is counted or reported. -/
def testDecodedRead (s : State) : State :=
  s.test fun m i =>
    let r := s.eccRead m i
    let t := r.cls.code * 2 ^ 30 + b2n r.vcorr * 2 ^ 29 + b2n r.chkBit * 2 ^ 28 + r.pos * 256
    ((s.setTdata r.data).wr Reg.MEM_TRES (word t)).wr Reg.MEM_TSYN (word r.syn)

/-- TEST_RAW_WRITE (R461). -/
def execTestRawWrite (s : State) : Out := .next (s.onMain (testRawWrite s))

/-- TEST_RAW_READ (R461). -/
def execTestRawRead (s : State) : Out := .next (s.onMain (testRawRead s))

/-- TEST_DECODED_READ (R461). -/
def execTestDecodedRead (s : State) : Out := .next (s.onMain (testDecodedRead s))

/-- A write to a register of MEM other than MEM.DWIN: range rules of LEAK and SCRUBm field by field; of the test
commands only the lowest set bit acts. -/
def memBusWrite (s : State) (a : Nat) (v : Word) : State :=
  if a = Reg.MEM_LEAK then
    let old := s.rd a
    let v := if fld v 23 16 = 0 ∨ fld v 23 16 = 255 then setFld v 23 16 (fld old 23 16) else v
    s.plainWrite a (if fld v 15 0 = 0 then setFld v 15 0 (fld old 15 0) else v)
  else if Reg.MEM_SCRUB 0 ≤ a ∧ a ≤ Reg.MEM_SCRUB 14 ∧ a % 16 = 0 then
    s.plainWrite a (if 20 < fld v 4 0 then setFld v 4 0 (s.rf a 4 0) else v)
  else if a = Reg.MEM_TCMD then
    if bit v 0 then testRawWrite s else if bit v 1 then testRawRead s else if bit v 2 then testDecodedRead s else s
  else if a = Reg.MEM_TCHK then s.wr a (word (v.toNat % 2 ^ 15))
  else s.plainWrite a v

end Sys2Proof.Machine
end

