-- ==== Sys2Proof/Machine/Timers.lean ====
section
/-! DEFINITION. Timers and slate capture (spec/14_timers.md): stepping, matches, overflows, captures, group start, the
timer register writes, and the slate shadow of SYS. -/

namespace Sys2Proof.Machine

/-- What timer n holds beside its registers. -/
def State.tm (s : State) (n : Nat) : TmrState := s.tmr.get n {}

/-- The state with timer n's data replaced. -/
def State.setTm (s : State) (n : Nat) (t : TmrState) : State := { s with tmr := s.tmr.store {} n t }

/-- TMRn.CNT. -/
def State.tmrCnt (s : State) (n : Nat) : Nat := (s.rd (Reg.TMRN_CNT n)).toNat

/-- TMRn.CTL.RUN. -/
def State.tmrRun (s : State) (n : Nat) : Bool := s.rb (Reg.TMRN_CTL n) 0

/-- TMRn.CTL.SRC. -/
def State.tmrSrc (s : State) (n : Nat) : Nat := s.rf (Reg.TMRN_CTL n) 3 2

/-- What the steps of one trigger do (R364, R369, R372, R373): the count reached, how often each compare value was
stepped into, the number of wraps, and whether a one-shot timer stopped. -/
structure TmrSteps where
  cnt : Nat
  m0 : Nat := 0
  m1 : Nat := 0
  m2 : Nat := 0
  m3 : Nat := 0
  wraps : Nat := 0
  stopped : Bool := false
  deriving DecidableEq, Repr

/-- One step (R364, R369, R373) against top value `top` and compare values `c0`-`c3`. -/
def TmrSteps.step (t : TmrSteps) (top c0 c1 c2 c3 : Nat) (oneshot : Bool) : TmrSteps :=
  if t.stopped then t
  else
    let wrap := decide (top ≤ t.cnt)
    let c := if wrap then 0 else t.cnt + 1
    { cnt := c, m0 := t.m0 + b2n (c == c0), m1 := t.m1 + b2n (c == c1), m2 := t.m2 + b2n (c == c2),
      m3 := t.m3 + b2n (c == c3), wraps := t.wraps + b2n wrap, stopped := oneshot && wrap }

/-- `k` steps. -/
def TmrSteps.steps (top c0 c1 c2 c3 : Nat) (oneshot : Bool) : Nat → TmrSteps → TmrSteps
  | 0, t => t
  | k + 1, t => TmrSteps.steps top c0 c1 c2 c3 oneshot k (t.step top c0 c1 c2 c3 oneshot)

/-- TMRn.CMPk. -/
def State.tmrCmp (s : State) (n k : Nat) : Nat := (s.rd (Reg.TMRN_CMP n k)).toNat

/-- `c` steps of timer n from its registers. -/
def State.tmrSteps (s : State) (n c : Nat) : TmrSteps :=
  TmrSteps.steps (s.rd (Reg.TMRN_TOP n)).toNat (s.tmrCmp n 0) (s.tmrCmp n 1) (s.tmrCmp n 2) (s.tmrCmp n 3)
    (s.rb (Reg.TMRN_CTL n) 4) c { cnt := s.tmrCnt n }

/-- The state with the flags of `mask` set in TMRn.FLAG. -/
def State.tmrFlags (s : State) (n mask : Nat) : State :=
  s.setBits (Reg.TMRN_FLAG n) mask

/-- Some flag of `mask` has its enable set in TMRn.IE (R375). -/
def State.tmrIrqOn (s : State) (n mask : Nat) : Bool := s.rd (Reg.TMRN_IE n) &&& word mask != 0

/-- The routes, with their counts, of the match and overflow events of one step set (R360, R374). -/
def tmrRoutes (n : Nat) (t : TmrSteps) : List (Nat × Nat) :=
  (if t.m0 = 0 then [] else [(147 + n, t.m0)]) ++ (if t.m1 = 0 then [] else [(163 + n, t.m1)])
    ++ (if t.wraps = 0 then [] else [(179 + n, t.wraps)])
    ++ (if t.m3 = 0 ∨ 3 ≤ n then [] else [(221 + n, t.m3)])

/-- The FLAG bits of one step set. -/
def tmrMask (t : TmrSteps) : Nat :=
  b2n (t.m0 != 0) + 2 * b2n (t.m1 != 0) + 4 * b2n (t.m2 != 0) + 8 * b2n (t.m3 != 0) + 16 * b2n (t.wraps != 0)

/-- TMRn.IRQ for flags set now by a time-driven or software event: at most one cue in each emission tick (R375). -/
def State.tmrIrqNow (s : State) (n mask : Nat) : State :=
  if s.tmrIrqOn n mask && (s.tm n).irqAt != some s.slate then
    (s.emit [115 + n]).setTm n { s.tm n with irqAt := some s.slate }
  else s

/-- A TMRn.COUNT trigger (R367, R372, R373): in cue-count mode with RUN = 1 the timer makes `c` steps; the cues of its
events, TMRn.IRQ among them, are one caused event of generation g + 1, of which `emitDeferred` keeps one IRQ in each emission
tick (R375). -/
def tmrCount (s : State) (n c g : Nat) : State :=
  if s.tmrRun n && s.tmrSrc n == 2 then
    let t := s.tmrSteps n c
    let mask := tmrMask t
    let irq := s.tmrIrqOn n mask
    let s := (s.wr (Reg.TMRN_CNT n) (word t.cnt)).tmrFlags n mask
    let s := if t.stopped then s.wb (Reg.TMRN_CTL n) 0 false else s
    s.emitCaused (tmrRoutes n t ++ if irq then [(115 + n, 1)] else []) g
  else s

/-- The FLAG bits that a capture sets: CAPT, and CAPOVR where it overwrites one (R377). -/
def capMask (ovr : Bool) : Nat := 32 + 64 * b2n ovr

/-- The latch of a capture at instant `e` (R376, R377). -/
def State.tmrLatch (s : State) (n e : Nat) (ovr : Bool) : State :=
  ((s.wr (Reg.TMRN_CAP n) (s.rd (Reg.TMRN_CNT n))).wr64 (Reg.TMRN_CAPSL n 0) (s.shownTick e)).tmrFlags n (capMask ovr)

/-- A TMRn.CAPT trigger of generation g and emission tick e (R376, R377), which comes before the software captures of its tick.
DESIGN CHOICE (unsafe), log entry 67. -/
def tmrCueCapture (s : State) (n g e : Nat) : State :=
  let ovr := s.rb (Reg.TMRN_FLAG n) 5
  let irq := s.tmrIrqOn n (capMask ovr)
  let s := s.tmrLatch n e ovr
  let s := s.setTm n { s.tm n with cueCap := some s.slate }
  if irq then s.emitCaused [(115 + n, 1)] g else s

/-- A write of TMRn.CMD.CAPT (R376): the capture waits for the steps and the COUNT triggers of its tick (R368, R377). -/
def tmrCapRequest (s : State) (n : Nat) : State := s.setTm n { s.tm n with capWait := (s.tm n).capWait + 1 }

/-- A software capture of this tick finds a capture before it (R377): one of an earlier tick, or another software capture of this one; a
cue capture of this tick is none. -/
def State.tmrOverrun (s : State) (n : Nat) : Bool :=
  decide (1 < (s.tm n).capWait) || (s.rb (Reg.TMRN_FLAG n) 5 && (s.tm n).cueCap != some s.slate)

/-- The software captures that wait at timer n, if any, after the steps and COUNT triggers of their tick (R376, R377). -/
def tmrSwCapture (s : State) (n : Nat) : State :=
  if 0 < (s.tm n).capWait then
    let ovr := s.tmrOverrun n
    let s := s.tmrLatch n s.slate ovr
    (s.setTm n { s.tm n with capWait := 0 }).tmrIrqNow n (capMask ovr)
  else s

/-- A group start in the present tick (R379). -/
def groupStart (s : State) : State :=
  let sel := s.rd Reg.TMR_GSEL
  let s := (List.range 16).foldl (fun s n =>
    if bit sel n then
      ((s.wr (Reg.TMRN_CNT n) (s.rd (Reg.TMR_PHASE n))).wb (Reg.TMRN_CTL n) 0 true).setTm n
        { s.tm n with t0 := s.slate }
    else s) s
  { (s.wr64 (Reg.TMR_GLAST 0) s.slateNow).inc Reg.TMR_GCNT with tmrGroup := false }

/-- The timer's slate or prescaled step falls in the present tick (R365, R366, R368). -/
def State.tmrStepsNow (s : State) (n : Nat) : Bool :=
  let t0 := (s.tm n).t0
  s.mainOn && s.tmrRun n && (s.tm n).cntWrite != some s.slate && (s.tm n).stepAt != some s.slate && decide (t0 < s.slate) &&
    (s.tmrSrc n == 0 || (s.tmrSrc n == 1 && decide ((s.slate - t0) % (s.rf (Reg.TMRN_CTL n) 31 16 + 1) ≤ s.syn.skip)))

/-- A match of channel k by a time-driven step (R369): the flag, the match cue, and IRQ. -/
def tmrMatch (s : State) (n k : Nat) : State :=
  let s := s.tmrFlags n (2 ^ k)
  let s := match k with
    | 0 => s.emit [147 + n]
    | 1 => s.emit [163 + n]
    | 2 => s
    | _ => if n < 3 then s.emit [221 + n] else s
  s.tmrIrqNow n (2 ^ k)

/-- A wrap by a time-driven step (R364, R371, R373): CNT becomes 0, OVF is set and its cue emitted; a one-shot timer
stops. -/
def tmrOverflow (s : State) (n : Nat) : State :=
  let s := (s.wr (Reg.TMRN_CNT n) 0).tmrFlags n 16
  let s := if s.rb (Reg.TMRN_CTL n) 4 then s.wb (Reg.TMRN_CTL n) 0 false else s
  (s.emit [179 + n]).tmrIrqNow n 16

/-- The count that timer n's next step moves into (R364). -/
def State.tmrNext (s : State) (n : Nat) : Nat := if s.tmrCnt n < (s.rd (Reg.TMRN_TOP n)).toNat then s.tmrCnt n + 1 else 0

/-- The time-driven step of timer n in the present tick, where one is due: the count, the overflow of a wrap, and the match of
each compare value that the step moves into (R364, R365, R369). -/
def tmrStep (s : State) (n : Nat) : State :=
  if s.tmrStepsNow n then
    let wraps := decide ((s.rd (Reg.TMRN_TOP n)).toNat ≤ s.tmrCnt n)
    let next := s.tmrNext n
    let t := s.setTm n { s.tm n with stepAt := some s.slate }
    let t := if wraps then tmrOverflow t n else t.wr (Reg.TMRN_CNT n) (word next)
    (List.range 4).foldl (fun t k => if next = s.tmrCmp n k then tmrMatch t n k else t) t
  else s

/-- A write of TMRn.CTL (R365, R366): SRC 3 is ignored for its field; t0 is set where RUN goes from 0 to 1, or SRC or
PRESC is written while RUN = 1. -/
def tmrCtlWrite (s : State) (n : Nat) (v : Word) : State :=
  let old := s.rd (Reg.TMRN_CTL n)
  let v := if fld v 3 2 = 3 then setFld v 3 2 (fld old 3 2) else v
  let s := s.plainWrite (Reg.TMRN_CTL n) v
  let new := s.rd (Reg.TMRN_CTL n)
  if bit new 0 then s.setTm n { s.tm n with t0 := s.slate } else s

/-- A write of TMRn.CNT (R368). -/
def tmrCntWrite (s : State) (n : Nat) (v : Word) : State :=
  (s.wr (Reg.TMRN_CNT n) v).setTm n { s.tm n with cntWrite := some s.slate }

/-- TMR_COUNT_TRIGGER (R372). -/
def execTmrCountTrigger (n count gen : Nat) (s : State) : Out :=
  ok (n < 16) (s.onMain (tmrCount (s.countCue (179 + n) count) n count gen))

/-- TMR_CAPT_TRIGGER (R376): it captures at its place among the triggers of the tick, after every step (R348, R368). -/
def execTmrCaptTrigger (n count gen em : Nat) (s : State) : Out :=
  ok (n < 16) (s.onMain { s with cue := { s.cue with brought := s.cue.brought ++
    [{ route := 195 + n, input := 195 + n, effect := s.slate, count := count, gen := gen, em := em }] } })

/-- TMR_CAPTURE_CMD (R376): a write of TMRn.CMD.CAPT. -/
def execTmrCaptureCmd (n : Nat) (s : State) : Out := ok (n < 16) (s.onMain (tmrCapRequest s n))

/-- GROUP_START (R379): `count` is the count of the trigger at TMR.GSTART, 0 for a write of TMR.GCMD.GO. It applies at the end of
its tick. -/
def execGroupStart (count : Nat) (s : State) : Out := .next (s.onMain { s.countCue 211 count with tmrGroup := true })

/-- TMR_MATCH (R369): the time-driven step of the present tick, where it moves CNT into CMPk. -/
def execTmrMatch (n k : Nat) (s : State) : Out :=
  ok (n < 16 ∧ k < 4) (if s.tmrNext n = s.tmrCmp n k then tmrStep s n else s)

/-- TMR_OVERFLOW (R364): the time-driven step of the present tick, where it wraps the count. -/
def execTmrOverflow (n : Nat) (s : State) : Out :=
  ok (n < 16) (if (s.rd (Reg.TMRN_TOP n)).toNat ≤ s.tmrCnt n then tmrStep s n else s)

/-- TMR_CTL_WRITE (R366). -/
def execTmrCtlWrite (n : Nat) (val : Word) (s : State) : Out := ok (n < 16) (s.onMain (tmrCtlWrite s n val))

/-- TMR_CNT_WRITE (R368): the written count stands, and the slate-driven step of this tick does not happen. -/
def execTmrCntWrite (n : Nat) (val : Word) (s : State) : Out := ok (n < 16) (s.onMain (tmrCntWrite s n val))

/-- TMR_CMP_WRITE (R370). -/
def execTmrCmpWrite (n k : Nat) (val : Word) (s : State) : Out :=
  ok (n < 16 ∧ k < 4) (s.onMain (s.wr (Reg.TMRN_CMP n k) val))

/-- TMR_TOP_WRITE (R371). -/
def execTmrTopWrite (n : Nat) (val : Word) (s : State) : Out := ok (n < 16) (s.onMain (s.wr (Reg.TMRN_TOP n) val))

/-- A capture of slate value `v` into SYS.SLCAP from source `src` (1 software, 2 cue) (R381).
DESIGN CHOICE (unsafe), log entry 67. -/
def slateCapture (s : State) (src v : Nat) : State :=
  let s := (s.wr64 (Reg.SYS_SLCAP 0) (s.shownTick v)).wf Reg.SYS_SLSTAT 17 16 src
  s.wf Reg.SYS_SLSTAT 15 0 (s.rf Reg.SYS_SLSTAT 15 0 + 1)

/-- SLCAP_TRIGGER (R381): the cue's emission tick is captured, never the effect tick (R347). -/
def execSlcapTrigger (em count : Nat) (s : State) : Out := .next (s.onAon (slateCapture (s.countCue 212 count) 2 em))

/-- SLATE_CAPTURE_CMD (R381). -/
def execSlateCaptureCmd (s : State) : Out := .next (s.onAon (slateCapture s 1 s.slate))

/-- A write to a register of TMR. A group start written in TMR.GCMD waits for the end of the tick (R379). -/
def tmrBusWrite (s : State) (a : Nat) (v : Word) : State :=
  if a = Reg.TMR_GCMD then if bit v 0 then { s with tmrGroup := true } else s
  else if Reg.TMRN_CTL 0 ≤ a ∧ a < Reg.TMRN_CTL 16 then
    let n := (a - Reg.TMRN_CTL 0) / 0x40
    match (a - Reg.TMRN_CTL 0) % 0x40 with
    | 0 => tmrCtlWrite s n v
    | 4 => tmrCntWrite s n v
    | 0x30 => if bit v 0 then tmrCapRequest s n else s
    | _ => s.plainWrite a v
  else s.plainWrite a v

end Sys2Proof.Machine
end

