-- ==== Sys2Proof/Machine/Uart.lean ====
section
/-! DEFINITION. The UART console (spec/20_host_sync_interfaces.md, R508). -/

namespace Sys2Proof.Machine

/-- The console runs: enabled, in every mode except BACKUP. -/
def State.uatOn (s : State) : Bool := s.aonOn && s.rb Reg.UAT_CTL 31

/-- UAT.STAT with the FIFO levels. -/
def State.uatStat (s : State) : Word :=
  s.rd Reg.UAT_STAT ||| word (s.host.uatTx.length * 2 ^ 16 + s.host.uatRx.length * 2 ^ 8)

/-- An octet enters the transmit FIFO, unless it is full. -/
def uatPush (s : State) (o : Nat) : State :=
  if s.host.uatTx.length < 64 then { s with host := { s.host with uatTx := s.host.uatTx ++ [o % 256] } } else s

/-- The oldest received octet is popped; 0 where there is none.
DESIGN CHOICE (safe), log entry 83. -/
def uatPop (s : State) : State × Word :=
  match s.host.uatRx with
  | o :: rest => ({ s with host := { s.host with uatRx := rest } }, word o)
  | [] => (s, 0)

/-- An octet has been received; `stop`: its stop bit was there. A missing stop bit is a violation of class 4 (R542).
DESIGN CHOICE (unsafe), log entry 80. DESIGN CHOICE (unsafe), log entry 88. -/
def uatReceive (s : State) (o : Nat) (stop : Bool) : State :=
  if !s.uatOn then s
  else
    let s := if stop then s else (s.wb Reg.UAT_STAT 1 true).violation 4
    if s.host.uatRx.length < 64 then { s with host := { s.host with uatRx := s.host.uatRx ++ [o % 256] } }
    else s.wb Reg.UAT_STAT 0 true

/-- The line has been low for more than 20 bit times: BREAK, a violation of class 3 (R542).
DESIGN CHOICE (unsafe), log entry 80. -/
def uatBreak (s : State) : State := if s.uatOn then (s.wb Reg.UAT_STAT 2 true).violation 3 else s

/-- The head octet of the transmit FIFO has been sent. -/
def uatSend (s : State) : State :=
  match s.host.uatTx with
  | o :: rest => if s.uatOn then { s with host := { s.host with uatTx := rest, uatSent := some o } } else s
  | [] => s

/-- A hexadecimal digit in ASCII. -/
def hexDigit (n : Nat) : Nat := if n % 16 < 10 then 48 + n % 16 else 55 + n % 16

/-- The line that the boot ROM writes at a completed step. -/
def bootLine (step err : Nat) : List Nat :=
  "LD64 BOOT s=".toList.map Char.toNat ++ [hexDigit (step / 16), hexDigit step] ++ " e=".toList.map Char.toNat
    ++ [hexDigit (err / 16), hexDigit err, 13, 10]

/-- The boot ROM writes its line. -/
def uatBootLine (s : State) (step err : Nat) : State := (bootLine step err).foldl uatPush s

/-- A write to a register of UAT. -/
def uatBusWrite (s : State) (a : Nat) (v : Word) : State :=
  if a = Reg.UAT_CTL then s.plainWrite a (if fld v 15 0 < 10 then setFld v 15 0 (s.rf a 15 0) else v)
  else if a = Reg.UAT_DATA then uatPush s (fld v 7 0)
  else s.plainWrite a v

/-- UART_RECEIVE (R508). -/
def execUartReceive (octet : Nat) (stop : Bool) (s : State) : Out := .next (uatReceive s octet stop)

/-- UART_BREAK (R508). -/
def execUartBreak (s : State) : Out := .next (uatBreak s)

/-- UART_TX_WRITE (R508): a write of UAT.DATA. -/
def execUartTxWrite (val : Word) (s : State) : Out := .next (s.onAon (uatPush s (fld val 7 0)))

/-- UART_RX_POP (R508): a read of UAT.DATA; the word returned stands in `rdata`. -/
def execUartRxPop (s : State) : Out := .next (s.onAon { (uatPop s).1 with rdata := (uatPop s).2 })

/-- UART_TRANSMIT (R508). -/
def execUartTransmit (s : State) : Out := .next (uatSend s)

end Sys2Proof.Machine
end

