-- ==== Sys2Proof/Machine/Bus.lean ====
section
/-! DEFINITION. The peripheral registers as the asynchronous fabric reaches them (R3-R7, R10): which block an address belongs
to, and its reads and writes. -/

namespace Sys2Proof.Machine

/-- The 64 KiB pages that hold blocks (R10). -/
def blockPages : List Nat :=
  [0x4000, 0x4001, 0x4002, 0x4003, 0x4004, 0x4005, 0x4006, 0x4007, 0x4008, 0x4009, 0x400A, 0x400B, 0x400C, 0x400D, 0x400E,
   0x4010, 0x4020, 0x4030, 0x4040, 0x4050, 0x4060, 0x4070, 0x4080]

/-- The registers of CUE and MEM that the always-on domain holds: those that keep bits in HIBERNATE (R358, R460), and KSS's masks of
the interrupt lines that the segment delivers to.
DESIGN CHOICE (unsafe), log entry 11. -/
def aonReg (a : Nat) : Bool :=
  (decide (a / 0x10000 = 0x4002) && (keptBits.any (fun e => e.1 == a) || ((List.range 5).any fun w => Reg.CUE_IMASK 4 w == a)))
    || ([4, 9, 13].any fun m => (memRegs m).contains a)

/-- The block at address `a` exists, and the domain that holds the register there is powered (R7, R10, R36).
DESIGN CHOICE (unsafe), log entry 4. DESIGN CHOICE (unsafe), log entry 11. -/
def State.busOk (s : State) (a : Nat) : Bool :=
  blockPages.contains (a / 0x10000) && (match regDomain a with
    | .backup => s.aonOn
    | .alwaysOn => s.aonOn
    | .main => s.mainOn || (s.aonOn && aonReg (a / 4 * 4))
    | .rf => s.rfOn)

/-! ### SYS -/

/-- A write to a register of SYS by requester `req`: DRAIN below 1 ms is stored as 1 ms, and HIBCTL.WAKEMODE takes 2, 4, 5
and 6 only.
DEDUCED (unsafe), log entry 31. -/
def sysBusWrite (s : State) (a : Nat) (v : Word) : State :=
  if a = Reg.SYS_MODE then
    (modeRequest (s.clearW1C a 16 v) (fld v 11 8)).1
  else if a = Reg.SYS_ROLE then (roleWrite s v).1
  else if a = Reg.SYS_DRAIN then s.wr a (word (max 32000 v.toNat))
  else if a = Reg.SYS_HIBCTL then
    let m := fld v 7 4
    s.plainWrite a (if m = 2 ∨ m = 4 ∨ m = 5 ∨ m = 6 then v else setFld v 7 4 (s.rf a 7 4))
  else if a = Reg.SYS_RST then rstWrite s v
  else if a = Reg.SYS_SLCMD then if bit v 0 then slateCapture s 1 s.slate else s
  else s.plainWrite a v

/-! ### The whole map -/

/-- A write of the word at address `a` by requester `req` (a core 0-4, or 5 and above for an engine), in the tick in which it
is resynchronised (R5). -/
def busWrite (s : State) (req a : Nat) (v : Word) : State :=
  match a / 0x10000 with
  | 0x4000 => sysBusWrite s a v
  | 0x4001 => supBusWrite s a v
  | 0x4002 => cueBusWrite s a v
  | 0x4003 => tmrBusWrite s a v
  | 0x4004 => calBusWrite s req a v
  | 0x4005 => if a = Reg.MEM_DWIN then dwinWrite s req v else memBusWrite s a v
  | 0x4006 => odxWrite s a v
  | 0x4007 => ethBusWrite s a v
  | 0x4008 => ethBusWrite s a v
  | 0x4009 => ethBusWrite s a v
  | 0x400A => sphBusWrite s a v
  | 0x400C => uatBusWrite s a v
  | 0x400D => synBusWrite s a v
  | 0x400E => updBusWrite s req a v
  | 0x4010 => rfcBusWrite s a v
  | 0x4020 => chzBusWrite s a v
  | 0x4030 => dmdBusWrite s a v
  | 0x4040 => lnkBusWrite s a v
  | 0x4050 => dcbBusWrite s a v
  | 0x4060 => eprBusWrite s req a v
  | 0x4070 => cipBusWrite s req a v
  | 0x4080 => relBusWrite s req a v
  | _ => s

/-- A write to a register, where the address holds one; a write to an offset that holds none is ignored (R7).
DESIGN CHOICE (unsafe), log entry 4. -/
def regWrite (s : State) (req a : Nat) (v : Word) : State :=
  if (regRow a).isSome then busWrite s req a v else s

/-- The word that the register at address `a` shows, without any effect of a read.
DEDUCED (safe), log entry 6. -/
def State.regView (s : State) (a : Nat) : Word :=
  match a / 0x10000 with
  | 0x4000 => if a = Reg.SYS_CORESTAT then s.coreStat else s.rd a
  | 0x4004 => s.calRead a
  | 0x4006 => s.odxView a
  | 0x4007 => s.ethView a
  | 0x4008 => s.ethView a
  | 0x4009 => s.ethView a
  | 0x400A => if a = Reg.SPH_STAT then s.sphStat else s.rd a
  | 0x400C => if a = Reg.UAT_STAT then s.uatStat else s.rd a
  | 0x400E => s.updView a
  | 0x4010 => s.rfcView a
  | 0x4020 => s.chzView a
  | 0x4030 => s.dmdView a
  | 0x4040 => s.lnkView a
  | 0x4050 => s.dcbView a
  | 0x4060 => s.eprView a
  | 0x4070 => s.cipView a
  | 0x4080 => s.relView a
  | _ => s.rd a

/-- A read by requester `req` of the register at address `a`, of the memory words that stand behind it (R454): the state after it,
and the memory that gives no word. LNK's entry window reads the schedule table, DCB's bucket window the stored buckets, CUE.CNTi
engine state, and REL the pool.
DESIGN CHOICE (unsafe), log entry 96. -/
def viewRead (s : State) (req a : Nat) : State × Option Nat :=
  let i := (a - Reg.CUE_CNT 0) / 4
  if a = Reg.LNK_STIME 0 ∨ a = Reg.LNK_STIME 1 ∨ a = Reg.LNK_SROUTE ∨ a = Reg.LNK_SCTRL then
    let o := 16 * s.rf Reg.LNK_SIDX 11 0
    (s.readReport req 11 o 16, if s.readable 11 o 16 then none else some 11)
  else if a = Reg.DCB_BVAL ∨ a = Reg.DCB_BIDX then (bucketShown s, none)
  else if Reg.CUE_CNT 0 ≤ a ∧ i < 179 then (s.cueRead i, none)
  else let r := shownRead s req a; (r.1, if r.2 then none else some 7)

/-- The reads of several registers: the state after them, and the first memory that gives no word. -/
def viewReads (s : State) (req : Nat) (l : List Nat) : State × Option Nat :=
  l.foldl (fun x a => let r := viewRead x.1 req a; (r.1, x.2 <|> r.2)) (s, none)

/-- A read of the word at address `a` by requester `req` (R6), REL.POPn apart: the UART's POP field, and CAL.SUBSEC, whose read freezes the calendar,
and CAL.YEAR, whose read ends the freeze. None: the read ends in a data-abort (R343, R400). -/
def regRead (s : State) (req a : Nat) : State × Option Word :=
  if a = Reg.UAT_DATA then let r := uatPop s; (r.1, some r.2)
  else if inBackup a then
    let o := a - Reg.CAL_BKRAM 0
    (s.readReport req 13 o 4, if s.readable 13 o 4 then some (s.calRead a) else none)
  else if a = Reg.CAL_SUBSEC then let t := calFreeze s; (t, some (t.calRead a))
  else if a = Reg.CAL_YEAR then (calUnfreeze s, some (s.calRead a))
  else if (regRow a).isSome then let r := viewRead s req a; (r.1, if r.2.isNone then some (r.1.regView a) else none)
  else (s, some 0)

end Sys2Proof.Machine
end

