-- ==== Sys2Proof/Machine/Dict.lean ====
section
/-! DEFINITION. The hardware-defined entries of the object dictionary (R464-R471): one row per line of the chapters' tables,
with the registers or the part of the state that each serves. -/

namespace Sys2Proof.Machine

/-- Entries that are not plain views of registers. -/
inductive DSpec where
  | label
  | modeReq
  | bootTarget
  | roles
  | baseline
  | feat
  | resetCore
  | calTime
  | calSet
  | backup
  | fireRoute
  | stat (base : Nat)
  | sched
  | enqueue
  | withdraw
  | apply
  | preset (dwell : Bool)
  | bucket
  | submit
  | release
  | seed
  | buffer
  | readRecord
  | installKcv
  | depths
  | kek
  | host
  | reelSum (k : Nat)
  | memSum (ue : Bool)
  | batchIp
  | stageBegin
  | stageChunk
  | stageFinish
  | stageAbort
  | unstage
  | revoke
  | header (k : Nat)
  | resetCount
  | resetItem
  | saveNow
  | erase
  | principal
  | subscription
  | typeSize
  | typeName
  deriving DecidableEq, Repr

/-- Where the value of an entry lies: `i` counts the row's indices and `j` its sub-indices, from 0. -/
inductive DSrc where
  | const (v : Nat)
  /-- Field [hi:lo] of a register. -/
  | fld (a : Nat → Nat → Nat) (hi lo : Nat)
  /-- Whole registers in this order, each with the octets that it gives, least significant first. -/
  | words (l : Nat → Nat → List (Nat × Nat))
  /-- Whole registers, each most significant octet first (network addresses). -/
  | wordsBE (l : Nat → Nat → List Nat)
  /-- Writing 1 writes `v` to a register. -/
  | cmd (a : Nat → Nat) (v : Nat)
  | special (k : DSpec)

/-- A row of a dictionary table. -/
structure DRow where
  idx : Nat
  lo : Nat
  ty : DTy
  /-- Rights, as R482 numbers them. -/
  rights : Nat
  src : DSrc
  icnt : Nat := 1
  istep : Nat := 1
  hi : Nat := lo
  min : Int := ty.bounds.1
  max : Int := ty.bounds.2
  /-- The set of values, where the range is one. -/
  set : List Nat := []
  pers : Bool := false
  unit : Nat := 0
  /-- The domain of an entry that is no view of registers. -/
  dom : Domain := .alwaysOn

/-! ### Shorthand for the tables: rights in the order Observer, Operator, Custodian -/

/-- R, R, R. -/
abbrev rRRR : Nat := 0b010101
/-- R, R, RW. -/
abbrev rRRW : Nat := 0b110101
/-- R, RW, RW. -/
abbrev rRWW : Nat := 0b111101
/-- -, W, W or -, X, X. -/
abbrev rNWW : Nat := 0b101000
/-- -, -, W or -, -, X. -/
abbrev rNNW : Nat := 0b100000
/-- -, -, RW. -/
abbrev rNNB : Nat := 0b110000
/-- -, R, RW. -/
abbrev rNRB : Nat := 0b110100

/-- A row for one entry. -/
def ent (idx lo : Nat) (ty : DTy) (rights : Nat) (src : DSrc) : DRow := { idx, lo, ty, rights, src }
/-- The row serves sub-indices up to `hi`. -/
def DRow.to (r : DRow) (hi : Nat) : DRow := { r with hi }
/-- The row serves `icnt` indices, `istep` apart. -/
def DRow.idxs (r : DRow) (icnt istep : Nat) : DRow := { r with icnt, istep }
/-- The range, in the type's encoding. -/
def DRow.rng (r : DRow) (min max : Int) : DRow := { r with min, max }
/-- The range is a set of values. -/
def DRow.oneOf (r : DRow) (set : List Nat) : DRow := { r with set, min := (set.headD 0 : Nat), max := (maxL set : Nat) }
/-- The entry is persistent. -/
def DRow.keep (r : DRow) : DRow := { r with pers := true }
/-- The unit code (R489). -/
def DRow.in_ (r : DRow) (unit : Nat) : DRow := { r with unit }
/-- The domain. -/
def DRow.at_ (r : DRow) (dom : Domain) : DRow := { r with dom }

/-- One register. -/
def reg (a : Nat) : DSrc := .words fun _ _ => [(a, 4)]
/-- A 64-bit register, its low word at `a`. -/
def reg64 (a : Nat) : DSrc := .words fun _ _ => [(a, 4), (a + 4, 4)]
/-- A register per index. -/
def regI (a : Nat → Nat) : DSrc := .words fun i _ => [(a i, 4)]
/-- A register per sub-index. -/
def regJ (a : Nat → Nat) : DSrc := .words fun _ j => [(a j, 4)]
/-- A field of one register. -/
def fld1 (a hi lo : Nat) : DSrc := .fld (fun _ _ => a) hi lo
/-- A field of a register per index. -/
def fldI (a : Nat → Nat) (hi lo : Nat) : DSrc := .fld (fun i _ => a i) hi lo
/-- A field of a register per sub-index. -/
def fldJ (a : Nat → Nat) (hi lo : Nat) : DSrc := .fld (fun _ j => a j) hi lo
/-- Several registers. -/
def regs (l : List Nat) : DSrc := .words fun _ _ => l.map fun a => (a, 4)
/-- `n` registers from `a` on. -/
def regsFrom (a n : Nat) : DSrc := .words fun _ _ => (List.range n).map fun k => (a + 4 * k, 4)

/-! ### The tables -/

/-- R466: the type entries.
DEDUCED (unsafe), log entry 68. -/
def dictTypes : List DRow := [
  (ent 0x0001 1 .u16 rRRR (.special .typeSize)).idxs 16 1,
  (ent 0x0001 2 (.string 8) rRRR (.special .typeName)).idxs 16 1]

/-- R64, R424, R494: identity, modes and cores. 0x1100.07 shows SYS.RSTCAUSE as it stands.
DESIGN CHOICE (unsafe), log entry 102. -/
def dictSys : List DRow := [
  ent 0x1000 1 .u32 rRRR (.const 0x6480),
  ent 0x1000 2 .u8 rRRR (.const 0xB0),
  ent 0x1000 3 .u64 rRRR (.const Config.eui64),
  (ent 0x1000 4 (.string 32) rRRW (.special .label)).keep,
  ent 0x1000 5 .u8 rRRR (.const 1),
  (ent 0x1010 1 (.octets 16) rRRR (.special .feat)).to 5,
  (ent 0x1100 1 .enum rRRR (fld1 Reg.SYS_MODE 3 0)).rng 1 7,
  (ent 0x1100 2 .enum rRWW (.special .modeReq)).rng 1 7,
  ((ent 0x1100 3 .enum rRRW (.special .bootTarget)).oneOf [2, 4, 5, 6]).keep,
  ((ent 0x1100 4 .enum rRRW (fld1 Reg.SYS_HIBCTL 7 4)).oneOf [2, 4, 5, 6]).keep,
  (((ent 0x1100 5 .u32 rRRW (reg Reg.SYS_DRAIN)).rng 32000 0xFFFFFFFF).in_ 1).keep,
  (ent 0x1100 6 .u32 rRWW (.special .roles)).keep,
  ent 0x1100 7 .u32 rRRR (reg Reg.SYS_RSTCAUSE),
  ent 0x1100 8 .u32 rRRR (reg Reg.SYS_BOOTSTAT),
  (ent 0x1100 9 .bool rRRW (fld1 Reg.SYS_HIBCTL 0 0)).keep,
  ent 0x1120 1 .u32 rRRR (reg Reg.SYS_CORESTAT),
  (ent 0x1120 2 .u8 rNNW (.special .resetCore)).rng 0 3]

/-- R545, R463: supervision and memory. -/
def dictSup : List DRow := [
  ent 0x1200 1 .u32 rRRR (reg Reg.SUP_STAT),
  ent 0x1200 2 (.octets 20) rRRR (regsFrom (Reg.SUP_MLSTART 0) 5),
  (ent 0x1201 1 (.octets 8) rRRR (.words fun _ j => [(Reg.SUP_SENT j, 4), (Reg.SUP_SDC j, 4)])).to 0x10,
  (ent 0x1202 1 .bool rNWW (.cmd (fun _ => Reg.SUP_PLANCMD) 1)).rng 1 1,
  (ent 0x1202 2 .u32 rRRW (reg Reg.SUP_PLANCFG)).keep,
  (ent 0x1202 3 .u32 rRRW (reg Reg.SUP_PLANLIM)).keep,
  (ent 0x1202 4 .u32 rRRW (reg Reg.SUP_PMB)).keep,
  (ent 0x1202 5 .u16 rRRW (fld1 Reg.SUP_PATH 15 0)).keep,
  ent 0x1202 6 (.octets 24) rRRR (regsFrom Reg.SUP_VOUT 6),
  (ent 0x1210 1 .u32 rRRW (reg Reg.MEM_LEAK)).keep,
  ent 0x1210 2 .u32 rRRR (reg Reg.MEM_STAT),
  ent 0x1210 3 .u32 rRRR (reg Reg.MEM_DCFG),
  (ent 0x1210 4 (.octets 12) rRRR (regs [Reg.MEM_RGSIZE, Reg.MEM_WINBASE, Reg.MEM_WINSIZE])).in_ 20,
  ent 0x1210 5 (.octets 12) rRRR (regsFrom (Reg.MEM_UEADDR 0) 3),
  (ent 0x1210 6 .u32 rRRR (reg Reg.MEM_UECNT)).in_ 22,
  ((ent 0x1211 1 .u32 rRRW (regJ Reg.MEM_SCRUB)).to 0xF).keep,
  (ent 0x1212 1 (.octets 20) rRRR (.words fun _ j =>
    [(Reg.MEM_CECNT j, 4), (Reg.MEM_UECNTM j, 4), (Reg.MEM_LEVEL j, 4), (Reg.MEM_SCRPOS j, 4), (Reg.MEM_SCRPASS j, 4)])).to 0xF,
  ((ent 0x1220 1 .u32 rRRR (regJ Reg.SUP_VIOL)).to 8).in_ 22,
  ent 0x1230 1 (.octets 8) rRRR (regs [Reg.SUP_TCXO, Reg.SUP_TCXOAGE]),
  ent 0x1230 2 (.octets 8) rRRR (regs [Reg.SUP_XTAL, Reg.SUP_XTALTRIM]),
  (ent 0x1230 3 .s32 rRRW (.special .baseline)).keep,
  ent 0x1230 4 (.octets 16) rRRR (.words fun _ _ => (List.range 8).map fun n => (Reg.SUP_PADRIFT n, 2)),
  (ent 0x1240 1 (.octets 16) rRRR (.words fun _ j => (List.range 4).map fun k => (Reg.SUP_CRPC j + 4 * k, 4))).to 5,
  ent 0x1240 6 .u32 rRRR (reg Reg.SUP_WDPC)]

/-- R401, R383, R363: the calendar, the timers, the slate capture and the cue fabric. -/
def dictTime : List DRow := [
  ent 0x1300 1 (.octets 8) rRRR (.special .calTime),
  ent 0x1300 2 (.octets 7) rNNW (.special .calSet),
  ent 0x1300 3 .u32 rRRR (reg Reg.CAL_STAT),
  (((ent 0x1300 4 .s16 rRRW (fld1 Reg.CAL_TRIM 12 0)).rng (-4095) 4095).in_ 19).keep,
  (ent 0x1300 5 .u32 rRWW (reg Reg.CAL_WAKECFG)).keep,
  ent 0x1300 6 (.octets 8) rRWW (regs [Reg.CAL_ALMTIME, Reg.CAL_ALMDATE]),
  (ent 0x1300 7 .bool rNWW (.cmd (fun _ => Reg.CAL_CAPCMD) 1)).rng 1 1,
  ent 0x1300 8 (.octets 16) rRRR (regsFrom (Reg.CAL_CAPT 0) 4),
  ent 0x1300 9 (.octets 256) rNRB (.special .backup),
  ent 0x1400 1 .u16 rRWW (fld1 Reg.TMR_GSEL 15 0),
  (ent 0x1400 2 .bool rNWW (.cmd (fun _ => Reg.TMR_GCMD) 1)).rng 1 1,
  (ent 0x1400 3 .slate rRRR (reg64 (Reg.TMR_GLAST 0))).in_ 1,
  (ent 0x1401 1 .u32 rRWW (regI Reg.TMRN_CTL)).idxs 16 1,
  ((ent 0x1401 2 .u32 rRWW (regI Reg.TMRN_CNT)).idxs 16 1).in_ 18,
  ((ent 0x1401 3 .u32 rRWW (regI Reg.TMRN_TOP)).idxs 16 1).in_ 18,
  (((ent 0x1401 4 .u32 rRWW (.words fun i j => [(Reg.TMRN_CMP i j, 4)])).to 7).idxs 16 1).in_ 18,
  (ent 0x1401 8 (.octets 12) rRRR (.words fun i _ =>
    [(Reg.TMRN_CAP i, 4), (Reg.TMRN_CAPSL i 0, 4), (Reg.TMRN_CAPSL i 1, 4)])).idxs 16 1,
  (ent 0x1401 9 .u8 rRWW (.words fun i _ => [(Reg.TMRN_FLAG i, 1)])).idxs 16 1,
  (ent 0x1401 0xA .u8 rRWW (.words fun i _ => [(Reg.TMRN_IE i, 1)])).idxs 16 1,
  ((ent 0x1401 0xB .u32 rRWW (regI Reg.TMR_PHASE)).idxs 16 1).in_ 18,
  ((ent 0x1401 0xC .bool rNWW (.cmd Reg.TMRN_CMD 1)).rng 1 1).idxs 16 1,
  (ent 0x1420 1 .bool rNWW (.cmd (fun _ => Reg.SYS_SLCMD) 1)).rng 1 1,
  (ent 0x1420 2 .slate rRRR (reg64 (Reg.SYS_SLCAP 0))).in_ 1,
  ent 0x1420 3 .u32 rRRR (reg Reg.SYS_SLSTAT),
  (ent 0x1440 1 (.octets 28) rRRW (.words fun _ _ => (List.range 7).map fun w => (Reg.CUE_EN w, 4))).keep,
  ((ent 0x1440 2 .u8 rNWW (.special .fireRoute)).rng 0 223).at_ .main,
  ent 0x1440 3 (.octets 28) rRRR (regsFrom (Reg.CUE_LOOP 0) 7),
  (ent 0x1440 4 .u32 rRRR (reg Reg.CUE_LOOPCNT)).in_ 22,
  ent 0x1440 5 (.octets 868) rRRR (regsFrom (Reg.CUE_CNT 0) 217),
  ((ent 0x1441 1 (.octets 6) rRRW (.words fun _ j => [(Reg.CUE_GPIO_CFG j, 4), (Reg.CUE_GPIO_STUCK j, 2)])).to 0x10).keep,
  (ent 0x1441 0x11 (.octets 8) rRRR (.words fun _ j => [(Reg.CUE_GPIO_NOISE j, 4), (Reg.CUE_GPIO_STATE j, 4)])).to 0x20]

/-- R529: the update entries. -/
def dictUpd : List DRow := [
  (ent 0x1800 1 .action rNNW (.special .stageBegin)).at_ .main,
  (ent 0x1800 2 .action rNNW (.special .stageChunk)).at_ .main,
  (ent 0x1800 3 .action rNNW (.special .stageFinish)).at_ .main,
  (ent 0x1800 4 .action rNNW (.special .stageAbort)).at_ .main,
  ent 0x1800 5 .u32 rRRR (reg Reg.UPD_STAT),
  (ent 0x1800 6 .action rNNW (.special .unstage)).at_ .main,
  (ent 0x1800 7 .action rNNW (.special .revoke)).at_ .main,
  ((ent 0x1810 1 (.octets 256) rRRR (.special (.header 0))).to 4).at_ .main,
  ((ent 0x1811 1 (.octets 256) rRRR (.special (.header 1))).to 4).at_ .main,
  ((ent 0x1812 1 (.octets 256) rRRR (.special (.header 2))).to 4).at_ .main,
  ((ent 0x1880 1 .u16 rRRR (.special .resetCount)).in_ 22).at_ .main,
  ((ent 0x1880 2 .u32 rRRR (.special .resetItem)).to 0xFF).at_ .main]

/-- R94: the RF chains. The constants of 0x2000 have no register and are served in every mode that serves entries.
DESIGN CHOICE (unsafe), log entry 105. -/
def dictRf : List DRow := [
  (ent 0x2000 1 .u8 rRRR (.const 8)).rng 8 8,
  (ent 0x2000 2 .u32 rRRR (.const 1907349)).in_ 7]
  ++ ([
  ((ent 0 1 (.q 8 2) rRRW (fldI Reg.RFC_TXPWR 7 0)).rng (-40) 120).in_ 9,
  ent 0 2 .bool rRRW (fldI Reg.RFC_CTL 4 4),
  ((ent 0 3 .u8 rRRW (fldI Reg.RFC_EXTPA 7 0)).rng 0 160).in_ 10,
  ((ent 0 4 .u8 rRRW (fldI Reg.RFC_RAMP 6 0)).rng 2 64).in_ 3,
  ((ent 0 5 .u16 rRRW (fldI Reg.RFC_FEMPA 10 0)).rng 0 2047).in_ 1,
  ((ent 0 6 .u16 rRRW (fldI Reg.RFC_FEMPA 26 16)).rng 0 2047).in_ 1,
  ((ent 0 7 .u16 rRRW (fldI Reg.RFC_FEMTR 10 0)).rng 0 2047).in_ 1,
  ((ent 0 8 .u16 rRRW (fldI Reg.RFC_FEMTR 26 16)).rng 0 2047).in_ 1,
  (ent 0 9 .u8 rRRW (.words fun i _ => [(Reg.RFC_FEMCFG i, 1)])),
  ent 0 0xA .bool rRWW (fldI Reg.RFC_CTL 8 8),
  ent 0 0xB .bool rRWW (fldI Reg.RFC_AGC 0 0),
  ((ent 0 0xC .u8 rRWW (fldI Reg.RFC_AGC 11 8)).rng 0 10).in_ 12,
  ((ent 0 0xD .u8 rRWW (fldI Reg.RFC_AGC 23 16)).rng 1 255).in_ 4,
  ((ent 0 0xE .u8 rRWW (fldI Reg.RFC_LOOP 15 8)).rng 50 150).in_ 13].map fun r =>
    { r.keep with idx := 0x2100, icnt := 8, istep := 0x10 })
  ++ [(ent 0x2100 0xF .u32 rRRR (regI Reg.RFC_STAT)).idxs 8 0x10]

/-- The fields of a profile (R125), staged or, with `o` = 0x4000, active. -/
def dictProfile (idx o rights det : Nat) : List DRow := [
  ent 0 1 .bool rights (fldI (fun p => Reg.CHZ_PROF_CFG p + o) 8 8),
  ent 0 2 .enum rights (fldI (fun p => Reg.CHZ_PROF_CFG p + o) 0 0) |>.rng 0 1,
  ent 0 3 .u32 rights (fldI (fun p => Reg.CHZ_PROF_RATE p + o) 17 0) |>.rng 600 200000,
  (ent 0 4 .u32 rights (fldI (fun p => Reg.CHZ_PROF_DEV p + o) 17 0)).rng 300 150000 |>.in_ 6,
  ent 0 5 .enum rights (fldI (fun p => Reg.CHZ_PROF_CFG p + o) 1 1) |>.rng 0 1,
  ent 0 6 .u8 rights (fldI (fun p => Reg.CHZ_PROF_PRE p + o) 7 0),
  (ent 0 7 .u16 rights (fldI (fun p => Reg.CHZ_PROF_PRE p + o) 19 8)).rng 16 4095 |>.in_ 14,
  ent 0 8 .u32 rights (regI fun p => Reg.CHZ_PROF_SYNC0 p + o),
  (ent 0 9 .u8 rights (fldI (fun p => Reg.CHZ_PROF_SLEN p + o) 5 0)).rng 16 32 |>.in_ 15,
  ent 0 0xA .u32 rights (regI fun p => Reg.CHZ_PROF_SYNC1 p + o),
  (ent 0 0xB .u8 rights (fldI (fun p => Reg.CHZ_PROF_SLEN p + o) 13 8)).oneOf
    (0 :: (List.range 17).map fun n => n + 16) |>.in_ 15,
  (ent 0 0xC .u8 rights (fldI (fun p => Reg.CHZ_PROF_PRE p + o) 27 24)).rng 0 4 |>.in_ 15,
  (ent 0 0xD .u8 det (fldI (fun p => Reg.CHZ_PROF_DET p + o) 6 0)).rng 0 60 |>.in_ 11,
  ent 0 0xE .enum rights (fldI (fun p => Reg.CHZ_PROF_CFG p + o) 3 2) |>.rng 0 2,
  ent 0 0xF .enum rights (fldI (fun p => Reg.CHZ_PROF_CFG p + o) 5 4) |>.rng 0 2,
  ent 0 0x10 .enum rights (fldI (fun p => Reg.CHZ_PROF_CFG p + o) 7 6) |>.rng 0 2,
  (ent 0 0x11 .u16 rights (fldI (fun p => Reg.CHZ_PROF_CFG p + o) 24 16)).rng 1 511 |>.in_ 16].map fun r =>
    { r with idx := idx, icnt := 16, pers := o == 0 }

/-- The plan of a chain (R125), staged or, with `o` = 0x4000, active. -/
def dictPlan (idx o rights mask : Nat) : List DRow := [
  (ent 0 1 .u32 rights (regI fun n => Reg.CHZ_PCENTRE n + o)).rng 400000000 960000000 |>.in_ 6,
  ent 0 2 .enum rights (fldI (fun n => Reg.CHZ_PCFG n + o) 5 4) |>.rng 0 3,
  ent 0 3 .enum rights (fldI (fun n => Reg.CHZ_PCFG n + o) 2 0) |>.rng 0 4,
  ent 0 4 .u64 mask (.words fun n _ => [(Reg.CHZ_PMASKLO n + o, 4), (Reg.CHZ_PMASKHI n + o, 4)])].map fun r =>
    { r with idx := idx, icnt := 8, pers := o == 0 }

/-- R125, R164: channel plans, profiles, detection and the demodulators. -/
def dictChz : List DRow := [
  ent 0x2200 1 .u16 rRRR (fld1 Reg.CHZ_EPOCH 15 0),
  ((ent 0x2200 2 .u32 rRRW (reg Reg.CHZ_FENCE)).in_ 1).keep,
  ent 0x2200 3 .u8 rRWW (fld1 Reg.CHZ_APPLY 7 0),
  ent 0x2200 4 .bool rRWW (fld1 Reg.CHZ_APPLY 8 8),
  (ent 0x2200 5 .slate rRWW (reg64 (Reg.CHZ_APPLYAT 0))).in_ 1,
  ((ent 0x2200 6 .bool rNWW (.special .apply)).rng 1 1).at_ .main]
  ++ dictPlan 0x2210 0 rRRW rRWW
  ++ [(((ent 0x2220 1 .u32 rRWW (.words fun n j => [(Reg.CHZ_ASSIGN (64 * n + j), 4)])).to 0x40).idxs 8 1).keep]
  ++ dictProfile 0x2300 0 rRRW rRWW
  ++ [
  ((ent 0x2400 1 .u32 rRRR (.words fun n j => [(Reg.CHZ_FLOOR (64 * n + j), 4)])).to 0x40).idxs 8 1,
  (((ent 0x2408 1 .u16 rRRR (.fld (fun n j => Reg.CHZ_OCC (64 * n + j)) 15 0)).to 0x40).idxs 8 1).in_ 22,
  (((ent 0x2410 1 .u16 rRWW (fld1 Reg.CHZ_SURVINT 15 0)).rng 1 65535).in_ 4).keep,
  (((ent 0x2410 2 .u8 rRWW (fld1 Reg.CHZ_SURVINT 23 16)).rng 0 120).in_ 11).keep]
  ++ dictPlan 0x2250 0x4000 rRRR rRRR
  ++ [((ent 0x2260 1 .u32 rRRR (.words fun n j => [(Reg.CHZ_ASSIGN_A (64 * n + j), 4)])).to 0x40).idxs 8 1]
  ++ dictProfile 0x2330 0x4000 rRRR rRRR
  ++ [
  (ent 0x2420 1 .u8 rRRR (.const 192)).rng 192 192 |>.at_ .main,
  (ent 0x2420 2 .u8 rRRR (fld1 Reg.DMD_STAT 7 0)).rng 0 192,
  (ent 0x2420 3 .u8 rRRR (fld1 Reg.DMD_STAT 23 16)).rng 0 192,
  (ent 0x2420 4 .bool rNWW (.cmd (fun _ => Reg.DMD_CTL) 1)).rng 1 1,
  (ent 0x2420 5 .u32 rRRR (reg (Reg.DMD_CNT 6))).in_ 22,
  ent 0x2420 6 (.octets 24) rRRR (regsFrom (Reg.DMD_BUSY 0) 6)]

/-- R211, R240: link timing, sleepy downlink, beacons and the parent. -/
def dictLnk : List DRow := [
  ((ent 0x2800 1 .u32 rRRW (fld1 Reg.LNK_ADDR 24 0)).rng 0 33554431).keep,
  (ent 0x2800 2 (.octets 12) rRRW (.words fun _ _ => (List.range 4).map fun i => (Reg.LNK_NETID i, 3))).keep,
  (ent 0x2800 3 .u8 rRRW (.words fun _ _ => [(Reg.LNK_TYPEACC, 1)])).keep,
  ((ent 0x2800 4 .u8 rRRW (fld1 Reg.LNK_CTL 5 4)).rng 0 3).keep,
  (ent 0x2800 5 .bool rRWW (fld1 Reg.LNK_CTL 0 0)).keep,
  (((ent 0x2800 6 .u16 rRWW (fld1 Reg.LNK_SLACK 15 0)).rng 0 32000).in_ 1).keep,
  (((ent 0x2800 7 .u8 rRRW (fld1 Reg.LNK_SAMEWIN 7 0)).rng 0 160).in_ 1).keep,
  ent 0x2800 8 .u32 rRRR (reg Reg.LNK_TXCTR),
  ((((ent 0x2810 1 .u32 rRRW (fldJ Reg.LNK_TACK 19 0)).to 0x10).rng 12800 640000).in_ 1).keep,
  ((ent 0x2820 1 (.octets 9) rRRW (.words fun _ t =>
    [(Reg.LNK_SHPOL t, 1), (Reg.LNK_SHGDLO t, 4), (Reg.LNK_SHGDHI t, 4)])).to 8).keep,
  (((ent 0x2860 1 (.octets 16) rRWW (.special .sched)).to 0xFF).idxs 16 1).at_ .main,
  ((ent 0x2870 1 (.octets 16) rRWW (.special .sched)).to 0x10).at_ .main,
  ((ent 0x2900 1 .u32 rNWW (.special .enqueue)).rng 0 262143).at_ .main,
  ((ent 0x2900 2 .u32 rNWW (.special .withdraw)).rng 0 262143).at_ .main,
  ((ent 0x2900 3 .u32 rRRR (fld1 Reg.LNK_DLSTAT 18 0)).rng 0 262144).in_ 22,
  ((ent 0x2910 1 (.octets 8) rRRW (.words fun _ j => [(Reg.LNK_DSET_A j, 4), (Reg.LNK_DSET_B j, 4)])).to 0x10).keep,
  (ent 0x2A00 1 .u32 rRRW (reg Reg.LNK_BCNCFG)).keep,
  (((ent 0x2A00 2 .u16 rRRW (fld1 Reg.LNK_BCNTIM 24 16)).rng 1 256).in_ 5).keep,
  ((ent 0x2A00 3 .u8 rRRW (fld1 Reg.LNK_BCNTIM 7 0)).in_ 5).keep,
  (ent 0x2A00 4 .u32 rRWW (reg Reg.LNK_BCNPL)).keep,
  ((((ent 0x2A00 5 .u8 rRRR (.const 0)).to 7).rng 0 0).at_ .main).keep,
  ent 0x2A00 8 .u16 rRRR (fld1 Reg.LNK_BSEQ 15 0),
  ((ent 0x2A10 1 .u32 rRRW (fld1 Reg.LNK_PADDR 24 0)).rng 0 33554431).keep,
  (ent 0x2A10 2 .u64 rRRW (reg64 (Reg.LNK_PEUI 0))).keep,
  (ent 0x2A10 3 .u32 rRRW (reg Reg.LNK_PKEY)).keep,
  (ent 0x2A10 4 (.octets 16) rRRW (regsFrom (Reg.LNK_PCH 0) 4)).keep,
  (((ent 0x2A10 5 .u16 rRWW (fld1 Reg.LNK_BWIN 15 0)).rng 1 65535).in_ 3).keep,
  (((ent 0x2A10 6 .u16 rRWW (fld1 Reg.LNK_BWIN 31 16)).rng 1 65535).in_ 3).keep,
  (((ent 0x2A10 7 .u16 rRWW (fld1 Reg.LNK_HOLD 31 16)).rng 1 65535).in_ 5).keep,
  ((ent 0x2A10 8 .u8 rRRW (fld1 Reg.LNK_HOLD 7 0)).in_ 8).keep,
  ((ent 0x2A10 9 .u32 rRRW (reg Reg.LNK_BDEC)).in_ 1).keep,
  ((ent 0x2A10 0xA .u16 rRWW (fld1 Reg.LNK_SCAN 15 0)).in_ 5).keep,
  (((ent 0x2A10 0xB .u8 rRRR (.const 0)).rng 0 0).at_ .main).keep,
  ent 0x2A10 0xC .u32 rRRR (reg Reg.LNK_PSTAT),
  (ent 0x2A10 0xD .u64 rRRR (reg64 (Reg.LNK_PLAST 0))).in_ 2]

/-- R255: the budgets. -/
def dictDcb : List DRow := [
  (ent 0x2C00 1 .bool rRRW (fld1 Reg.DCB_CTL 0 0)).keep]
  ++ ([
  (ent 0x2C10 1 .u32 rRRW (regI Reg.DCB_BCFG)).keep,
  (((ent 0x2C10 2 .u32 rRRW (regI Reg.DCB_BFLO)).rng 400000000 960000000).in_ 6).keep,
  (((ent 0x2C10 3 .u32 rRRW (regI Reg.DCB_BFHI)).rng 400000000 960000000).in_ 6).keep,
  (((ent 0x2C10 4 .u32 rRRW (fldI Reg.DCB_BLIM 19 0)).rng 1 1000000).in_ 8).keep,
  (((ent 0x2C10 5 .u32 rRRW (fldI Reg.DCB_BAUX 19 0)).rng 0 1000000).in_ 8).keep,
  (ent 0x2C10 6 .u32 rRRR (regI Reg.DCB_BUSED)).in_ 3,
  (ent 0x2C10 7 .u32 rRRR (regI Reg.DCB_BRSVD)).in_ 3,
  ((ent 0x2C10 8 .u8 rNNW (.special (.preset false))).rng 1 6).at_ .main,
  (ent 0x2C20 1 .u32 rRRW (regI Reg.DCB_DCFG)).keep,
  (((ent 0x2C20 2 .u32 rRRW (regI Reg.DCB_DFLO)).rng 400000000 960000000).in_ 6).keep,
  (((ent 0x2C20 3 .u32 rRRW (regI Reg.DCB_DFHI)).rng 400000000 960000000).in_ 6).keep,
  (((ent 0x2C20 4 .u32 rRRW (regI Reg.DCB_DAUX)).rng 1000 560000000).in_ 6).keep,
  ((ent 0x2C20 5 .u32 rRRW (regI Reg.DCB_DLIM)).in_ 3).keep,
  (ent 0x2C20 6 .u32 rRRR (regI Reg.DCB_DUSED)).in_ 3,
  ((ent 0x2C20 7 .u8 rNNW (.special (.preset true))).rng 8 8).at_ .main,
  (((ent 0x2C30 1 .u32 rRRR (.special .bucket)).to 0x3C).in_ 3).at_ .main].map fun r => r.idxs 16 1)

/-- R290, R320: the registry and the cipher engine. -/
def dictEpr : List DRow := [
  (ent 0x3000 1 .u32 rRRR (fld1 Reg.EPR_LIMIT 24 0)).oneOf [20971519, 33554431],
  ent 0x3000 2 .u64 rRRR (reg64 (Reg.EPR_GEN 0)),
  ((ent 0x3000 3 .u16 rRRW (fld1 Reg.EPR_CSKEY 11 0)).rng 0 4095).keep,
  (ent 0x3000 4 .u16 rRRW (fld1 Reg.EPR_KEKG 15 0)).keep,
  ((ent 0x3000 5 .bool rNWW (.special .submit)).rng 1 1).at_ .main,
  ent 0x3000 6 .u32 rRRR (reg Reg.EPR_CSSTAT),
  (((ent 0x3000 7 .u16 rRRW (fld1 Reg.EPR_SNAPCFG 31 16)).rng 60 65535).in_ 5).keep,
  (((ent 0x3000 8 .u16 rRRW (fld1 Reg.EPR_SNAPCFG 15 0)).rng 1 3600).in_ 5).keep,
  ((ent 0x3000 9 .u16 rRRW (fld1 Reg.EPR_LOADADV 15 0)).in_ 21).keep,
  ent 0x3000 0xA .u32 rRRR (reg Reg.EPR_STAT),
  (ent 0x3000 0xB .u32 rRRR (reg Reg.EPR_SNAPCAP)).in_ 22,
  (ent 0x3000 0xC .bool rNWW (.cmd (fun _ => Reg.EPR_SNAPCMD) 1)).rng 1 1,
  ((ent 0x3000 0xD .u16 rNNW (.special .release)).oneOf ((List.range 512) ++ [0xFFFF])).at_ .main,
  (ent 0x3000 0xE .u64 rNNW (.special .seed)).at_ .main,
  ent 0x3001 1 (.octets 64) rRRR (regsFrom (Reg.EPR_LOADMAP 0) 16),
  ent 0x3001 2 (.octets 64) rRRR (regsFrom (Reg.EPR_FAILMAP 0) 16),
  (ent 0x3010 0 (.octets 262192) rNWW (.special .buffer)).at_ .main,
  (ent 0x3020 0 .action rNWW (.special .readRecord)).at_ .main,
  (ent 0x3100 1 .bool rRRR (fld1 Reg.CIP_STAT 4 4)),
  (ent 0x3100 2 (.octets 3) rRRR (.special .installKcv)).at_ .main,
  (ent 0x3100 3 (.octets 8) rRRR (.special .depths)).at_ .main,
  ((ent 0x3110 1 (.octets 72) rRRW (.special .kek)).to 0xF).keep,
  (((ent 0x3120 1 (.octets 48) rRRW (.special .host)).to 0xFF).idxs 3 1).keep,
  ((ent 0x3123 1 (.octets 48) rRRW (.special .host)).to 0xF3).keep]

/-- R345: the reels. -/
def dictRel : List DRow := [
  (((ent 0x3200 1 .u32 rRRW (reg Reg.REL_PTO)).rng 32 0xFFFFFFFF).in_ 1).keep,
  ent 0x3200 2 (.octets 12) rRRR (regs [Reg.REL_FAULTCNT, Reg.REL_ROUTEDROP, Reg.REL_NOROUTE]),
  ((ent 0x3210 1 .u32 rRRW (regI Reg.REL_RCFG)).idxs 32 1).keep,
  ((((ent 0x3210 2 .u16 rRRW (fldI Reg.REL_RMAX 13 0)).rng 1 16383).idxs 32 1).in_ 17).keep,
  (ent 0x3210 3 (.octets 12) rRRR (.words fun n _ => [(Reg.REL_RSTAT n, 4), (Reg.REL_RLEVEL n, 4), (Reg.REL_RPKT n, 4)])).idxs
    32 1,
  (ent 0x3210 4 .u32 rRRR (regI Reg.REL_RPEEK)).idxs 32 1,
  ((ent 0x3230 1 (.octets 8) rRRW (.words fun _ j => [(Reg.REL_ROUTE_A j, 4), (Reg.REL_ROUTE_B j, 4)])).to 0x10).keep]

/-- R494, R495: the dictionary server. -/
def dictOdx : List DRow := [
  (ent 0x4000 1 .u8 rRRW (.words fun _ _ => [(Reg.ODX_CTL, 1)])).keep,
  (ent 0x4000 2 .bool rRRW (fld1 Reg.ODX_CTL 8 8)).keep,
  (((ent 0x4000 3 .u16 rRRW (fld1 Reg.ODX_PSTORE 15 0)).rng 1 65535).in_ 4).keep,
  (ent 0x4000 4 .bool rNWW (.special .saveNow)).rng 1 1,
  ent 0x4000 5 .u32 rRRR (reg Reg.ODX_STAT),
  (ent 0x4000 6 .bool rNNW (.special .erase)).rng 1 1,
  (((ent 0x4000 7 .u16 rRRW (fld1 Reg.ODX_FWTO 15 0)).rng 1 65535).in_ 4).keep,
  ((ent 0x4010 1 .u32 rNNB (.special .principal)).to 0x10).keep,
  (ent 0x4011 1 (.octets 12) rRRR (.words fun _ p => [(Reg.ODX_P_H p, 4), (Reg.ODX_P_W p, 4), (Reg.ODX_P_NCTR p, 4)])).to 0x10,
  (ent 0x4020 1 (.octets 40) rRRR (.special .subscription)).to 0x40]

/-- R515: host links and synchronisation. -/
def dictHost : List DRow := [
  ent 0x4100 1 .u32 rRRW (regI Reg.ETH_CTL),
  ent 0x4100 2 (.octets 6) rRRW (.words fun k _ => [(Reg.ETH_MACLO k, 4), (Reg.ETH_MACHI k, 2)]),
  ent 0x4100 3 (.octets 4) rRRW (.wordsBE fun k _ => [Reg.ETH_IP4 k]),
  ent 0x4100 4 (.octets 16) rRRW (.wordsBE fun k _ => (List.range 4).map fun i => Reg.ETH_IP6 k i),
  ent 0x4100 5 (.octets 8) rRRW (.words fun k _ => [(Reg.ETH_BCFG k, 4), (Reg.ETH_BDST k, 4)]),
  (ent 0x4100 6 (.octets 16) rRRW (.special .batchIp)).at_ .main,
  ent 0x4100 7 (.octets 6) rRRW (.words fun k _ => [(Reg.ETH_BDMACLO k, 4), (Reg.ETH_BDMACHI k, 2)]),
  (ent 0x4100 8 .u32 rRRW (regI Reg.ETH_LAT)).in_ 2].map (fun r => (r.idxs 3 1).keep)
  ++ [
  (ent 0x4100 9 (.octets 20) rRRR (.words fun k _ =>
    (Reg.ETH_STAT k, 4) :: (List.range 4).map fun i => (Reg.ETH_RXCNT k + 4 * i, 4))).idxs 3 1,
  (((ent 0x4140 1 .u32 rRRW (reg Reg.SPH_TOUT)).rng 3200 0xFFFFFFFF).in_ 1).keep,
  (ent 0x4140 2 .bool rRRW (fld1 Reg.SPH_CTL 8 8)).keep,
  ent 0x4140 3 (.octets 12) rRRR (regs [Reg.SPH_STAT, Reg.SPH_ABNCNT, Reg.SPH_FRMCNT]),
  (ent 0x4150 1 .u32 rRRW (reg Reg.SYN_CFG)).keep,
  (ent 0x4150 2 .u32 rRRW (reg Reg.SYN_LOCK)).keep,
  ((ent 0x4150 3 .u32 rRRW (reg Reg.SYN_STEPTH)).in_ 1).keep,
  (ent 0x4150 4 .u32 rRRW (reg Reg.SYN_PPSCFG)).keep,
  ((ent 0x4150 5 .s32 rRRW (reg Reg.SYN_PPSOFS)).in_ 2).keep,
  (ent 0x4150 6 .u32 rRWW (reg Reg.SYN_PPSOUT)).keep,
  ent 0x4150 7 (.octets 16) rRRR (regs [Reg.SYN_STAT, Reg.SYN_FREQ, Reg.SYN_RATE, Reg.SYN_LASTERR]),
  ((ent 0x4160 1 .u16 rRRW (fld1 Reg.UAT_CTL 15 0)).rng 10 65535).keep]

/-- The statistics counters. -/
def dictStats : List DRow := [
  ((ent 0x6000 1 .u32 rRRR (.special (.stat 0))).to 0xF).at_ .main,
  ((ent 0x6001 1 .u32 rRRR (.special (.stat 0x20))).to 6).at_ .main,
  (ent 0x6002 1 .u32 rRRR (regJ Reg.LNK_REJ)).to 6,
  ent 0x6002 7 .u32 rRRR (reg Reg.LNK_PASS),
  ent 0x6002 8 .u32 rRRR (reg Reg.LNK_ACKCNT),
  ent 0x6002 9 .u32 rRRR (reg Reg.LNK_REACKCNT),
  ent 0x6002 0xA .u32 rRRR (reg Reg.LNK_OVRCNT),
  (ent 0x6003 1 .u32 rRRR (regJ fun j => Reg.LNK_RPLCNT + 4 * j)).to 5,
  (ent 0x6004 1 .u32 rRRR (regJ fun j => Reg.DCB_REFCNT + 4 * j)).to 3,
  (ent 0x6005 1 .u32 rRRR (regJ fun j => Reg.EPR_HITCNT + 4 * j)).to 6,
  (ent 0x6006 1 .u32 rRRR (regJ fun j => Reg.CIP_TCHIT + 4 * j)).to 3,
  ent 0x6006 4 .u32 rRRR (reg Reg.CIP_ERRCNT),
  ((ent 0x6007 1 .u32 rRRR (.special (.reelSum 0))).to 4).at_ .main,
  (ent 0x6008 1 .u32 rRRR (.special (.memSum false))).at_ .main,
  (ent 0x6008 2 .u32 rRRR (.special (.memSum true))).at_ .main,
  (ent 0x6009 1 .u32 rRRR (regJ fun j => Reg.ODX_REQCNT + 4 * j)).to 5,
  (ent 0x600A 1 .u32 rRRR (regJ fun j => Reg.SYN_PPSCNT + 4 * j)).to 3,
  ent 0x600B 1 .u32 rRRR (reg Reg.SUP_MLCNT),
  ((ent 0x6010 1 .u32 rRRR (.words fun n j => [(Reg.DMD_POOL_MISS (64 * n + j), 4)])).to 0x40).idxs 8 1].map
    fun r => r.in_ 22

/-- Every hardware-defined entry. -/
def dictRows : List DRow :=
  dictTypes ++ dictSys ++ dictSup ++ dictTime ++ dictUpd ++ dictRf ++ dictChz ++ dictLnk ++ dictDcb ++ dictEpr ++ dictRel
    ++ dictOdx ++ dictHost ++ dictStats

/-! ### Lookup (R464, R465) -/

/-- The row serves index `idx`. -/
def DRow.hasIndex (r : DRow) (idx : Nat) : Bool :=
  decide (r.idx ≤ idx) && (idx - r.idx) % r.istep == 0 && decide ((idx - r.idx) / r.istep < r.icnt)

/-- An entry: its row, and which index and sub-index of the row it is. -/
structure Entity where
  row : DRow
  i : Nat
  j : Nat

/-- The rows of an index. -/
def dictIndex (idx : Nat) : List DRow := dictRows.filter fun r => r.hasIndex idx

/-- The entry at an index and sub-index. Sub-index 0 of a record gives the highest sub-index in use. -/
def dictFind (idx sub : Nat) : Option Entity :=
  match (dictIndex idx).find? fun r => decide (r.lo ≤ sub) && decide (sub ≤ r.hi) with
  | some r => some { row := r, i := (idx - r.idx) / r.istep, j := sub - r.lo }
  | none =>
    if sub = 0 ∧ !(dictIndex idx).isEmpty then
      some { row := { ent idx 0 .u8 rRRR (.const (maxL ((dictIndex idx).map fun r => r.hi))) with
                      dom := ((dictIndex idx).map fun r => match r.src with
                        | .fld a _ _ => regDomain (a 0 0)
                        | .words l => regDomain (((l 0 0).headD (0, 0)).1)
                        | .wordsBE l => regDomain ((l 0 0).headD 0)
                        | .cmd a _ => regDomain (a 0)
                        | _ => r.dom).headD .alwaysOn }, i := 0, j := 0 }
    else none

/-- The domain that the entry's block lies in (R470). -/
def Entity.dom (e : Entity) : Domain :=
  match e.row.src with
  | .fld a _ _ => regDomain (a e.i e.j)
  | .words l => regDomain (((l e.i e.j).headD (0, 0)).1)
  | .wordsBE l => regDomain ((l e.i e.j).headD 0)
  | .cmd a _ => regDomain (a e.i)
  | .special .feat => if e.j = 4 then .alwaysOn else .main
  | _ => e.row.dom

/-- The default in the type's encoding (R482): the value at reset of a writable register, a constant's value, else 0.
DESIGN CHOICE (unsafe), log entry 69. -/
def Entity.dflt (e : Entity) : Int :=
  let r := e.row
  match r.src with
  | .const v => v
  | .fld a hi lo =>
    if r.rights = rRRR then 0
    else
      let v := fld (regReset (a e.i e.j)) hi lo
      if r.ty.signed then sext (hi + 1 - lo) v else v
  | .words l =>
    if r.rights = rRRR ∨ 8 < r.ty.size then 0
    else field ((l e.i e.j).flatMap fun x => le x.2 (regReset x.1).toNat) 0 r.ty.size
  | .special .modeReq => 3
  | .special .bootTarget => 4
  | .special .roles => 0x33333333
  | .special .principal => if e.j = 0 then 0xA00003FF else 0
  | .special .baseline => -(2 ^ 31 : Int)
  | _ => 0

end Sys2Proof.Machine
end

