-- ==== Sys2Proof/Machine/Entries.lean ====
section
/-! DEFINITION. Reading, checking and writing the hardware-defined entries of the dictionary (R469, R470, and the entries'
own rules in the chapters). -/

namespace Sys2Proof.Machine

/-- What a dictionary access gives: the state, the status and DETAIL of R488, the value, and the cipher request that the
answer waits for (R483). -/
structure DRes where
  state : State
  status : Nat := 0
  detail : Nat := 0
  value : List Nat := []
  job : Option Nat := none
  deriving DecidableEq, Repr

/-- Status codes of R488. -/
abbrev stNoEntry : Nat := 1
abbrev stNoSub : Nat := 2
abbrev stAccess : Nat := 3
abbrev stType : Nat := 4
abbrev stRange : Nat := 5
abbrev stRefused : Nat := 6
abbrev stBusy : Nat := 7
abbrev stTooBig : Nat := 8
abbrev stSequence : Nat := 9
abbrev stMalformed : Nat := 10
abbrev stHwError : Nat := 11
abbrev stFwTimeout : Nat := 12
abbrev stMode : Nat := 13
abbrev stFull : Nat := 14

/-- The outcome of a block's own command: done, or refused with its cause. -/
def DRes.ofCause (r : State × Nat) : DRes := if r.2 = 0 then { state := r.1 } else { state := r.1, status := stRefused, detail := r.2 }

/-- A refusal that changes nothing (R469). -/
def dictRefuse (s : State) : DRes := { state := s, status := stRefused }

/-- A read that met an uncorrectable error in memory m (R454). -/
def dictHwError (s : State) (m : Nat) : DRes := { state := s, status := stHwError, detail := m }

/-- A list cut or padded with zeros to `n`. -/
def fit (n : Nat) (l : List Nat) : List Nat := l.take n ++ List.replicate (n - l.length) 0

/-! ### Reading -/

/-- The schedule entry, or the HOST slot, that a row's entry names. -/
def Entity.nth (e : Entity) (base : Nat) : Nat := (e.row.idx + e.i - base) * 255 + e.j

/-- The KEK slot's parameters (R320). -/
def kekEntry (k : KeySlot) : List Nat :=
  if k.st = 0 then List.replicate 72 0
  else [if k.source = 0xFFF then 0xFF else k.source, k.key.length, k.label.length, k.context.length]
    ++ fit 32 k.label ++ fit 32 k.context ++ fit 3 k.kcv ++ [0]

/-- The HOST slot's blob (R320). -/
def hostEntry (k : KeySlot) : List Nat :=
  if k.st = 0 then List.replicate 48 0
  else [k.source % 256, k.usage, k.key.length, 0] ++ fit 40 k.blob ++ fit 3 k.kcv ++ [0]

/-- Table entry k of the subscriptions (R495).
DEDUCED (unsafe), log entry 68. -/
def subEntry (s : State) (k : Nat) : List Nat :=
  match s.odx.subs.find k with
  | some b =>
    [b.prin, b.peer.port] ++ le 2 b.index ++ [b.sub, b.mode] ++ le 2 b.minint ++ le 4 b.period ++ le 8 b.lapse
      ++ fit 16 b.peer.addr ++ le 2 b.peer.udp ++ [0, 0]
  | none => List.replicate 40 0

/-- The slot that holds a component's header: 0 the active image, 1 the previous one, 2 the staged one (R529). -/
def State.headerOf (s : State) (c k : Nat) : List Nat :=
  let r := s.comp c
  let w : Option Nat := match k with
    | 0 => some r.active
    | 1 => if r.valid (1 - r.active) then some (1 - r.active) else none
    | _ => if r.staged then some 2 else none
  fit 256 (((w.bind fun w => s.image c w).map fun i => i.hdr).getD [])

/-- The value of an entry whose block has power. -/
def dictGet (s : State) (e : Entity) : DRes :=
  let r := e.row
  let num (n : Nat) : DRes := { state := s, value := le r.ty.size n }
  let val (l : List Nat) : DRes := { state := s, value := l }
  let view (l : List Nat) (f : State → List Nat) : DRes :=
    let u := viewReads s 10 l
    match u.2 with
    | none => { state := u.1, value := f u.1 }
    | some m => dictHwError u.1 m
  match r.src with
  | .const v => num v
  | .fld a hi lo =>
    view [a e.i e.j] fun t =>
      let x := fld (t.regView (a e.i e.j)) hi lo
      r.ty.enc (if r.ty.signed then sext (hi + 1 - lo) x else x)
  | .words l => view ((l e.i e.j).map (·.1)) fun t => (l e.i e.j).flatMap fun x => le x.2 (t.regView x.1).toNat
  | .wordsBE l => view (l e.i e.j) fun t => (l e.i e.j).flatMap fun a => octsBE 4 (t.regView a).toNat
  | .cmd _ _ => num 0
  | .special k =>
    match k with
    | .label => val (fit 32 s.odx.label)
    | .modeReq => num (s.rf Reg.SYS_MODE 11 8)
    | .bootTarget => num s.sys.bootTarget
    | .roles => num (s.rd Reg.SYS_ROLE).toNat
    | .baseline => num s.sup.baseline.toNat
    | .feat => val ((List.range 4).flatMap fun i => le 4 (featWord e.j i).toNat)
    | .calTime =>
      let t := s.calNow
      val (octs7 t.year t.month t.day t.hour t.min t.sec ++ [calDow t.year t.month t.day])
    | .stat base => num (s.lnk.stats.get (base + e.j) 0).toNat
    | .sched =>
      let n := e.nth 0x2860
      let t := s.readReport 10 11 (16 * n) 16
      if s.readable 11 (16 * n) 16 then { state := t, value := s.entry n } else dictHwError t 11
    | .backup =>
      let t := s.readReport 10 13 0 256
      if s.readable 13 0 256 then { state := t, value := (List.range 256).map fun o => (s.readByte 13 o).toNat }
      else dictHwError t 13
    | .bucket =>
      let t := bucketShown (s.wr Reg.DCB_BSEL (word (e.i * 2 ^ 24 + e.j)))
      { state := t.wr Reg.DCB_BSEL (s.rd Reg.DCB_BSEL), value := le r.ty.size ((t.bucketSel.map fun b => b.us).getD 0) }
    | .installKcv => val (fit 3 (s.slot 0).kcv)
    | .depths => val ((List.range 8).map s.queueDepth)
    | .kek =>
      if s.slotReadable (e.j + 1) then { state := s.readReport 10 9 (128 * (e.j + 1)) 128, value := kekEntry (s.slot (e.j + 1)) }
      else dictHwError (s.slotError (e.j + 1)) 9
    | .host =>
      let n := 16 + e.nth 0x3120
      if s.slotReadable n then { state := s.readReport 10 9 (128 * n) 128, value := hostEntry (s.slot n) }
      else dictHwError (s.slotError n) 9
    | .reelSum _ =>
      let a (n : Nat) : Nat := match e.j with
        | 0 => Reg.REL_ROVFCNT n
        | 1 => Reg.REL_RREWCNT n
        | 2 => Reg.REL_RDROPCNT n
        | _ => Reg.REL_RUNDCNT n
      num (((List.range 32).map fun n => (s.rd (a n)).toNat).foldl (· + ·) 0)
    | .memSum ue =>
      num (((List.range 15).map fun m => (s.rd (if ue then Reg.MEM_UECNTM m else Reg.MEM_CECNT m)).toNat).foldl (· + ·) 0)
    | .batchIp =>
      val (if s.rb (Reg.ETH_BCFG e.i) 29 then (List.range 4).flatMap fun k => octsBE 4 (s.rd (Reg.ETH_BDIP6 e.i k)).toNat
        else fit 16 (octsBE 4 (s.rd (Reg.ETH_BDIP4 e.i)).toNat))
    | .header k => val (s.headerOf (e.j + 1) k)
    | .resetCount => num (min s.upd.resets 65535)
    | .resetItem =>
      let x := s.upd.resetList.getD e.j (0, 0, 0)
      num (x.1 * 65536 + x.2.1 * 256 + x.2.2)
    | .principal => num (s.rd (Reg.ODX_P_CFG e.j)).toNat
    | .subscription => val (subEntry s e.j)
    | .typeSize => num (Machine.typeSize (e.i + 1))
    | .typeName => val (fit 8 (ascii (Machine.typeName (e.i + 1))))
    | .resetCore => num 0
    | .calSet => num 0
    | .fireRoute => num 0
    | .enqueue => num 0
    | .withdraw => num 0
    | .apply => num 0
    | .preset _ => num 0
    | .submit => num 0
    | .release => num 0
    | .seed => num 0
    | .buffer => num 0
    | .readRecord => num 0
    | .stageBegin => num 0
    | .stageChunk => num 0
    | .stageFinish => num 0
    | .stageAbort => num 0
    | .unstage => num 0
    | .revoke => num 0
    | .saveNow => num 0
    | .erase => num 0

/-- The entry's block has power (R470). -/
def State.entityOn (s : State) (e : Entity) : Bool :=
  match e.dom with
  | .backup => s.aonOn
  | .alwaysOn => s.aonOn
  | .main => s.mainOn
  | .rf => s.rfOn

/-- The place of an entry in the maps of stored and reset values. -/
def Entity.key (e : Entity) : Nat := (e.row.idx + e.row.istep * e.i) * 256 + e.row.lo + e.j

/-- The value of an entry (R470): of an unpowered block, the value stored for it, if there is one. -/
def dictRead (s : State) (e : Entity) : DRes :=
  if s.entityOn e then dictGet s e
  else
    match s.odx.stored.find e.key with
    | some v => { state := s, value := v }
    | none => { state := s, status := stMode, detail := s.mode }

/-! ### The range check (R469) -/

/-- Words of a row with the octets that a value gives each. -/
def splitWords : List (Nat × Nat) → List Nat → List (Nat × Nat × Nat)
  | [], _ => []
  | (a, k) :: t, v => (a, k, field v 0 k) :: splitWords t (v.drop k)

/-- A value with no bit set that the register does not write or clear (R469).
DEDUCED (unsafe), log entry 70. -/
def layoutOk (a n : Nat) : Bool := n &&& (regRW a ||| regW1C a) == n

/-- The low `n` octets from `o` on are zero.
DESIGN CHOICE (unsafe), log entry 61. -/
def zerosAt (v : List Nat) (o n : Nat) : Bool := ((v.drop o).take n).all fun b => b == 0

/-- A key length of R320.
DESIGN CHOICE (unsafe), log entry 61. -/
def keyLenOk (n : Nat) : Bool := n == 16 || n == 32

/-- External PA in use on chain n (OD 0x21n0.02) as the next power-up of the RF domain will leave it: the value held for the entry, else
the one that stands.
DEDUCED (unsafe), log entry 70. -/
def State.extPa (s : State) (n : Nat) : Bool :=
  match if s.rfOn then none else s.odx.stored.find ((0x2100 + 16 * n) * 256 + 2) with
  | some v => v.getD 0 0 == 1
  | none => s.rb (Reg.RFC_CTL n) 4

/-- The value lies in the entry's range, and is a value of its layout.
DEDUCED (unsafe), log entry 70. -/
def dictInRange (s : State) (e : Entity) (v : List Nat) : Bool :=
  let r := e.row
  let x := r.ty.dec v
  let n := field v 0 r.ty.size
  let plain := !r.ty.numeric
    || (if r.set.isEmpty then decide (r.min ≤ x) && decide (x ≤ r.max) else r.set.contains n)
  plain && (match r.src with
    | .fld a _ _ =>
      if a e.i e.j = Reg.RFC_TXPWR e.i then decide (x ≤ 56) || s.extPa e.i
      else if a e.i e.j = Reg.DCB_BAUX e.i then decide (n ≤ (s.rd (Reg.DCB_BLIM e.i)).toNat)
      else true
    | .words l => (splitWords (l e.i e.j) v).all fun w => layoutOk w.1 w.2.2
    | .special .roles => (List.range 8).all fun k => decide (nfld n (4 * k + 3) (4 * k) ≤ 4)
    | .special .principal => layoutOk (Reg.ODX_P_CFG e.j) n
    | .special .sched =>
      decide (nfld (field v 12 4) 23 20 ≤ 1) && !(field v 8 4).testBit 18 && !(field v 12 4).testBit 16
    | .special .kek =>
      v.all (· == 0) || (keyLenOk (v.getD 1 0) && decide (v.getD 2 0 ≤ 32) && decide (v.getD 3 0 ≤ 32) && v.getD 71 0 == 0)
    | .special .host =>
      v.all (· == 0) || (decide (v.getD 1 0 < 32) && keyLenOk (v.getD 2 0) && v.getD 3 0 == 0 && v.getD 47 0 == 0
        && zerosAt v (12 + v.getD 2 0) (32 - v.getD 2 0))
    | _ => true)

/-! ### Writing -/

/-- A register's word with its low `k` octets replaced: the other writable bits as they stand, no bit that clears. -/
def laneWord (s : State) (a k n : Nat) : Word :=
  if k = 4 then word n else setFld (s.regView a &&& word (regRW a)) (8 * k - 1) 0 n

/-- A word to write, and the bits of it that the write must set. -/
structure RegWrite where
  a : Nat
  v : Word
  mask : Nat
  deriving DecidableEq, Repr

/-- The register accepts the word: every writable bit of it takes the value written. A CAL write takes effect at its crystal
edge (R387), and a reel's disabling at the end of the tick; what they check is checked here.
DEDUCED (unsafe), log entry 70. -/
def RegWrite.took (w : RegWrite) (t : State) : Bool :=
  if w.a / 0x10000 = 0x4004 then
    if w.a = Reg.CAL_TRIM then fld w.v 12 0 != 4096
    else if w.a = Reg.CAL_WAKECFG then wakeCfgOk w.v
    else if w.a = Reg.CAL_ALMTIME then almTimeOk w.v
    else if w.a = Reg.CAL_ALMDATE then almDateOk w.v
    else true
  else if Reg.REL_RCFG 0 ≤ w.a ∧ w.a < Reg.REL_RCFG 32 ∧ w.a % 0x40 = Reg.REL_RCFG 0 % 0x40 ∧ !bit w.v 31 then true
  else ((t.regView w.a ^^^ w.v) &&& word (w.mask &&& regRW w.a)) == 0

/-- The bits by which a block says that it refused or ignored a configuration write (R82, R252, R323, R333, R502). -/
def refusalBits : List (Nat × Nat) :=
  [(Reg.DCB_STAT, 1), (Reg.REL_STAT, 0x1F)] ++ (List.range 8).map (fun n => (Reg.RFC_STAT n, 0x4000))
    ++ (List.range 3).map fun k => (Reg.ETH_STAT k, 0x10)

/-- The state with every bit of `refusalBits` as `b` has it. -/
def State.refusals (s : State) (b : Nat × Nat → Word) : State :=
  refusalBits.foldl (fun (t : State) e => t.wr e.1 ((t.rd e.1 &&& ~~~word e.2) ||| (b e &&& word e.2))) s

/-- The state with the refusals that the blocks of `t` have marked, and with the reel or route of a refusal by REL: the effect that a
refused register write still has (R252, R323, R333, R502). -/
def State.refusedBy (s t : State) : State :=
  let u := s.refusals fun e => s.rd e.1 ||| t.rd e.1
  if t.rf Reg.REL_STAT 4 0 = 0 then u else u.wf Reg.REL_STAT 20 16 (t.rf Reg.REL_STAT 20 16)

/-- Words written as the matching register writes, all or none (R469): a write that the block refuses, or ignores because it is
enabled, is refused though its value be the one that stands.
DEDUCED (unsafe), log entry 70. -/
def putWords (s : State) (l : List RegWrite) : DRes :=
  let t := l.foldl (fun (t : State) w => regWrite t 10 w.a w.v) (s.refusals fun _ => 0)
  if (l.all fun w => w.took t) && refusalBits.all fun e => t.rd e.1 &&& word e.2 == 0 then { state := t.refusals fun e => s.rd e.1 }
  else dictRefuse (s.refusedBy t)

/-- The register writes of a plain entry. The first register of an entry of several holds its enable, which is checked against the
others, so it is written last (R498, R515). -/
def Entity.writes (s : State) (e : Entity) (v : List Nat) : List RegWrite :=
  match e.row.src with
  | .fld a hi lo =>
    let ad := a e.i e.j
    [{ a := ad, v := setFld (s.regView ad &&& word (regRW ad)) hi lo (field v 0 e.row.ty.size),
       mask := (2 ^ (hi + 1 - lo) - 1) * 2 ^ lo }]
  | .words l =>
    ((splitWords (l e.i e.j) v).map fun w => { a := w.1, v := laneWord s w.1 w.2.1 w.2.2, mask := 2 ^ (8 * w.2.1) - 1 }).reverse
  | .wordsBE l =>
    ((l e.i e.j).zipIdx).map fun w => { a := w.1, v := word (numBE ((v.drop (4 * w.2)).take 4)), mask := 2 ^ 32 - 1 }
  | .cmd a w => [{ a := a e.i, v := word w, mask := 0 }]
  | _ => []

/-- The number of the next cipher request of ODX. -/
def odxJob (s : State) : State × Nat := ({ s with odx := { s.odx with seq := s.odx.seq + 1 } }, s.odx.seq)

/-- A write of KEK slot n (R320): a clear, a KDF in the ODX queue, or the refusal with CLASS.
DESIGN CHOICE (unsafe), log entry 61. -/
def kekWrite (s : State) (n : Nat) (v : List Nat) : DRes :=
  let src := v.getD 0 0
  if v.all (· == 0) then { state := s.cipEnqueue { q := 8, sub := s.slate, origin := .clear n } }
  else if src ≠ 0xFF ∧ n ≤ src then { state := s, status := stRefused, detail := 2 }
  else
    let (s, job) := odxJob s
    let d : CipDesc :=
      { mode := 7, cls := if src = 0xFF then 3 else 0, key := if src = 0xFF then 0 else src, dst := n, toSlot := true,
        len256 := v.getD 1 0 == 32, usage := 3, iv := fit 16 [v.getD 2 0, v.getD 3 0] }
    { state := s.cipInline 6 job d [] ((v.drop 4).take (v.getD 2 0)) ((v.drop 36).take (v.getD 3 0)), job := some job }

/-- A write of HOST slot n (R320): a clear, or a KW-UNWRAP in the ODX queue.
DESIGN CHOICE (unsafe), log entry 61. -/
def hostWrite (s : State) (n : Nat) (v : List Nat) : DRes :=
  if v.all (· == 0) then { state := s.cipEnqueue { q := 8, sub := s.slate, origin := .clear n } }
  else
    let (s, job) := odxJob s
    let k := v.getD 0 0
    let len := v.getD 2 0
    let d : CipDesc :=
      { mode := 6, cls := slotClass k, key := k, dst := n, toSlot := true, len256 := len == 32, usage := v.getD 1 0, len := len }
    { state := s.cipInline 6 job d ((v.drop 4).take (len + 8)) [] [], job := some job }

/-- A write of schedule entry n (R211). -/
def schedWrite (s : State) (n : Nat) (v : List Nat) : DRes :=
  let arm := nfld (field v 12 4) 23 20 == 1
  if s.entryFree n then
    let old := s.entry n
    let ctrl := (field v 12 4 &&& 0x000CFFFF) ||| ((Entry.ctrl old).toNat &&& 0xFFF20000)
    let t := s.setEntry n (v.take 12 ++ le 4 ctrl)
    if arm then
      let r := armEntry t n
      if r.2 = 0 then { state := r.1 }
      else
        let kept := if r.2 = 2 then Entry.setCtrl old 31 24 (fld (Entry.ctrl (r.1.entry n)) 31 24) else old
        { state := r.1.setEntry n kept, status := stRefused, detail := r.2 }
    else { state := t }
  else if arm then DRes.ofCause (schedRefused s 1)
  else DRes.ofCause (cancelEntry s n)

/-- A write of a principal's configuration (R491, R494): refused where it would leave no Custodian with a key, and with a KEYSLOT below
16, which the field ignores. -/
def principalWrite (s : State) (p : Nat) (v : Word) : DRes :=
  let t := prinWrite s p v
  if 16 ≤ fld v 11 0 ∧ t.rd (Reg.ODX_P_CFG p) = v ∧ ((List.range 16).any fun q => t.prinOk q && t.rf (Reg.ODX_P_CFG q) 29 28 == 2) then { state := t }
  else dictRefuse s

/-- The write of an entry whose block has power and whose value has passed steps 1-3 of R469.
DEDUCED (unsafe), log entry 70. -/
def dictPut (s : State) (e : Entity) (v : List Nat) : DRes :=
  let n := field v 0 e.row.ty.size
  match e.row.src with
  | .const _ => dictRefuse s
  | .special k =>
    match k with
    | .label => { state := { s with odx := { s.odx with label := fit 32 v } } }
    | .modeReq => DRes.ofCause (modeRequest s n)
    | .bootTarget => { state := { s with sys := { s.sys with bootTarget := n } } }
    | .roles =>
      let r := roleWrite s (word n)
      if r.2 then { state := r.1 } else { state := r.1, status := stRefused, detail := 4 }
    | .baseline => { state := { s with sup := { s.sup with baseline := word n } } }
    | .resetCore => { state := rstWrite s (word (0x64800000 + 2 ^ (8 + n))) }
    | .calSet =>
      let t : CalTime :=
        { year := field v 0 2, month := v.getD 2 0, day := v.getD 3 0, hour := v.getD 4 0, min := v.getD 5 0, sec := v.getD 6 0 }
      if t.valid then
        let s := calBusWrite s 10 Reg.CAL_STIME (word (t.hour * 65536 + t.min * 256 + t.sec))
        let s := calBusWrite s 10 Reg.CAL_SDATE (word (t.month * 256 + t.day))
        { state := calBusWrite (calBusWrite s 10 Reg.CAL_SYEAR (word t.year)) 10 Reg.CAL_COMMIT 1 }
      else dictRefuse s
    | .backup => { state := (s.write 10 13 0 ((fit 256 v).map fun x => BitVec.ofNat 8 x)).1 }
    | .fireRoute => { state := cueFire s (n / 32) (word (2 ^ (n % 32))) }
    | .sched => schedWrite s (e.nth 0x2860) v
    | .enqueue => DRes.ofCause (Machine.enqueue s n)
    | .withdraw => DRes.ofCause (Machine.withdraw s n)
    | .apply =>
      let t := applyGo s
      if s.chz.apply.isNone && t.chz.apply.isSome then { state := t }
      else { state := t, status := stRefused, detail := t.rf Reg.CHZ_APPLYSTAT 11 8 }
    | .preset dwell =>
      let t := presetWrite (s.wb Reg.DCB_STAT 0 false) (if dwell then 16 + e.i else e.i) (word (2 ^ 31 + n))
      if t.rb Reg.DCB_STAT 0 then dictRefuse (s.wb Reg.DCB_STAT 0 true) else { state := t.wb Reg.DCB_STAT 0 (s.rb Reg.DCB_STAT 0) }
    | .submit => DRes.ofCause (odxSheet s)
    | .release =>
      { state := (rangeRelease s (word (if n = 0xFFFF then 3 * 2 ^ 30 else 2 ^ 31 + n))).wr Reg.EPR_LOADCMD (s.rd Reg.EPR_LOADCMD) }
    | .seed =>
      let r := generationSeed (s.wr64 (Reg.EPR_GENSET 0) n) 0x64800001
      DRes.ofCause (((r.1.wr64 (Reg.EPR_GENSET 0) (s.rd64 (Reg.EPR_GENSET 0))).wr Reg.EPR_GENCMD (s.rd Reg.EPR_GENCMD)), r.2)
    | .buffer =>
      let w := s.write 10 14 s.sheetBuffer (ofOcts v)
      if w.2 then { state := w.1 } else dictHwError w.1 14
    | .kek => kekWrite s (e.j + 1) v
    | .host => hostWrite s (16 + e.nth 0x3120) v
    | .batchIp =>
      let t := (List.range 4).foldl (fun (t : State) k =>
        t.wr (Reg.ETH_BDIP6 e.i k) (word (numBE ((v.drop (4 * k)).take 4)))) s
      { state := t.wr (Reg.ETH_BDIP4 e.i) (word (numBE (v.take 4))) }
    | .saveNow => { state := { s with odx := { s.odx with saveReq := true } } }
    | .erase => { state := { s with odx := { s.odx with eraseReq := true } } }
    | .principal => principalWrite s e.j (word n)
    | .feat => dictRefuse s
    | .calTime => dictRefuse s
    | .stat _ => dictRefuse s
    | .bucket => dictRefuse s
    | .installKcv => dictRefuse s
    | .depths => dictRefuse s
    | .reelSum _ => dictRefuse s
    | .memSum _ => dictRefuse s
    | .header _ => dictRefuse s
    | .resetCount => dictRefuse s
    | .resetItem => dictRefuse s
    | .subscription => dictRefuse s
    | .typeSize => dictRefuse s
    | .typeName => dictRefuse s
    | .readRecord => dictRefuse s
    | .stageBegin => dictRefuse s
    | .stageChunk => dictRefuse s
    | .stageFinish => dictRefuse s
    | .stageAbort => dictRefuse s
    | .unstage => dictRefuse s
    | .revoke => dictRefuse s
  | _ => putWords s (Entity.writes s e v)

/-- A persistent entry has been written: the save delay starts (R473).
DESIGN CHOICE (unsafe), log entry 74. -/
def dictDirty (s : State) : State := { s with odx := { s.odx with dirtyAt := some s.slate } }

/-- Half k of LNK.BWIN (0 the nominal half-window, 1 the largest) as the next power-up of the main domain will leave it: the value held
for its entry, else that of the persistent store, else its default. -/
def State.heldWindow (s : State) (k : Nat) : Nat :=
  match s.odx.stored.find (0x2A10 * 256 + 5 + k) <|> s.storeValue 0x2A10 (5 + k) with
  | some v => field v 0 2
  | none => fld (regReset Reg.LNK_BWIN) (16 * k + 15) (16 * k)

/-- A write to an entry of an unpowered block that would leave the largest half-window below the nominal one (R240). -/
def State.heldRefused (s : State) (e : Entity) (v : List Nat) : Bool :=
  if e.key = 0x2A10 * 256 + 5 then decide (s.heldWindow 1 < field v 0 2)
  else if e.key = 0x2A10 * 256 + 6 then decide (field v 0 2 < s.heldWindow 0)
  else false

/-- A write of an entry by a role (R469); to a block without power, its value is held until the domain powers up (R470).
DEDUCED (unsafe), log entry 70. -/
def dictWrite (s : State) (e : Entity) (role : Nat) (v : List Nat) : DRes :=
  let fail (st : Nat) : DRes := { state := s, status := st, detail := if st = stMode then s.mode else 0 }
  let r := e.row
  if !rightOf r.rights role 1 || r.ty == .action then fail stAccess
  else if !s.entityOn e && !(r.pers && s.memOn 14) then fail stMode
  else if !r.ty.fits v then fail stType
  else if !dictInRange s e (r.ty.pad v) then fail stRange
  else
    let v := r.ty.pad v
    if !s.entityOn e then
      if s.heldRefused e v then dictRefuse s
      else { state := dictDirty { s with odx := { s.odx with stored := s.odx.stored.put e.key v } } }
    else
      let d := dictPut s e v
      if d.status = 0 ∧ d.job.isNone ∧ r.pers then
        let t := dictDirty d.state
        { d with state := { t with odx := { t.odx with stored := t.odx.stored.del e.key } } }
      else d

/-- An ACTION by a role and principal (R487), with its argument. -/
def dictAction (s : State) (e : Entity) (role prin : Nat) (arg : List Nat) : DRes :=
  let fail (st : Nat) : DRes := { state := s, status := st, detail := if st = stMode then s.mode else 0 }
  if !rightOf e.row.rights role 1 || e.row.ty != .action then fail stAccess
  else if !s.entityOn e then fail stMode
  else
    match e.row.src with
    | .special .readRecord =>
      if arg.length ≠ 4 then fail stType
      else
        let a := field arg 0 4
        if a = 0 ∨ 33554431 < a then fail stRange
        else match s.recPeek a with
          | .got r => { state := recReport s a, value := r }
          | .ue => dictHwError (recReport s a) (if (s.line a).any fun l => l.dirty then 6 else 14)
    | .special .stageBegin => if arg.length ≠ 256 then fail stType else DRes.ofCause (Machine.stageBegin s prin arg)
    | .special .stageChunk =>
      if arg.length < 5 ∨ 8004 < arg.length then fail stType
      else DRes.ofCause (Machine.stageChunk s prin (field arg 0 4) (arg.drop 4))
    | .special .stageFinish => if arg.isEmpty then DRes.ofCause (Machine.stageFinish s prin) else fail stType
    | .special .stageAbort => if arg.isEmpty then DRes.ofCause (Machine.stageAbort s prin) else fail stType
    | .special .unstage =>
      if arg.length ≠ 1 then fail stType
      else if arg.getD 0 0 = 0 ∨ 4 < arg.getD 0 0 then fail stRange
      else DRes.ofCause (Machine.unstage s (arg.getD 0 0))
    | .special .revoke =>
      if arg.length ≠ 1 then fail stType
      else if 3 < arg.getD 0 0 then fail stRange
      else
        let r := revokeKey s (arg.getD 0 0)
        if r.2 then { state := r.1 } else { state := r.1, status := stRefused }
    | _ => fail stAccess

/-! ### The persistent store (R472-R474, R528) -/

/-- The component that owns an index (R528). -/
def compOf (index : Nat) : Nat :=
  if 0x2800 ≤ index ∧ index ≤ 0x2CFF then 1
  else if 0x2000 ≤ index ∧ index ≤ 0x24FF then 4
  else if 0x5000 ≤ index ∧ index ≤ 0x5FFF then 3
  else 2

/-- The format version of an entry under the running image of its owner (R528). -/
def State.fmtOf (s : State) (index : Nat) : Nat :=
  let c := compOf index
  ((s.image c (s.comp c).active).map fun i => hdrFormat i.hdr (index / 256 % 256)).getD 0

/-- The live value of a persistent entry (R473); none for an EMPTY key slot, a HOST slot that no blob gave, and a value that
cannot be read. -/
def State.liveValue (s : State) (e : Entity) : Option (List Nat) :=
  let skip := match e.row.src with
    | .special .kek => (s.slot (e.j + 1)).st == 0
    | .special .host => (s.slot (16 + e.nth 0x3120)).st != 1
    | _ => false
  if skip then none
  else
    match s.odx.stored.find e.key with
    | some v => some v
    | none => let d := dictGet s e; if d.status = 0 then some d.value else none

/-- Every persistent entry of the hardware, in the order of the tables. -/
def persEntries : List Entity :=
  (dictRows.filter fun r => r.pers).flatMap fun r =>
    (List.range r.icnt).flatMap fun i => (List.range (r.hi + 1 - r.lo)).map fun j => { row := r, i := i, j := j }

/-- The records that a save captures (R472, R473).
DESIGN CHOICE (unsafe), log entry 61. -/
def State.storeRecs (s : State) : List StoreRec :=
  (persEntries.filterMap fun e => (s.liveValue e).map fun v =>
    { index := e.key / 256, sub := e.key % 256, comp := compOf (e.key / 256), fmt := s.fmtOf (e.key / 256), value := v })
  ++ ((s.fwEntries.filter fun d => d.pers).filterMap fun d => (s.peek 5 d.at_ d.size).map fun b =>
    { index := d.index, sub := d.sub, comp := 3, fmt := d.fmt, value := octs b })

/-- A stored value is given to its entry at boot step 10 or at a wake, as the matching register write.
DEDUCED (unsafe), log entry 37. -/
def applyStored (s : State) (e : Entity) (v : List Nat) : State :=
  match e.row.src with
  | .const _ => s
  | .special .kek => s
  | .special .host => s
  | .special .principal => prinWrite s e.j (word (field v 0 4))
  | .special .roles => (roleWrite s (word (field v 0 4))).1
  | .special _ => (dictPut s e v).state
  | .fld a hi lo =>
    if a e.i e.j = Reg.LNK_BWIN then s.wf Reg.LNK_BWIN hi lo (field v 0 2)
    else (Entity.writes s e v).foldl (fun (t : State) w => regWrite t 10 w.a w.v) s
  | _ => (Entity.writes s e v).foldl (fun (t : State) w => regWrite t 10 w.a w.v) s

end Sys2Proof.Machine
end

