-- ==== Sys2Proof/Machine/Odx.lean ====
section
/-! DEFINITION. The dictionary server: verified requests and their operations, subscriptions, and the saves of the persistent
store (spec/19_object_dictionary.md, R472-R493). -/

namespace Sys2Proof.Machine

/-! ### Entries of the hardware and of firmware -/

/-- What a request names (R465, R492). -/
inductive DTarget where
  | hw (e : Entity)
  | fw (d : FwDesc)
  /-- NO_ENTRY or NO_SUB, or HW_ERROR with the memory. -/
  | none (status detail : Nat)

/-- Some descriptor of the firmware table cannot be read.
DEDUCED (unsafe), log entry 75. -/
def State.fwTableBad (s : State) : Bool :=
  (List.range s.fwCount).any fun d =>
    decide (0x10000000 ≤ s.rf Reg.ODX_FWTAB 31 4 * 16) && decide (s.fwBase d + 48 ≤ 0x200000) && (s.fwDesc d).isNone

/-- The entry at an index and sub-index.
DEDUCED (unsafe), log entry 68. DEDUCED (unsafe), log entry 75. -/
def State.target (s : State) (index sub : Nat) : DTarget :=
  if 0x5000 ≤ index ∧ index ≤ 0x5FFF then
    if s.fwTableBad then .none stHwError 5
    else match s.fwFind index sub with
      | some d => .fw d
      | none => .none (if s.fwEntries.any fun d => d.index == index then stNoSub else stNoEntry) 0
  else match dictFind index sub with
    | some e => .hw e
    | none => .none (if (dictIndex index).isEmpty then stNoEntry else stNoSub) 0

/-- The type, the rights and whether the entry may be read. -/
def DTarget.ty : DTarget → DTy
  | .hw e => e.row.ty
  | .fw d => d.ty
  | .none _ _ => .action

def DTarget.rights : DTarget → Nat
  | .hw e => e.row.rights
  | .fw d => d.rights
  | .none _ _ => 0

/-- A role may read the entry. -/
def DTarget.readable (t : DTarget) (role : Nat) : Bool := rightOf t.rights role 0 && t.ty != .action

/-- Octets of the value. -/
def DTarget.size : DTarget → Nat
  | .hw e => e.row.ty.size
  | .fw d => d.size
  | .none _ _ => 0

/-- The value of an entry, without a check of rights. -/
def targetGet (s : State) (t : DTarget) : DRes :=
  match t with
  | .hw e => dictRead s e
  | .fw d =>
    let u := s.readReport 10 5 d.at_ d.size
    match s.peek 5 d.at_ d.size with
    | some b => { state := u, value := octs b }
    | none => dictHwError u 5
  | .none st det => { state := s, status := st, detail := det }

/-- The value of a firmware descriptor's numeric field extended to 8 octets, as its type encodes it. -/
def FwDesc.bound (d : FwDesc) (o : Nat) : Int := if d.ty.signed then sext 64 (field d.octets o 8) else (field d.octets o 8 : Nat)

/-- A write of a firmware entry (R492): steps 1-3 of R469, then the value goes to its address. -/
def fwWrite (s : State) (d : FwDesc) (role : Nat) (v : List Nat) : DRes :=
  let fail (st : Nat) : DRes := { state := s, status := st }
  if !rightOf d.rights role 1 || d.ty == .action then fail stAccess
  else if !d.ty.fits v then fail stType
  else
    let v := d.ty.pad v
    let x := d.ty.dec v
    if (d.ty == .bool && decide (1 < x)) || (d.ty.numeric && !(decide (d.bound 8 ≤ x) && decide (x ≤ d.bound 16))) then fail stRange
    else
      let r := s.write 10 5 d.at_ (ofOcts v)
      if r.2 then
        let t := fwChanged r.1 d.num
        { state := if d.pers then dictDirty t else t }
      else dictHwError r.1 5

/-- A write of an entry by a role. -/
def targetWrite (s : State) (t : DTarget) (role : Nat) (v : List Nat) : DRes :=
  match t with
  | .hw e => dictWrite s e role v
  | .fw d => fwWrite s d role v
  | .none st det => { state := s, status := st, detail := det }

/-- The descriptor of an entry (R482).
DESIGN CHOICE (unsafe), log entry 69. -/
def Entity.descriptor (e : Entity) : List Nat :=
  let r := e.row
  let act := r.ty == .action
  let lo : Int := if r.ty.numeric then r.min else 0
  let hi : Int := if r.ty.numeric then r.max else if act then 0 else (r.ty.size : Nat)
  le 2 (e.key / 256) ++ [e.key % 256, r.ty.code] ++ le 2 r.ty.size ++ [r.rights, b2n r.pers + 2 * b2n act]
    ++ le 8 (toU 64 lo) ++ le 8 (toU 64 hi) ++ le 8 (toU 64 e.dflt) ++ le 2 r.unit
    ++ [match r.ty with | .q _ n => n | _ => 0] ++ [0, 0, 0, 0, 0]

/-! ### Answers -/

/-- The principal under whose key a request is answered, none for the open Observer (R478, R481). -/
def OdpReq.prin (r : OdpReq) : Option Nat := if r.open_.isSome then none else some (odpPrin r.msg)

/-- Something joins what waits for the end of the present tick. -/
def State.odpLater (s : State) (x : OdpLate) : State := { s with odx := { s.odx with late := s.odx.late ++ [x] } }

/-- The answer to request r at its effect tick, with a status, DETAIL, TOTAL and payload: it goes out at the end of the tick, in
service order with those of the reads (R479). -/
def answer (s : State) (r : OdpReq) (status detail total : Nat) (payload : List Nat) : State :=
  s.odpLater (.say r.peer r.prin r.msg s.slateNow status detail total payload)

/-- The answer that a dictionary access gives, at once or when its cipher request is published (R483). -/
def answerRes (s : State) (r : OdpReq) (d : DRes) : State :=
  match d.job with
  | some j => { s with odx := { s.odx with
      waits := s.odx.waits ++ [{ job := j, peer := r.peer, msg := r.msg, tick := s.slate }] } }
  | none => answer s r d.status d.detail 0 (if d.status = 0 then d.value else [])

/-- An answer without payload. -/
def answerStatus (s : State) (r : OdpReq) (status : Nat) : State :=
  answer s r status (if status = stMode then s.mode else 0) 0 []

/-! ### Operations (R482-R487, R493) -/

/-- READ (R482). -/
def opRead (s : State) (r : OdpReq) : State :=
  let t := s.target (odpIndex r.msg) (odpSub r.msg)
  let send (s : State) (v : List Nat) : State :=
    if odpRespMax r.msg < 40 + v.length then answerStatus s r stTooBig else answer s r 0 0 0 v
  match t with
  | .none st det => answer s r st det 0 []
  | _ =>
    if odpFlags r.msg = 1 then
      match t with
      | .hw e => send s e.descriptor
      | .fw d => send s (d.octets.take 40)
      | .none _ _ => s
    else if !t.readable (odpRole r.msg) then answerStatus s r stAccess
    else
      let d := targetGet s t
      if d.status = 0 then send d.state d.value else answer d.state r d.status d.detail 0 []

/-- WRITE (R483). -/
def opWrite (s : State) (r : OdpReq) : State :=
  let d := targetWrite s (s.target (odpIndex r.msg) (odpSub r.msg)) (odpRole r.msg) (odpPayload r.msg)
  answerRes d.state r { d with value := [] }

/-- The entries of a READ-BLOCK, or the status of the first that cannot be read. -/
def blockTargets (s : State) (index role : Nat) : List Nat → Except (Nat × Nat) (List DTarget)
  | [] => .ok []
  | k :: ks =>
    if 255 < k then .error (stNoSub, 0)
    else match s.target index k with
      | .none st det => .error (st, det)
      | t =>
        if !t.readable role then .error (stAccess, 0)
        else match blockTargets s index role ks with
          | .ok l => .ok (t :: l)
          | .error e => .error e

/-- The values of entries, one after the other, or the status of the first that fails. -/
def captureAll : State → List DTarget → State × Except (Nat × Nat) (List Nat)
  | s, [] => (s, .ok [])
  | s, t :: ts =>
    let d := targetGet s t
    if d.status = 0 then
      match captureAll d.state ts with
      | (u, .ok l) => (u, .ok (d.value ++ l))
      | (u, .error e) => (u, .error e)
    else (d.state, .error (d.status, d.detail))

/-- The octets `n` from octet `o` of ODX's own DRAM region as a read by ODX gives them, none where a word of them cannot be read
(R451, R454). -/
def bufferRead (s : State) (o n : Nat) : State × Option (List Nat) := (s.readReport 10 14 o n, (s.peek 14 o n).map octs)

/-- A capture of `v` goes to principal p's read buffer, in place of any earlier one; without usable DRAM it has no place. False where the
buffer does not take it. -/
def captureKeep (s : State) (r : OdpReq) (p : Nat) (v : List Nat) : State × Bool :=
  let s : State := { s with odx := { s.odx with caps := s.odx.caps.del p } }
  if !s.memOn 14 then (s, true)
  else
    let w := s.write 10 14 (s.odxBuffer (2 * p)) (ofOcts v)
    let c : OdpCapture := { index := odpIndex r.msg, sub := odpSub r.msg, count := odpCount r.msg, tick := s.slate, len := v.length }
    if w.2 then ({ w.1 with odx := { w.1.odx with caps := w.1.odx.caps.put p c } }, true) else w

/-- READ-BLOCK (R484).
DESIGN CHOICE (unsafe), log entry 73. -/
def opReadBlock (s : State) (r : OdpReq) : State :=
  let m := r.msg
  let p := odpPrin m
  match blockTargets s (odpIndex m) (odpRole m) ((List.range (odpCount m)).map fun k => odpSub m + k) with
  | .error (st, det) => answer s r st det 0 []
  | .ok ts =>
    if odpOffset m = 0 then
      match captureAll s ts with
      | (s, .error (st, det)) => answer s r st det 0 []
      | (s, .ok v) =>
        let k := captureKeep s r p v
        if k.2 then answer k.1 r 0 0 v.length (v.take (odpRespMax m - 40)) else answer k.1 r stHwError 14 0 []
    else if !s.memOn 14 then answerStatus s r stMode
    else
      match s.odx.caps.find p with
      | some c =>
        if c.index ≠ odpIndex m ∨ c.sub ≠ odpSub m ∨ c.count ≠ odpCount m ∨ c.tick + 320000000 < s.slate then
          answerStatus s r stSequence
        else if c.len ≤ odpOffset m then answerStatus s r stRange
        else
          let b := bufferRead s (s.odxBuffer (2 * p) + odpOffset m) (min (c.len - odpOffset m) (odpRespMax m - 40))
          match b.2 with
          | some v => answer b.1 r 0 0 c.len v
          | none => answer b.1 r stHwError 14 0 []
      | none => answerStatus s r stSequence

/-- Where the segments of a block write to entry `t` by principal p go: its write buffer, or the sheet buffer itself (R485).
DESIGN CHOICE (unsafe), log entry 73. -/
def State.blockBuffer (s : State) (t : DTarget) (p : Nat) : Nat :=
  match t with
  | .hw e => if e.row.src matches .special .buffer then s.sheetBuffer else s.odxBuffer (2 * p + 1)
  | _ => s.odxBuffer (2 * p + 1)

/-- WRITE-BLOCK (R485): a segment takes the principal's open partial value, and only the one that continues it leaves it open.
DESIGN CHOICE (unsafe), log entry 73. -/
def opWriteBlock (s : State) (r : OdpReq) : State :=
  let m := r.msg
  let p := odpPrin m
  let sofar : Option Nat :=
    if odpOffset m = 0 then some 0
    else match s.odx.writes.find p with
      | some w =>
        if w.index = odpIndex m ∧ w.sub = odpSub m ∧ w.len = odpOffset m ∧ s.slate ≤ w.tick + 320000000 then some w.len
        else none
      | none => none
  let s : State := { s with odx := { s.odx with writes := s.odx.writes.del p } }
  let t := s.target (odpIndex m) (odpSub m)
  match t with
  | .none st det => answer s r st det 0 []
  | _ =>
    if !rightOf t.rights (odpRole m) 1 || t.ty == .action then answerStatus s r stAccess
    else if !s.memOn 14 then answerStatus s r stMode
    else
      match sofar with
      | none => answerStatus s r stSequence
      | some n =>
        let len := n + (odpPayload m).length
        let o := s.blockBuffer t p
        if t.size < len then answerStatus s r stType
        else
          let x := s.write 10 14 (o + n) (ofOcts (odpPayload m))
          let s := x.1
          if !x.2 then answer s r stHwError 14 0 []
          else if odpFlags m = 2 then
            let b := bufferRead s o len
            match b.2 with
            | some v => let d := targetWrite b.1 t (odpRole m) v; answerRes d.state r { d with value := [] }
            | none => answer b.1 r stHwError 14 0 []
          else
            let w : OdpWrite := { index := odpIndex m, sub := odpSub m, tick := s.slate, len := len }
            answerStatus { s with odx := { s.odx with writes := s.odx.writes.put p w } } r 0

/-- The subscription that a request names: its principal, its destination and the entry. -/
def State.subMatch (s : State) (r : OdpReq) : Option Nat :=
  (s.odx.subs.find? fun b => b.2.prin == odpPrin r.msg && b.2.peer.port == r.peer.port && b.2.peer.addr == r.peer.addr
    && b.2.peer.udp == r.peer.udp && b.2.index == odpIndex r.msg && b.2.sub == odpSub r.msg).map Prod.fst

/-- SUBSCRIBE (R486).
DEDUCED (unsafe), log entry 71. -/
def opSubscribe (s : State) (r : OdpReq) : State :=
  let m := r.msg
  let b := odpPayload m
  let mode := b.getD 0 0
  let period := field b 4 4
  let lease := field b 8 4
  let t := s.target (odpIndex m) (odpSub m)
  match t with
  | .none st det => answer s r st det 0 []
  | _ =>
    if b.length ≠ 12 then answerStatus s r stType
    else if 3 < mode then answerStatus s r stRange
    else if mode = 0 then
      match s.subMatch r with
      | some k => answer { s with odx := { s.odx with subs := s.odx.subs.del k } } r 0 k 0 []
      | none => answerStatus s r 0
    else if !t.readable (odpRole m) then answerStatus s r stAccess
    else if 1452 < 40 + t.size then answerStatus s r stTooBig
    else if (mode ≠ 2 ∧ (period = 0 ∨ 86400000 < period)) ∨ lease = 0 ∨ 86400 < lease then answerStatus s r stRange
    else
      let old := (s.subMatch r).bind fun k => s.odx.subs.find k
      let x : OdpSub :=
        { prin := odpPrin m, role := odpRole m, peer := r.peer, index := odpIndex m, sub := odpSub m, mode := mode,
          minint := field b 2 2, period := period, lapse := s.slate + lease * 32000000,
          last := old.bind (·.last), lastAt := (old.map (·.lastAt)).getD 0 }
      match (match s.subMatch r with | some k => some k | none => lowest 64 fun k => (s.odx.subs.find k).isNone) with
      | some k => answer { s with odx := { s.odx with subs := s.odx.subs.put k x } } r 0 k 0 []
      | none => answerStatus s r stFull

/-- A firmware ACTION (R493). -/
def fwAction (s : State) (r : OdpReq) (d : FwDesc) : State :=
  let arg := odpPayload r.msg
  if !rightOf d.rights (odpRole r.msg) 1 || d.ty != .action then answerStatus s r stAccess
  else if s.odx.fw.isSome then answerStatus s r stBusy
  else if d.size < arg.length then answerStatus s r stType
  else
    let w := s.write 10 5 d.at_ (ofOcts arg)
    if w.2 then
      let x : OdpWait :=
        { job := 0, peer := r.peer, msg := r.msg, tick := s.slate, value := [d.addr, d.size, arg.length], desc := d.num,
          till := s.slate + s.rf Reg.ODX_FWTO 15 0 * 32000 }
      { w.1 with odx := { w.1.odx with fw := some x } }
    else answer w.1 r stHwError 5 0 []

/-- ACTION (R487). -/
def opAction (s : State) (r : OdpReq) : State :=
  match s.target (odpIndex r.msg) (odpSub r.msg) with
  | .none st det => answer s r st det 0 []
  | .hw e =>
    let d := dictAction s e (odpRole r.msg) (odpPrin r.msg) (odpPayload r.msg)
    if d.status = 0 ∧ odpRespMax r.msg < 40 + d.value.length then answerStatus d.state r stTooBig else answerRes d.state r d
  | .fw d => fwAction s r d

/-! ### Requests at their effect ticks (R478-R481, R490) -/

/-- The request that executes next, with the code of its verification: verified requests in service order, then those of the
open Observer whose tick has come. -/
def State.odxHead (s : State) : Option (OdpReq × Nat) :=
  match (s.cip.done.filterMap fun d =>
      (s.odx.reqs.find? fun r => r.job == d.job && r.open_.isNone).map fun r => (r, d.code)).head? with
  | some x => some x
  | none => (s.odx.reqs.find? fun r => match r.open_ with | some t => decide (t ≤ s.slate) | none => false).map fun r => (r, 0)

/-- The answered key write whose cipher request is published first (R483). -/
def State.odxWait (s : State) : Option (OdpWait × Nat) :=
  (s.cip.done.filterMap fun d => (s.odx.waits.find? fun w => w.job == d.job).map fun w => (w, d.code)).head?

/-- R481: reserved fields and flags that do not belong to the operation, role 3, an operation outside 1-6.
DEDUCED (unsafe), log entry 71. -/
def odpMalformed (m : List Nat) : Bool :=
  let op := odpOp m
  op == 0 || decide (6 < op) || odpRole m == 3 || nfld (m.getD 2 0) 3 2 != 0
    || !(odpFlags m == 0 || (odpFlags m == 1 && op == 1) || (odpFlags m == 2 && op == 4))
    || (if op = 3 then odpCount m == 0 else odpCount m != 0)
    || (op != 3 && op != 4 && odpOffset m != 0) || field m 20 4 != 0
    || (decide (1 ≤ field m 16 2) && decide (field m 16 2 < 64)) || (op == 5 && (odpPayload m).getD 1 0 != 0)

/-- The request is a queue command of LNK: a write of OD 0x2900. -/
def OdpReq.queues (r : OdpReq) : Bool := odpIndex r.msg == 0x2900 && (odpOp r.msg == 2 || odpOp r.msg == 4)

/-- The operation of a request, or the status that keeps it from running. Writes, subscriptions and actions take effect at once;
reads and queue commands wait for the end of the tick (R264, R479).
DEDUCED (unsafe), log entry 71. DEDUCED (unsafe), log entry 76. -/
def odpRun (s : State) (r : OdpReq) : State :=
  let m := r.msg
  let op := odpOp m
  if odpMalformed m then answerStatus s r stMalformed
  else
    let s := s.inc Reg.ODX_REQCNT
    let barred := match r.open_ with
      | some _ => odpRole m != 0 || !(op == 1 || op == 3 || op == 5)
      | none => decide (s.rf (Reg.ODX_P_CFG (odpPrin m)) 29 28 < odpRole m)
    if barred then answerStatus s r stAccess
    else if r.queues then s.odpLater (.queue r)
    else match op with
      | 1 => s.odpLater (.read r)
      | 2 => opWrite s r
      | 3 => s.odpLater (.read r)
      | 4 => opWriteBlock s r
      | 5 => opSubscribe s r
      | _ => opAction s r

/-- The effect tick of request r, verified with `code` (R478, R480).
DEDUCED (unsafe), log entry 71. -/
def odpEffect (s : State) (r : OdpReq) (code : Nat) : State :=
  let s := { s with odx := { s.odx with reqs := s.odx.reqs.filter fun x => x != r } }
  match r.open_ with
  | some _ => odpRun s r
  | none =>
    let s := s.cipCollect r.job
    let m := r.msg
    let p := odpPrin m
    if code = 3 then odpDrop s
    else if code ≠ 0 then s.inc Reg.ODX_AUTHCNT
    else
      let h := (s.rd (Reg.ODX_P_H p)).toNat
      let w := (s.rd (Reg.ODX_P_W p)).toNat
      if (classify h w (odpCtr m)).isSome then s.inc Reg.ODX_REPLAYCNT
      else
        let n := windowNext h w (odpCtr m)
        let s := (s.wr (Reg.ODX_P_H p) (word n.1)).wr (Reg.ODX_P_W p) (word n.2)
        let s := odpRun s r
        if r.peer.port = 0 ∧ (odpOp m = 2 ∨ odpOp m = 4 ∨ odpOp m = 6) then wakeFired s 8 none else s

/-- The answer to a key write, at the publication of its cipher request (R483). -/
def waitDone (s : State) (w : OdpWait) (code : Nat) : State :=
  let s := s.cipCollect w.job
  let s := { s with odx := { s.odx with waits := s.odx.waits.filter fun x => x != w } }
  let s := if code = 0 then dictDirty s else s
  odpRespond s w.peer (some (odpPrin w.msg)) w.msg w.tick (if code = 0 then 0 else stRefused) code 0 []

/-- The command that serves operation `op`: READ serves the operations outside 1-6 too. -/
def odpServes (row op : Nat) : Bool := if 1 ≤ op ∧ op ≤ 6 then op == row else row == 1

/-- The next request, or the next published key write, where it is one of the row's operation.
DESIGN CHOICE (unsafe), log entry 3. -/
def odpServe (row : Nat) (s : State) : State :=
  match s.odxWait with
  | some (w, code) => if odpServes row (odpOp w.msg) then waitDone s w code else s
  | none =>
    match s.odxHead with
    | some (r, code) => if odpServes row (odpOp r.msg) then odpEffect s r code else s
    | none => s

/-! ### The end of a tick (R264, R479) -/

/-- What waited for the end of the tick, taken out. -/
def State.odpTaken (s : State) : State := { s with odx := { s.odx with late := [] } }

/-- The queue commands that wait, in service order; the answer of each takes its place (R264). -/
def odpQueues (s : State) : State :=
  s.odx.late.foldl (fun (t : State) x =>
    match x with
    | .queue r => if odpOp r.msg = 2 then opWrite t r else opWriteBlock t r
    | x => t.odpLater x) s.odpTaken

/-- The answers that are decided go out. -/
def odpSay (s : State) : State :=
  s.odx.late.foldl (fun (t : State) x =>
    match x with
    | .say peer prin msg tick st det tot b => odpRespond t peer prin msg tick st det tot b
    | x => t.odpLater x) s.odpTaken

/-- One thing that waited: a read is carried out, and the answer goes out. -/
def odpAnswer (s : State) (x : OdpLate) : State :=
  match x with
  | .read r => odpSay (if odpOp r.msg = 1 then opRead s r else opReadBlock s r)
  | x => odpSay (s.odpLater x)

/-- The reads that wait, and the answers, in service order (R479). -/
def odpAnswers (s : State) : State := s.odx.late.foldl odpAnswer s.odpTaken

/-! ### Notifications (R486) -/

/-- Subscription k has a sample in the present tick: its periodic one, or its on-change one.
DEDUCED (unsafe), log entry 72. -/
def State.subDue (s : State) (k : Nat) : Bool :=
  match s.odx.subs.find k with
  | some b =>
    let periodic := b.mode != 2 && s.passes (b.period * 32000)
    let d := targetGet s (s.target b.index b.sub)
    let change := b.mode != 1 && s.passes 32000 && d.status == 0 && some d.value != b.last
      && (b.last.isNone || decide (b.lastAt + b.minint * 32000 ≤ s.slate))
    periodic || change
  | none => false

/-- The sample of subscription k: a notification is formed, or skipped.
DEDUCED (unsafe), log entry 72. -/
def notify (s : State) (k : Nat) : State :=
  match s.odx.subs.find k with
  | some b =>
    let d := targetGet s (s.target b.index b.sub)
    let skip (s : State) : State := s.inc Reg.ODX_NSKIP
    let cancel (s : State) : State := { s with odx := { s.odx with subs := s.odx.subs.filter fun e => e.2.prin != b.prin } }
    if (s.rd (Reg.ODX_P_NCTR b.prin)).toNat = 0xFFFFFFFF then cancel s
    else if d.status ≠ 0 then skip d.state
    else
      let s := d.state
      let p : Option Nat := if s.openObs b.prin then none else some b.prin
      if p.isSome ∧ s.queueFull 6 then skip (s.cipFull 6)
      else
        let a := Reg.ODX_P_NCTR b.prin
        let n := (s.rd a).toNat + 1
        let msg := [1, 0x86, b.prin * 16 + b.role, 0] ++ le 4 n ++ le 2 b.index ++ [b.sub, k] ++ le 4 0 ++ le 8 s.slateNow ++ le 4 0
          ++ le 2 d.value.length ++ [0, 0] ++ d.value
        let s := odpEmit (s.wr a (word n)) b.peer p msg skip
        let s := { s with odx := { s.odx with subs := s.odx.subs.put k { b with last := some d.value, lastAt := s.slate } } }
        if n = 0xFFFFFFFF then cancel s else s
  | none => s

/-- The lease of subscription k has ended. -/
def State.lapseDue (s : State) (k : Nat) : Bool :=
  match s.odx.subs.find k with
  | some b => decide (b.lapse ≤ s.slate)
  | none => false

/-! ### Saves (R473, R474) -/

/-- A save can start: QSPI0 has power and no save is in progress. -/
def State.saveReady (s : State) : Bool := s.mainOn && s.odx.saving.isNone

/-- ODX.PSTORE.DELAY has passed since the last persistent write. -/
def State.saveDelayDue (s : State) : Bool :=
  match s.odx.dirtyAt with
  | some t => s.saveReady && decide (t + s.rf Reg.ODX_PSTORE 15 0 * 32000 ≤ s.slate)
  | none => false

/-- A save that was asked for can start. -/
def State.saveCmdDue (s : State) : Bool := s.odx.saveReq && s.saveReady

/-- A save starts: the live values are captured, and the flash operation takes its place (R524).
DESIGN CHOICE (unsafe), log entry 74. -/
def saveStart (s : State) : State :=
  let recs := if s.odx.eraseReq then none else some s.storeRecs
  { s with
    odx := { s.odx with saving := some recs, saveReq := false, dirtyAt := none }
    upd := { s.upd with ops := s.upd.ops ++ [.save] } }

/-- A record as a store area holds it (R472). -/
def StoreRec.octets (r : StoreRec) : List Nat :=
  let n := r.value.length
  le 2 r.index ++ [r.sub, r.comp] ++ le 2 r.fmt ++ le 2 n ++ r.value ++ List.replicate ((4 - n % 4) % 4) 0

/-- A copy as its store area holds it (R472): MAGIC "LDPS", the sequence, the record count, the records, and the CRC-32 of these. -/
def StoreCopy.image (c : StoreCopy) : List Nat :=
  let b := [0x4C, 0x44, 0x50, 0x53] ++ le 4 c.seq ++ le 4 c.recs.length ++ c.recs.flatMap StoreRec.octets
  b ++ le 4 (crc32 b)

/-- What QSPI0 holds: the offset and the octets of each valid copy of the boot record and of the store, and of each image (R517).
DESIGN CHOICE (safe), log entry 38. -/
def State.qspi0 (s : State) : List (Nat × List Nat) :=
  let rec_ (o : Nat) (r : Option BootRec) : List (Nat × List Nat) := (r.map fun x => (o, x.image)).toList
  let store (o : Nat) (c : Option StoreCopy) : List (Nat × List Nat) := (c.map fun x => (o, x.image)).toList
  rec_ 0 s.upd.recA ++ rec_ 0x10000 s.upd.recB ++ store 0x20000 s.odx.copyA ++ store 0xA0000 s.odx.copyB
    ++ [1, 2, 3, 4].flatMap fun c => (List.range 3).flatMap fun w =>
      ((s.image c w).map fun i => (imageAt c w, i.hdr ++ i.body)).toList

/-- The save at the head of QSPI0's operations ends.
DESIGN CHOICE (unsafe), log entry 74. DESIGN CHOICE (unsafe), log entry 82. -/
def saveDone (s : State) (good : Bool) : State :=
  match s.upd.ops.head?, s.odx.saving with
  | some .save, some recs =>
    let s := s.opDone
    let s := { s with odx := { s.odx with saving := none } }
    if !good then s.wb Reg.ODX_STAT 2 true
    else match recs with
      | none => { s with odx := { s.odx with copyA := none, copyB := none, eraseReq := false } }
      | some l =>
        let c : StoreCopy := { seq := ((s.storeCopy.map fun c => c.seq).getD 0) + 1, recs := l }
        if 524288 < c.image.length then s.wb Reg.ODX_STAT 2 true
        else if s.odx.copyA.isSome && s.storeCopy == s.odx.copyA then { s with odx := { s.odx with copyB := some c } }
        else { s with odx := { s.odx with copyA := some c } }
  | _, _ => s

/-! ### Commands -/

/-- ODP_READ (R482), and the answer to an operation outside 1-6 (R481). -/
def execOdpRead (s : State) : Out := .next (odpServe 1 s)

/-- ODP_WRITE (R483). -/
def execOdpWrite (s : State) : Out := .next (odpServe 2 s)

/-- ODP_READ_BLOCK (R484). -/
def execOdpReadBlock (s : State) : Out := .next (odpServe 3 s)

/-- ODP_WRITE_BLOCK (R485). -/
def execOdpWriteBlock (s : State) : Out := .next (odpServe 4 s)

/-- ODP_SUBSCRIBE (R486). -/
def execOdpSubscribe (s : State) : Out := .next (odpServe 5 s)

/-- ODP_ACTION (R487). -/
def execOdpAction (s : State) : Out := .next (odpServe 6 s)

/-- NOTIFICATION_SAMPLE (R486). -/
def execNotificationSample (k : Nat) (s : State) : Out := ok (k < 64) (if s.subDue k then notify s k else s)

/-- SUBSCRIPTION_LAPSE (R486). -/
def execSubscriptionLapse (k : Nat) (s : State) : Out :=
  ok (k < 64) (if s.lapseDue k then { s with odx := { s.odx with subs := s.odx.subs.del k } } else s)

/-- PSTORE_SAVE_DELAY (R473). -/
def execPstoreSaveDelay (s : State) : Out := .next (if s.saveDelayDue then saveStart s else s)

/-- PSTORE_SAVE_CMD (R473). -/
def execPstoreSaveCmd (s : State) : Out := .next (if s.saveCmdDue then saveStart s else s)

/-- PSTORE_SAVE_COMPLETE (R473). -/
def execPstoreSaveComplete (good : Bool) (s : State) : Out := .next (saveDone s good)

end Sys2Proof.Machine
end

