-- ==== Sys2Proof/Machine/Boot.lean ====
section
/-! DEFINITION. The boot ROM's steps (R60), the choice and promotion of images (R525-R527), the restoring of keys and of the
persistent store (R299, R474, R491), and the wake from HIBERNATE (R54). -/

namespace Sys2Proof.Machine

/-! ### The slate (R58) -/

/-- The tick that `t` of the old slate becomes when the slate moves from `old` to `new`.
DESIGN CHOICE (unsafe), log entry 9. -/
def moved (old new t : Nat) : Nat := new + t - old

/-- The slate loaded once, everything that is timed by it keeping its distance.
DESIGN CHOICE (unsafe), log entry 9. -/
def loadSlate (s : State) (new : Nat) : State :=
  let f := moved s.slate new
  let g := s.cue.gpio.map fun p => (p.1, { p.2 with
    since := p.2.since.map f, pulseEnd := p.2.pulseEnd.map f, lastSet := p.2.lastSet.map f, lastClr := p.2.lastClr.map f })
  let tm := s.tmr.map fun t => (t.1, { t.2 with
    t0 := f t.2.t0, cntWrite := t.2.cntWrite.map f, irqAt := t.2.irqAt.map f, stepAt := t.2.stepAt.map f, cueCap := t.2.cueCap.map f })
  let run := s.cip.run.map fun r => { r with start := f r.start, finish := f r.finish }
  let wait (w : OdpWait) : OdpWait := { w with tick := f w.tick, till := f w.till }
  let t : State := { s with
    slate := new
    tmr := tm
    cue := { s.cue with
             pending := s.cue.pending.map (fun c => { c with effect := f c.effect, em := f c.em })
             deferred := s.cue.deferred.map (fun e => { e with em := f e.em }), gpio := g
             aonAt := f s.cue.aonAt, mainAt := f s.cue.mainAt }
    cal := { s.cal with freezeAt := s.cal.freezeAt.map f, winOk := false }
    sup := { s.sup with
      winTick := s.sup.winTick.map f, planTick := f s.sup.planTick, hourAt := new / 115200000000, run := s.sup.run.map fun r =>
        { r with at_ := f r.at_, phase := match r.phase with | .write => .write | .read t => .read (f t) | .window t => .window (f t) } }
    sys := { s.sys with wdogAt := f s.sys.wdogAt }
    syn := { s.syn with sampleAt := f s.syn.sampleAt, edge := none, second := new / 32000000, ppsOut := s.syn.ppsOut.map f, since := s.syn.since.map f }
    cip := { s.cip with run := run, wait := s.cip.wait.map (fun r => { r with sub := f r.sub }),
                        done := s.cip.done.map fun r => { r with tick := f r.tick } }
    lnk := { s.lnk with bcnSec := new / 32000000 }
    reels := s.reels.map fun r => (r.1, { r.2 with opened := r.2.opened.map fun p => { p with last := f p.last } })
    epr := { s.epr with ranges := s.epr.ranges.map fun r => (r.1, { r.2 with dirty := r.2.dirty.map f, sheet := r.2.sheet.map f }) }
    upd := { s.upd with last := f s.upd.last }
    cores := s.cores.map fun c => (c.1, { c.2 with
      chans := c.2.chans.map fun q => (q.1, q.2.map fun m => { m with tick := f m.tick }) })
    host := { s.host with sphAt := f s.host.sphAt, eth := s.host.eth.map fun p => (p.1, { p.2 with
      open_ := p.2.open_.map fun b => (b.1, { b.2 with since := f b.2.since }) }) }
    odx := { s.odx with
      reqs := s.odx.reqs.map (fun r => { r with open_ := r.open_.map f })
      subs := s.odx.subs.map (fun b => (b.1, { b.2 with lapse := f b.2.lapse, lastAt := f b.2.lastAt }))
      waits := s.odx.waits.map wait, fw := s.odx.fw.map wait
      caps := s.odx.caps.map fun c => (c.1, { c.2 with tick := f c.2.tick })
      writes := s.odx.writes.map fun w => (w.1, { w.2 with tick := f w.2.tick })
      dirtyAt := s.odx.dirtyAt.map f } }
  match run with
  | some r => t.wr64 (Reg.CIP_FREE 3 0) r.finish
  | none => t

/-- Step 2: the calendar's time as TAI, or 0.
DESIGN CHOICE (unsafe), log entry 9. -/
def bootSlate (s : State) : State :=
  if s.rb Reg.CAL_STAT 0 || s.rb Reg.CAL_STAT 1 then loadSlate s 0
  else
    let n := s.calNow.seconds * 32000000 + s.rf Reg.CAL_SUBSEC 14 0 * 32000000 / 32768
    (loadSlate s (n % 2 ^ 64)).wb Reg.SYS_BOOTSTAT 3 true

/-! ### DRAM (R451, R452) -/

/-- A fitted capacity that MEM supports. -/
def dramFits (gib : Nat) : Bool := [2, 3, 4, 6, 8].contains gib

/-- Step 5: every DRAM word unwritten, the region registers set and EPR usable. -/
def bootDram (s : State) (x : BootInput) : State :=
  let s := s.clearMem 14
  let s := s.wr Reg.MEM_DCFG (word (x.rate % 4 * 1024 + x.ranks % 4 * 256 + x.dramGib))
  let s := s.wr Reg.MEM_RGSIZE (word (s.dramRg / 2 ^ 20))
  let s := s.wr Reg.MEM_WINBASE (word (s.winBase / 2 ^ 20))
  let s := s.wr Reg.MEM_WINSIZE (word ((s.dramOctets - s.winBase) / 2 ^ 20))
  let s := s.wr Reg.EPR_LIMIT (word (s.dramRg / 64 - 1))
  (s.wb Reg.MEM_STAT 0 true).wb Reg.EPR_STAT 0 true

/-! ### Images (R525-R527) -/

/-- The slots of the four components' active images. -/
def State.activeSet (s : State) : List Nat := (List.range 4).map fun i => (s.comp (i + 1)).active

/-- The set, a slot (or 2, the rough cut) per component, is compatible (R526). -/
def State.compatible (s : State) (w : List Nat) : Bool :=
  let h := (List.range 4).map fun i => (s.image (i + 1) (w.getD i 0)).map fun x => x.hdr
  (List.range 4).all fun i => (List.range 4).all fun j =>
    i == j || (match h.getD i none, h.getD j none with
      | some a, some b =>
        decide ((hdrCompat a (j + 1)).1 ≤ hdrVersion b) && decide (hdrVersion b ≤ (hdrCompat a (j + 1)).2)
      | _, _ => false)

/-- Promotion of component c (R525): the second part says that it failed. -/
def promote (s : State) (c : Nat) : State × Bool :=
  let r := s.comp c
  if !r.staged then (s, false)
  else
    match s.image c 2 with
    | some i =>
      if s.imageOk c 2 && s.compatible (s.activeSet.set (c - 1) 2) then
        let to_ := 1 - r.active
        let r' : CompRec := if to_ = 0 then { active := 0, valid0 := true, valid1 := true } else { active := 1, valid0 := true, valid1 := true }
        let t := (s.setImage c to_ i).setComp c r'
        (({ t with upd := { t.upd with promoted := t.upd.promoted ++ [c] } }).wb Reg.SYS_BOOTSTAT 0 true, false)
      else (s.setStaged c false, true)
    | none => (s.setStaged c false, true)

/-- The component's record with slot w not valid.
DESIGN CHOICE (unsafe), log entry 36. -/
def CompRec.drop (r : CompRec) (w : Nat) : CompRec := if w = 0 then { r with valid0 := false } else { r with valid1 := false }

/-- Step 7 for component c: false where no image verifies (R527). -/
def verifyImage (s : State) (c : Nat) : State × Bool :=
  let r := s.comp c
  if s.imageOk c r.active then (s, true)
  else
    let r := r.drop r.active
    let other := 1 - r.active
    if r.valid other && s.imageOk c other then ((s.setComp c { r with active := other }).wb Reg.SYS_BOOTSTAT 1 true, true)
    else (s.setComp c r, false)

/-- Step 7: false where a component has no image that verifies. -/
def verifyImages (s : State) : State × Bool :=
  [1, 2, 3, 4].foldl (fun (x : State × Bool) c => let y := verifyImage x.1 c; (y.1, x.2 && y.2)) (s, true)

/-- A set may be used: its images are valid, verify and are compatible (R527). -/
def State.setOk (s : State) (w : List Nat) : Bool :=
  ((List.range 4).all fun i => (s.comp (i + 1)).valid (w.getD i 0) && s.imageOk (i + 1) (w.getD i 0)) && s.compatible w

/-- Step 8: false where no set is compatible.
DESIGN CHOICE (unsafe), log entry 36. -/
def chooseSet (s : State) : State × Bool :=
  let a := s.activeSet
  let back (p : Nat → Bool) : List Nat := a.zipIdx.map fun x => if p (x.2 + 1) then 1 - x.1 else x.1
  if s.setOk a then (s, true)
  else
    match [back fun c => s.upd.promoted.contains c, back fun _ => true].find? s.setOk with
    | some w =>
      let t := s.setComps fun c =>
        let r := s.comp c
        let n := w.getD (c - 1) 0
        if n = r.active then r else { r.drop r.active with active := n }
      (t.wb Reg.SYS_BOOTSTAT 1 true, true)
    | none => (s, false)

/-- The RF calibration tables of component 4's active image become the live values of every chain.
DESIGN CHOICE (safe), log entry 91. -/
def loadTables (s : State) : State :=
  let body := ((s.image 4 (s.comp 4).active).map fun i => i.body).getD []
  let live := (List.range 8).foldl (fun (m : SMap Nat) n =>
    [1, 2, 3].foldl (fun (m : SMap Nat) k => m.put (4 * n + k) (Config.rfTable body n k)) m) s.rfs.live
  { s with rfs := { s.rfs with live := live } }

/-- Step 9: the microcode and the RF calibration tables are loaded; DRAM that was kept leaves self-refresh. -/
def loadMicrocode (s : State) : State × Bool :=
  let s := s.wb Reg.MEM_DCFG 16 false
  if s.imageOk 1 (s.comp 1).active && s.imageOk 4 (s.comp 4).active then
    let s := loadTables s
    ({ s with sys := { s.sys with microcode := true } }, true)
  else (s, false)

/-! ### Keys (R298, R299, R491) -/

/-- KEK slot n from its stored entry; false where it cannot be derived. -/
def restoreKek (s : State) (n : Nat) (v : List Nat) : State × Bool :=
  let src := v.getD 0 0
  let len := v.getD 1 0
  let label := (v.drop 4).take (v.getD 2 0)
  let context := (v.drop 36).take (v.getD 3 0)
  let key : Option (List Nat) :=
    if src = 0xFF then if s.cip.rootOk then some rootKey else none
    else if src < n ∧ (s.slot src).st ≠ 0 then some (s.slot src).key
    else none
  match key with
  | some k =>
    if keyLenOk len ∧ 1 ≤ v.getD 2 0 ∧ v.getD 2 0 ≤ 32 ∧ v.getD 3 0 ≤ 32 then
      (s.setSlot n (derivedSlot (kdf k label context len) label context (if src = 0xFF then 0xFFF else src) 3), true)
    else (s, false)
  | none => (s, false)

/-- HOST slot n from its stored entry; false where it does not unwrap. -/
def restoreHost (s : State) (n : Nat) (v : List Nat) : State × Bool :=
  let w := v.getD 0 0
  let len := v.getD 2 0
  let blob := (v.drop 4).take (len + 8)
  if keyLenOk len ∧ (s.slot w).st ≠ 0 ∧ (s.slot w).usage.testBit 1 then
    match kwUnwrap (s.slot w).key blob with
    | some k => (s.setSlot n (loadedSlot k blob w (v.getD 1 0)), true)
    | none => (s, false)
  else (s, false)

/-- The stored records that the running components' formats admit. -/
def State.admitted (s : State) : List StoreRec :=
  ((s.storeCopy.map fun c => c.recs).getD []).filter fun r => r.fmt == s.fmtOf r.index

/-- R299: KEK slots 1-15, then HOST slots 16-1,023, in slot order. -/
def restoreKeys (s : State) : State :=
  let one (s : State) (index sub n : Nat) (f : State → Nat → List Nat → State × Bool) : State :=
    match s.admitted.find? fun r => r.index == index && r.sub == sub with
    | some r => let x := f s n r.value; if x.2 then x.1 else x.1.wb Reg.CIP_STAT 3 true
    | none => s
  let s := (List.range 15).foldl (fun (s : State) i => one s 0x3110 (i + 1) (i + 1) restoreKek) (installKek s)
  (List.range 1008).foldl (fun (s : State) i => one s (0x3120 + i / 255) (i % 255 + 1) (16 + i) restoreHost) s

/-- The bootstrap key (R491). -/
def bootstrapKey (s : State) : State :=
  if (s.slot 1023).st = 0 ∧ (s.slot 0).st ≠ 0 then
    s.setSlot 1023 (derivedSlot (kdf (s.slot 0).key (ascii "LD64-ODP-BOOT") euiOctets 16) (ascii "LD64-ODP-BOOT") euiOctets 0 4)
  else s

/-! ### The persistent store (R54, R106, R474, R528) -/

/-- The records in the order in which they are applied: by index, and the sub-indices of an index from the highest down, so
that what an enable is checked against is in place before it; those of an Ethernet port from the lowest up, since its batch
configuration is checked against its control register.
DEDUCED (unsafe), log entry 37. -/
def recLe (a b : StoreRec) : Bool :=
  decide (a.index < b.index)
    || (a.index == b.index && (if 0x4100 ≤ a.index ∧ a.index ≤ 0x4102 then decide (a.sub ≤ b.sub) else decide (b.sub ≤ a.sub)))

/-- The entry of a record, where it is persistent, its size fits and its block lies in a domain for which `p` holds. -/
def StoreRec.entry (r : StoreRec) (p : Domain → Bool) : Option Entity :=
  (dictFind r.index r.sub).filter fun e => e.row.pers && p e.dom && r.value.length == e.row.ty.size

/-- The value that an entry takes by default (R474): what it reads right after a reset of every domain. -/
def Entity.default (e : Entity) : List Nat := (dictGet State.reset e).value

/-- The stored values of the entries whose block lies in a domain for which `p` holds. A record of another format gives its entry the
default, and is listed where `list` says so (R528), by index and sub-index.
DEDUCED (unsafe), log entry 37. -/
def applyStore (s : State) (p : Domain → Bool) (list : Bool) : State :=
  let recs := (s.storeCopy.map fun c => c.recs).getD []
  let other := recs.filter fun r => r.fmt != s.fmtOf r.index && (r.entry p).isSome
  let t := if list then (sortBy (fun a b : StoreRec => decide (256 * a.index + a.sub ≤ 256 * b.index + b.sub)) other).foldl
      (fun (s : State) r => (listReset s r.index r.sub (compOf r.index)).wb Reg.SYS_BOOTSTAT 2 true) s else s
  (sortBy recLe recs).foldl (fun (s : State) r =>
    match r.entry p with
    | some e => applyStored s e (if r.fmt = s.fmtOf r.index then r.value else e.default)
    | none => s) t

/-- Every persistent entry of a block in a domain for which `p` holds takes its default (R474); a key slot has none. -/
def applyDefaults (s : State) (p : Domain → Bool) : State :=
  (persEntries.filter fun e => p e.dom).foldl (fun (s : State) e => applyStored s e e.default) s

/-- The domain of a held entry. -/
def heldDomain (x : Nat × List Nat) : Option Domain := (dictFind (x.1 / 256) (x.1 % 256)).map fun e => e.dom

/-- The entries written while their domains were off (R470), of the domains for which `p` holds; they are then held no longer.
DEDUCED (unsafe), log entry 37. -/
def applyHeld (s : State) (p : Domain → Bool) : State :=
  let mine (x : Nat × List Nat) : Bool := (heldDomain x).any p
  let t := (sortBy recLe ((s.odx.stored.filter mine).map fun x =>
      { index := x.1 / 256, sub := x.1 % 256, comp := 0, fmt := 0, value := x.2 })).foldl (fun (s : State) r =>
    match dictFind r.index r.sub with
    | some e => applyStored s e r.value
    | none => s) s
  { t with odx := { t.odx with stored := s.odx.stored.filter fun x => !mine x } }

/-- The persistent store, then what was held, for the domains that `p` names. The two half-windows of LNK.BWIN come one after the other
and are checked as a pair at the end (R240).
DEDUCED (unsafe), log entry 37. -/
def applyAll (s : State) (p : Domain → Bool) (list : Bool) : State :=
  let t := applyHeld (applyStore s p list) p
  if t.rf Reg.LNK_BWIN 15 0 = 0 ∨ t.rf Reg.LNK_BWIN 31 16 < t.rf Reg.LNK_BWIN 15 0 then t.wr Reg.LNK_BWIN (s.rd Reg.LNK_BWIN) else t

/-- The RF domain has powered up: what was held for its blocks is applied (R470). -/
def rfHeld (s : State) : State :=
  if s.rfOn && s.odx.stored.any (fun x => heldDomain x == some .rf) then applyHeld s fun d => d == .rf else s

/-- The apply of every chain and of the profile table that follows (R106): an ordinary apply at once, so that CHZ.APPLY shows its
CHAINS and PROF.
DESIGN CHOICE (unsafe), log entry 92. -/
def bootApply (s : State) : State :=
  let s := s.plainWrite Reg.CHZ_APPLY 0x1FF
  match s.applyFault 255 true with
  | some f => applyRefused s f
  | none => applyCommit (s.wb Reg.CHZ_APPLYSTAT 3 true) { chains := 255, prof := true, at_ := s.slate }

/-- Domains that a wake and a MAIN reset restart. -/
def restarted (d : Domain) : Bool := d == .main || d == .rf

/-- The domains that the reset before step 10 has left as they were: their entries do not stand at their defaults yet. -/
def State.unreset (s : State) (d : Domain) : Bool := d == .backup || (s.sys.mainBoot && d == .alwaysOn)

/-- Step 10: false where neither copy of the store is valid. A MAIN reset keeps the key slots, so no key is restored there (R295).
DEDUCED (unsafe), log entry 37. -/
def bootStore (s : State) : State × Bool :=
  let all := !s.sys.mainBoot
  let s : State := { s with upd := { s.upd with resets := 0, resetList := [] }, odx := { s.odx with fwChecked := false } }
  let s := if all then restoreKeys s else s
  let good := s.storeCopy.isSome
  let s := applyAll (if good then s else applyDefaults s s.unreset) (fun _ => true) true
  let s := bootApply s
  let s : State := { s with dcb := { s.dcb with kept := [] } }
  (bootstrapKey (if good then s else s.wb Reg.SYS_BOOTSTAT 2 true), good)

/-! ### The cores (R521) -/

/-- The active image of component c is loaded; its entry point, none where there is no image. -/
def loadImage (s : State) (c : Nat) : State × Option Nat :=
  match s.image c (s.comp c).active with
  | some i => (loadSections s c i.body, some (hdrEntry i.hdr))
  | none => (s, none)

/-- The application cores start at `entry`.
DESIGN CHOICE (unsafe), log entry 36. -/
def startApps (s : State) (entry : Nat) : State :=
  (List.range 4).foldl (fun (s : State) k => s.setCore k { coreStart entry with on := true }) s

/-- The application cores start from component 3's image: false where it is missing. -/
def loadApps (s : State) : State × Bool :=
  match loadImage s 3 with
  | (s, some e) => (startApps s e, true)
  | (s, none) => (s, false)

/-- Step 11: false where an image is missing. A MAIN reset does not reach KSS, which runs on (R403).
DESIGN CHOICE (unsafe), log entry 36. -/
def startCores (s : State) : State × Bool :=
  if s.sys.mainBoot then loadApps s
  else
  match loadImage s 2 with
  | (s, some e) =>
    loadApps (s.setCore 4 { coreStart e with on := true, chans := (s.core 4).chans })
  | (s, none) => (s, false)

/-! ### The target mode (R61) -/

/-- Step 13, from SERVICE; a mode that was asked for meanwhile stands.
DESIGN CHOICE (unsafe), log entry 35. -/
def enterTarget (s : State) : State :=
  let go (s : State) (m : Nat) : State :=
    if s.mode ≠ 3 ∨ s.rb Reg.SYS_MODE 12 then s
    else
      let c := s.targetCause m
      if c ≠ 0 then (modeRefused (transDone (stepTo s 2)) c).1
      else moveBegin (s.wf Reg.SYS_MODE 11 8 m) m (move 3 m)
  match s.sys.bootSel with
  | 0 => go s s.sys.bootTarget
  | 1 => s
  | 2 => go s 2
  | _ => let t := go s 7; { t with sys := { t.sys with testToBoot := t.sys.trans.isSome } }

/-! ### The sequence (R60) -/

/-- What a step gives: the state, its error code (0 for none), and whether the boot goes on.
DESIGN CHOICE (unsafe), log entry 3. DESIGN CHOICE (unsafe), log entry 35. DESIGN CHOICE (unsafe), log entry 36. DESIGN CHOICE
(unsafe), log entry 88. -/
def bootStep (s : State) (x : BootInput) : State × Nat × Bool :=
  let res (r : State × Bool) (err : Nat) (on : Bool) : State × Nat × Bool := if r.2 then (r.1, 0, true) else (r.1, err, on)
  match s.sys.boot with
  | 1 => (s, 0, true)
  | 2 => (let t := bootSlate s; powerChains { t with sys := { t.sys with boot := 3 } }, 0, true)
  | 3 => ({ s with sys := { s.sys with bootSel := x.bootSel } }, 0, true)
  | 4 => res (s, x.flash) 0x10 false
  | 5 => if dramFits x.dramGib ∧ 1 ≤ x.rate ∧ x.rate ≤ 3 then (bootDram s x, 0, true) else (s, 0x20, false)
  | 6 =>
    let s : State := { s with upd := { s.upd with promoted := [] } }
    if s.sys.bootSel = 1 then (s, 0, true)
    else
      let r := [1, 2, 3, 4].foldl (fun (r : State × Bool) c => let p := promote r.1 c; (p.1, r.2 && !p.2)) (s, true)
      res r 0x30 true
  | 7 => res (verifyImages s) 0x31 false
  | 8 => res (chooseSet s) 0x32 false
  | 9 => res (loadMicrocode s) 0x40 false
  | 10 => res (bootStore s) 0x50 true
  | 11 => res (startCores s) 0x51 false
  | 12 => if s.sys.mainBoot then (s, 0, true) else res (loadStart s) 0x60 true
  | _ => (enterTarget s, 0, true)

/-- The boot ROM completes a step, or stops at it: STEP, ERR and the console line (R60, R508).
DESIGN CHOICE (unsafe), log entry 35. -/
def bootNext (s : State) (x : BootInput) : State :=
  let n := s.sys.boot
  let (t, err, on) := bootStep s x
  let t := if err ≠ 0 then t.wf Reg.SYS_BOOTSTAT 23 16 err else t
  if on then
    let t := uatBootLine (t.wf Reg.SYS_BOOTSTAT 31 24 n) n err
    { t with sys := { t.sys with boot := if 13 ≤ n then 0 else n + 1, mainBoot := t.sys.mainBoot && decide (n < 13) } }
  else { t with sys := { t.sys with boot := 0 } }

/-- BOOT_SEQUENCE (R60): the boot ROM's next step. It runs on KSS, so not where TEST prevents boot (R555) or KSS has locked up (R414). -/
def execBootSequence (x : BootInput) (s : State) : Out :=
  ok (x.bootSel < 4) (if s.aonOn ∧ s.sup.started ∧ s.sys.boot ≠ 0 ∧ !s.sys.testPin ∧ !(s.core 4).lockup then bootNext s x else s)

/-! ### The wake (R54) -/

/-- Wake steps 1-6: the main domain with DRAM out of self-refresh, the microcode, the persistent store, the application
cores, STANDBY, and the move to WAKEMODE. The microcode is loaded again where the boot had loaded it and its image still verifies, so a
boot that stopped before it leaves R43's cause 3. The verdict counters that HIBERNATE added to stand after the wake.
DESIGN CHOICE (unsafe), log entry 33. DESIGN CHOICE (unsafe), log entry 108. -/
def wakeEnd (s : State) : State :=
  let on := ((mainRegsReset s).wb Reg.MEM_DCFG 16 false).wf Reg.SYS_MODE 3 0 2
  let on : State := { on with cue := { on.cue with mainAt := on.slate }, sys := { on.sys with microcode := false } }
  let held := on.odx.stored.filter fun x => heldDomain x == some .rf
  let on := applyAll (if s.sys.microcode then (loadMicrocode on).1 else on) restarted false
  let on := bootApply { on with dcb := { on.dcb with kept := [] }, odx := { on.odx with stored := held } }
  let on := (loadApps on).1
  let t := stepTo (on.wf Reg.SYS_MODE 3 0 1) 2
  let m := t.sys.wakeTo
  let gen := t.sys.wakeGen
  let req := t.sys.wakeReq
  let t : State := { t with sys := { t.sys with wakeAt := none, wakeReq := false } }
  if m = 2 then transDone t
  else
    let c := if req then 0 else t.targetCause m
    if c ≠ 0 then (modeRefused (transDone t) c).1
    else
      let u := t.setTrans (some { target := m, since := t.slate, second := true })
      { u with sys := { u.sys with wakeGen := gen } }

/-- WAKE_COMPLETE (R54). -/
def execWakeComplete (s : State) : Out := .next (if s.mode = 1 ∧ s.sys.wakeAt.isSome then wakeEnd s else s)

end Sys2Proof.Machine
end

