-- ==== Sys2Proof/Machine/Ks32Alu.lean ====
section
/-! DEFINITION. The arithmetic of the Keasuric instruction set (spec/17_keasuric_instructions.md R429, R437-R442): results
and flags as functions of the operands. -/

namespace Sys2Proof.Machine

/-- N, Z, C and V of STATUS (R405). -/
structure KFlags where
  n : Bool
  z : Bool
  c : Bool
  v : Bool
  deriving DecidableEq, Repr

/-- N and Z from a result, C and V kept ("L", R437). -/
def KFlags.nz (f : KFlags) (r : Word) : KFlags := { f with n := bit r 31, z := r == 0 }

/-- The signed value does not fit in 32 bits. -/
def overflows (i : Int) : Bool := decide (i < -(2 ^ 31)) || decide (2 ^ 31 ≤ i)

/-- ADD and ADDI (R438). -/
def addF (a b : Word) : Word × KFlags :=
  let r := a + b
  (r, { n := bit r 31, z := r == 0, c := decide (2 ^ 32 ≤ a.toNat + b.toNat), v := overflows (a.toInt + b.toInt) })

/-- SUB, NEG, CMP and CMPI (R438): C is the borrow. -/
def subF (a b : Word) : Word × KFlags :=
  let r := a - b
  (r, { n := bit r 31, z := r == 0, c := decide (a.toNat < b.toNat), v := overflows (a.toInt - b.toInt) })

/-- A logic result ("L"). -/
def logicF (f : KFlags) (r : Word) : Word × KFlags := (r, f.nz r)

/-- A shift result with its carry ("S", R439); V is kept. -/
def shiftF (f : KFlags) (r : Word) (c : Bool) : Word × KFlags := (r, { f.nz r with c := c })

/-- LSL of `a` by the unsigned count `n` (R439). -/
def lslF (f : KFlags) (a : Word) (n : Nat) : Word × KFlags :=
  if n = 0 then shiftF f a f.c
  else if n ≤ 31 then shiftF f (a <<< n) (bit a (32 - n))
  else if n = 32 then shiftF f 0 (bit a 0)
  else shiftF f 0 false

/-- LSR (R439). -/
def lsrF (f : KFlags) (a : Word) (n : Nat) : Word × KFlags :=
  if n = 0 then shiftF f a f.c
  else if n ≤ 31 then shiftF f (a >>> n) (bit a (n - 1))
  else if n = 32 then shiftF f 0 (bit a 31)
  else shiftF f 0 false

/-- ASR (R439). -/
def asrF (f : KFlags) (a : Word) (n : Nat) : Word × KFlags :=
  if n = 0 then shiftF f a f.c
  else if n ≤ 31 then shiftF f (a.sshiftRight n) (bit a (n - 1))
  else shiftF f (if bit a 31 then BitVec.allOnes 32 else 0) (bit a 31)

/-- ROR (R439). -/
def rorF (f : KFlags) (a : Word) (n : Nat) : Word × KFlags :=
  if n = 0 then shiftF f a f.c
  else
    let r := a.rotateRight (n % 32)
    shiftF f r (bit r 31)

/-- Leading zero bits of a word, 0-32. -/
def clzW (a : Word) : Nat := ((List.range 32).find? fun i => bit a (31 - i)).getD 32

/-- The results of a divide (R441): quotient, remainder, V, division by zero. -/
structure DivRes where
  q : Word
  r : Word
  v : Bool := false
  dz : Bool := false
  deriving DecidableEq, Repr

/-- DIVS (R441): the quotient truncates toward zero, and the remainder takes the sign of the dividend. -/
def divsF (a b : Word) : DivRes :=
  if b = 0 then { q := if bit a 31 then 0x80000000 else 0x7FFFFFFF, r := a, dz := true }
  else if a = 0x80000000 ∧ b = 0xFFFFFFFF then { q := 0x80000000, r := 0, v := true }
  else { q := BitVec.ofInt 32 (a.toInt.tdiv b.toInt), r := BitVec.ofInt 32 (a.toInt.tmod b.toInt) }

/-- DIVU (R441). -/
def divuF (a b : Word) : DivRes :=
  if b = 0 then { q := 0xFFFFFFFF, r := a, dz := true }
  else { q := word (a.toNat / b.toNat), r := word (a.toNat % b.toNat) }

/-- The condition of Bcc holds (R429): predicate COND [2:0], sense COND [3]. -/
def condHolds (f : KFlags) (cond : Nat) : Bool :=
  let p := match cond % 8 with
    | 0 => f.z
    | 1 => f.c
    | 2 => f.c || f.z
    | 3 => f.n != f.v
    | 4 => f.z || f.n != f.v
    | 5 => f.n
    | 6 => f.v
    | _ => true
  if cond < 8 then p else !p

/-! ### The DSP extension (R442) -/

/-- `v` clamped to `k` bits signed, and whether that changed it. -/
def satF (k : Nat) (v : Int) : Int × Bool :=
  let c := clampI (-(2 ^ (k - 1))) (2 ^ (k - 1) - 1) v
  (c, c != v)

/-- The signed halfword lane `h` (0 low, 1 high) of a word. -/
def lane (a : Word) (h : Nat) : Int := sext 16 (fld a (16 * h + 15) (16 * h))

/-- Two lanes, each clamped to 16 bits. -/
def lanesF (lo hi : Int) : Word × Bool :=
  let l := satF 16 lo
  let h := satF 16 hi
  (word (toU 16 l.1 + 2 ^ 16 * toU 16 h.1), l.2 || h.2)

/-- A value clamped to 32 bits, as a word. -/
def sat32F (v : Int) : Word × Bool := let r := satF 32 v; (BitVec.ofInt 32 r.1, r.2)

/-- The half of ARND (R442). -/
def arndHalf (sh : Nat) : Int := if sh = 0 then 0 else 2 ^ (sh - 1)

/-! ### Address updates (R434-R436) -/

/-- Modulo update of `rb` with base `base`, length `m` and step `d` octets (R435). -/
def moduloNext (rb base : Word) (m : Nat) (d : Int) : Word :=
  let o := (rb - base).toNat
  if m = 0 ∨ m ≤ o then rb + BitVec.ofInt 32 d
  else base + word (((o + d) % (m : Int)).toNat)

/-- `i` with the order of its low `n` bits reversed. -/
def revBits (n i : Nat) : Nat := (List.range n).foldl (fun r b => 2 * r + (i >>> b) % 2) 0

/-- Bit-reversed update of `rb` over an index field of `n` bits above the `sz` element bits (R436). -/
def bitrevNext (rb : Word) (sz n : Nat) : Word :=
  let i := fld rb (sz + n - 1) sz
  setFld rb (sz + n - 1) sz (revBits n ((revBits n i + 1) % 2 ^ n))

end Sys2Proof.Machine
end

