-- ==== Sys2Proof/Machine/Ks32Decode.lean ====
section
/-! DEFINITION. The encodings of the Keasuric instruction set (spec/17_keasuric_instructions.md R425-R428, R443): from a
fetched word to an instruction, or none for an undefined one. -/

namespace Sys2Proof.Machine

/-- The mnemonics of KS32, the compressed subset last. -/
inductive KOp where
  | add | sub | neg | cmp | and | or | xor | not | mov
  | lsl | lsr | asr | ror | lsli | lsri | asri | rori
  | clz | sextb | sexth | zextb | zexth
  | addi | andi | ori | xori | cmpi | lih | lil
  | ld | lds | st
  | bcc | call | jmp
  | jr | callr | ret | reti | trap | feat | wait
  | mul | mulhs | mulhu | divs | divu
  | addsat | subsat | negsat | addsatH | subsatH | clampH
  | macL | macU | msbL | msbU | macf
  | azero | aload | arnd | agetl | ageth | aput
  | cMov | cAdd | cSub | cAddi | cCmp | cLdwsp | cStwsp | cLdw | cStw | cLsli | cLsri | cAsri | cAnd | cOr
  | cB | cBeq | cBne | cRet | cJr | cCallr
  deriving DecidableEq, Repr

/-- A decoded instruction: its own mnemonic, the 32-bit instruction it stands for (R443), the fields of that instruction,
and its length in octets. -/
structure KIns where
  name : KOp
  op : KOp
  rd : Nat := 0
  rs1 : Nat := 0
  rs2 : Nat := 0
  /-- Immediate, displacement or condition code. -/
  imm : Int := 0
  cond : Nat := 0
  am : Nat := 0
  sz : Nat := 0
  x : Nat := 0
  len : Nat := 4
  deriving DecidableEq, Repr

/-- Which of the register fields of an R word an instruction uses: rd, rs1, rs2 (R426). -/
structure Uses where
  rd : Bool
  rs1 : Bool
  rs2 : Bool
  deriving DecidableEq, Repr

/-- OP 0x00 (R437): the function and its register fields. -/
def arithFn : Nat → Option (KOp × Uses)
  | 0x001 => some (.add, ⟨true, true, true⟩)
  | 0x002 => some (.sub, ⟨true, true, true⟩)
  | 0x003 => some (.neg, ⟨true, true, false⟩)
  | 0x004 => some (.cmp, ⟨false, true, true⟩)
  | 0x010 => some (.and, ⟨true, true, true⟩)
  | 0x011 => some (.or, ⟨true, true, true⟩)
  | 0x012 => some (.xor, ⟨true, true, true⟩)
  | 0x013 => some (.not, ⟨true, true, false⟩)
  | 0x014 => some (.mov, ⟨true, true, false⟩)
  | 0x020 => some (.lsl, ⟨true, true, true⟩)
  | 0x021 => some (.lsr, ⟨true, true, true⟩)
  | 0x022 => some (.asr, ⟨true, true, true⟩)
  | 0x023 => some (.ror, ⟨true, true, true⟩)
  | 0x028 => some (.lsli, ⟨true, true, true⟩)
  | 0x029 => some (.lsri, ⟨true, true, true⟩)
  | 0x02A => some (.asri, ⟨true, true, true⟩)
  | 0x02B => some (.rori, ⟨true, true, true⟩)
  | 0x030 => some (.clz, ⟨true, true, false⟩)
  | 0x031 => some (.sextb, ⟨true, true, false⟩)
  | 0x032 => some (.sexth, ⟨true, true, false⟩)
  | 0x033 => some (.zextb, ⟨true, true, false⟩)
  | 0x034 => some (.zexth, ⟨true, true, false⟩)
  | _ => none

/-- OP 0x1B (R431). TRAP's code takes the place of the three register fields. -/
def controlFn : Nat → Option (KOp × Uses)
  | 0x001 => some (.jr, ⟨false, true, false⟩)
  | 0x002 => some (.callr, ⟨false, true, false⟩)
  | 0x003 => some (.ret, ⟨false, false, false⟩)
  | 0x004 => some (.reti, ⟨false, false, false⟩)
  | 0x005 => some (.trap, ⟨true, true, true⟩)
  | 0x006 => some (.feat, ⟨true, false, true⟩)
  | 0x007 => some (.wait, ⟨false, false, false⟩)
  | _ => none

/-- OP 0x20 (R440). -/
def mulFn : Nat → Option (KOp × Uses)
  | 0x001 => some (.mul, ⟨true, true, true⟩)
  | 0x002 => some (.mulhs, ⟨true, true, true⟩)
  | 0x003 => some (.mulhu, ⟨true, true, true⟩)
  | 0x008 => some (.divs, ⟨true, true, true⟩)
  | 0x009 => some (.divu, ⟨true, true, true⟩)
  | _ => none

/-- OP 0x28 (R442). -/
def dspFn : Nat → Option (KOp × Uses)
  | 0x001 => some (.addsat, ⟨true, true, true⟩)
  | 0x002 => some (.subsat, ⟨true, true, true⟩)
  | 0x003 => some (.negsat, ⟨true, true, false⟩)
  | 0x004 => some (.addsatH, ⟨true, true, true⟩)
  | 0x005 => some (.subsatH, ⟨true, true, true⟩)
  | 0x006 => some (.clampH, ⟨true, true, false⟩)
  | 0x010 => some (.macL, ⟨true, true, true⟩)
  | 0x011 => some (.macU, ⟨true, true, true⟩)
  | 0x012 => some (.msbL, ⟨true, true, true⟩)
  | 0x013 => some (.msbU, ⟨true, true, true⟩)
  | 0x014 => some (.macf, ⟨true, true, true⟩)
  | 0x020 => some (.azero, ⟨true, false, false⟩)
  | 0x021 => some (.aload, ⟨true, true, false⟩)
  | 0x022 => some (.arnd, ⟨true, true, true⟩)
  | 0x023 => some (.agetl, ⟨true, true, false⟩)
  | 0x024 => some (.ageth, ⟨true, true, false⟩)
  | 0x025 => some (.aput, ⟨true, true, true⟩)
  | _ => none

/-- The field of an instruction that must name an accumulator does (R442); a divide's rd is even (R440). -/
def KOp.fieldsOk (op : KOp) (rd rs1 : Nat) : Bool :=
  match op with
  | .divs => rd % 2 == 0
  | .divu => rd % 2 == 0
  | .macL => decide (rd < 2)
  | .macU => decide (rd < 2)
  | .msbL => decide (rd < 2)
  | .msbU => decide (rd < 2)
  | .macf => decide (rd < 2)
  | .azero => decide (rd < 2)
  | .aload => decide (rd < 2)
  | .aput => decide (rd < 2)
  | .arnd => decide (rs1 < 2)
  | .agetl => decide (rs1 < 2)
  | .ageth => decide (rs1 < 2)
  | _ => true

/-- A word of format R whose function is `f` (R426, R427). -/
def decodeR (f : Option (KOp × Uses)) (w : Word) : Option KIns :=
  let rd := fld w 25 21
  let rs1 := fld w 20 16
  let rs2 := fld w 15 11
  match f with
  | some (op, u) =>
    if (u.rd || rd == 0) && (u.rs1 || rs1 == 0) && (u.rs2 || rs2 == 0) && op.fieldsOk rd rs1 then
      some { name := op, op := op, rd := rd, rs1 := rs1, rs2 := rs2 }
    else none
  | none => none

/-- A word of format I (R427): the immediate is signed for ADDI and CMPI; CMPI has rd = 0. -/
def decodeI (op : KOp) (w : Word) : Option KIns :=
  let imm := fld w 15 1
  let signed := op == .addi || op == .cmpi
  if op == .cmpi && fld w 25 21 != 0 then none
  else some { name := op, op := op, rd := fld w 25 21, rs1 := fld w 20 16,
              imm := if signed then sext 15 imm else (imm : Int) }

/-- A word of format U (R427). -/
def decodeU (op : KOp) (w : Word) : Option KIns :=
  if fld w 4 1 = 0 then some { name := op, op := op, rd := fld w 25 21, imm := (fld w 20 5 : Int) } else none

/-- The AM, SZ and X fields of a load or store are allowed on a core, `dsp` telling KSA from KSS (R433, R434, R436). -/
def memFieldsOk (op : KOp) (dsp : Bool) (rd rb am sz x : Nat) : Bool :=
  sz != 3 && (match am with
    | 0 => true
    | 1 => op == .st || rd != rb
    | 2 => op == .st || rd != rb
    | 3 => nfld x 4 0 == 0
    | 4 => dsp && nfld x 9 5 == 0 && decide (1 ≤ nfld x 4 0) && decide (nfld x 4 0 ≤ 16) && decide (sz + nfld x 4 0 ≤ 32)
        && (op == .st || rd != rb)
    | 5 => dsp && (op == .st || rd != rb)
    | _ => false)

/-- A word of format M (R427, R433, R434). -/
def decodeM (op : KOp) (dsp : Bool) (w : Word) : Option KIns :=
  let rd := fld w 25 21
  let rb := fld w 20 16
  let am := fld w 15 13
  let sz := fld w 12 11
  let x := fld w 10 1
  if memFieldsOk op dsp rd rb am sz x then some { name := op, op := op, rd := rd, rs1 := rb, am := am, sz := sz, x := x }
  else none

/-- A 32-bit word on core n (R426-R428). -/
def decode32 (n : Nat) (w : Word) : Option KIns :=
  let dsp := decide (n < 4)
  match fld w 31 26 with
  | 0x00 => decodeR (arithFn (fld w 10 1)) w
  | 0x01 => decodeI .addi w
  | 0x02 => decodeI .andi w
  | 0x03 => decodeI .ori w
  | 0x04 => decodeI .xori w
  | 0x05 => decodeI .cmpi w
  | 0x08 => decodeU .lih w
  | 0x09 => decodeU .lil w
  | 0x10 => decodeM .ld dsp w
  | 0x11 => decodeM .lds dsp w
  | 0x12 => decodeM .st dsp w
  | 0x18 =>
    if fld w 25 22 = 15 then none
    else some { name := .bcc, op := .bcc, cond := fld w 25 22, imm := sext 21 (fld w 21 1) }
  | 0x19 => some { name := .call, op := .call, imm := sext 25 (fld w 25 1) }
  | 0x1A => some { name := .jmp, op := .jmp, imm := sext 25 (fld w 25 1) }
  | 0x1B => decodeR (controlFn (fld w 10 1)) w
  | 0x20 => decodeR (mulFn (fld w 10 1)) w
  | 0x28 => if dsp then decodeR (dspFn (fld w 10 1)) w else none
  | _ => none

/-- A compressed halfword (R443): the halfword 0x0000 is undefined (R426). -/
def decode16 (h : Nat) : Option KIns :=
  let r1 := nfld h 10 6
  let r2 := nfld h 5 1
  let disp : Int := sext 10 (nfld h 10 1)
  if h = 0 then none
  else match nfld h 15 11 with
  | 0 => some { name := .cMov, op := .mov, rd := r1, rs1 := r2, len := 2 }
  | 1 => some { name := .cAdd, op := .add, rd := r1, rs1 := r1, rs2 := r2, len := 2 }
  | 2 => some { name := .cSub, op := .sub, rd := r1, rs1 := r1, rs2 := r2, len := 2 }
  | 3 => some { name := .cAddi, op := .addi, rd := r1, rs1 := r1, imm := sext 5 r2, len := 2 }
  | 4 => some { name := .cCmp, op := .cmp, rs1 := r1, rs2 := r2, len := 2 }
  | 5 => some { name := .cLdwsp, op := .ld, rd := r1, rs1 := 31, sz := 2, x := r2, len := 2 }
  | 6 => some { name := .cStwsp, op := .st, rd := r1, rs1 := 31, sz := 2, x := r2, len := 2 }
  | 7 => some { name := .cLdw, op := .ld, rd := r1, rs1 := r2, sz := 2, len := 2 }
  | 8 => some { name := .cStw, op := .st, rd := r1, rs1 := r2, sz := 2, len := 2 }
  | 9 => some { name := .cLsli, op := .lsli, rd := r1, rs1 := r1, rs2 := r2, len := 2 }
  | 10 => some { name := .cLsri, op := .lsri, rd := r1, rs1 := r1, rs2 := r2, len := 2 }
  | 11 => some { name := .cAsri, op := .asri, rd := r1, rs1 := r1, rs2 := r2, len := 2 }
  | 12 => some { name := .cAnd, op := .and, rd := r1, rs1 := r1, rs2 := r2, len := 2 }
  | 13 => some { name := .cOr, op := .or, rd := r1, rs1 := r1, rs2 := r2, len := 2 }
  | 14 => some { name := .cB, op := .bcc, cond := 7, imm := disp, len := 2 }
  | 15 => some { name := .cBeq, op := .bcc, cond := 0, imm := disp, len := 2 }
  | 16 => some { name := .cBne, op := .bcc, cond := 8, imm := disp, len := 2 }
  | 17 => if r1 = 0 ∧ r2 = 0 then some { name := .cRet, op := .ret, len := 2 } else none
  | 18 => if r2 = 0 then some { name := .cJr, op := .jr, rs1 := r1, len := 2 } else none
  | 19 => if r2 = 0 then some { name := .cCallr, op := .callr, rs1 := r1, len := 2 } else none
  | _ => none

/-- The instruction that a fetched word spells on core n: a word with bit 0 = 0 is a compressed halfword (R425). -/
def decodeKs (n : Nat) (w : Word) : Option KIns :=
  if bit w 0 then decode32 n w else decode16 (fld w 15 0)

/-! ### The encoder (R427, R443) -/

/-- OP, FN and the register fields of a mnemonic of format R (R431, R437, R440, R442). -/
def KOp.rCode : KOp → Option (Nat × Nat × Uses)
  | .add => some (0x00, 0x001, ⟨true, true, true⟩)
  | .sub => some (0x00, 0x002, ⟨true, true, true⟩)
  | .neg => some (0x00, 0x003, ⟨true, true, false⟩)
  | .cmp => some (0x00, 0x004, ⟨false, true, true⟩)
  | .and => some (0x00, 0x010, ⟨true, true, true⟩)
  | .or => some (0x00, 0x011, ⟨true, true, true⟩)
  | .xor => some (0x00, 0x012, ⟨true, true, true⟩)
  | .not => some (0x00, 0x013, ⟨true, true, false⟩)
  | .mov => some (0x00, 0x014, ⟨true, true, false⟩)
  | .lsl => some (0x00, 0x020, ⟨true, true, true⟩)
  | .lsr => some (0x00, 0x021, ⟨true, true, true⟩)
  | .asr => some (0x00, 0x022, ⟨true, true, true⟩)
  | .ror => some (0x00, 0x023, ⟨true, true, true⟩)
  | .lsli => some (0x00, 0x028, ⟨true, true, true⟩)
  | .lsri => some (0x00, 0x029, ⟨true, true, true⟩)
  | .asri => some (0x00, 0x02A, ⟨true, true, true⟩)
  | .rori => some (0x00, 0x02B, ⟨true, true, true⟩)
  | .clz => some (0x00, 0x030, ⟨true, true, false⟩)
  | .sextb => some (0x00, 0x031, ⟨true, true, false⟩)
  | .sexth => some (0x00, 0x032, ⟨true, true, false⟩)
  | .zextb => some (0x00, 0x033, ⟨true, true, false⟩)
  | .zexth => some (0x00, 0x034, ⟨true, true, false⟩)
  | .jr => some (0x1B, 0x001, ⟨false, true, false⟩)
  | .callr => some (0x1B, 0x002, ⟨false, true, false⟩)
  | .ret => some (0x1B, 0x003, ⟨false, false, false⟩)
  | .reti => some (0x1B, 0x004, ⟨false, false, false⟩)
  | .trap => some (0x1B, 0x005, ⟨true, true, true⟩)
  | .feat => some (0x1B, 0x006, ⟨true, false, true⟩)
  | .wait => some (0x1B, 0x007, ⟨false, false, false⟩)
  | .mul => some (0x20, 0x001, ⟨true, true, true⟩)
  | .mulhs => some (0x20, 0x002, ⟨true, true, true⟩)
  | .mulhu => some (0x20, 0x003, ⟨true, true, true⟩)
  | .divs => some (0x20, 0x008, ⟨true, true, true⟩)
  | .divu => some (0x20, 0x009, ⟨true, true, true⟩)
  | .addsat => some (0x28, 0x001, ⟨true, true, true⟩)
  | .subsat => some (0x28, 0x002, ⟨true, true, true⟩)
  | .negsat => some (0x28, 0x003, ⟨true, true, false⟩)
  | .addsatH => some (0x28, 0x004, ⟨true, true, true⟩)
  | .subsatH => some (0x28, 0x005, ⟨true, true, true⟩)
  | .clampH => some (0x28, 0x006, ⟨true, true, false⟩)
  | .macL => some (0x28, 0x010, ⟨true, true, true⟩)
  | .macU => some (0x28, 0x011, ⟨true, true, true⟩)
  | .msbL => some (0x28, 0x012, ⟨true, true, true⟩)
  | .msbU => some (0x28, 0x013, ⟨true, true, true⟩)
  | .macf => some (0x28, 0x014, ⟨true, true, true⟩)
  | .azero => some (0x28, 0x020, ⟨true, false, false⟩)
  | .aload => some (0x28, 0x021, ⟨true, true, false⟩)
  | .arnd => some (0x28, 0x022, ⟨true, true, true⟩)
  | .agetl => some (0x28, 0x023, ⟨true, true, false⟩)
  | .ageth => some (0x28, 0x024, ⟨true, true, false⟩)
  | .aput => some (0x28, 0x025, ⟨true, true, true⟩)
  | _ => none

/-- OP of a mnemonic of format I (R437). -/
def KOp.iCode : KOp → Option Nat
  | .addi => some 0x01
  | .andi => some 0x02
  | .ori => some 0x03
  | .xori => some 0x04
  | .cmpi => some 0x05
  | _ => none

/-- OP of a mnemonic of format U (R437). -/
def KOp.uCode : KOp → Option Nat
  | .lih => some 0x08
  | .lil => some 0x09
  | _ => none

/-- OP of a mnemonic of format M (R433). -/
def KOp.mCode : KOp → Option Nat
  | .ld => some 0x10
  | .lds => some 0x11
  | .st => some 0x12
  | _ => none

/-- OP of a mnemonic of format J (R430). -/
def KOp.jCode : KOp → Option Nat
  | .call => some 0x19
  | .jmp => some 0x1A
  | _ => none

/-- What an instruction of a compressed mnemonic puts into [10:6] and [5:1], with its cop (R443). -/
def KIns.cFields (i : KIns) : Option (Nat × Nat × Nat) :=
  match i.name with
  | .cMov => some (0, i.rd, i.rs1)
  | .cAdd => some (1, i.rd, i.rs2)
  | .cSub => some (2, i.rd, i.rs2)
  | .cAddi => some (3, i.rd, toU 5 i.imm)
  | .cCmp => some (4, i.rs1, i.rs2)
  | .cLdwsp => some (5, i.rd, i.x)
  | .cStwsp => some (6, i.rd, i.x)
  | .cLdw => some (7, i.rd, i.rs1)
  | .cStw => some (8, i.rd, i.rs1)
  | .cLsli => some (9, i.rd, i.rs2)
  | .cLsri => some (10, i.rd, i.rs2)
  | .cAsri => some (11, i.rd, i.rs2)
  | .cAnd => some (12, i.rd, i.rs2)
  | .cOr => some (13, i.rd, i.rs2)
  | .cB => some (14, toU 10 i.imm / 32, toU 10 i.imm % 32)
  | .cBeq => some (15, toU 10 i.imm / 32, toU 10 i.imm % 32)
  | .cBne => some (16, toU 10 i.imm / 32, toU 10 i.imm % 32)
  | .cRet => some (17, 0, 0)
  | .cJr => some (18, i.rs1, 0)
  | .cCallr => some (19, i.rs1, 0)
  | _ => none

/-- The word of an instruction; a compressed one is a halfword. -/
def encodeKs (i : KIns) : Word :=
  match i.cFields with
  | some (cop, r1, r2) => word (cop * 2 ^ 11 + r1 * 2 ^ 6 + r2 * 2)
  | none =>
    match i.name.rCode, i.name.iCode, i.name.uCode, i.name.mCode, i.name.jCode with
    | some (op, fn, _), _, _, _, _ => word (op * 2 ^ 26 + i.rd * 2 ^ 21 + i.rs1 * 2 ^ 16 + i.rs2 * 2 ^ 11 + fn * 2 + 1)
    | none, some op, _, _, _ => word (op * 2 ^ 26 + i.rd * 2 ^ 21 + i.rs1 * 2 ^ 16 + toU 15 i.imm * 2 + 1)
    | none, none, some op, _, _ => word (op * 2 ^ 26 + i.rd * 2 ^ 21 + toU 16 i.imm * 2 ^ 5 + 1)
    | none, none, none, some op, _ =>
      word (op * 2 ^ 26 + i.rd * 2 ^ 21 + i.rs1 * 2 ^ 16 + i.am * 2 ^ 13 + i.sz * 2 ^ 11 + i.x * 2 + 1)
    | none, none, none, none, some op => word (op * 2 ^ 26 + toU 25 i.imm * 2 + 1)
    | none, none, none, none, none => word (0x18 * 2 ^ 26 + i.cond * 2 ^ 22 + toU 21 i.imm * 2 + 1)

/-- A signed value fits in k bits. -/
def fitsS (k : Nat) (v : Int) : Bool := decide (-(2 ^ (k - 1)) ≤ v) && decide (v < 2 ^ (k - 1))

/-- A value fits in k bits, unsigned. -/
def fitsU (k : Nat) (v : Int) : Bool := decide (0 ≤ v) && decide (v < 2 ^ k)

/-- An instruction of a 32-bit mnemonic that core n has (R426-R442): its fields are in range, and those it does not use are 0. -/
def KIns.wf32 (n : Nat) (i : KIns) : Bool :=
  let regs := decide (i.rd < 32) && decide (i.rs1 < 32) && decide (i.rs2 < 32)
  match i.name.rCode, i.name.iCode, i.name.uCode, i.name.mCode, i.name.jCode with
  | some (op, _, u), _, _, _, _ =>
    i == { name := i.name, op := i.name, rd := i.rd, rs1 := i.rs1, rs2 := i.rs2 } && regs
      && (u.rd || i.rd == 0) && (u.rs1 || i.rs1 == 0) && (u.rs2 || i.rs2 == 0) && i.name.fieldsOk i.rd i.rs1
      && (op != 0x28 || decide (n < 4))
  | none, some _, _, _, _ =>
    i == { name := i.name, op := i.name, rd := i.rd, rs1 := i.rs1, imm := i.imm } && regs
      && (if i.name = .addi ∨ i.name = .cmpi then fitsS 15 i.imm else fitsU 15 i.imm) && (i.name != .cmpi || i.rd == 0)
  | none, none, some _, _, _ => i == { name := i.name, op := i.name, rd := i.rd, imm := i.imm } && regs && fitsU 16 i.imm
  | none, none, none, some _, _ =>
    i == { name := i.name, op := i.name, rd := i.rd, rs1 := i.rs1, am := i.am, sz := i.sz, x := i.x } && regs
      && decide (i.am < 8) && decide (i.sz < 4) && decide (i.x < 1024)
      && memFieldsOk i.name (decide (n < 4)) i.rd i.rs1 i.am i.sz i.x
  | none, none, none, none, some _ => i == { name := i.name, op := i.name, imm := i.imm } && fitsS 25 i.imm
  | none, none, none, none, none =>
    i == { name := .bcc, op := .bcc, cond := i.cond, imm := i.imm } && decide (i.cond < 15) && fitsS 21 i.imm

/-- An instruction of a compressed mnemonic (R443): it stands for its 32-bit instruction, and is not the halfword 0x0000. -/
def KIns.wf16 (i : KIns) : Bool :=
  let regs := decide (i.rd < 32) && decide (i.rs1 < 32) && decide (i.rs2 < 32)
  let three (op : KOp) : Bool := i == { name := i.name, op := op, rd := i.rd, rs1 := i.rd, rs2 := i.rs2, len := 2 }
  let branch (c : Nat) : Bool := i == { name := i.name, op := .bcc, cond := c, imm := i.imm, len := 2 } && fitsS 10 i.imm
  let sp (op : KOp) : Bool :=
    i == { name := i.name, op := op, rd := i.rd, rs1 := 31, sz := 2, x := i.x, len := 2 } && decide (i.x < 32)
  let mem (op : KOp) : Bool := i == { name := i.name, op := op, rd := i.rd, rs1 := i.rs1, sz := 2, len := 2 }
  regs && match i.name with
  | .cMov => i == { name := .cMov, op := .mov, rd := i.rd, rs1 := i.rs1, len := 2 } && (i.rd != 0 || i.rs1 != 0)
  | .cAdd => three .add
  | .cSub => three .sub
  | .cAddi => i == { name := .cAddi, op := .addi, rd := i.rd, rs1 := i.rd, imm := i.imm, len := 2 } && fitsS 5 i.imm
  | .cCmp => i == { name := .cCmp, op := .cmp, rs1 := i.rs1, rs2 := i.rs2, len := 2 }
  | .cLdwsp => sp .ld
  | .cStwsp => sp .st
  | .cLdw => mem .ld
  | .cStw => mem .st
  | .cLsli => three .lsli
  | .cLsri => three .lsri
  | .cAsri => three .asri
  | .cAnd => three .and
  | .cOr => three .or
  | .cB => branch 7
  | .cBeq => branch 0
  | .cBne => branch 8
  | .cRet => i == { name := .cRet, op := .ret, len := 2 }
  | .cJr => i == { name := .cJr, op := .jr, rs1 := i.rs1, len := 2 }
  | .cCallr => i == { name := .cCallr, op := .callr, rs1 := i.rs1, len := 2 }
  | _ => false

/-- An instruction that core n has, with its fields in range. -/
def KIns.wf (n : Nat) (i : KIns) : Bool := if i.cFields.isSome then i.wf16 else i.wf32 n

end Sys2Proof.Machine
end

