-- ==== Sys2Proof/Machine/Late.lean ====
section
/-! DEFINITION. The accesses that come after the events of their tick: the pops of a reel by a core or over SPH (R342), the queue
commands of LNK (R264), and the capture of a registry range (R280). A command leaves such an access to the end of the tick, and the
tick carries it out at its place. -/

namespace Sys2Proof.Machine

/-- The access `x` of the present tick waits for its place in the tick (R264, R342).
DESIGN CHOICE (unsafe), log entry 98. -/
def State.later (s : State) (x : LateAccess) : State := { s with late := s.late ++ [x] }

/-- The reel whose POPn register stands at word address `a` (R340). -/
def popReel (a : Nat) : Option Nat :=
  if Reg.REL_RPOP 0 ≤ a ∧ a ≤ Reg.REL_RPOP 31 ∧ (a - Reg.REL_RPOP 0) % 0x40 = 0 then some ((a - Reg.REL_RPOP 0) / 0x40) else none

/-- A write of the word at address `a` by requester `req`: of LNK.DLQ it is a queue command, which comes after the sheet and the takes
of its tick (R264). -/
def State.busWrite (s : State) (req a : Nat) (v : Word) : State :=
  if a = Reg.LNK_DLQ then s.later (.queue v) else regWrite s req a v

/-- REGISTER_WRITE (R4): a write of a word to address `addr` by requester `req`. An address outside every block, or a block
without power, ends in a bus error to the requester (R7). -/
def execRegisterWrite (req addr : Nat) (val : Word) (s : State) : Out :=
  if addr % 4 ≠ 0 ∨ 2 ^ 32 ≤ addr then .refused .illFormed
  else if s.busOk addr then .next (s.busWrite req addr val)
  else .fault (.busError addr)

/-- ENQUEUE (R219): a write of LNK.DLQ with ENQUEUE set, at its place in the tick (R264).
DESIGN CHOICE (unsafe), log entry 98. -/
def execEnqueue (val : Word) (s : State) : Out := ok (bit val 30) (s.onMain (s.later (.queue val)))

/-- WITHDRAW (R220): a write of LNK.DLQ with WITHDRAW set, at its place in the tick (R264).
DESIGN CHOICE (unsafe), log entry 98. -/
def execWithdraw (val : Word) (s : State) : Out := ok (bit val 31) (s.onMain (s.later (.queue val)))

/-- REEL_POP (R340): the pop comes at its place among the pops of the tick (R342); the word returned then stands in `rdata`.
DESIGN CHOICE (unsafe), log entry 98. -/
def execReelPop (req n : Nat) (s : State) : Out := ok (n < 32 ∧ req < 5) (s.onMain (s.later (.pop req n)))

/-- SPH_READ_REEL (R504): the host port pops after the cores (R342).
DESIGN CHOICE (unsafe), log entry 98. -/
def execSphReadReel (n maxw clocked : Nat) (s : State) : Out := .next (s.onAon (s.later (.readReel n maxw clocked)))

/-- RANGE_SAVE_START (R279): the save of range r is due, and its capture comes after every other access of the tick (R280).
DESIGN CHOICE (unsafe), log entry 98. -/
def execRangeSaveStart (r : Nat) (s : State) : Out := ok (r < 512) (if s.saveNext = some r then s.later (.capture r) else s)

/-! ### What the tick does with them -/

/-- The queue commands among `l`, in the order in which they came (R264). -/
def lateQueues (l : List LateAccess) (s : State) : State :=
  l.foldl (fun (s : State) x => match x with | .queue v => s.onMain (dlqWrite s v).1 | _ => s) s

/-- REEL_POP's pop (R340): a data-abort (R343) leaves `rdata` unchanged. -/
def popNow (s : State) (req n : Nat) : State :=
  let p := reelPop s n req
  match p.value with
  | some w => { p.state with rdata := w }
  | none => p.state

/-- The REEL_POP pops among `l` of core c (R342). -/
def latePops (l : List LateAccess) (s : State) (c : Nat) : State :=
  l.foldl (fun (s : State) x =>
    match x with | .pop r n => if r = c then s.onMain (popNow s r n) else s | _ => s) s

/-- The pop for which a load of core c stands stalled takes place; its word waits for the load. -/
def loadPop (s : State) (c : Nat) : State :=
  match (s.core c).stall with
  | some (.pop n) =>
    if s.mainOn then let p := reelPop s n c; p.state.setCore c { p.state.core c with popped := some (n, p.value) } else s
  | _ => s

/-- The READ-REEL transactions among `l` (R342, R504). -/
def lateReads (l : List LateAccess) (s : State) : State :=
  l.foldl (fun (s : State) x => match x with | .readReel n w c => s.onAon (sphReadReel s n w c) | _ => s) s

/-- The captures among `l`, each where its save is still due (R279, R280). -/
def lateCaptures (l : List LateAccess) (s : State) : State :=
  l.foldl (fun (s : State) x => match x with | .capture r => if s.saveNext = some r then rangeSaveStart s r else s | _ => s) s

end Sys2Proof.Machine
end

