-- ==== Sys2Proof/Machine/Ks32Mem.lean ====
section
/-! DEFINITION. Memory as a Keasuric core sees it (spec/16_keasuric_model.md R413, R416-R420 and the address map R11): data
accesses, instruction fetches, and the channel registers among them. -/

namespace Sys2Proof.Machine

/-- The outcome of one access of a core: done with a value, a data-abort with its cause (R413), or a stall in a blocking
channel access (R418, R419). The state carries what the access reported. -/
inductive Access where
  | done (t : State) (v : Nat)
  | abort (t : State) (cause : Nat)
  | stall (t : State) (k : Stall)

/-- The memory that holds a core address and the octet offset there: local SRAM, shared SRAM, the DRAM window (R11, R417).
None: the address is in none of them, or the memory is unpowered or the offset lies beyond the region.
DESIGN CHOICE (unsafe), log entry 7. DESIGN CHOICE (unsafe), log entry 11. -/
def State.coreMem (s : State) (n a : Nat) : Option (Nat × Nat) :=
  if a < 0x20000 then some (n, a)
  else if 0x10000000 ≤ a ∧ a < 0x10200000 then if s.memOn 5 then some (5, a - 0x10000000) else none
  else if 0x80000000 ≤ a ∧ a < 0xC0000000 then
    let o := s.rf Reg.MEM_DWIN (4 * n + 3) (4 * n) * 2 ^ 30 + (a - 0x80000000)
    if s.memOn 14 ∧ s.winBase + o < s.dramOctets then some (14, s.winBase + o) else none
  else none

/-- The address lies in the boot ROM.
DESIGN CHOICE (unsafe), log entry 14. -/
def inRom (a : Nat) : Bool := decide (0x20000000 ≤ a) && decide (a < 0x20010000)

/-- The address lies in the core-private window. -/
def inCpr (a : Nat) : Bool := decide (0xF0000000 ≤ a) && decide (a < 0xF0010000)

/-- The address lies in the peripheral range (R7). -/
def inPeriph (a : Nat) : Bool := decide (0x40000000 ≤ a) && decide (a < 0x50000000)

/-- The `2^sz` octets at address `a` of the word `v` at its word address.
DEDUCED (unsafe), log entry 12. -/
def subWord (v : Word) (a sz : Nat) : Nat := (v.toNat >>> (8 * (a % 4))) % 2 ^ (8 * 2 ^ sz)

/-- The word that a store of the low `2^sz` octets of `v` at address `a` presents to a register that reads `old`: octets
not covered carry the RW bits that stand there.
DEDUCED (unsafe), log entry 12. -/
def mergeWord (rw : Nat) (old v : Word) (a sz : Nat) : Word :=
  let lo := 8 * (a % 4)
  setFld (old &&& word rw) (lo + 8 * 2 ^ sz - 1) lo v.toNat

/-- The channel that a core-private offset receives from: 0-4, 5 the cipher channel, 6 MSGANY (R419). -/
def recvOf (o : Nat) : Option Nat :=
  if 0x60 ≤ o ∧ o < 0x74 then some ((o - 0x60) / 4)
  else if o / 4 = 0x1D then some 5
  else if o / 4 = 0x1E then some 6
  else none

/-- The core that a core-private offset sends to (R418). -/
def sendOf (o : Nat) : Option Nat := if 0x44 ≤ o ∧ o < 0x58 then some ((o - 0x44) / 4) else none

/-- A load from the core-private window of core n (R404, R419).
DEDUCED (unsafe), log entry 13. -/
def cprLoad (s : State) (n o sz : Nat) : Access :=
  match recvOf o with
  | some i =>
    if i = n ∧ i < 5 then .abort s 6
    else
      match s.recvChan n i with
      | some c => let r := recvMsg s n c; .done r.1 (subWord r.2 o sz)
      | none => .stall s .recv
  | none => .done s (subWord (s.cprView n (o / 4 * 4)) o sz)

/-- A load from REL.POPn of reel k by core n (R340): it stalls until its pop has had its place in the tick (R342), and then ends with the
word popped, or in a data-abort (R343).
DESIGN CHOICE (unsafe), log entry 98. -/
def popLoad (s : State) (n k a sz : Nat) : Access :=
  match (s.core n).popped with
  | some (j, v) =>
    if j = k then
      let t := s.setCore n { s.core n with popped := none }
      match v with
      | some w => .done t (subWord w a sz)
      | none => .abort t 3
    else .stall s (.pop k)
  | none => .stall s (.pop k)

/-- A load of `2^sz` octets by core n (R11, R413, R416).
DESIGN CHOICE (unsafe), log entry 11. -/
def coreLoad (s : State) (n a sz : Nat) : Access :=
  if a % 2 ^ sz ≠ 0 then .abort s 1
  else if inRom a then .done s (natLE ((List.range (2 ^ sz)).map fun j => Config.romByte (a - 0x20000000 + j)))
  else if inCpr a then cprLoad s n (a - 0xF0000000) sz
  else if inPeriph a then
    if s.busOk a then
      match popReel (a / 4 * 4) with
      | some k => popLoad s n k a sz
      | none =>
        match regRead s n (a / 4 * 4) with
        | (t, some v) => .done t (subWord v a sz)
        | (t, none) => .abort t 3
    else .abort s 2
  else
    match s.coreMem n a with
    | some (m, o) =>
      match s.peek m o (2 ^ sz) with
      | some bs => .done (s.readReport n m o (2 ^ sz)) (natLE bs)
      | none => .abort (s.readReport n m o (2 ^ sz)) 3
    | none => .abort s 2

/-- A store to the core-private window of core n (R404, R418).
DEDUCED (unsafe), log entry 12. DEDUCED (unsafe), log entry 13. -/
def cprStore (s : State) (n o sz : Nat) (v : Word) : Access :=
  match sendOf o with
  | some d =>
    if d = n then .abort s 6
    else if s.sendBlocked n d then .stall s .send
    else .done (sendMsg s n d (mergeWord 0 0 v o sz)) 0
  | none =>
    let w := o / 4 * 4
    let a := 0xF0000000 + 0x10000 * n + w
    .done (cprWrite s n w (mergeWord (regRW a) (s.rd a) v o sz)) 0

/-- A store of the low `2^sz` octets of `v` by core n (R11, R413, R416).
DESIGN CHOICE (unsafe), log entry 11. DEDUCED (unsafe), log entry 12. DESIGN CHOICE (unsafe), log entry 14. -/
def coreStore (s : State) (n a sz : Nat) (v : Word) : Access :=
  if a % 2 ^ sz ≠ 0 then .abort s 1
  else if inCpr a then cprStore s n (a - 0xF0000000) sz v
  else if inPeriph a then
    if s.busOk a && inBackup a then
      let r := s.write n 13 (a - Reg.CAL_BKRAM 0) (bytesLE (2 ^ sz) v.toNat)
      if r.2 then .done r.1 0 else .abort r.1 3
    else if s.busOk a && a / 0x10000 == 0x4004 then
      -- The narrower store waits for its crystal edge as it is (R387).
      let w := a / 4 * 4
      .done (if (regRow w).isSome then calBusWrite s n w (mergeWord 0 0 v a sz) (mergeWord 0 0 0xFFFFFFFF a sz) else s) 0
    else if s.busOk a then
      let w := a / 4 * 4
      .done (s.busWrite n w (mergeWord (regRW w) (s.rd w) v a sz)) 0
    else .abort s 2
  else
    match s.coreMem n a with
    | some (m, o) =>
      let r := s.write n m o (bytesLE (2 ^ sz) v.toNat)
      if r.2 then .done r.1 0 else .abort r.1 3
    | none => .abort s 2

/-- The fetch of the halfword at `a` by core n: only local instruction SRAM, shared SRAM and the boot ROM execute
(R11, R12).
DESIGN CHOICE (unsafe), log entry 14. DEDUCED (unsafe), log entry 22. -/
def fetchHalf (s : State) (n a : Nat) : Access :=
  if a < 0x10000 ∨ inRom a ∨ (0x10000000 ≤ a ∧ a < 0x10200000) then coreLoad s n a 1
  else if a < 0x20000 ∨ inPeriph a ∨ inCpr a ∨ (0x80000000 ≤ a ∧ a < 0xC0000000) then .abort s 5
  else .abort s 2

/-- A fetched instruction word, or the prefetch-abort of its first or second halfword with the address at fault (R425). -/
inductive Fetched where
  | word (t : State) (w : Word)
  | abort (t : State) (cause addr : Nat)

/-- The fetch at PC of core n (R425).
DEDUCED (unsafe), log entry 22. -/
def fetchKs (s : State) (n : Nat) : Fetched :=
  let pc := (s.core n).pc
  let pc' := (pc + 2) % 2 ^ 32
  match fetchHalf s n pc with
  | .done t lo =>
    if lo % 2 = 0 then .word t (word lo)
    else
      match fetchHalf t n pc' with
      | .done t hi => .word t (word (lo + 2 ^ 16 * hi))
      | .abort t c => .abort t c pc'
      | .stall t _ => .abort t 5 pc'
  | .abort t c => .abort t c pc
  | .stall t _ => .abort t 5 pc

end Sys2Proof.Machine
end

