-- ==== Sys2Proof/Machine/Ks32Exec.lean ====
section
/-! DEFINITION. What one Keasuric instruction does: its effect, its retirement with the load delay slot (R406-R408),
exception entry and return (R411-R414), stalls, and interrupts. -/

namespace Sys2Proof.Machine

/-! ### STATUS -/

/-- N, Z, C and V of core n. -/
def State.kflags (s : State) (n : Nat) : KFlags :=
  let st := s.rd (Reg.CPR_STATUS n)
  { n := bit st 31, z := bit st 30, c := bit st 29, v := bit st 28 }

/-- The state with N, Z, C and V of core n set. -/
def State.setKflags (s : State) (n : Nat) (f : KFlags) : State :=
  s.wf (Reg.CPR_STATUS n) 31 28 (8 * b2n f.n + 4 * b2n f.z + 2 * b2n f.c + b2n f.v)

/-- SAT of core n is set where `b` holds (R442). -/
def State.satur (s : State) (n : Nat) (b : Bool) : State := if b then s.wb (Reg.CPR_STATUS n) 9 true else s

/-- The state with `v` in k_r of core n. -/
def State.setKR (s : State) (n r : Nat) (v : Word) : State := s.setCore n ((s.core n).setK r v)

/-- The state with accumulator i of core n set. -/
def State.setAccum (s : State) (n i : Nat) (v : Int) : State := s.setCore n ((s.core n).setAcc i v)

/-! ### Effects -/

/-- What an instruction does, before it retires. -/
inductive Effect where
  /-- It completes: the state with its results, the registers it wrote, the load it leaves pending, the next PC, and the
  vector it then enters (3 the divide trap, 4 TRAP). -/
  | done (t : State) (written : List Nat) (load : Option (Nat × Word)) (next : Nat) (vec : Option Nat)
  /-- A data-abort: cause, address, store. -/
  | abort (t : State) (cause addr : Nat) (write : Bool)
  /-- A prefetch-abort of an odd target. -/
  | prefetch (t : State) (cause addr : Nat)
  | undefined
  | stall (k : Stall)
  /-- Its own store reset the core (SYS.RST): nothing of it remains. -/
  | gone (t : State)

/-- The stores that led from `s` to `t` reset core n: no other store changes the core that makes it, but for messages that its
channels gain or lose (R403, R420).
DESIGN CHOICE (safe), log entry 29. -/
def coreGone (s t : State) (n : Nat) : Bool := decide ({ t.core n with chans := [] } ≠ { s.core n with chans := [] })

/-- A register result with no flags. -/
def setRd (s : State) (n : Nat) (i : KIns) (next : Nat) (v : Word) : Effect :=
  .done (s.setKR n i.rd v) [i.rd] none next none

/-- A register result with flags. -/
def setRdF (s : State) (n : Nat) (i : KIns) (next : Nat) (r : Word × KFlags) : Effect :=
  .done ((s.setKR n i.rd r.1).setKflags n r.2) [i.rd] none next none

/-- A clamped register result (R442). -/
def setRdS (s : State) (n : Nat) (i : KIns) (next : Nat) (r : Word × Bool) : Effect :=
  .done ((s.setKR n i.rd r.1).satur n r.2) [i.rd] none next none

/-- A clamped accumulator result (R442). -/
def setAccS (s : State) (n : Nat) (i : KIns) (next : Nat) (v : Int) : Effect :=
  let r := satF 40 v
  .done ((s.setAccum n i.rd r.1).satur n r.2) [] none next none

/-- A divide (R440, R441): quotient to rd, remainder to rd + 1, and the trap after the results. -/
def divide (s : State) (n : Nat) (i : KIns) (next : Nat) (d : DivRes) : Effect :=
  let t := (s.setKR n i.rd d.q).setKR n (i.rd + 1) d.r
  let t := t.setKflags n { (t.kflags n).nz d.q with c := false, v := d.v }
  let t := if d.dz then t.wb (Reg.CPR_STATUS n) 8 true else t
  .done t [i.rd, i.rd + 1] none next (if d.dz && s.rb (Reg.CPR_CTL n) 0 then some 3 else none)

/-- The address of a load or store and the value its base register takes (R434-R436). -/
def memAddr (s : State) (n : Nat) (i : KIns) : Nat × Option Word :=
  let rb := s.k n i.rs1
  let step (k : Nat) : Word := BitVec.ofInt 32 (2 ^ i.sz * sext k (nfld i.x (k - 1) 0))
  match i.am with
  | 0 => ((rb + step 10).toNat, none)
  | 1 => (rb.toNat, some (rb + step 10))
  | 2 => ((rb + step 10).toNat, some (rb + step 10))
  | 3 => ((rb + word (2 ^ i.sz * (s.k n (nfld i.x 9 5)).toNat)).toNat, none)
  | 4 => (rb.toNat, some (bitrevNext rb i.sz (nfld i.x 4 0)))
  | _ =>
    let j := nfld i.x 9 8
    (rb.toNat, some (moduloNext rb (s.rd (Reg.CPR_MBASE n j)) (s.rd (Reg.CPR_MLEN n j)).toNat
      (2 ^ i.sz * sext 8 (nfld i.x 7 0))))

/-- The state with the base register updated, and the registers that writes. -/
def updateBase (t : State) (n : Nat) (i : KIns) (u : Option Word) : State × List Nat :=
  match u with
  | some v => (t.setKR n i.rs1 v, [i.rs1])
  | none => (t, [])

/-- LD and LDS (R433, R434). -/
def loadEff (s : State) (n : Nat) (i : KIns) (next : Nat) (signed : Bool) : Effect :=
  let m := memAddr s n i
  match coreLoad s n m.1 i.sz with
  | .done t v =>
    let u := updateBase t n i m.2
    let w := if signed then BitVec.ofInt 32 (sext (8 * 2 ^ i.sz) v) else word v
    .done u.1 u.2 (some (i.rd, w)) next none
  | .abort t c => .abort t c m.1 false
  | .stall _ k => .stall k

/-- ST (R433, R434): the value rd held before the instruction.
DESIGN CHOICE (safe), log entry 29. -/
def storeEff (s : State) (n : Nat) (i : KIns) (next : Nat) : Effect :=
  let m := memAddr s n i
  match coreStore s n m.1 i.sz (s.k n i.rd) with
  | .done t _ =>
    if coreGone s t n then .gone t
    else let u := updateBase t n i m.2; .done u.1 u.2 none next none
  | .abort t c => .abort t c m.1 true
  | .stall _ k => .stall k

/-- CALL and CALLR (R409, R410): the next address is pushed and `target` follows.
DEDUCED (unsafe), log entry 23. DEDUCED (unsafe), log entry 24. -/
def callEff (s : State) (n next target : Nat) : Effect :=
  let sp := s.k n 31 - 4
  let lim := (s.rd (Reg.CPR_SPLIM n)).toNat
  if sp.toNat % 4 ≠ 0 then .abort s 1 sp.toNat true
  else if lim ≠ 0 ∧ sp.toNat < lim then .abort s 4 sp.toNat true
  else
    match coreStore s n sp.toNat 2 (word next) with
    | .done t _ => if coreGone s t n then .gone t else .done (t.setKR n 31 sp) [31] none target none
    | .abort t c => .abort t c sp.toNat true
    | .stall _ k => .stall k

/-- RET (R409).
DEDUCED (unsafe), log entry 23. -/
def retEff (s : State) (n : Nat) : Effect :=
  let sp := s.k n 31
  match coreLoad s n sp.toNat 2 with
  | .done t v => if v % 2 = 1 then .prefetch t 1 v else .done (t.setKR n 31 (sp + 4)) [31] none v none
  | .abort t c => .abort t c sp.toNat false
  | .stall _ k => .stall k

/-- Words loaded in order from addresses, each 32 bits.
DEDUCED (unsafe), log entry 26. -/
def loadWords (s : State) (n : Nat) : List Nat → List Nat → Access × List Nat × Nat
  | [], got => (.done s 0, got, 0)
  | a :: as, got =>
    match coreLoad s n a 2 with
    | .done t v => loadWords t n as (got ++ [v])
    | .abort t c => (.abort t c, got, a)
    | .stall t k => (.stall t k, got, a)

/-- RETI (R411): the pending value, STATUS and PC are loaded back; a pending load resumes.
DEDUCED (unsafe), log entry 23. DEDUCED (unsafe), log entry 26. -/
def retiEff (s : State) (n : Nat) : Effect :=
  let sp := s.k n 31
  if !s.rb (Reg.CPR_STATUS n) 1 then .undefined
  else
    match loadWords s n [sp.toNat, (sp + 4).toNat, (sp + 8).toNat] [] with
    | (.done t _, got, _) =>
      let st := word (got.getD 1 0)
      let pc := got.getD 2 0
      if pc % 2 = 1 then .prefetch t 1 pc
      else
        let t := (t.setKR n 31 (sp + 12)).wr (Reg.CPR_STATUS n) (st &&& 0xF0000303)
        .done t [31] (if bit st 16 then some (fld st 21 17, word (got.getD 0 0)) else none) pc none
    | (.abort t c, _, a) => .abort t c a false
    | (.stall _ k, _, _) => .stall k

/-- The effect of instruction `i` at `pc` on core n (R429-R442); results and the next PC, not yet retired.
DEDUCED (unsafe), log entry 23. -/
def effect (s : State) (n : Nat) (i : KIns) : Effect :=
  let pc := (s.core n).pc
  let next := (pc + i.len) % 2 ^ 32
  let a := s.k n i.rs1
  let b := s.k n i.rs2
  let imm := BitVec.ofInt 32 i.imm
  let f := s.kflags n
  let target := ((pc : Int) + 2 * i.imm) % (2 ^ 32 : Nat) |>.toNat
  match i.op with
  | .add => setRdF s n i next (addF a b)
  | .sub => setRdF s n i next (subF a b)
  | .neg => setRdF s n i next (subF 0 a)
  | .cmp => .done (s.setKflags n (subF a b).2) [] none next none
  | .and => setRdF s n i next (logicF f (a &&& b))
  | .or => setRdF s n i next (logicF f (a ||| b))
  | .xor => setRdF s n i next (logicF f (a ^^^ b))
  | .not => setRdF s n i next (logicF f (~~~a))
  | .mov => setRd s n i next a
  | .lsl => setRdF s n i next (lslF f a b.toNat)
  | .lsr => setRdF s n i next (lsrF f a b.toNat)
  | .asr => setRdF s n i next (asrF f a b.toNat)
  | .ror => setRdF s n i next (rorF f a b.toNat)
  | .lsli => setRdF s n i next (lslF f a i.rs2)
  | .lsri => setRdF s n i next (lsrF f a i.rs2)
  | .asri => setRdF s n i next (asrF f a i.rs2)
  | .rori => setRdF s n i next (rorF f a i.rs2)
  | .clz => setRd s n i next (word (clzW a))
  | .sextb => setRd s n i next (BitVec.ofInt 32 (sext 8 (fld a 7 0)))
  | .sexth => setRd s n i next (BitVec.ofInt 32 (sext 16 (fld a 15 0)))
  | .zextb => setRd s n i next (word (fld a 7 0))
  | .zexth => setRd s n i next (word (fld a 15 0))
  | .addi => setRdF s n i next (addF a imm)
  | .andi => setRdF s n i next (logicF f (a &&& imm))
  | .ori => setRdF s n i next (logicF f (a ||| imm))
  | .xori => setRdF s n i next (logicF f (a ^^^ imm))
  | .cmpi => .done (s.setKflags n (subF a imm).2) [] none next none
  | .lih => setRd s n i next (imm <<< 16)
  | .lil => setRd s n i next (setFld (s.k n i.rd) 15 0 imm.toNat)
  | .ld => loadEff s n i next false
  | .lds => loadEff s n i next true
  | .st => storeEff s n i next
  | .bcc => .done s [] none (if condHolds f i.cond then target else next) none
  | .call => callEff s n next target
  | .jmp => .done s [] none target none
  | .jr => if a.toNat % 2 = 1 then .prefetch s 1 a.toNat else .done s [] none a.toNat none
  | .callr => if a.toNat % 2 = 1 then .prefetch s 1 a.toNat else callEff s n next a.toNat
  | .ret => retEff s n
  | .reti => retiEff s n
  | .trap => .done s [] none next (some 4)
  | .feat => setRd s n i next (featWord n i.rs2)
  | .wait => if s.cueLine n || s.msgLine n then .done s [] none next none else .stall .wait
  | .mul => setRdF s n i next (logicF f (a * b))
  | .mulhs => setRdF s n i next (logicF f (BitVec.ofInt 32 (a.toInt * b.toInt / 2 ^ 32)))
  | .mulhu => setRdF s n i next (logicF f (word (a.toNat * b.toNat / 2 ^ 32)))
  | .divs => divide s n i next (divsF a b)
  | .divu => divide s n i next (divuF a b)
  | .addsat => setRdS s n i next (sat32F (a.toInt + b.toInt))
  | .subsat => setRdS s n i next (sat32F (a.toInt - b.toInt))
  | .negsat => setRdS s n i next (sat32F (-a.toInt))
  | .addsatH => setRdS s n i next (lanesF (lane a 0 + lane b 0) (lane a 1 + lane b 1))
  | .subsatH => setRdS s n i next (lanesF (lane a 0 - lane b 0) (lane a 1 - lane b 1))
  | .clampH => let r := satF 16 a.toInt; setRdS s n i next (BitVec.ofInt 32 r.1, r.2)
  | .macL => setAccS s n i next ((s.core n).acc i.rd + lane a 0 * lane b 0)
  | .macU => setAccS s n i next ((s.core n).acc i.rd + lane a 1 * lane b 1)
  | .msbL => setAccS s n i next ((s.core n).acc i.rd - lane a 0 * lane b 0)
  | .msbU => setAccS s n i next ((s.core n).acc i.rd - lane a 1 * lane b 1)
  | .macf => setAccS s n i next ((s.core n).acc i.rd + a.toInt * b.toInt / 2 ^ 31)
  | .azero => .done (s.setAccum n i.rd 0) [] none next none
  | .aload => .done (s.setAccum n i.rd a.toInt) [] none next none
  | .arnd => setRdS s n i next (sat32F (((s.core n).acc i.rs1 + arndHalf i.rs2) / 2 ^ i.rs2))
  | .agetl => setRd s n i next (BitVec.ofInt 32 ((s.core n).acc i.rs1))
  | .ageth => setRd s n i next (BitVec.ofInt 32 ((s.core n).acc i.rs1 / 2 ^ 32))
  | .aput => .done (s.setAccum n i.rd (2 ^ 32 * (fld a 7 0) + b.toNat)) [] none next none
  | _ => .undefined

/-! ### Retirement and exceptions -/

/-- The instruction retires: the load it was the slot of takes effect unless the instruction wrote that register, and
its own load becomes pending (R407).
DEDUCED (unsafe), log entry 25. -/
def retire (t : State) (n : Nat) (written : List Nat) (load : Option (Nat × Word)) (next : Nat) : State :=
  let t := match (t.core n).pend with
    | some (r, v) => if written.contains r then t else t.setKR n r v
    | none => t
  t.setCore n { t.core n with pend := load, pc := next, stall := none }

/-- The FAULT registers of core n (R411). -/
def faultRegs (s : State) (n pc addr cause : Nat) (prefetch write : Bool) : State :=
  ((s.wr (Reg.CPR_FAULTADDR n) (word addr)).wr (Reg.CPR_FAULTPC n) (word pc)).wr (Reg.CPR_FAULTCAUSE n)
    (word (256 * b2n prefetch + 16 * b2n write + cause))

/-- Core n locks up after a fault in exception entry (R414), and SUP latches its crash record (R543).
DEDUCED (unsafe), log entry 27. -/
def lockUp (s : State) (n pc addr cause : Nat) : State :=
  let s := faultRegs s n pc addr cause false true
  let s := s.setCore n { s.core n with lockup := true, stall := none }
  (((s.wr (Reg.SUP_CRPC n) (s.rd (Reg.CPR_FAULTPC n))).wr (Reg.SUP_CRAD n) (s.rd (Reg.CPR_FAULTADDR n))).wr
    (Reg.SUP_CRCA n) (s.rd (Reg.CPR_FAULTCAUSE n))).inc (Reg.SUP_CRCNT n)

/-- Words stored in order: done, or the access that failed and its address.
DEDUCED (unsafe), log entry 24. DEDUCED (unsafe), log entry 27. -/
def storeWords (s : State) (n : Nat) : List (Nat × Word) → Access × Nat
  | [] => (.done s 0, 0)
  | (a, v) :: r =>
    match coreStore s n a 2 v with
    | .done t _ => storeWords t n r
    | .abort t c => (.abort t c, a)
    | .stall t k => (.stall t k, a)

/-- The STATUS word that exception entry saves (R405, R411).
DEDUCED (unsafe), log entry 25. -/
def State.savedStatus (s : State) (n : Nat) : Word :=
  let st := s.rd (Reg.CPR_STATUS n)
  match (s.core n).pend with
  | some (r, _) => setFld st 21 16 (2 * r + 1)
  | none => setFld st 21 16 0

/-- Steps 2-4 of exception entry (R411): saved PC, STATUS and pending value go to the stack, interrupts are disabled,
and PC goes to the vector. A fault there is a lockup (R414); a push that would stall leaves the core as it was.
DEDUCED (unsafe), log entry 26. DEDUCED (unsafe), log entry 27. -/
def enterVector (s : State) (n vec saved : Nat) : State :=
  let sp := s.k n 31
  let pend := match (s.core n).pend with
    | some (_, v) => v
    | none => 0
  match storeWords s n [((sp - 4).toNat, word saved), ((sp - 8).toNat, s.savedStatus n), ((sp - 12).toNat, pend)] with
  | (.done t _, _) =>
    if coreGone s t n then t
    else
      let t := t.setKR n 31 (sp - 12)
      let t := t.wf (Reg.CPR_STATUS n) 1 0 2
      t.setCore n { t.core n with
        pc := ((t.rd (Reg.CPR_VBASE n)).toNat + 16 * vec) % 2 ^ 32, pend := none, stall := none }
  | (.abort t c, a) => lockUp t n saved a c
  | (.stall _ k, _) => s.setCore n { s.core n with stall := some k }

/-- A data-abort of the instruction at PC (R411, R412): vector 2. -/
def dataAbort (s : State) (n cause addr : Nat) (write : Bool) : State :=
  let pc := (s.core n).pc
  enterVector (faultRegs s n pc addr cause false write) n 2 pc

/-- A prefetch-abort of the instruction at PC: vector 0.
DEDUCED (unsafe), log entry 22. -/
def prefetchAbort (s : State) (n cause addr : Nat) : State :=
  let pc := (s.core n).pc
  enterVector (faultRegs s n pc addr cause true false) n 0 pc

/-- The undefined-instruction exception at PC: vector 1 (R426). -/
def undefinedIns (s : State) (n : Nat) : State := enterVector s n 1 (s.core n).pc

/-- The state after an effect (R407, R408, R411, R412).
DEDUCED (unsafe), log entry 25. -/
def settleEff (s : State) (n : Nat) : Effect → State
  | .done t w l next none => retire t n w l next
  | .done t w l next (some v) => let t := retire t n w l next; enterVector t n v next
  | .abort t c a w => dataAbort t n c a w
  | .prefetch t c a => prefetchAbort t n c a
  | .undefined => undefinedIns s n
  | .stall k => s.setCore n { s.core n with stall := some k }
  | .gone t => t

/-! ### Running -/

/-- Interrupt lines of core n: 5 the cue line, 6 the message line; the lower vector is first (R362, R412, R420). -/
def State.irqVector (s : State) (n : Nat) : Option Nat :=
  if s.cueLine n then some 5 else if s.msgLine n then some 6 else none

/-- An interrupt is due at the present instruction boundary of core n: IE = 1, a line asserted, not between a load and
its slot instruction (R408, R412).
DEDUCED (unsafe), log entry 28. -/
def State.irqDue (s : State) (n : Nat) : Bool :=
  s.rb (Reg.CPR_STATUS n) 0 && (s.irqVector n).isSome && (s.core n).pend.isNone && (s.core n).stall.isNone

/-- Core n runs: powered, out of reset and not locked up. -/
def State.coreRuns (s : State) (n : Nat) : Bool := s.coreOn n && !(s.core n).lockup

/-- Core n stands before an instruction that it executes next: it runs, is not stalled, and no interrupt is due.
DESIGN CHOICE (unsafe), log entry 21. -/
def State.coreReady (s : State) (n : Nat) : Bool := s.coreRuns n && (s.core n).stall.isNone && !s.irqDue n

/-- The instruction at PC of core n, where it can be fetched and is defined, with the state its fetch leaves.
DESIGN CHOICE (unsafe), log entry 21. -/
def State.insAt (s : State) (n : Nat) : Option (State × KIns) :=
  match fetchKs s n with
  | .word t w => (decodeKs n w).map fun i => (t, i)
  | .abort _ _ _ => none

/-- Core n executes the instruction at PC where `want` accepts it; a fetch that aborts and an undefined word take their
exception whatever is wanted.
DESIGN CHOICE (unsafe), log entry 21. DESIGN CHOICE (safe), log entry 89. -/
def runIns (s : State) (n : Nat) (want : State → KIns → Bool) : State :=
  match fetchKs s n with
  | .abort t c a => prefetchAbort t n c a
  | .word t w =>
    match decodeKs n w with
    | none => undefinedIns t n
    | some i => if want t i then settleEff t n (effect t n i) else s

/-- The command of one mnemonic: core n executes the instruction at PC if it has that mnemonic.
DESIGN CHOICE (unsafe), log entry 21. -/
def isa (op : KOp) (n : Nat) (s : State) : Out :=
  ok (n < 5) (if s.coreReady n then runIns s n (fun _ i => i.name == op) else s)

/-- The instruction is a load or store whose address lies in the core-private window at an offset that `p` accepts. -/
def touches (s : State) (n : Nat) (i : KIns) (load : Bool) (p : Nat → Bool) : Bool :=
  let a := (memAddr s n i).1
  (if load then i.op == .ld || i.op == .lds else i.op == .st) && inCpr a && p (a - 0xF0000000)

/-- The instruction at PC of a stalled core is tried again, and completes once nothing blocks it (R418, R419, R432).
DEDUCED (unsafe), log entry 28. -/
def resumeIns (k : Stall) (n : Nat) (s : State) : Out :=
  ok (n < 5) (if s.coreRuns n && (s.core n).stall == some k then
    runIns (s.setCore n { s.core n with stall := none }) n (fun _ _ => true) else s)

/-- An interrupt is taken at an instruction boundary, or ends a blocking channel access, whose instruction is then
executed again after RETI (R408, R411, R412, R418, R419).
DEDUCED (unsafe), log entry 28. -/
def interruptEntry (s : State) (n : Nat) : State :=
  let blocked := (s.core n).stall == some .send || (s.core n).stall == some .recv
  if s.coreRuns n && s.rb (Reg.CPR_STATUS n) 0 && (blocked || s.irqDue n) then
    match s.irqVector n with
    | some v => enterVector s n v (s.core n).pc
    | none => s
  else s

end Sys2Proof.Machine
end

