-- ==== Sys2Proof/Machine/Ks32.lean ====
section
/-! DEFINITION. The commands of the Keasuric cores: one per mnemonic, the channel accesses, the ends of stalls, and the
interrupt entry. Each instruction command lets one core execute the instruction at its PC, which the model fetches and
decodes. -/

namespace Sys2Proof.Machine

/-- INTERRUPT_ENTRY (R411, R412). -/
def execInterruptEntry (core : Nat) (s : State) : Out := ok (core < 5) (interruptEntry s core)

/-- MSG_SEND (R418): the store to CPR.MSGSENDd at PC. -/
def execMsgSend (core : Nat) (s : State) : Out :=
  ok (core < 5) (if s.coreReady core then
    runIns s core (fun t i => touches t core i false fun o => (sendOf o).isSome) else s)

/-- MSG_SEND_STALL_END (R418). -/
def execMsgSendStallEnd (core : Nat) (s : State) : Out := resumeIns .send core s

/-- MSG_RECV (R419): the load of CPR.MSGRECVs at PC. -/
def execMsgRecv (core : Nat) (s : State) : Out :=
  ok (core < 5) (if s.coreReady core then
    runIns s core (fun t i => touches t core i true fun o => (recvOf o).any fun c => decide (c < 5)) else s)

/-- MSG_RECV_CIPHER (R419): the load of CPR.MSGRECVC at PC. -/
def execMsgRecvCipher (core : Nat) (s : State) : Out :=
  ok (core < 5) (if s.coreReady core then
    runIns s core (fun t i => touches t core i true fun o => recvOf o == some 5) else s)

/-- MSG_RECV_ANY (R419): the load of CPR.MSGANY at PC. -/
def execMsgRecvAny (core : Nat) (s : State) : Out :=
  ok (core < 5) (if s.coreReady core then
    runIns s core (fun t i => touches t core i true fun o => recvOf o == some 6) else s)

/-- MSG_RECV_STALL_END (R419). -/
def execMsgRecvStallEnd (core : Nat) (s : State) : Out := resumeIns .recv core s

/-- WAIT_COMPLETE (R432). -/
def execWaitComplete (core : Nat) (s : State) : Out := resumeIns .wait core s

/-- ADD (R437, R438). -/
def execAdd (core : Nat) (s : State) : Out := isa .add core s

/-- SUB (R437, R438). -/
def execSub (core : Nat) (s : State) : Out := isa .sub core s

/-- NEG (R437, R438). -/
def execNeg (core : Nat) (s : State) : Out := isa .neg core s

/-- CMP (R437, R438). -/
def execCmp (core : Nat) (s : State) : Out := isa .cmp core s

/-- AND (R437, R438). -/
def execAnd (core : Nat) (s : State) : Out := isa .and core s

/-- OR (R437, R438). -/
def execOr (core : Nat) (s : State) : Out := isa .or core s

/-- XOR (R437, R438). -/
def execXor (core : Nat) (s : State) : Out := isa .xor core s

/-- NOT (R437, R438). -/
def execNot (core : Nat) (s : State) : Out := isa .not core s

/-- MOV (R437). -/
def execMov (core : Nat) (s : State) : Out := isa .mov core s

/-- LSL (R437, R439). -/
def execLsl (core : Nat) (s : State) : Out := isa .lsl core s

/-- LSR (R437, R439). -/
def execLsr (core : Nat) (s : State) : Out := isa .lsr core s

/-- ASR (R437, R439). -/
def execAsr (core : Nat) (s : State) : Out := isa .asr core s

/-- ROR (R437, R439). -/
def execRor (core : Nat) (s : State) : Out := isa .ror core s

/-- LSLI (R437, R439). -/
def execLsli (core : Nat) (s : State) : Out := isa .lsli core s

/-- LSRI (R437, R439). -/
def execLsri (core : Nat) (s : State) : Out := isa .lsri core s

/-- ASRI (R437, R439). -/
def execAsri (core : Nat) (s : State) : Out := isa .asri core s

/-- RORI (R437, R439). -/
def execRori (core : Nat) (s : State) : Out := isa .rori core s

/-- CLZ (R437). -/
def execClz (core : Nat) (s : State) : Out := isa .clz core s

/-- SEXTB (R437). -/
def execSextb (core : Nat) (s : State) : Out := isa .sextb core s

/-- SEXTH (R437). -/
def execSexth (core : Nat) (s : State) : Out := isa .sexth core s

/-- ZEXTB (R437). -/
def execZextb (core : Nat) (s : State) : Out := isa .zextb core s

/-- ZEXTH (R437). -/
def execZexth (core : Nat) (s : State) : Out := isa .zexth core s

/-- ADDI (R437, R438). -/
def execAddi (core : Nat) (s : State) : Out := isa .addi core s

/-- ANDI (R437, R438). -/
def execAndi (core : Nat) (s : State) : Out := isa .andi core s

/-- ORI (R437, R438). -/
def execOri (core : Nat) (s : State) : Out := isa .ori core s

/-- XORI (R437, R438). -/
def execXori (core : Nat) (s : State) : Out := isa .xori core s

/-- CMPI (R437, R438). -/
def execCmpi (core : Nat) (s : State) : Out := isa .cmpi core s

/-- LIH (R437). -/
def execLih (core : Nat) (s : State) : Out := isa .lih core s

/-- LIL (R437). -/
def execLil (core : Nat) (s : State) : Out := isa .lil core s

/-- LD (R433-R436, R406, R413). -/
def execLd (core : Nat) (s : State) : Out := isa .ld core s

/-- LDS (R433-R436, R406, R413). -/
def execLds (core : Nat) (s : State) : Out := isa .lds core s

/-- ST (R433-R436, R406, R413). -/
def execSt (core : Nat) (s : State) : Out := isa .st core s

/-- Bcc (R429, R430). -/
def execBcc (core : Nat) (s : State) : Out := isa .bcc core s

/-- CALL (R430, R409, R410). -/
def execCall (core : Nat) (s : State) : Out := isa .call core s

/-- JMP (R430). -/
def execJmp (core : Nat) (s : State) : Out := isa .jmp core s

/-- JR (R431). -/
def execJr (core : Nat) (s : State) : Out := isa .jr core s

/-- CALLR (R431, R409, R410). -/
def execCallr (core : Nat) (s : State) : Out := isa .callr core s

/-- RET (R431, R409). -/
def execRet (core : Nat) (s : State) : Out := isa .ret core s

/-- RETI (R431, R411). -/
def execReti (core : Nat) (s : State) : Out := isa .reti core s

/-- TRAP (R431, R412). -/
def execTrap (core : Nat) (s : State) : Out := isa .trap core s

/-- FEAT (R431, R415). -/
def execFeat (core : Nat) (s : State) : Out := isa .feat core s

/-- WAIT (R431, R432). -/
def execWait (core : Nat) (s : State) : Out := isa .wait core s

/-- MUL (R440). -/
def execMul (core : Nat) (s : State) : Out := isa .mul core s

/-- MULHS (R440). -/
def execMulhs (core : Nat) (s : State) : Out := isa .mulhs core s

/-- MULHU (R440). -/
def execMulhu (core : Nat) (s : State) : Out := isa .mulhu core s

/-- DIVS (R440, R441). -/
def execDivs (core : Nat) (s : State) : Out := isa .divs core s

/-- DIVU (R440, R441). -/
def execDivu (core : Nat) (s : State) : Out := isa .divu core s

/-- ADDSAT (R442). -/
def execAddsat (core : Nat) (s : State) : Out := isa .addsat core s

/-- SUBSAT (R442). -/
def execSubsat (core : Nat) (s : State) : Out := isa .subsat core s

/-- NEGSAT (R442). -/
def execNegsat (core : Nat) (s : State) : Out := isa .negsat core s

/-- ADDSAT.H (R442). -/
def execAddsatH (core : Nat) (s : State) : Out := isa .addsatH core s

/-- SUBSAT.H (R442). -/
def execSubsatH (core : Nat) (s : State) : Out := isa .subsatH core s

/-- CLAMP.H (R442). -/
def execClampH (core : Nat) (s : State) : Out := isa .clampH core s

/-- MAC.L (R442). -/
def execMacL (core : Nat) (s : State) : Out := isa .macL core s

/-- MAC.U (R442). -/
def execMacU (core : Nat) (s : State) : Out := isa .macU core s

/-- MSB.L (R442). -/
def execMsbL (core : Nat) (s : State) : Out := isa .msbL core s

/-- MSB.U (R442). -/
def execMsbU (core : Nat) (s : State) : Out := isa .msbU core s

/-- MACF (R442). -/
def execMacf (core : Nat) (s : State) : Out := isa .macf core s

/-- AZERO (R442). -/
def execAzero (core : Nat) (s : State) : Out := isa .azero core s

/-- ALOAD (R442). -/
def execAload (core : Nat) (s : State) : Out := isa .aload core s

/-- ARND (R442). -/
def execArnd (core : Nat) (s : State) : Out := isa .arnd core s

/-- AGETL (R442). -/
def execAgetl (core : Nat) (s : State) : Out := isa .agetl core s

/-- AGETH (R442). -/
def execAgeth (core : Nat) (s : State) : Out := isa .ageth core s

/-- APUT (R442). -/
def execAput (core : Nat) (s : State) : Out := isa .aput core s

/-- C.MOV (R443). -/
def execCMov (core : Nat) (s : State) : Out := isa .cMov core s

/-- C.ADD (R443). -/
def execCAdd (core : Nat) (s : State) : Out := isa .cAdd core s

/-- C.SUB (R443). -/
def execCSub (core : Nat) (s : State) : Out := isa .cSub core s

/-- C.ADDI (R443). -/
def execCAddi (core : Nat) (s : State) : Out := isa .cAddi core s

/-- C.CMP (R443). -/
def execCCmp (core : Nat) (s : State) : Out := isa .cCmp core s

/-- C.LDWSP (R443). -/
def execCLdwsp (core : Nat) (s : State) : Out := isa .cLdwsp core s

/-- C.STWSP (R443). -/
def execCStwsp (core : Nat) (s : State) : Out := isa .cStwsp core s

/-- C.LDW (R443). -/
def execCLdw (core : Nat) (s : State) : Out := isa .cLdw core s

/-- C.STW (R443). -/
def execCStw (core : Nat) (s : State) : Out := isa .cStw core s

/-- C.LSLI (R443). -/
def execCLsli (core : Nat) (s : State) : Out := isa .cLsli core s

/-- C.LSRI (R443). -/
def execCLsri (core : Nat) (s : State) : Out := isa .cLsri core s

/-- C.ASRI (R443). -/
def execCAsri (core : Nat) (s : State) : Out := isa .cAsri core s

/-- C.AND (R443). -/
def execCAnd (core : Nat) (s : State) : Out := isa .cAnd core s

/-- C.OR (R443). -/
def execCOr (core : Nat) (s : State) : Out := isa .cOr core s

/-- C.B (R443). -/
def execCB (core : Nat) (s : State) : Out := isa .cB core s

/-- C.BEQ (R443). -/
def execCBeq (core : Nat) (s : State) : Out := isa .cBeq core s

/-- C.BNE (R443). -/
def execCBne (core : Nat) (s : State) : Out := isa .cBne core s

/-- C.RET (R443). -/
def execCRet (core : Nat) (s : State) : Out := isa .cRet core s

/-- C.JR (R443). -/
def execCJr (core : Nat) (s : State) : Out := isa .cJr core s

/-- C.CALLR (R443). -/
def execCCallr (core : Nat) (s : State) : Out := isa .cCallr core s

end Sys2Proof.Machine
end

