-- ==== Sys2Proof/Machine/Release.lean ====
section
/-! DEFINITION. The takes of one tick in their order (R20, R27, R264): the call sheet's effects, then fetches and registry updates in
end-of-frame order, then resolutions, then commits in the order of the release instants. -/

namespace Sys2Proof.Machine

/-- The demodulators with a take, in the order that `le` gives their takes. -/
def State.takeOrder (s : State) (le : Take → Take → Bool) : List Nat := (sortBy (fun a b => le a.2 b.2) s.lnk.takes).map Prod.fst

/-- Order of commits: the release instant, then the end of the frame (R20, R27). -/
def Take.commitLe (a b : Take) : Bool := decide (a.releaseAt < b.releaseAt) || (a.releaseAt == b.releaseAt && a.eofLe b)

/-- EPR's accesses for take d in the present tick: its fetch, and its registry update (R264). -/
def takeAccess (s : State) (d : Nat) : State := takeUpdate (takeReady s d) d

/-- The commit of take d where its release instant has come and it is complete, late or not (R20, R30). -/
def takeCommit (s : State) (d : Nat) : State := lateCommit (takeRelease s d) d

/-- What EPR does in the present tick before the fetch or the update of take d (R264): the call sheet, and the takes of an earlier end of
frame. -/
def beforeTake (s : State) (d : Nat) : State :=
  ((s.takeOrder Take.eofLe).takeWhile fun e => e != d).foldl takeAccess (sheetApply s)

/-- What comes in the present tick before the commit of take d (R20): EPR's accesses up to its own, and the earlier commits. -/
def beforeCommit (s : State) (d : Nat) : State :=
  ((s.takeOrder Take.commitLe).takeWhile fun e => e != d).foldl takeCommit (takeUpdate (beforeTake s d) d)

/-- Takes of the present tick: fetches and registry updates in end-of-frame order (R264), then resolutions in the order of the ready
instants (R192, R195, R201), then commits in their own order (R20, R27), and the takes that miss their release instant. -/
def tickTakes (s : State) : State :=
  let s := (s.takeOrder Take.eofLe).foldl takeAccess s
  let s := (s.takeOrder Take.readyLe).foldl (fun (s : State) d => resolveTake (assignLanes 192 s) d) s
  let s := (s.takeOrder Take.commitLe).foldl takeCommit s
  (s.takeOrder Take.eofLe).foldl releaseCheck s

/-- TAKE_READY (R201), at its place in the tick (R264, R267). -/
def execTakeReady (d : Nat) (s : State) : Out :=
  ok (d < 192) (s.onTake d fun t => if s.readyDue t then assignLanes 192 (takeReady (beforeTake s d) d) else s)

/-- TAKE_RELEASE (R20), at its place in the tick (R264). -/
def execTakeRelease (d : Nat) (s : State) : Out :=
  ok (d < 192) (s.onTake d fun t => if s.releaseDue t && !t.late then takeRelease (beforeCommit s d) d else s)

/-- LATE_TAKE_COMMIT (R30), at its place in the tick (R264). -/
def execLateTakeCommit (d : Nat) (s : State) : Out :=
  ok (d < 192) (s.onTake d fun t => if s.releaseDue t && t.late then lateCommit (beforeCommit s d) d else s)

end Sys2Proof.Machine
end

