-- ==== Sys2Proof/Machine/Tick.lean ====
section
/-! DEFINITION. One slate tick of the block, when no command waits: the dictionary's register writes, then the block's own
time-driven events of the present tick, then the cue triggers whose effect tick has come in ascending input (R348), then what
comes last in a tick (R379, R479), and the slate moves on. Every event is the meaning of its row, whose condition it tests itself.
Between the events and the triggers come the accesses that the spec places there (R264, R342), which commands have left for it. -/

namespace Sys2Proof.Machine

/-- `f` once for each number below `n`, in ascending order. -/
def forN (n : Nat) (f : State → Nat → State) (s : State) : State := (List.range n).foldl f s

/-- `f` again and again while `p` holds, at most `fuel` times. -/
def whileDue (p : State → Bool) (f : State → State) : Nat → State → State
  | 0, s => s
  | fuel + 1, s => if p s then whileDue p f fuel (f s) else s

/-- The slate second of the present tick. -/
def State.second (s : State) : Nat := s.slate / 32000000

/-! ### Events whose emission tick has come -/

/-- The event names TMRn.IRQ. -/
def CueEvent.irqOf (e : CueEvent) (n : Nat) : Bool := e.routes.any fun r => r.1 == 115 + n

/-- A deferred event is emitted: TMRn.IRQ is left out where timer n has emitted one in this tick (R375). -/
def emitEvent (s : State) (e : CueEvent) : State :=
  let again (r : Nat × Nat) : Bool := decide (115 ≤ r.1 ∧ r.1 < 131) && (s.tm (r.1 - 115)).irqAt == some s.slate
  let e := { e with routes := e.routes.filter fun r => !again r }
  let t := s.materialise e
  if e.gen < 8 then
    (List.range 16).foldl (fun (t : State) n => if e.irqOf n then t.setTm n { t.tm n with irqAt := some t.slate } else t) t
  else t

/-- The producer events caused in an earlier tick are emitted (R348, R353). -/
def emitDeferred (s : State) : State :=
  let due := s.cue.deferred.filter fun e => decide (e.em ≤ s.slate)
  let s : State := { s with cue := { s.cue with deferred := s.cue.deferred.filter fun e => !decide (e.em ≤ s.slate) } }
  due.foldl emitEvent s

/-! ### Time-driven events -/

/-- Pulses of outputs that end, and inputs that are stuck (R355, R356). -/
def tickPin (s : State) (n : Nat) : State :=
  let s := match (s.pin n).pulseEnd with
    | some e => if e ≤ s.slate then s.setPin n { s.pin n with latch := false, pulseEnd := none } else s
    | none => s
  if s.gpioStuckDue n then ((s.setPin n { s.pin n with stuckSent := true }).wb (Reg.CUE_GPIO_STATE n) 1 true).inputStuck else s

/-- The slate second, SYNC_PPS_OUT, holdover and the hour of SYN and SUP (R511, R514, R538). -/
def tickSync (s : State) : State :=
  let s := synSeconds (if s.hourDue then tcxoHour s else s)
  let s := match s.syn.ppsOut with
    | some t => if t ≤ s.slate then { s with syn := { s.syn with ppsOut := none } } else s
    | none => s
  ppsStuck (synHold s)

/-- The watchdog, the second step of a transition, and the plan runs (R421, R572, R532). -/
def tickMode (s : State) : State :=
  let s := if s.wdogDue then aonReset (s.wr Reg.SUP_WDPC (word (s.core 4).pc)) 4 else s
  let s := rfHeld (secondStep s)
  planStart (match s.planMeasured with
    | some r => planDecide s r
    | none => s)

/-- Finishes and starts of CIP (R308, R309): a finish not reported as missed is met (R28).
DESIGN CHOICE (unsafe), log entry 3. -/
def tickCipher (s : State) : State :=
  let s := lanePublish s
  whileDue (fun s => s.cipPublishDue || s.cipStartDue)
    (fun s => if s.cipPublishDue then cipPublish s true else cipStart s) (2 * s.cip.wait.length + 2) s

/-- Detections, applies and surveys (R105, R109, R114, R117). -/
def tickChannels (s : State) : State :=
  let s := applyInstant s
  let s := s.chz.dets.foldl (fun (s : State) _ => allocateNext s) s
  let s := s.lnk.parked.keys.foldl (fun (s : State) c => resumeSearch s (c / 1024) (c / 16 % 64) (c % 16)) s
  surveyEnd s

/-- Tracking of a parent (R236, R237). -/
def tickParent (s : State) : State :=
  let s := beaconMiss s
  let s := if s.expiryDue then (s.wb Reg.LNK_PSTAT 27 true).emit [29] else s
  if s.scanDue then { s.emit [30] with lnk := { s.lnk with scanFrom := s.slate } } else s

/-- The armed entries in the order of their TIME, then their index (R27). -/
def State.armOrder (s : State) : List Nat :=
  sortBy (fun a b => decide ((s.entry a).time < (s.entry b).time) || ((s.entry a).time == (s.entry b).time && decide (a ≤ b)))
    s.lnk.arms.keys

/-- Commits: the beacon, then ACKs, then schedule entries, then the entries whose slack has passed (R199, R208, R232, R47). -/
def tickCommits (s : State) : State :=
  let s := beaconCommit s ((s.slate + s.setup (s.rf Reg.LNK_BCNCFG 26 24)) / 32000000)
  let acks := sortBy (fun (a b : AckReq) => decide (a.commitAt < b.commitAt) || (a.commitAt == b.commitAt && decide (a.eof ≤ b.eof))) s.lnk.acks
  let s := acks.foldl (fun (s : State) a =>
    match s.lnk.acks.find? fun x => x.id == a.id with
    | some x => if x.commitAt ≤ s.slate then ackCommit s x else s
    | none => s) s
  let s := s.armOrder.foldl dispatchEntry s
  let s := s.armOrder.foldl slackExpiry s
  beaconBoundaries s

/-- Chain n on its own: power-up, relock, retune, DC calibration, suspension (R69-R71, R87, R89). -/
def tickChain (s : State) (n : Nat) : State := calSuspend (dcEnd (retuneEnd (relockDue (chainUpEnd s n) n) n) n) n

/-- Transmission `id`: its ramp-up, and, while it radiates, the chains that it shadows (R80, R85). -/
def tickRamp (s : State) (id : Nat) : State :=
  match s.tx id with
  | some t =>
    if !t.up ∧ t.t0 - t.ramp ≤ s.slate then rampUp s t
    else if t.up ∧ !t.down ∧ s.slate < t.radEnd then shadowScan s t
    else s
  | none => s

/-- The chains: power-ups, retunes, calibrations, ramp-ups, shadows, radiated intervals and FEM pins (R69-R80, R85, R89). -/
def tickChains (s : State) : State :=
  let s := forN 8 tickChain s
  let ids := s.rfs.txs.map fun t => t.id
  let s := ids.foldl tickRamp s
  let s := ids.foldl (fun (s : State) id => match s.tx id with | some t => txRadiated s t | none => s) s
  forN 8 (fun s n => retuneBack (femPins s n) n) s

/-- The leaky buckets once every correction of the tick has been added: comparison, then leak (R456, R457). -/
def tickBuckets (s : State) : State := forN 15 (fun s m => bucketLeak (bucketCheck s m) m) s

/-- Firmware staging and open packets (R339, R523). -/
def tickStores (s : State) : State :=
  let s := if s.stageStallDue then updFailed s 13 else s
  forN 32 (fun s n => if s.stallDue n then reelBad s n 3 else s) s

/-- The operation of the dictionary request, or published key write, that is next; none where nothing waits. -/
def State.odpNext (s : State) : Option Nat :=
  let op (m : List Nat) : Nat := if 1 ≤ odpOp m ∧ odpOp m ≤ 6 then odpOp m else 1
  match s.odxWait with
  | some (w, _) => some (op w.msg)
  | none => s.odxHead.map fun r => op r.1.msg

/-- The dictionary's requests whose effect tick has come, with their register writes (R479). -/
def tickRequests (s : State) : State :=
  whileDue (fun s => s.odpNext.isSome) (fun s => match s.odpNext with | some op => odpServe op s | none => s)
    (s.odx.reqs.length + s.odx.waits.length) s

/-- Leases and time-outs of the dictionary (R486, R493). -/
def tickLeases (s : State) : State :=
  let s := s.odx.subs.keys.foldl (fun (s : State) k =>
    if s.lapseDue k then { s with odx := { s.odx with subs := s.odx.subs.del k } } else s) s
  match s.fwDue with
  | some w => fwEnd (s.wb Reg.ODX_STAT 3 true) w 0x0C 0 []
  | none => s

/-- Batches: those whose age has come close, and closed ones leave in their order (R502, R503). -/
def tickBatches (s : State) : State :=
  forN 3 (fun s k =>
    let s := forN 32 (fun s n => if s.batchAgeDue k n then batchClose s k n 2 else s) s
    (s.port k).closed.foldl (fun (s : State) _ => batchSend s k) s) s

/-- The time-driven events of the present tick (R348, R264).
DESIGN CHOICE (unsafe), log entry 1. DESIGN CHOICE (unsafe), log entry 3. -/
def tickEvents (s : State) : State :=
  let s := tickMode s
  let s := forN 16 tmrStep s
  let s := forN 16 tickPin (tickSync s)
  let s := if s.freezeDue then (calUnfreeze s).wb Reg.CAL_STAT 5 true else s
  let s := tickTakes (sheetApply (tickChannels s))
  let s := tickCommits (tickParent s)
  let s := writeNotices (drainEnd (tickChains s))
  tickLeases (tickBatches (tickStores (forN 15 scrubVisit s)))

/-! ### Cue triggers -/

/-- The sources of SYS.WAKE that routes name, as bits of SYS.WAKESRC (R360). -/
def wakeBits (routes : List Nat) : Nat :=
  b2n (routes.contains 213) + 2 * b2n (routes.contains 214) + 4 * b2n (routes.contains 215 || routes.contains 216)

/-- One trigger at consumer input i (R350, R359): cues `cs` coalesce.
DESIGN CHOICE (unsafe), log entry 67. -/
def trigger (s : State) (i : Nat) (cs : List PendingCue) : State :=
  let count := (cs.map fun c => c.count).foldl (· + ·) 0
  let gen := maxL (cs.map fun c => c.gen)
  let em := maxL (cs.map fun c => c.em)
  if i < 147 then intTrigger s i count
  else
    let s' := s.countCue i count
    if i < 163 then gpoTrigger s' (i - 147) count true
    else if i < 179 then gpoTrigger s' (i - 163) count false
    else if i < 195 then tmrCount s' (i - 179) count gen
    else if i < 211 then tmrCueCapture s' (i - 195) gen em
    else if i = 211 then { s' with tmrGroup := true }
    else if i = 212 then slateCapture s' 2 em
    else if i = 213 then wakeFired s' (wakeBits (cs.map fun c => c.route)) (some gen)
    else batchFlush s' (i - 214)

/-- The triggers of the present tick at consumer input i, of the cues `due`. The software captures of the tick come with the CAPT
triggers, after the COUNT triggers (R348, R376, R377). -/
def triggersAt (due : List PendingCue) (s : State) (i : Nat) : State :=
  let s := if due.any fun c => c.input == i then trigger s i (due.filter fun c => c.input == i) else s
  if 195 ≤ i ∧ i < 211 then tmrSwCapture s (i - 195) else s

/-- The triggers whose effect tick has come, in ascending input number (R348), those that commands brought among them.
DESIGN CHOICE (unsafe), log entry 1. -/
def deliverCues (s : State) : State :=
  let due := s.cue.brought ++ s.cue.pending.filter fun c => decide (c.effect ≤ s.slate)
  let s : State := { s with cue := { s.cue with brought := [], pending := s.cue.pending.filter fun c => !decide (c.effect ≤ s.slate) } }
  (List.range 217).foldl (triggersAt due) s

/-! ### The tick -/

/-- The writes of dictionary requests and the block's own events of the present tick (R348): the publications of CIP at which requests
take effect (R479), what those write, the cues whose emission tick has come, the crystal, and the time-driven events.
DESIGN CHOICE (unsafe), log entry 1. -/
def ownEvents (s : State) : State := tickEvents (calTick (emitDeferred (tickRequests (tickCipher s))))

/-- Pointer-fault resets, then disables (R342). -/
def tickReels (s : State) : State :=
  let s := forN 32 reelPointerFault s
  forN 32 (fun s n => match (s.reel n).off with | some v => reelDisable s n v | none => s) s

/-- The load of core c that waited for a pop is executed again, now with its word (R340). -/
def resumePop (s : State) (c : Nat) : State :=
  match (s.core c).stall with
  | some (.pop _) =>
    let t := if s.coreRuns c then runIns (s.setCore c { s.core c with stall := none }) c (fun _ _ => true) else s
    t.setCore c { t.core c with popped := none }
  | _ => s

/-- The pops of the tick, KSA0-KSA3, then KSS, then the host ports (R342), and the loads that these complete. -/
def tickPops (l : List LateAccess) (s : State) : State :=
  let s := forN 5 (fun s c => resumePop (loadPop (latePops l s c) c) c) s
  ethPops (lateReads l s)

/-- The accesses that come after the events of the tick: queue commands (R264) and the packets that they bring, pops, resets and disables
of reels (R342), and the captures of registry ranges (R280).
DESIGN CHOICE (unsafe), log entry 1. DESIGN CHOICE (unsafe), log entry 63. DESIGN CHOICE (unsafe), log entry 98. -/
def tickAccesses (s : State) : State :=
  let l := s.late
  let s := odpQueues (lateQueues l { s with late := [] })
  let s := lateCaptures l (tickReels (tickPops l (writeNotices s)))
  match s.saveNext with
  | some r => rangeSaveStart s r
  | none => s

/-- The cue triggers of the tick, once its writes and events are over (R348, R349), and then a group start (R379). -/
def tickTriggers (s : State) : State :=
  let s := deliverCues s.emission
  if s.tmrGroup then groupStart s else s

/-- The dictionary at the end of the tick: saves, samples, the answers that can leave, and then the reads, which see every other effect of
the tick (R473, R478, R479, R486), and the leaky buckets (R456). The cue of an error that a read meets, and that of a bucket, reach
their interrupt inputs in this tick.
DESIGN CHOICE (unsafe), log entry 1. -/
def tickAnswers (s : State) : State :=
  let s := if s.saveCmdDue then saveStart s else s
  let s := if s.saveDelayDue then saveStart s else s
  let s := s.odx.subs.keys.foldl (fun (s : State) k => if s.subDue k then notify s k else s) s
  let s := whileDue (fun s => s.odpOutDue.isSome) odpSend s.odx.outs.length s
  deliverCues (tickBuckets (odpAnswers s)).emission

/-- The present tick is over: nothing of it is on record. -/
def State.tickClosed (s : State) : State := { s with raised := [], memDone := [] }

/-- The next tick starts: a step of the slate (R512) and the correction of the tick (R509).
DESIGN CHOICE (unsafe), log entry 1. DEDUCED (unsafe), log entry 66. -/
def nextTick (s : State) : State :=
  synTick (slateStep { s.tickClosed with
    slate := (s.slate + 1) % 2 ^ 64, syn := { s.syn with skip := 0 }, lnk := { s.lnk with incs := [] } })

/-- One tick: writes and events, accesses, triggers, and the dictionary's answers. In BACKUP, and while nRESET is low
(R555), only the calendar's crystal moves on. While the slate is held (R541) the emissions, accesses and triggers of the commands and of the crystal still take place.
DESIGN CHOICE (unsafe), log entry 1. DEDUCED (safe), log entry 5. -/
def tick (s : State) : State :=
  if !s.aonOn ∨ s.sys.pinLow then
    let s := calTick s
    { s with late := [], sys := { s.sys with pinLow := false } }.tickClosed
  else if s.sup.held then (tickTriggers (tickAccesses (calTick (emitDeferred s)))).tickClosed
  else nextTick (tickAnswers (tickTriggers (tickAccesses (ownEvents s))))

end Sys2Proof.Machine
end

