-- ==== Sys2Proof/Machine/SelfTest.lean ====
section
/-! DEFINITION. The self-tests of VERIFY (R62, R63): each test runs on a copy of the state, which restores what it touched, and
their results are shown one by one in SYS.VSTAT. -/

namespace Sys2Proof.Machine

/-! ### The ECC checker test -/

/-- RAWWR of data d with check bits c and valid copies 7 to word 0 of memory m, then DECRD, through MEM.TEST (R461): the class read
back and the value. -/
def eccTrial (s : State) (m d c : Nat) : Nat × Nat :=
  let s := ((s.wr Reg.MEM_TSELH (word (m * 2 ^ 28))).wr Reg.MEM_TSEL 0).setTdata d
  let t := testDecodedRead (testRawWrite (s.wr Reg.MEM_TCHK (word (c + 7 * 512))))
  (t.rf Reg.MEM_TRES 31 30, t.tdata)

/-- The checker of memory m reads a good word, corrects a flipped data bit and a flipped check bit, and reports two flipped bits
(R446).
DESIGN CHOICE (unsafe), log entry 97. -/
def eccPasses (s : State) (m : Nat) : Bool :=
  let d := 3
  let c := eccCheck (eccR m) (eccK m) d
  eccTrial s m d c == (0, d) && eccTrial s m (d ^^^ 1) c == (1, d) && eccTrial s m d (c ^^^ 1) == (1, d)
    && (eccTrial s m (d ^^^ 3) c).1 == 2

/-- Test 2 of R62: the checker of every SRAM. -/
def State.eccTest (s : State) : Bool := (List.range 14).all fun m => eccPasses s m

/-! ### The cue test -/

/-- The state two ticks after every route has been fired with every route enabled: each consumer input has been triggered. -/
def cueTrial (s : State) : State :=
  let s : State := { s with cue := { s.cue with pending := [], deferred := [] } }
  let s := (List.range 7).foldl (fun (s : State) w => s.wr (Reg.CUE_EN w) 0xFFFFFFFF) s
  let s := (List.range 7).foldl (fun (s : State) w => cueFire s w 0xFFFFFFFF) s
  deliverCues { s.emission with slate := s.slate + 2 }

/-- Test 3 of R62: each counting consumer counts the routes that lead to it (R350, R360).
DESIGN CHOICE (unsafe), log entry 97. -/
def State.cueTest (s : State) : Bool :=
  let t := cueTrial s
  (List.range 217).all fun i =>
    t.rd (Reg.CUE_CNT i) == s.rd (Reg.CUE_CNT i) + word ((List.range 224).filter fun r => routeInput r == i).length

/-! ### The reel test -/

/-- Reel n alone, in COMMIT over one bank pair at the start of the pool, with KSA0 as producer and cores as consumers. -/
def reelTrial (s : State) (n : Nat) : State :=
  let s := (List.range 32).foldl (fun (s : State) k => (s.wr (Reg.REL_RCFG k) 0x200).setReel k {}) s
  reelEnable (s.wr (Reg.REL_RMAX n) 139) n 0x81000200

/-- A packet of one word is written, committed and read back with its trailer, and a second one is rewound (R329, R337-R340).
DESIGN CHOICE (unsafe), log entry 97. -/
def reelPasses (s : State) (n : Nat) : Bool :=
  let w : Word := 0xA5A55A5A
  let a := reelEnd (reelPush (reelSop (reelTrial s n) n) n w) n
  let p := reelPop a n 0
  let q := reelPop p.state n 0
  let b := reelSop (reelPush (reelSop q.state n) n w) n
  (a.reel n).pkts == 1 && p.value == some w && q.value == some 1 && (q.state.reel n).pkts == 0
    && b.rd (Reg.REL_RREWCNT n) == q.state.rd (Reg.REL_RREWCNT n) + 1 && (b.reel n).p.fill == 0

/-- Test 4 of R62: every reel. -/
def State.reelTest (s : State) : Bool := (List.range 32).all fun n => reelPasses s n

/-! ### The sequence -/

/-- The result bits of the test in progress (R62): 0 loopback, whose chains pass as `loop` says, 1 ECC, 2 cues, 3 reels. Of a test on
what the block holds the operand says whether the hardware itself is free of a fault that the test meets.
DESIGN CHOICE (unsafe), log entry 97. -/
def State.testResult (s : State) (loop : Nat) (ecc cue reel : Bool) : Nat :=
  match s.sys.tested with
  | 0 => loop % 256
  | 1 => 256 * b2n (ecc && s.eccTest)
  | 2 => 512 * b2n (cue && s.cueTest)
  | _ => 1024 * b2n (reel && s.reelTest)

/-- The last test has ended: DONE, and the move to STANDBY or to the boot target (R61, R62). -/
def testsDone (s : State) : State :=
  let toBoot := s.sys.testToBoot
  let m := s.sys.bootTarget
  let s := stepTo (s.wb Reg.SYS_VSTAT 31 true) 2
  let s : State := { s with sys := { s.sys with testToBoot := false } }
  if toBoot ∧ m ≠ 2 then
    let c := s.targetCause m
    if c ≠ 0 then (modeRefused s c).1 else s.setTrans (some { target := m, since := s.slate, second := true })
  else s

/-- The test in progress ends with its result, the loopback test with the PA drifts that it measured (R540); after the last one
the device leaves VERIFY.
DESIGN CHOICE (safe), log entry 46. DESIGN CHOICE (unsafe), log entry 97. -/
def verifyDone (s : State) (loop : Nat) (ecc cue reel : Bool) (drifts : List Int) : State :=
  if s.mode ≠ 7 ∨ !s.sys.testing then s
  else
    let k := s.sys.tested
    let t := s.wr Reg.SYS_VSTAT (s.rd Reg.SYS_VSTAT ||| word (s.testResult loop ecc cue reel))
    let t := if k = 0 then (List.range 8).foldl (fun (t : State) n => paDrift t n (drifts.getD n 0)) t else t
    let t : State := { t with sys := { t.sys with tested := k + 1 } }
    if k < 3 then t else testsDone t

/-- VERIFY_DONE (R62): the test in progress has ended. -/
def execVerifyDone (loop : Nat) (ecc cue reel : Bool) (drifts : List Int) (s : State) : Out :=
  .next (verifyDone s loop ecc cue reel drifts)

end Sys2Proof.Machine
end

