-- ==== Sys2Proof/Machine/Dispatch.lean ====
section
/-! DEFINITION. Which meaning each command has: one arm per constructor of `Instr`. -/

namespace Sys2Proof.Machine

def exec (i : Instr) (s : State) : Host.Outcome State Fault Refusal :=
  match i with
  | .registerWrite req addr val => Sys2Proof.Machine.execRegisterWrite req addr val s
  | .powerOnReset => Sys2Proof.Machine.execPowerOnReset s
  | .pinReset => Sys2Proof.Machine.execPinReset s
  | .brownOutReset => Sys2Proof.Machine.execBrownOutReset s
  | .mainSupplyLoss vbatOk => Sys2Proof.Machine.execMainSupplyLoss vbatOk s
  | .mainSupplyReturn => Sys2Proof.Machine.execMainSupplyReturn s
  | .systemResetCmd => Sys2Proof.Machine.execSystemResetCmd s
  | .mainResetCmd => Sys2Proof.Machine.execMainResetCmd s
  | .coreResetCmd k => Sys2Proof.Machine.execCoreResetCmd k s
  | .watchdogExpiry => Sys2Proof.Machine.execWatchdogExpiry s
  | .wdogWrite val => Sys2Proof.Machine.execWdogWrite val s
  | .bootSequence x => Sys2Proof.Machine.execBootSequence x s
  | .modeRequest m => Sys2Proof.Machine.execModeRequest m s
  | .drainEnd => Sys2Proof.Machine.execDrainEnd s
  | .transitionSecondStep => Sys2Proof.Machine.execTransitionSecondStep s
  | .wakeComplete => Sys2Proof.Machine.execWakeComplete s
  | .verifyDone loop ecc cue reel drifts => Sys2Proof.Machine.execVerifyDone loop ecc cue reel drifts s
  | .roleWrite val => Sys2Proof.Machine.execRoleWrite val s
  | .lockLoss n => Sys2Proof.Machine.execLockLoss n s
  | .rfcRelock n => Sys2Proof.Machine.execRfcRelock n s
  | .calDc n => Sys2Proof.Machine.execCalDc n s
  | .calIq n => Sys2Proof.Machine.execCalIq n s
  | .calFc n => Sys2Proof.Machine.execCalFc n s
  | .calPa n => Sys2Proof.Machine.execCalPa n s
  | .calSuspendStart n => Sys2Proof.Machine.execCalSuspendStart n s
  | .calComplete n converged drift => Sys2Proof.Machine.execCalComplete n converged drift s
  | .agcGainStep n branchB power => Sys2Proof.Machine.execAgcGainStep n branchB power s
  | .txRampUpStart id => Sys2Proof.Machine.execTxRampUpStart id s
  | .radiatedIntervalEnd id => Sys2Proof.Machine.execRadiatedIntervalEnd id s
  | .retuneBackEnd n => Sys2Proof.Machine.execRetuneBackEnd n s
  | .applyGo val => Sys2Proof.Machine.execApplyGo val s
  | .applyInstant => Sys2Proof.Machine.execApplyInstant s
  | .detection d => Sys2Proof.Machine.execDetection d s
  | .demodAllocation => Sys2Proof.Machine.execDemodAllocation s
  | .profileSearchResume chain k p => Sys2Proof.Machine.execProfileSearchResume chain k p s
  | .noiseWindowEnd n powerA powerB => Sys2Proof.Machine.execNoiseWindowEnd n powerA powerB s
  | .surveyIntervalEnd => Sys2Proof.Machine.execSurveyIntervalEnd s
  | .phrReceived d est eof => Sys2Proof.Machine.execPhrReceived d est eof s
  | .deadSymbolTruncation d run till => Sys2Proof.Machine.execDeadSymbolTruncation d run till s
  | .takeComplete d eof => Sys2Proof.Machine.execTakeComplete d eof s
  | .decodeDone d r => Sys2Proof.Machine.execDecodeDone d r s
  | .takeReady d => Sys2Proof.Machine.execTakeReady d s
  | .siblingResolution d => Sys2Proof.Machine.execSiblingResolution d s
  | .takeRelease d => Sys2Proof.Machine.execTakeRelease d s
  | .ackCommit id => Sys2Proof.Machine.execAckCommit id s
  | .deadlineMiss path => Sys2Proof.Machine.execDeadlineMiss path s
  | .scheduleArm val => Sys2Proof.Machine.execScheduleArm val s
  | .scheduleCancel val => Sys2Proof.Machine.execScheduleCancel val s
  | .scheduleDispatch e => Sys2Proof.Machine.execScheduleDispatch e s
  | .dispatchSlackExpiry e => Sys2Proof.Machine.execDispatchSlackExpiry e s
  | .txCounterReset val => Sys2Proof.Machine.execTxCounterReset val s
  | .enqueue val => Sys2Proof.Machine.execEnqueue val s
  | .withdraw val => Sys2Proof.Machine.execWithdraw val s
  | .beaconCommit sec => Sys2Proof.Machine.execBeaconCommit sec s
  | .beaconDueBoundary sec => Sys2Proof.Machine.execBeaconDueBoundary sec s
  | .beaconMissDecision => Sys2Proof.Machine.execBeaconMissDecision s
  | .holdoverExpired => Sys2Proof.Machine.execHoldoverExpired s
  | .scanStep => Sys2Proof.Machine.execScanStep s
  | .budgetAccountEnable dwell n val => Sys2Proof.Machine.execBudgetAccountEnable dwell n val s
  | .presetLoad dwell n val => Sys2Proof.Machine.execPresetLoad dwell n val s
  | .sheetSubmit src => Sys2Proof.Machine.execSheetSubmit src s
  | .sheetApply => Sys2Proof.Machine.execSheetApply s
  | .rangeSaveStart r => Sys2Proof.Machine.execRangeSaveStart r s
  | .saveAll => Sys2Proof.Machine.execSaveAll s
  | .rangeSaved retired => Sys2Proof.Machine.execRangeSaved retired s
  | .rangeLoaded r good => Sys2Proof.Machine.execRangeLoaded r good s
  | .rangeRelease val => Sys2Proof.Machine.execRangeRelease val s
  | .generationSeed val => Sys2Proof.Machine.execGenerationSeed val s
  | .recordCapture addr => Sys2Proof.Machine.execRecordCapture addr s
  | .cipSubmit core val => Sys2Proof.Machine.execCipSubmit core val s
  | .keyLoad core val => Sys2Proof.Machine.execKeyLoad core val s
  | .slotClear val => Sys2Proof.Machine.execSlotClear val s
  | .cipRequestStart => Sys2Proof.Machine.execCipRequestStart s
  | .cipRequestPublish finished => Sys2Proof.Machine.execCipRequestPublish finished s
  | .reelEnable n val => Sys2Proof.Machine.execReelEnable n val s
  | .reelDisable n val => Sys2Proof.Machine.execReelDisable n val s
  | .routeEnable r val => Sys2Proof.Machine.execRouteEnable r val s
  | .packetOpen req n => Sys2Proof.Machine.execPacketOpen req n s
  | .packetClose req n => Sys2Proof.Machine.execPacketClose req n s
  | .reelPush req n val => Sys2Proof.Machine.execReelPush req n val s
  | .reelPop req n => Sys2Proof.Machine.execReelPop req n s
  | .producerStall n => Sys2Proof.Machine.execProducerStall n s
  | .pointerFault n => Sys2Proof.Machine.execPointerFault n s
  | .cueFire w val => Sys2Proof.Machine.execCueFire w val s
  | .intTrigger inp count => Sys2Proof.Machine.execIntTrigger inp count s
  | .gpoSet n count => Sys2Proof.Machine.execGpoSet n count s
  | .gpoClr n count => Sys2Proof.Machine.execGpoClr n count s
  | .gpoPulseEnd n => Sys2Proof.Machine.execGpoPulseEnd n s
  | .gpioInputEdge n shown => Sys2Proof.Machine.execGpioInputEdge n shown s
  | .gpioStuck n => Sys2Proof.Machine.execGpioStuck n s
  | .sysWakeTrigger sources count gen => Sys2Proof.Machine.execSysWakeTrigger sources count gen s
  | .slcapTrigger em count => Sys2Proof.Machine.execSlcapTrigger em count s
  | .slateCaptureCmd => Sys2Proof.Machine.execSlateCaptureCmd s
  | .ethFlush k count => Sys2Proof.Machine.execEthFlush k count s
  | .tmrCountTrigger n count gen => Sys2Proof.Machine.execTmrCountTrigger n count gen s
  | .tmrCaptTrigger n count gen em => Sys2Proof.Machine.execTmrCaptTrigger n count gen em s
  | .tmrCaptureCmd n => Sys2Proof.Machine.execTmrCaptureCmd n s
  | .groupStart count => Sys2Proof.Machine.execGroupStart count s
  | .tmrMatch n k => Sys2Proof.Machine.execTmrMatch n k s
  | .tmrOverflow n => Sys2Proof.Machine.execTmrOverflow n s
  | .tmrCtlWrite n val => Sys2Proof.Machine.execTmrCtlWrite n val s
  | .tmrCntWrite n val => Sys2Proof.Machine.execTmrCntWrite n val s
  | .tmrCmpWrite n k val => Sys2Proof.Machine.execTmrCmpWrite n k val s
  | .tmrTopWrite n val => Sys2Proof.Machine.execTmrTopWrite n val s
  | .calFreeze => Sys2Proof.Machine.execCalFreeze s
  | .calYearRead => Sys2Proof.Machine.execCalYearRead s
  | .freezeTimeout => Sys2Proof.Machine.execFreezeTimeout s
  | .calCommit => Sys2Proof.Machine.execCalCommit s
  | .calCapture => Sys2Proof.Machine.execCalCapture s
  | .calWake => Sys2Proof.Machine.execCalWake s
  | .calAlarm => Sys2Proof.Machine.execCalAlarm s
  | .calendarWrap => Sys2Proof.Machine.execCalendarWrap s
  | .oscStopDetect => Sys2Proof.Machine.execOscStopDetect s
  | .vbatLow => Sys2Proof.Machine.execVbatLow s
  | .interruptEntry core => Sys2Proof.Machine.execInterruptEntry core s
  | .msgSend core => Sys2Proof.Machine.execMsgSend core s
  | .msgSendStallEnd core => Sys2Proof.Machine.execMsgSendStallEnd core s
  | .msgRecv core => Sys2Proof.Machine.execMsgRecv core s
  | .msgRecvCipher core => Sys2Proof.Machine.execMsgRecvCipher core s
  | .msgRecvAny core => Sys2Proof.Machine.execMsgRecvAny core s
  | .msgRecvStallEnd core => Sys2Proof.Machine.execMsgRecvStallEnd core s
  | .dwinWrite core val => Sys2Proof.Machine.execDwinWrite core val s
  | .waitComplete core => Sys2Proof.Machine.execWaitComplete core s
  | .add core => Sys2Proof.Machine.execAdd core s
  | .sub core => Sys2Proof.Machine.execSub core s
  | .neg core => Sys2Proof.Machine.execNeg core s
  | .cmp core => Sys2Proof.Machine.execCmp core s
  | .and core => Sys2Proof.Machine.execAnd core s
  | .or core => Sys2Proof.Machine.execOr core s
  | .xor core => Sys2Proof.Machine.execXor core s
  | .not core => Sys2Proof.Machine.execNot core s
  | .mov core => Sys2Proof.Machine.execMov core s
  | .lsl core => Sys2Proof.Machine.execLsl core s
  | .lsr core => Sys2Proof.Machine.execLsr core s
  | .asr core => Sys2Proof.Machine.execAsr core s
  | .ror core => Sys2Proof.Machine.execRor core s
  | .lsli core => Sys2Proof.Machine.execLsli core s
  | .lsri core => Sys2Proof.Machine.execLsri core s
  | .asri core => Sys2Proof.Machine.execAsri core s
  | .rori core => Sys2Proof.Machine.execRori core s
  | .clz core => Sys2Proof.Machine.execClz core s
  | .sextb core => Sys2Proof.Machine.execSextb core s
  | .sexth core => Sys2Proof.Machine.execSexth core s
  | .zextb core => Sys2Proof.Machine.execZextb core s
  | .zexth core => Sys2Proof.Machine.execZexth core s
  | .addi core => Sys2Proof.Machine.execAddi core s
  | .andi core => Sys2Proof.Machine.execAndi core s
  | .ori core => Sys2Proof.Machine.execOri core s
  | .xori core => Sys2Proof.Machine.execXori core s
  | .cmpi core => Sys2Proof.Machine.execCmpi core s
  | .lih core => Sys2Proof.Machine.execLih core s
  | .lil core => Sys2Proof.Machine.execLil core s
  | .ld core => Sys2Proof.Machine.execLd core s
  | .lds core => Sys2Proof.Machine.execLds core s
  | .st core => Sys2Proof.Machine.execSt core s
  | .bcc core => Sys2Proof.Machine.execBcc core s
  | .call core => Sys2Proof.Machine.execCall core s
  | .jmp core => Sys2Proof.Machine.execJmp core s
  | .jr core => Sys2Proof.Machine.execJr core s
  | .callr core => Sys2Proof.Machine.execCallr core s
  | .ret core => Sys2Proof.Machine.execRet core s
  | .reti core => Sys2Proof.Machine.execReti core s
  | .trap core => Sys2Proof.Machine.execTrap core s
  | .feat core => Sys2Proof.Machine.execFeat core s
  | .wait core => Sys2Proof.Machine.execWait core s
  | .mul core => Sys2Proof.Machine.execMul core s
  | .mulhs core => Sys2Proof.Machine.execMulhs core s
  | .mulhu core => Sys2Proof.Machine.execMulhu core s
  | .divs core => Sys2Proof.Machine.execDivs core s
  | .divu core => Sys2Proof.Machine.execDivu core s
  | .addsat core => Sys2Proof.Machine.execAddsat core s
  | .subsat core => Sys2Proof.Machine.execSubsat core s
  | .negsat core => Sys2Proof.Machine.execNegsat core s
  | .addsatH core => Sys2Proof.Machine.execAddsatH core s
  | .subsatH core => Sys2Proof.Machine.execSubsatH core s
  | .clampH core => Sys2Proof.Machine.execClampH core s
  | .macL core => Sys2Proof.Machine.execMacL core s
  | .macU core => Sys2Proof.Machine.execMacU core s
  | .msbL core => Sys2Proof.Machine.execMsbL core s
  | .msbU core => Sys2Proof.Machine.execMsbU core s
  | .macf core => Sys2Proof.Machine.execMacf core s
  | .azero core => Sys2Proof.Machine.execAzero core s
  | .aload core => Sys2Proof.Machine.execAload core s
  | .arnd core => Sys2Proof.Machine.execArnd core s
  | .agetl core => Sys2Proof.Machine.execAgetl core s
  | .ageth core => Sys2Proof.Machine.execAgeth core s
  | .aput core => Sys2Proof.Machine.execAput core s
  | .cMov core => Sys2Proof.Machine.execCMov core s
  | .cAdd core => Sys2Proof.Machine.execCAdd core s
  | .cSub core => Sys2Proof.Machine.execCSub core s
  | .cAddi core => Sys2Proof.Machine.execCAddi core s
  | .cCmp core => Sys2Proof.Machine.execCCmp core s
  | .cLdwsp core => Sys2Proof.Machine.execCLdwsp core s
  | .cStwsp core => Sys2Proof.Machine.execCStwsp core s
  | .cLdw core => Sys2Proof.Machine.execCLdw core s
  | .cStw core => Sys2Proof.Machine.execCStw core s
  | .cLsli core => Sys2Proof.Machine.execCLsli core s
  | .cLsri core => Sys2Proof.Machine.execCLsri core s
  | .cAsri core => Sys2Proof.Machine.execCAsri core s
  | .cAnd core => Sys2Proof.Machine.execCAnd core s
  | .cOr core => Sys2Proof.Machine.execCOr core s
  | .cB core => Sys2Proof.Machine.execCB core s
  | .cBeq core => Sys2Proof.Machine.execCBeq core s
  | .cBne core => Sys2Proof.Machine.execCBne core s
  | .cRet core => Sys2Proof.Machine.execCRet core s
  | .cJr core => Sys2Proof.Machine.execCJr core s
  | .cCallr core => Sys2Proof.Machine.execCCallr core s
  | .scrubberVisit m => Sys2Proof.Machine.execScrubberVisit m s
  | .leakyBucketLeak m => Sys2Proof.Machine.execLeakyBucketLeak m s
  | .testRawWrite => Sys2Proof.Machine.execTestRawWrite s
  | .testRawRead => Sys2Proof.Machine.execTestRawRead s
  | .testDecodedRead => Sys2Proof.Machine.execTestDecodedRead s
  | .odpRead => Sys2Proof.Machine.execOdpRead s
  | .odpWrite => Sys2Proof.Machine.execOdpWrite s
  | .odpReadBlock => Sys2Proof.Machine.execOdpReadBlock s
  | .odpWriteBlock => Sys2Proof.Machine.execOdpWriteBlock s
  | .odpSubscribe => Sys2Proof.Machine.execOdpSubscribe s
  | .odpAction => Sys2Proof.Machine.execOdpAction s
  | .odpResponseSend => Sys2Proof.Machine.execOdpResponseSend s
  | .notificationSample k => Sys2Proof.Machine.execNotificationSample k s
  | .subscriptionLapse k => Sys2Proof.Machine.execSubscriptionLapse k s
  | .pstoreSaveDelay => Sys2Proof.Machine.execPstoreSaveDelay s
  | .pstoreSaveCmd => Sys2Proof.Machine.execPstoreSaveCmd s
  | .pstoreSaveComplete good => Sys2Proof.Machine.execPstoreSaveComplete good s
  | .fwActionDone val => Sys2Proof.Machine.execFwActionDone val s
  | .fwActionTimeout => Sys2Proof.Machine.execFwActionTimeout s
  | .ethFrameReceive k frame fcs stamp => Sys2Proof.Machine.execEthFrameReceive k frame fcs stamp s
  | .ethFrameTransmit k stamp => Sys2Proof.Machine.execEthFrameTransmit k stamp s
  | .ethLinkChange k up speed halfOnly => Sys2Proof.Machine.execEthLinkChange k up speed halfOnly s
  | .batchAgeExpiry k n => Sys2Proof.Machine.execBatchAgeExpiry k n s
  | .batchSend k => Sys2Proof.Machine.execBatchSend k s
  | .sphWriteFrame len octets => Sys2Proof.Machine.execSphWriteFrame len octets s
  | .sphReadFrame clocked => Sys2Proof.Machine.execSphReadFrame clocked s
  | .sphReadReel n maxw clocked => Sys2Proof.Machine.execSphReadReel n maxw clocked s
  | .sphStatus => Sys2Proof.Machine.execSphStatus s
  | .sphUnknownCommand clocked => Sys2Proof.Machine.execSphUnknownCommand clocked s
  | .sphAbandoned => Sys2Proof.Machine.execSphAbandoned s
  | .uartReceive octet stop => Sys2Proof.Machine.execUartReceive octet stop s
  | .uartBreak => Sys2Proof.Machine.execUartBreak s
  | .uartTxWrite val => Sys2Proof.Machine.execUartTxWrite val s
  | .uartRxPop => Sys2Proof.Machine.execUartRxPop s
  | .ppsEdge shown => Sys2Proof.Machine.execPpsEdge shown s
  | .ppsStuck => Sys2Proof.Machine.execPpsStuck s
  | .ptpOffsetWrite val => Sys2Proof.Machine.execPtpOffsetWrite val s
  | .synHoldTimeout => Sys2Proof.Machine.execSynHoldTimeout s
  | .slateStep => Sys2Proof.Machine.execSlateStep s
  | .synSecond sec => Sys2Proof.Machine.execSynSecond sec s
  | .ppsOutEnd => Sys2Proof.Machine.execPpsOutEnd s
  | .stageBegin src hdr => Sys2Proof.Machine.execStageBegin src hdr s
  | .stageChunk src ofs data => Sys2Proof.Machine.execStageChunk src ofs data s
  | .stageFinish src => Sys2Proof.Machine.execStageFinish src s
  | .stageAbort src => Sys2Proof.Machine.execStageAbort src s
  | .unstage c => Sys2Proof.Machine.execUnstage c s
  | .revokeKey key => Sys2Proof.Machine.execRevokeKey key s
  | .stageVerifyDone => Sys2Proof.Machine.execStageVerifyDone s
  | .stageStall => Sys2Proof.Machine.execStageStall s
  | .sentinelWindowEnd counts temp => Sys2Proof.Machine.execSentinelWindowEnd counts temp s
  | .planCmd => Sys2Proof.Machine.execPlanCmd s
  | .planRunStart => Sys2Proof.Machine.execPlanRunStart s
  | .planStepMeasured => Sys2Proof.Machine.execPlanStepMeasured s
  | .pmbusAlert => Sys2Proof.Machine.execPmbusAlert s
  | .tcxoLoss => Sys2Proof.Machine.execTcxoLoss s
  | .tcxoRecovery => Sys2Proof.Machine.execTcxoRecovery s
  | .tcxoHourEnd => Sys2Proof.Machine.execTcxoHourEnd s
  | .xtalWindowEnd => Sys2Proof.Machine.execXtalWindowEnd s
  | .thermalShutdown => Sys2Proof.Machine.execThermalShutdown s
  | .thermalRecovery => Sys2Proof.Machine.execThermalRecovery s
  | .clearHighWater => Sys2Proof.Machine.execClearHighWater s
  | .chainPowerUpComplete n => Sys2Proof.Machine.execChainPowerUpComplete n s
  | .synthesizerRetuneComplete n => Sys2Proof.Machine.execSynthesizerRetuneComplete n s
  | .femPinChange n => Sys2Proof.Machine.execFemPinChange n s
  | .lateTakeCommit d => Sys2Proof.Machine.execLateTakeCommit d s
  | .inputGlitch input => Sys2Proof.Machine.execInputGlitch input s
  | .trimWindowStart => Sys2Proof.Machine.execTrimWindowStart s
  | .oscillatorRestart => Sys2Proof.Machine.execOscillatorRestart s
  | .vbatRecovery => Sys2Proof.Machine.execVbatRecovery s
  | .backupDomainLoss => Sys2Proof.Machine.execBackupDomainLoss s
  | .uartTransmit => Sys2Proof.Machine.execUartTransmit s
  | .stageFlashComplete good => Sys2Proof.Machine.execStageFlashComplete good s
  | .pmbusTransactionEnd cmd result => Sys2Proof.Machine.execPmbusTransactionEnd cmd result s

end Sys2Proof.Machine
end

