-- ==== Sys2Proof/WellFormed.lean ====
section
/-! DEFINITION. The operands a command may have: each names something that the block has. A command that is not well-formed is
refused as ill-formed by its meaning. -/

namespace Sys2Proof

open Sys2Proof.Machine

/-- The command's operands name something in the block. -/
def Instr.wf (i : Instr) : Bool :=
  match i with
  | .registerWrite _ addr _ => addr % 4 == 0 && decide (addr < 2 ^ 32)
  | .powerOnReset => true
  | .pinReset => true
  | .brownOutReset => true
  | .mainSupplyLoss _ => true
  | .mainSupplyReturn => true
  | .systemResetCmd => true
  | .mainResetCmd => true
  | .coreResetCmd k => decide (k < 4)
  | .watchdogExpiry => true
  | .wdogWrite _ => true
  | .bootSequence x => decide (x.bootSel < 4)
  | .modeRequest m => decide (m < 16)
  | .drainEnd => true
  | .transitionSecondStep => true
  | .wakeComplete => true
  | .verifyDone _ _ _ _ _ => true
  | .roleWrite _ => true
  | .lockLoss n => decide (n < 8)
  | .rfcRelock n => decide (n < 8)
  | .calDc n => decide (n < 8)
  | .calIq n => decide (n < 8)
  | .calFc n => decide (n < 8)
  | .calPa n => decide (n < 8)
  | .calSuspendStart n => decide (n < 8)
  | .calComplete n _ _ => decide (n < 8)
  | .agcGainStep n _ _ => decide (n < 8)
  | .txRampUpStart _ => true
  | .radiatedIntervalEnd _ => true
  | .retuneBackEnd n => decide (n < 8)
  | .applyGo val => bit val 31
  | .applyInstant => true
  | .detection d => decide (d.chain < 8 ∧ d.ch < 64 ∧ d.prof < 16)
  | .demodAllocation => true
  | .profileSearchResume chain k p => decide (chain < 8 ∧ k < 64 ∧ p < 16)
  | .noiseWindowEnd n _ _ => decide (n < 8)
  | .surveyIntervalEnd => true
  | .phrReceived d _ _ => decide (d < 192)
  | .deadSymbolTruncation d _ _ => decide (d < 192)
  | .takeComplete d _ => decide (d < 192)
  | .decodeDone d _ => decide (d < 192)
  | .takeReady d => decide (d < 192)
  | .siblingResolution d => decide (d < 192)
  | .takeRelease d => decide (d < 192)
  | .ackCommit _ => true
  | .deadlineMiss _ => true
  | .scheduleArm val => bit val 0
  | .scheduleCancel val => bit val 1 && !bit val 0
  | .scheduleDispatch e => decide (e < 4096)
  | .dispatchSlackExpiry e => decide (e < 4096)
  | .txCounterReset val => bit val 0
  | .enqueue val => bit val 30
  | .withdraw val => bit val 31
  | .beaconCommit _ => true
  | .beaconDueBoundary _ => true
  | .beaconMissDecision => true
  | .holdoverExpired => true
  | .scanStep => true
  | .budgetAccountEnable _ n val => decide (n < 16 ∧ bit val 31)
  | .presetLoad _ n val => decide (n < 16 ∧ bit val 31)
  | .sheetSubmit src => decide (src < 6)
  | .sheetApply => true
  | .rangeSaveStart r => decide (r < 512)
  | .saveAll => true
  | .rangeSaved _ => true
  | .rangeLoaded r _ => decide (r < 512)
  | .rangeRelease val => bit val 31
  | .generationSeed val => bit val 0
  | .recordCapture addr => decide (addr < 2 ^ 25)
  | .cipSubmit core _ => decide (core < 5)
  | .keyLoad core val => decide (core < 5 ∧ bit val 31)
  | .slotClear val => bit val 31
  | .cipRequestStart => true
  | .cipRequestPublish _ => true
  | .reelEnable n val => decide (n < 32 ∧ bit val 31)
  | .reelDisable n val => decide (n < 32 ∧ !bit val 31)
  | .routeEnable r val => decide (r < 16 ∧ bit val 31)
  | .packetOpen _ n => decide (n < 32)
  | .packetClose _ n => decide (n < 32)
  | .reelPush _ n _ => decide (n < 32)
  | .reelPop req n => decide (n < 32 ∧ req < 5)
  | .producerStall n => decide (n < 32)
  | .pointerFault n => decide (n < 32)
  | .cueFire w _ => decide (w < 7)
  | .intTrigger inp _ => decide (inp < 147)
  | .gpoSet n _ => decide (n < 16)
  | .gpoClr n _ => decide (n < 16)
  | .gpoPulseEnd n => decide (n < 16)
  | .gpioInputEdge n _ => decide (n < 16)
  | .gpioStuck n => decide (n < 16)
  | .sysWakeTrigger sources _ _ => decide (sources < 16)
  | .slcapTrigger _ _ => true
  | .slateCaptureCmd => true
  | .ethFlush k _ => decide (k < 3)
  | .tmrCountTrigger n _ _ => decide (n < 16)
  | .tmrCaptTrigger n _ _ _ => decide (n < 16)
  | .tmrCaptureCmd n => decide (n < 16)
  | .groupStart _ => true
  | .tmrMatch n k => decide (n < 16 ∧ k < 4)
  | .tmrOverflow n => decide (n < 16)
  | .tmrCtlWrite n _ => decide (n < 16)
  | .tmrCntWrite n _ => decide (n < 16)
  | .tmrCmpWrite n k _ => decide (n < 16 ∧ k < 4)
  | .tmrTopWrite n _ => decide (n < 16)
  | .calFreeze => true
  | .calYearRead => true
  | .freezeTimeout => true
  | .calCommit => true
  | .calCapture => true
  | .calWake => true
  | .calAlarm => true
  | .calendarWrap => true
  | .oscStopDetect => true
  | .vbatLow => true
  | .interruptEntry core => decide (core < 5)
  | .msgSend core => decide (core < 5)
  | .msgSendStallEnd core => decide (core < 5)
  | .msgRecv core => decide (core < 5)
  | .msgRecvCipher core => decide (core < 5)
  | .msgRecvAny core => decide (core < 5)
  | .msgRecvStallEnd core => decide (core < 5)
  | .dwinWrite core _ => decide (core < 5)
  | .waitComplete core => decide (core < 5)
  | .add core => decide (core < 5)
  | .sub core => decide (core < 5)
  | .neg core => decide (core < 5)
  | .cmp core => decide (core < 5)
  | .and core => decide (core < 5)
  | .or core => decide (core < 5)
  | .xor core => decide (core < 5)
  | .not core => decide (core < 5)
  | .mov core => decide (core < 5)
  | .lsl core => decide (core < 5)
  | .lsr core => decide (core < 5)
  | .asr core => decide (core < 5)
  | .ror core => decide (core < 5)
  | .lsli core => decide (core < 5)
  | .lsri core => decide (core < 5)
  | .asri core => decide (core < 5)
  | .rori core => decide (core < 5)
  | .clz core => decide (core < 5)
  | .sextb core => decide (core < 5)
  | .sexth core => decide (core < 5)
  | .zextb core => decide (core < 5)
  | .zexth core => decide (core < 5)
  | .addi core => decide (core < 5)
  | .andi core => decide (core < 5)
  | .ori core => decide (core < 5)
  | .xori core => decide (core < 5)
  | .cmpi core => decide (core < 5)
  | .lih core => decide (core < 5)
  | .lil core => decide (core < 5)
  | .ld core => decide (core < 5)
  | .lds core => decide (core < 5)
  | .st core => decide (core < 5)
  | .bcc core => decide (core < 5)
  | .call core => decide (core < 5)
  | .jmp core => decide (core < 5)
  | .jr core => decide (core < 5)
  | .callr core => decide (core < 5)
  | .ret core => decide (core < 5)
  | .reti core => decide (core < 5)
  | .trap core => decide (core < 5)
  | .feat core => decide (core < 5)
  | .wait core => decide (core < 5)
  | .mul core => decide (core < 5)
  | .mulhs core => decide (core < 5)
  | .mulhu core => decide (core < 5)
  | .divs core => decide (core < 5)
  | .divu core => decide (core < 5)
  | .addsat core => decide (core < 5)
  | .subsat core => decide (core < 5)
  | .negsat core => decide (core < 5)
  | .addsatH core => decide (core < 5)
  | .subsatH core => decide (core < 5)
  | .clampH core => decide (core < 5)
  | .macL core => decide (core < 5)
  | .macU core => decide (core < 5)
  | .msbL core => decide (core < 5)
  | .msbU core => decide (core < 5)
  | .macf core => decide (core < 5)
  | .azero core => decide (core < 5)
  | .aload core => decide (core < 5)
  | .arnd core => decide (core < 5)
  | .agetl core => decide (core < 5)
  | .ageth core => decide (core < 5)
  | .aput core => decide (core < 5)
  | .cMov core => decide (core < 5)
  | .cAdd core => decide (core < 5)
  | .cSub core => decide (core < 5)
  | .cAddi core => decide (core < 5)
  | .cCmp core => decide (core < 5)
  | .cLdwsp core => decide (core < 5)
  | .cStwsp core => decide (core < 5)
  | .cLdw core => decide (core < 5)
  | .cStw core => decide (core < 5)
  | .cLsli core => decide (core < 5)
  | .cLsri core => decide (core < 5)
  | .cAsri core => decide (core < 5)
  | .cAnd core => decide (core < 5)
  | .cOr core => decide (core < 5)
  | .cB core => decide (core < 5)
  | .cBeq core => decide (core < 5)
  | .cBne core => decide (core < 5)
  | .cRet core => decide (core < 5)
  | .cJr core => decide (core < 5)
  | .cCallr core => decide (core < 5)
  | .scrubberVisit m => decide (m < 15)
  | .leakyBucketLeak m => decide (m < 15)
  | .testRawWrite => true
  | .testRawRead => true
  | .testDecodedRead => true
  | .odpRead => true
  | .odpWrite => true
  | .odpReadBlock => true
  | .odpWriteBlock => true
  | .odpSubscribe => true
  | .odpAction => true
  | .odpResponseSend => true
  | .notificationSample k => decide (k < 64)
  | .subscriptionLapse k => decide (k < 64)
  | .pstoreSaveDelay => true
  | .pstoreSaveCmd => true
  | .pstoreSaveComplete _ => true
  | .fwActionDone _ => true
  | .fwActionTimeout => true
  | .ethFrameReceive k _ _ _ => decide (k < 3)
  | .ethFrameTransmit k _ => decide (k < 3)
  | .ethLinkChange k _ _ _ => decide (k < 3)
  | .batchAgeExpiry k n => decide (k < 3 ∧ n < 32)
  | .batchSend k => decide (k < 3)
  | .sphWriteFrame _ _ => true
  | .sphReadFrame _ => true
  | .sphReadReel _ _ _ => true
  | .sphStatus => true
  | .sphUnknownCommand _ => true
  | .sphAbandoned => true
  | .uartReceive _ _ => true
  | .uartBreak => true
  | .uartTxWrite _ => true
  | .uartRxPop => true
  | .ppsEdge shown => decide (shown.frac < 8)
  | .ppsStuck => true
  | .ptpOffsetWrite _ => true
  | .synHoldTimeout => true
  | .slateStep => true
  | .synSecond _ => true
  | .ppsOutEnd => true
  | .stageBegin src _ => stageSource src
  | .stageChunk src _ _ => stageSource src
  | .stageFinish src => stageSource src
  | .stageAbort src => stageSource src
  | .unstage c => decide (1 ≤ c ∧ c ≤ 4)
  | .revokeKey key => decide (key < 4)
  | .stageVerifyDone => true
  | .stageStall => true
  | .sentinelWindowEnd _ _ => true
  | .planCmd => true
  | .planRunStart => true
  | .planStepMeasured => true
  | .pmbusAlert => true
  | .tcxoLoss => true
  | .tcxoRecovery => true
  | .tcxoHourEnd => true
  | .xtalWindowEnd => true
  | .thermalShutdown => true
  | .thermalRecovery => true
  | .clearHighWater => true
  | .chainPowerUpComplete n => decide (n < 8)
  | .synthesizerRetuneComplete n => decide (n < 8)
  | .femPinChange n => decide (n < 8)
  | .lateTakeCommit d => decide (d < 192)
  | .inputGlitch input => match input with | .gpio n _ => decide (n < 16) | _ => true
  | .trimWindowStart => true
  | .oscillatorRestart => true
  | .vbatRecovery => true
  | .backupDomainLoss => true
  | .uartTransmit => true
  | .stageFlashComplete _ => true
  | .pmbusTransactionEnd _ _ => true

end Sys2Proof
end

