-- ==== Sys2Proof/Safety.lean ====
section
/-! DEFINITION. The terms in which claims are written: what a command leaves unchanged, which register bits and cues it
gives, and the canonical form of a state, in which no run of commands ends in a stop. -/

namespace Sys2Proof.Machine

/-- `t` reads as `s` in every register but those at the addresses `rs`, and hardware has set no bit of any other (R5). -/
def KeepsRegs (rs : List Nat) (s t : State) : Prop := ∀ a, a ∉ rs → t.rd a = s.rd a ∧ t.raised.get a 0 = s.raised.get a 0

/-- `m'` holds what `m` holds at every index but `k`. -/
def KeepsMap {α : Type} (k : Nat) (m m' : SMap α) : Prop := ∀ i, i ≠ k → m'.find i = m.find i

/-- The bits `bs` of the register at `a` are `v` in `t`; its other bits are those of `s`. -/
def GivesBits (a : Nat) (bs : List Nat) (v : Bool) (s t : State) : Prop :=
  ∀ b, b < 32 → t.rb a b = if b ∈ bs then v else s.rb a b

/-- Field [hi:lo] of the register at `a` is `v` in `t`; its other bits are those of `s`. -/
def GivesField (a hi lo v : Nat) (s t : State) : Prop :=
  t.rf a hi lo = v ∧ ∀ b, b < 32 → ¬(lo ≤ b ∧ b ≤ hi) → t.rb a b = s.rb a b

/-- The cues that an event of the present tick gives on the routes `rs` (R346, R352): one on each route, of count `c` and generation 0,
emitted now, to take effect at its consumer input after that input's delay. Those whose routes do not deliver once the tick's writes are
done are lost then (R349, `State.emission`). -/
def State.cuesOf (s : State) (rs : List Nat) (c : Nat) : List PendingCue :=
  rs.map fun r =>
    { route := r, input := routeInput r, effect := s.slate + inputDelta (routeInput r), count := c, gen := 0, em := s.slate }

/-- The cue fabric of `t` is that of `s` with the cues of one event on the routes `rs` added. -/
def Fires (rs : List Nat) (c : Nat) (s t : State) : Prop :=
  t.cue = { s.cue with pending := s.cue.pending ++ s.cuesOf rs c }

/-- `m'` holds what `m` holds at every index but the `n` from `k` on. -/
def KeepsOutside {α : Type} (k n : Nat) (m m' : SMap α) : Prop := ∀ i, ¬(k ≤ i ∧ i < k + n) → m'.find i = m.find i

/-- ECC word `i` of memory `m` has been written whole with `d` (R447): it reads good with that data, and no octet and no mark of
another word differs. -/
def WordPut (m i d : Nat) (u t : State) : Prop :=
  t.eccRead m i = { cls := .good, data := d } ∧ KeepsOutside (memKey m (i * eccOctets m)) (eccOctets m) u.mem t.mem ∧
  KeepsMap (memKey m i) u.ecc t.ecc

/-- CUE counts `c` in CUE.CNTi (R350), of whose word of engine state `u` is the state after the read (`State.cueRead`): in `t` the
register is higher by `c`, and where memory 12 is powered its word i is written with it (R444). -/
def Counted (i c : Nat) (u t : State) : Prop :=
  t.rd (Reg.CUE_CNT i) = u.rd (Reg.CUE_CNT i) + word c ∧
  (u.memOn 12 = true → WordPut 12 i (t.rd (Reg.CUE_CNT i)).toNat u t) ∧
  (u.memOn 12 = false → t.mem = u.mem ∧ t.ecc = u.ecc)

/-- DCB has written stored buckets of the accounts and bins `l` (R253): no octet and no mark outside their words differs, nor any stretch of
undefined contents of another memory than DRAM. -/
def BinsStored (l : List (Nat × Nat)) (u t : State) : Prop :=
  (∀ k, (∀ x ∈ l, ¬(memKey 14 (u.bucketWords x.1 x.2) ≤ k ∧ k < memKey 14 (u.bucketWords x.1 x.2) + 480)) →
    SMap.find t.mem k = SMap.find u.mem k) ∧
  (∀ k, (∀ x ∈ l, ¬(memKey 14 (u.bucketWords x.1 x.2 / 16) ≤ k ∧ k < memKey 14 (u.bucketWords x.1 x.2 / 16) + 30)) →
    t.ecc.find k = u.ecc.find k) ∧
  (t.undef.filter fun x => x.m != 14) = u.undef.filter fun x => x.m != 14

/-- The command's outcome is a next state, and `P` holds of it. -/
def Completes (i : Instr) (s : State) (P : State → Prop) : Prop := ∃ t, exec i s = .next t ∧ P t

/-- The canonical form of the state: memory's cells rise in address and none holds what an unlisted address reads as, and
the slate is a 64-bit number. -/
def State.canonical (s : State) : Prop := Memory.wf s.mem = true ∧ s.slate < 2 ^ 64

/-- The step goes on: neither a fault nor a refusal. -/
def State.goesOn (s : State) : Prop := ∃ t, step s = .next t

/-- A run is safe where every waiting command is well-formed and none is a write to an address that no block holds. -/
def State.safe (s : State) : Prop :=
  ∀ c ∈ s.pending, c.wf = true ∧ ∀ req a v, c = .registerWrite req a v → s.busOk a = true

/-! ### Keasuric cores -/

/-- The command of a mnemonic on core n. -/
def KOp.command (op : KOp) (n : Nat) : Instr :=
  match op with
  | .add => .add n
  | .sub => .sub n
  | .neg => .neg n
  | .cmp => .cmp n
  | .and => .and n
  | .or => .or n
  | .xor => .xor n
  | .not => .not n
  | .mov => .mov n
  | .lsl => .lsl n
  | .lsr => .lsr n
  | .asr => .asr n
  | .ror => .ror n
  | .lsli => .lsli n
  | .lsri => .lsri n
  | .asri => .asri n
  | .rori => .rori n
  | .clz => .clz n
  | .sextb => .sextb n
  | .sexth => .sexth n
  | .zextb => .zextb n
  | .zexth => .zexth n
  | .addi => .addi n
  | .andi => .andi n
  | .ori => .ori n
  | .xori => .xori n
  | .cmpi => .cmpi n
  | .lih => .lih n
  | .lil => .lil n
  | .ld => .ld n
  | .lds => .lds n
  | .st => .st n
  | .bcc => .bcc n
  | .call => .call n
  | .jmp => .jmp n
  | .jr => .jr n
  | .callr => .callr n
  | .ret => .ret n
  | .reti => .reti n
  | .trap => .trap n
  | .feat => .feat n
  | .wait => .wait n
  | .mul => .mul n
  | .mulhs => .mulhs n
  | .mulhu => .mulhu n
  | .divs => .divs n
  | .divu => .divu n
  | .addsat => .addsat n
  | .subsat => .subsat n
  | .negsat => .negsat n
  | .addsatH => .addsatH n
  | .subsatH => .subsatH n
  | .clampH => .clampH n
  | .macL => .macL n
  | .macU => .macU n
  | .msbL => .msbL n
  | .msbU => .msbU n
  | .macf => .macf n
  | .azero => .azero n
  | .aload => .aload n
  | .arnd => .arnd n
  | .agetl => .agetl n
  | .ageth => .ageth n
  | .aput => .aput n
  | .cMov => .cMov n
  | .cAdd => .cAdd n
  | .cSub => .cSub n
  | .cAddi => .cAddi n
  | .cCmp => .cCmp n
  | .cLdwsp => .cLdwsp n
  | .cStwsp => .cStwsp n
  | .cLdw => .cLdw n
  | .cStw => .cStw n
  | .cLsli => .cLsli n
  | .cLsri => .cLsri n
  | .cAsri => .cAsri n
  | .cAnd => .cAnd n
  | .cOr => .cOr n
  | .cB => .cB n
  | .cBeq => .cBeq n
  | .cBne => .cBne n
  | .cRet => .cRet n
  | .cJr => .cJr n
  | .cCallr => .cCallr n

/-- Core n executes the instruction `i` at its PC next; its fetch leaves `u`. -/
def Executes (n : Nat) (s u : State) (i : KIns) : Prop := n < 5 ∧ s.coreReady n = true ∧ s.insAt n = some (u, i)

/-- From `u` to `t`, core n retires an instruction that writes the values `w` of registers, leaves `load` pending and is
followed by the instruction at `next` (R404, R407): k0 reads 0, a register that is not written takes the value of the load
that this instruction was the slot of, and every other register stays. -/
def Retires (n : Nat) (w : List (Nat × Word)) (load : Option (Nat × Word)) (next : Nat) (u t : State) : Prop :=
  (∀ r, r < 32 → t.k n r =
    if r = 0 then 0 else (w.lookup r).getD (((u.core n).pend.toList.lookup r).getD (u.k n r))) ∧
  t.core n = { u.core n with k := (t.core n).k, pc := next, pend := load, stall := none,
                             acc0 := (t.core n).acc0, acc1 := (t.core n).acc1 }

/-- The state in which the instruction `i` of core n has retired, before the vector that it then enters. -/
def State.retired (u : State) (n : Nat) (i : KIns) : State :=
  match effect u n i with
  | .done t w l next _ => retire t n w l next
  | e => settleEff u n e

/-- What a load or store writes to its base register (R434). -/
def State.baseWrite (u : State) (n : Nat) (i : KIns) : List (Nat × Word) := (memAddr u n i).2.toList.map fun v => (i.rs1, v)

/-- `t` is `x` after core n has entered vector `vec` from `s` with `saved` as the saved PC, `x` being `s` with the three words
pushed (R411): sp is 12 lower, IE is 0 and EXC 1, no load is pending, and PC is at the vector. -/
def Entered (n vec : Nat) (s x t : State) : Prop :=
  (∀ r, r < 32 → t.k n r = if r = 31 then s.k n 31 - 12 else s.k n r) ∧
  t.core n = { s.core n with k := (t.core n).k, pc := ((s.rd (Reg.CPR_VBASE n)).toNat + 16 * vec) % 2 ^ 32, pend := none,
                             stall := none } ∧
  (∀ b, b < 32 → t.rb (Reg.CPR_STATUS n) b = (decide (b = 1) || (s.rb (Reg.CPR_STATUS n) b && decide (b ≠ 0)))) ∧
  t = { x with cores := t.cores, regs := t.regs, raised := t.raised } ∧ KeepsMap n x.cores t.cores ∧ KeepsRegs [Reg.CPR_STATUS n] x t

/-- The accumulators of core n of `t` are those of `u`. -/
def KeepsAccs (n : Nat) (u t : State) : Prop := (t.core n).acc0 = (u.core n).acc0 ∧ (t.core n).acc1 = (u.core n).acc1

/-- Nothing but core n and the registers at the addresses `rs` differ between `u` and `t`. -/
def OnlyCore (n : Nat) (rs : List Nat) (u t : State) : Prop :=
  t = { u with cores := t.cores, regs := t.regs, raised := t.raised } ∧ KeepsMap n u.cores t.cores ∧ KeepsRegs rs u t

end Sys2Proof.Machine
end

