-- ==== Sys2Proof/Certificates/Slice0/Obligations.lean ====
section
/-! DEFINITION. The statements about the block, for the provers. -/

open Sys2Proof Sys2Proof.Machine

/-- For every command c, queue rest and state s whose queue is c followed by rest, the step of s is exec of c on s
with the queue rest: what stands behind the front command waits. That the waiting commands are a queue, first in,
first out, is the model's choice (log entry 1). -/
def Obligations.StepRunsTheFrontCommand : Prop :=
  ∀ (c : Instr) (rest : List Instr) (s : State), s.pending = c :: rest → step s = exec c { s with pending := rest }

/-- For every command i and state s: where an operand of i names nothing in the block, exec refuses it as ill-formed;
every other command answers a next state, but for a REGISTER_WRITE to an address that no powered block serves, which
ends in the bus error of R7. No command is refused as not modelled. The refusal as ill-formed (log entry 4) and the
bus error of a block without power (log entry 11) are the model's choices. -/
def Obligations.CommandsGoOnExactlyWhenTheyNameSomething : Prop :=
  ∀ (i : Instr) (s : State),
    (i.wf = false → exec i s = .refused .illFormed) ∧
    (i.wf = true →
      (∃ t, exec i s = .next t) ∨
      ∃ req a v, i = .registerWrite req a v ∧ s.busOk a = false ∧ exec i s = .fault (.busError a))

/-- For w below 7 and every written value, CUE_FIRE completes: the cues added are, in ascending bit order, one of
count 1 and generation 0, emitted now by software, on each route 32 w + b (below 224) whose bit b is written 1;
nothing else changes. At the end of the tick's writes the cues of that tick on routes that do not deliver are lost,
and CUE.STAT.FIREDIS is set where software fired one of them; no other register, no other cue and nothing else
changes. In HIBERNATE and BACKUP, where CUE's registers have no power, CUE_FIRE changes nothing. For an INT input i
(0-146) that is powered and every count c, INT_TRIGGER completes: CUE reads its word of CUE.CNTi, CUE.CNTi increases
by c modulo 2^32, bit i mod 32 of CUE.IPEND word i / 32 is set, the word of engine state that keeps CUE.CNTi holds the
new count where that memory is powered, and no other register, no other word of memory and nothing else changes; at an
input without power nothing changes. The read of a word of memory 12 changes nothing where that memory has no power or
the word reads good or unwritten, counts a correction where it is corrected, and where it is uncorrectable reports it
and leaves CUE.CNTi and the word at 0. That CUE.CNTi is kept in word i of memory 12 is the model's choice (log entry
99). -/
def Obligations.CueFireEmitsAndIntTriggersSetTheirBit : Prop :=
  ∀ (w i c : Nat) (v : Word) (s : State),
    let routes := ((List.range 32).filter fun b => bit v b && decide (32 * w + b < 224)).map fun b => 32 * w + b
    let lost (c : PendingCue) : Bool := decide (c.em = s.slate) && !s.routeOn c.route
    let e := s.emission
    (w < 7 → s.mainOn = false → Completes (.cueFire w v) s fun t => t = s) ∧
    (w < 7 → s.mainOn = true → Completes (.cueFire w v) s fun t =>
      t = { s with cue := { s.cue with pending := s.cue.pending ++ (s.cuesOf routes 1).map fun c => { c with fired := true } } }) ∧
    (e = { s with regs := e.regs, raised := e.raised, cue := { s.cue with pending := s.cue.pending.filter fun c => !lost c } } ∧
      GivesBits Reg.CUE_STAT (if s.cue.pending.any fun c => lost c && c.fired then [1] else []) true s e ∧
      KeepsRegs [Reg.CUE_STAT] s e) ∧
    (i < 147 → s.inputOn i = false → Completes (.intTrigger i c) s fun t => t = s) ∧
    (i < 147 → s.inputOn i = true →
      Completes (.intTrigger i c) s fun t =>
        let u := s.cueRead i
        t = { u with regs := t.regs, raised := t.raised, mem := t.mem, ecc := t.ecc } ∧ Counted i c u t ∧
        GivesBits (Reg.CUE_IPEND (i / 32)) [i % 32] true s t ∧ KeepsRegs [Reg.CUE_CNT i, Reg.CUE_IPEND (i / 32)] u t) ∧
    (let r := s.uncorrectable 13 12 (8 * i)
    let u := s.cueRead i
    let cls := (s.eccRead 12 i).cls
    (s.memOn 12 = false ∨ cls = .good ∨ cls = .unwritten → u = s) ∧
    (s.memOn 12 = true → cls = .corrected → u = s.correction 12) ∧
    (s.memOn 12 = true → cls = .uncorrectable →
      u = { r with regs := u.regs, mem := u.mem, ecc := u.ecc } ∧ u.rd (Reg.CUE_CNT i) = 0 ∧ KeepsRegs [Reg.CUE_CNT i] r u ∧
        WordPut 12 i 0 r u))

/-- For pin n and count c: with the main domain off a SET or CLR trigger changes nothing; with it on, a SET trigger
that no CLR of its tick preceded makes a level-mode latch active, toggles a toggle-mode latch where c is odd, and
makes a pulse-mode latch active for PW ticks (at least one) from now; a CLR trigger that no SET of its tick preceded
makes a level or pulse latch inactive at once and toggles as SET does; where the other kind came in the same tick, a
level or pulse latch ends inactive and STATE.CONFLICT is set. In each case the input's CUE.CNT counts c, in its word
of engine state too, STATE.LEVEL follows the pin, and every other pin, register and part of the state stays. For pin
n: GPO_PULSE_END at or after a running pulse's end makes the latch inactive; GPIO_INPUT_EDGE of a new level that
CFG.FILT samples agree on, at a powered input pin, takes that level, clears STUCK, and fires GPIOn.IN (its INT and
capture routes, and the wake route of pins 0 and 1) exactly where CFG.EDGE selects the edge, and with fewer samples
does nothing; GPIO_STUCK of a level held beyond STUCK.MS sets STUCK, counts violation class 1 and fires
SUP.INPUT_STUCK; INPUT_GLITCH of fewer samples than CFG.FILT at a powered input pin counts one in NOISE and in class 0
of SUP, and at SYNC_PPS, nRESET and BOOT_SEL one in class 0. What each does not name stays. -/
def Obligations.PinsFollowTheirTriggersAndInputs : Prop :=
  ∀ (n c k : Nat) (s : State), n < 16 →
    (∀ set : Bool,
    let p := s.pin n
    let mode := s.rf (Reg.CUE_GPIO_CFG n) 28 27
    let both := if set then p.lastClr = some s.slate else p.lastSet = some s.slate
    let cnt := Reg.CUE_CNT ((if set then 147 else 163) + n)
    let u := s.cueRead ((if set then 147 else 163) + n)
    (s.mainOn = false → Completes (if set then .gpoSet n c else .gpoClr n c) s fun t => t = s) ∧
    (s.mainOn = true → Completes (if set then .gpoSet n c else .gpoClr n c) s fun t =>
      t = { u with regs := t.regs, raised := t.raised, cue := t.cue, mem := t.mem, ecc := t.ecc } ∧ t.cue.pending = u.cue.pending ∧ t.cue.deferred = s.cue.deferred ∧
      KeepsMap n s.cue.gpio t.cue.gpio ∧ (t.pin n).level = p.level ∧
      Counted ((if set then 147 else 163) + n) c u t ∧ t.rb (Reg.CUE_GPIO_STATE n) 0 = t.pinLevel n ∧
      t.rb (Reg.CUE_GPIO_STATE n) 1 = s.rb (Reg.CUE_GPIO_STATE n) 1 ∧
      (t.rb (Reg.CUE_GPIO_STATE n) 2 = true ↔ s.rb (Reg.CUE_GPIO_STATE n) 2 = true ∨ (mode ≠ 1 ∧ both)) ∧
      KeepsRegs [cnt, Reg.CUE_GPIO_STATE n] u t ∧
      (mode = 1 → (t.pin n).latch = Bool.xor p.latch (c % 2 == 1) ∧ (t.pin n).pulseEnd = p.pulseEnd) ∧
      (mode = 2 → set = true → ¬both →
        (t.pin n).latch = true ∧ (t.pin n).pulseEnd = some (s.slate + max 1 (s.rf (Reg.CUE_GPIO_CFG n) 15 0))) ∧
      (mode = 2 → set = false ∨ both → (t.pin n).latch = false ∧ (t.pin n).pulseEnd = none) ∧
      (mode = 0 ∨ mode = 3 → ((t.pin n).latch = true ↔ set = true ∧ ¬both)))) ∧
    (∀ e, (s.pin n).pulseEnd = some e → e ≤ s.slate →
      Completes (.gpoPulseEnd n) s fun t =>
        t = { s with regs := t.regs, raised := t.raised, cue := t.cue } ∧ t.cue = { s.cue with gpio := t.cue.gpio } ∧
        (t.pin n).latch = false ∧ (t.pin n).pulseEnd = none ∧ KeepsMap n s.cue.gpio t.cue.gpio ∧
        KeepsRegs [Reg.CUE_GPIO_STATE n] s t) ∧
    (∀ level, k < s.rf (Reg.CUE_GPIO_CFG n) 23 16 → Completes (.gpioInputEdge n ⟨level, k⟩) s fun t => t = s) ∧
    (∀ level, s.pinOn n = true → s.pinOut n = false → (s.pin n).level ≠ level → s.rf (Reg.CUE_GPIO_CFG n) 23 16 ≤ k →
      Completes (.gpioInputEdge n ⟨level, k⟩) s fun t =>
        let edge := s.rf (Reg.CUE_GPIO_CFG n) 30 29
        let fires := 2 ≤ edge ∨ (edge = 0 ∧ level = true) ∨ (edge = 1 ∧ level = false)
        t = { s with regs := t.regs, raised := t.raised, cue := t.cue } ∧ (t.pin n).level = level ∧ (t.pin n).since = some s.slate ∧
        t.rb (Reg.CUE_GPIO_STATE n) 0 = level ∧ t.rb (Reg.CUE_GPIO_STATE n) 1 = false ∧
        KeepsRegs [Reg.CUE_GPIO_STATE n] s t ∧ KeepsMap n s.cue.gpio t.cue.gpio ∧
        (fires → t.cue.pending = s.cue.pending ++
          s.cuesOf ([131 + n, 195 + n] ++ if n < 2 then [215 + n] else []) 1) ∧
        (¬fires → t.cue.pending = s.cue.pending)) ∧
    (s.gpioStuckDue n = true →
      Completes (.gpioStuck n) s fun t =>
        t = { s with regs := t.regs, raised := t.raised, cue := t.cue } ∧ (t.pin n).stuckSent = true ∧
        t.rb (Reg.CUE_GPIO_STATE n) 1 = true ∧ t.rd (Reg.SUP_VIOL 1) = s.rd (Reg.SUP_VIOL 1) + 1 ∧
        t.cue.pending = s.cue.pending ++ s.cuesOf [4] 1 ∧
        KeepsRegs [Reg.CUE_GPIO_STATE n, Reg.SUP_VIOL 1] s t) ∧
    (s.aonOn = true → ∀ i ∈ [GuardedInput.syncPps, GuardedInput.nReset, GuardedInput.bootSel], Completes (.inputGlitch i) s fun t =>
      t = { s with regs := t.regs, raised := t.raised } ∧ t.rd (Reg.SUP_VIOL 0) = s.rd (Reg.SUP_VIOL 0) + 1 ∧
      KeepsRegs [Reg.SUP_VIOL 0] s t) ∧
    (s.pinOn n = true → s.pinOut n = false → k < s.rf (Reg.CUE_GPIO_CFG n) 23 16 →
      Completes (.inputGlitch (.gpio n k)) s fun t =>
        t = { s with regs := t.regs, raised := t.raised } ∧ t.rd (Reg.CUE_GPIO_NOISE n) = s.rd (Reg.CUE_GPIO_NOISE n) + 1 ∧
        t.rd (Reg.SUP_VIOL 0) = s.rd (Reg.SUP_VIOL 0) + 1 ∧ KeepsRegs [Reg.CUE_GPIO_NOISE n, Reg.SUP_VIOL 0] s t)

/-- While the main domain is powered, for timer n: a write of CMPk or TOP stores the value; a write of CNT stores it
and the slate-driven step of this tick does not happen; a write of CTL stores RUN, ONESHOT and PRESC, and SRC unless 3
is written, and where RUN is then 1 the present tick becomes the start tick t0. No other register, timer or part of
the state changes. For timer n, a software capture and a CAPT trigger wait for the steps and COUNT triggers of their
tick. The software captures then latch CNT into CAP and the present tick into CAPSL, and a CAPT trigger latches CNT
and the emission tick of its cue, both as the slate is read; each sets CAPT. CAPOVR is set where CAPT was set before,
but not by a software capture where only a cue capture of the same tick set it, and by a second software capture of
one tick. A capture of the slate by SYS.SLCMD takes the slate and source 1, by a trigger the emission tick of its cue
and source 2; SEQ counts one modulo 2^16. Nothing else changes but the counter of the trigger's input, the cues of
TMRn.IRQ and the timer's own data. That the cue captures of a tick come before its software captures, and the instant
of a coalesced capture, are the model's choices (log entry 67). -/
def Obligations.TimerWritesLoadAndCapturesLatch : Prop :=
  ∀ (n : Nat) (v : Word) (c g e : Nat) (s : State), n < 16 → s.mainOn = true →
    let sw := tmrSwCapture s n
    let cc := tmrCueCapture s n g e
    let u := s.cueRead 212
    (∀ k, k < 4 → Completes (.tmrCmpWrite n k v) s fun t =>
      t = { s with regs := t.regs, raised := t.raised } ∧ t.rd (Reg.TMRN_CMP n k) = v ∧ KeepsRegs [Reg.TMRN_CMP n k] s t) ∧
    (Completes (.tmrTopWrite n v) s fun t =>
      t = { s with regs := t.regs, raised := t.raised } ∧ t.rd (Reg.TMRN_TOP n) = v ∧ KeepsRegs [Reg.TMRN_TOP n] s t) ∧
    (Completes (.tmrCntWrite n v) s fun t =>
      t = { s with regs := t.regs, raised := t.raised, tmr := t.tmr } ∧ t.rd (Reg.TMRN_CNT n) = v ∧ KeepsRegs [Reg.TMRN_CNT n] s t ∧
      t.tmrStepsNow n = false ∧ KeepsMap n s.tmr t.tmr) ∧
    (Completes (.tmrCtlWrite n v) s fun t =>
      t = { s with regs := t.regs, raised := t.raised, tmr := t.tmr } ∧ KeepsRegs [Reg.TMRN_CTL n] s t ∧
      t.rb (Reg.TMRN_CTL n) 0 = bit v 0 ∧ t.rb (Reg.TMRN_CTL n) 4 = bit v 4 ∧
      t.rf (Reg.TMRN_CTL n) 31 16 = fld v 31 16 ∧
      t.rf (Reg.TMRN_CTL n) 3 2 = (if fld v 3 2 = 3 then s.rf (Reg.TMRN_CTL n) 3 2 else fld v 3 2) ∧
      (bit v 0 = true → (t.tm n).t0 = s.slate) ∧ (bit v 0 = false → t.tmr = s.tmr) ∧ KeepsMap n s.tmr t.tmr) ∧
    (Completes (.tmrCaptureCmd n) s fun t =>
      t = { s with tmr := t.tmr } ∧ t.tm n = { s.tm n with capWait := (s.tm n).capWait + 1 } ∧ KeepsMap n s.tmr t.tmr) ∧
    (0 < (s.tm n).capWait →
      sw = { s with regs := sw.regs, raised := sw.raised, cue := sw.cue, tmr := sw.tmr } ∧
      sw.rd (Reg.TMRN_CAP n) = s.rd (Reg.TMRN_CNT n) ∧ sw.rd64 (Reg.TMRN_CAPSL n 0) = s.slateNow % 2 ^ 64 ∧
      GivesBits (Reg.TMRN_FLAG n)
        (if 1 < (s.tm n).capWait ∨ (s.rb (Reg.TMRN_FLAG n) 5 = true ∧ (s.tm n).cueCap ≠ some s.slate) then [5, 6] else [5]) true s sw ∧
      KeepsRegs [Reg.TMRN_CAP n, Reg.TMRN_CAPSL n 0, Reg.TMRN_CAPSL n 0 + 4, Reg.TMRN_FLAG n] s sw ∧
      (sw.tm n).capWait = 0 ∧ (sw.tm n).cueCap = (s.tm n).cueCap ∧ KeepsMap n s.tmr sw.tmr) ∧
    (Completes (.tmrCaptTrigger n c g e) s fun t =>
      t = { s with cue := { s.cue with brought := s.cue.brought ++
        [{ route := 195 + n, input := 195 + n, effect := s.slate, count := c, gen := g, em := e }] } }) ∧
    (cc = { s with regs := cc.regs, raised := cc.raised, cue := cc.cue, tmr := cc.tmr } ∧
      cc.rd (Reg.TMRN_CAP n) = s.rd (Reg.TMRN_CNT n) ∧ cc.rd64 (Reg.TMRN_CAPSL n 0) = s.shownTick e % 2 ^ 64 ∧
      GivesBits (Reg.TMRN_FLAG n) (if s.rb (Reg.TMRN_FLAG n) 5 then [5, 6] else [5]) true s cc ∧
      KeepsRegs [Reg.TMRN_CAP n, Reg.TMRN_CAPSL n 0, Reg.TMRN_CAPSL n 0 + 4, Reg.TMRN_FLAG n] s cc ∧
      (cc.tm n).cueCap = some s.slate ∧ KeepsMap n s.tmr cc.tmr) ∧
    (Completes .slateCaptureCmd s fun t =>
      t = { s with regs := t.regs, raised := t.raised } ∧ t.rd64 (Reg.SYS_SLCAP 0) = s.slateNow % 2 ^ 64 ∧ t.rf Reg.SYS_SLSTAT 17 16 = 1 ∧
      t.rf Reg.SYS_SLSTAT 15 0 = (s.rf Reg.SYS_SLSTAT 15 0 + 1) % 2 ^ 16 ∧
      KeepsRegs [Reg.SYS_SLCAP 0, Reg.SYS_SLCAP 0 + 4, Reg.SYS_SLSTAT] s t) ∧
    (Completes (.slcapTrigger e c) s fun t =>
      t = { u with regs := t.regs, raised := t.raised, mem := t.mem, ecc := t.ecc } ∧ t.rd64 (Reg.SYS_SLCAP 0) = s.shownTick e % 2 ^ 64 ∧
      t.rf Reg.SYS_SLSTAT 17 16 = 2 ∧ t.rf Reg.SYS_SLSTAT 15 0 = (s.rf Reg.SYS_SLSTAT 15 0 + 1) % 2 ^ 16 ∧ Counted 212 c u t ∧
      KeepsRegs [Reg.SYS_SLCAP 0, Reg.SYS_SLCAP 0 + 4, Reg.SYS_SLSTAT, Reg.CUE_CNT 212] u t)

/-- For timer n whose time-driven step falls in the present tick: TMR_MATCH of a CMPk that the step moves into, and
TMR_OVERFLOW of a step that wraps, complete with that step made: CNT is one higher, or 0 where it was at or above TOP;
the flags set are MATCHk of every CMPk equal to the new count, and OVF on a wrap, which stops a one-shot timer; the
cues added are TMRn.OVF on a wrap, the match cues of MATCH0, MATCH1 and, of timers 0-2, MATCH3, and one TMRn.IRQ where
a flag set is enabled in IE and none was emitted in this tick. No other register, timer or part of the state changes.
Where no step is due, or it does not lead there, both do nothing. -/
def Obligations.TimerMatchAndOverflowOfATimeDrivenStep : Prop :=
  ∀ (n k : Nat) (s : State), n < 16 → k < 4 →
    let cnt := (s.rd (Reg.TMRN_CNT n)).toNat
    let wraps : Bool := decide ((s.rd (Reg.TMRN_TOP n)).toNat ≤ cnt)
    let next := if wraps then 0 else cnt + 1
    let met := (List.range 4).filter fun j => next == (s.rd (Reg.TMRN_CMP n j)).toNat
    let bits := (if wraps then [4] else []) ++ met
    let irq : Bool := (bits.any fun b => s.rb (Reg.TMRN_IE n) b) && (s.tm n).irqAt != some s.slate
    let routes := (if wraps then [179 + n] else []) ++
      (met.flatMap fun j => if j = 0 then [147 + n] else if j = 1 then [163 + n] else if j = 3 ∧ n < 3 then [221 + n] else []) ++
      (if irq then [115 + n] else [])
    let steps (t : State) : Prop :=
      t = { s with regs := t.regs, raised := t.raised, cue := t.cue, tmr := t.tmr } ∧ t.rd (Reg.TMRN_CNT n) = word next ∧
      GivesBits (Reg.TMRN_FLAG n) bits true s t ∧
      GivesBits (Reg.TMRN_CTL n) (if wraps && s.rb (Reg.TMRN_CTL n) 4 then [0] else []) false s t ∧
      KeepsRegs [Reg.TMRN_CNT n, Reg.TMRN_FLAG n, Reg.TMRN_CTL n] s t ∧ KeepsMap n s.tmr t.tmr ∧
      t.tm n = { s.tm n with stepAt := some s.slate, irqAt := if irq then some s.slate else (s.tm n).irqAt } ∧
      t.cue = { s.cue with pending := t.cue.pending } ∧
      t.cue.pending.take s.cue.pending.length = s.cue.pending ∧
      (t.cue.pending.drop s.cue.pending.length).Perm (s.cuesOf routes 1)
    (s.tmrStepsNow n = true → k ∈ met → Completes (.tmrMatch n k) s steps) ∧
    (s.tmrStepsNow n = true → wraps = true → Completes (.tmrOverflow n) s steps) ∧
    (s.tmrStepsNow n = false ∨ k ∉ met → Completes (.tmrMatch n k) s fun t => t = s) ∧
    (s.tmrStepsNow n = false ∨ wraps = false → Completes (.tmrOverflow n) s fun t => t = s)

/-- While the main domain is powered, for a running cue-count timer n that is not one-shot and whose count is at most
TOP, a COUNT trigger of count c and generation g completes with the count at (CNT + c) mod (TOP + 1); OVF is set where
the timer wrapped, and the event it causes for the next tick has generation g + 1 and carries, on the OVF route, the
number of wraps (CNT + c) / (TOP + 1), and on the MATCH0 and MATCH1 routes the number of steps that reached CMP0 and
CMP1. CUE reads its word of the input's counter, and CUE.CNT of the input counts c, in that word too. From there only
CNT, FLAG and that counter change among the registers, and only timer n among the timers. -/
def Obligations.CountTriggerStepsTheTimerByItsCount : Prop :=
  ∀ (n c g : Nat) (s : State), n < 16 → s.mainOn = true → s.rb (Reg.TMRN_CTL n) 0 = true → s.rf (Reg.TMRN_CTL n) 3 2 = 2 →
    s.rb (Reg.TMRN_CTL n) 4 = false → (s.rd (Reg.TMRN_CNT n)).toNat ≤ (s.rd (Reg.TMRN_TOP n)).toNat →
    let top := (s.rd (Reg.TMRN_TOP n)).toNat
    let cnt := (s.rd (Reg.TMRN_CNT n)).toNat
    let wraps := (cnt + c) / (top + 1)
    let hits (k : Nat) := ((List.range c).filter fun i => (cnt + i + 1) % (top + 1) == (s.rd (Reg.TMRN_CMP n k)).toNat).length
    let u := s.cueRead (179 + n)
    Completes (.tmrCountTrigger n c g) s fun t =>
      t = { u with regs := t.regs, raised := t.raised, cue := t.cue, tmr := t.tmr, mem := t.mem, ecc := t.ecc } ∧
      (t.rd (Reg.TMRN_CNT n)).toNat = (cnt + c) % (top + 1) ∧
      GivesBits (Reg.TMRN_FLAG n) (((List.range 4).filter fun k => hits k ≠ 0) ++ if wraps = 0 then [] else [4]) true s t ∧
      Counted (179 + n) c u t ∧
      KeepsRegs [Reg.TMRN_CNT n, Reg.TMRN_FLAG n, Reg.CUE_CNT (179 + n)] u t ∧ KeepsMap n s.tmr t.tmr ∧
      t.cue = { u.cue with deferred := t.cue.deferred } ∧
      (wraps ≠ 0 → ∃ ev, t.cue.deferred = s.cue.deferred ++ [ev] ∧ ev.gen = g + 1 ∧ ev.em = s.slate + 1 ∧
        (179 + n, wraps) ∈ ev.routes ∧ (hits 0 ≠ 0 → (147 + n, hits 0) ∈ ev.routes) ∧
        (hits 1 ≠ 0 → (163 + n, hits 1) ∈ ev.routes))

/-- While the main domain is powered, GROUP_START completes: the input's CUE.CNT counts the trigger's count, in its
word of engine state too, and the group start waits for the end of the tick; nothing else changes. As it is made
there, each timer whose bit is set in TMR.GSEL has CNT = PHASEn, RUN set and t0 the present tick; each other timer
keeps its registers and data; no flag changes; GLAST records the present tick and GCNT counts one; nothing is emitted
and nothing else changes. -/
def Obligations.GroupStartLoadsTheSelectedTimers : Prop :=
  ∀ (c : Nat) (s : State),
    let t := groupStart s
    let u := s.cueRead 211
    (s.mainOn = true → Completes (.groupStart c) s fun t =>
      t = { u with regs := t.regs, mem := t.mem, ecc := t.ecc, tmrGroup := true } ∧ Counted 211 c u t ∧
      KeepsRegs [Reg.CUE_CNT 211] u t) ∧
    t = { s with regs := t.regs, raised := t.raised, tmr := t.tmr, tmrGroup := false } ∧
    (∀ n, n < 16 → s.rb Reg.TMR_GSEL n = true →
      t.rd (Reg.TMRN_CNT n) = s.rd (Reg.TMR_PHASE n) ∧ GivesBits (Reg.TMRN_CTL n) [0] true s t ∧ (t.tm n).t0 = s.slate) ∧
    (∀ n, n < 16 → s.rb Reg.TMR_GSEL n = false →
      t.rd (Reg.TMRN_CNT n) = s.rd (Reg.TMRN_CNT n) ∧ t.rd (Reg.TMRN_CTL n) = s.rd (Reg.TMRN_CTL n) ∧ t.tm n = s.tm n) ∧
    t.rd64 (Reg.TMR_GLAST 0) = s.slateNow % 2 ^ 64 ∧ t.rd Reg.TMR_GCNT = s.rd Reg.TMR_GCNT + 1 ∧
    KeepsRegs ((List.range 16).flatMap (fun n => [Reg.TMRN_CNT n, Reg.TMRN_CTL n]) ++
      [Reg.TMR_GLAST 0, Reg.TMR_GLAST 0 + 4, Reg.TMR_GCNT]) s t

/-- While the always-on domain is powered: outside a freeze, CAL_FREEZE returns SUBSEC, copies SUBSEC, TIME, DATE and
YEAR into the shadows, sets FROZEN and starts the freeze in the present tick; in a freeze it returns the SUBSEC shadow
and changes nothing else. CAL_YEAR_READ returns the YEAR shadow in a freeze and the live YEAR outside one, clears
FROZEN and ends the freeze. In a freeze, reads of the four registers give the shadows. The calendar itself and every
other register stay. For a freeze that started 64,000 ticks ago or earlier, FREEZE_TIMEOUT clears FROZEN, sets
FREEZE_TO and ends the freeze; the shadows stay. -/
def Obligations.CalendarFreezesReadConsistentlyAndTimeOut : Prop :=
  ∀ (s : State), s.aonOn = true →
    (s.rb Reg.CAL_STAT 7 = false →
      Completes .calFreeze s fun t =>
        t = { s with regs := t.regs, raised := t.raised, cal := t.cal, rdata := s.rd Reg.CAL_SUBSEC } ∧
        GivesBits Reg.CAL_STAT [7] true s t ∧ KeepsRegs [Reg.CAL_STAT] s t ∧
        t.cal = { s.cal with shSub := s.rd Reg.CAL_SUBSEC, shTime := s.rd Reg.CAL_TIME, shDate := s.rd Reg.CAL_DATE,
                             shYear := s.rd Reg.CAL_YEAR, freezeAt := some s.slate }) ∧
    (s.rb Reg.CAL_STAT 7 = false → s.calRead Reg.CAL_TIME = s.rd Reg.CAL_TIME ∧
      s.calRead Reg.CAL_DATE = s.rd Reg.CAL_DATE ∧ s.calRead Reg.CAL_YEAR = s.rd Reg.CAL_YEAR) ∧
    (s.rb Reg.CAL_STAT 7 = true →
      (Completes .calFreeze s fun t => t = { s with rdata := s.cal.shSub }) ∧
      s.calRead Reg.CAL_SUBSEC = s.cal.shSub ∧ s.calRead Reg.CAL_TIME = s.cal.shTime ∧
      s.calRead Reg.CAL_DATE = s.cal.shDate ∧ s.calRead Reg.CAL_YEAR = s.cal.shYear) ∧
    (Completes .calYearRead s fun t =>
      t = { s with regs := t.regs, raised := t.raised, cal := { s.cal with freezeAt := none },
                   rdata := if s.rb Reg.CAL_STAT 7 then s.cal.shYear else s.rd Reg.CAL_YEAR } ∧
      GivesBits Reg.CAL_STAT [7] false s t ∧ KeepsRegs [Reg.CAL_STAT] s t) ∧
    (∀ at_, s.cal.freezeAt = some at_ → at_ + 64000 ≤ s.slate →
    Completes .freezeTimeout s fun t =>
      t = { s with regs := t.regs, raised := t.raised, cal := { s.cal with freezeAt := none } } ∧ KeepsRegs [Reg.CAL_STAT] s t ∧
      ∀ b, b < 32 → t.rb Reg.CAL_STAT b = if b = 7 then false else if b = 5 then true else s.rb Reg.CAL_STAT b)

/-- While the always-on domain is powered, CAL_COMMIT completes: the write of COMMIT.GO waits behind the calendar
writes before it, with CPEND 1. At the crystal edge that takes it, a staged date and time in range becomes what the
calendar reads, with SUBSEC 0 and the day of the week of the date, clears OSF, and clears LBV unless VBATLOW is 1; one
out of range changes no date or time register and sets BADDATE. Either way CPEND clears, and nothing outside the
calendar's registers and its own data changes. -/
def Obligations.CommitTakesTheStagedTimeWholeOrRefusesIt : Prop :=
  ∀ (s : State),
    let c := s.calStaged
    let ok := c.sec ≤ 59 ∧ c.min ≤ 59 ∧ c.hour ≤ 23 ∧ 1 ≤ c.month ∧ c.month ≤ 12 ∧ 1 ≤ c.day ∧
      c.day ≤ monthLength c.year c.month ∧ 2000 ≤ c.year ∧ c.year ≤ 2399
    let w : CalWrite := { addr := Reg.CAL_COMMIT, val := 1, mask := 0xFFFFFFFF }
    let t := calApply s w
    (s.aonOn = true →
      Completes .calCommit s fun t =>
        t = { s with regs := t.regs, raised := t.raised, cal := { s.cal with writes := s.cal.writes ++ [w] } } ∧
        GivesBits Reg.CAL_STAT [8] true s t ∧ KeepsRegs [Reg.CAL_STAT] s t) ∧
    (ok →
      t = { s with regs := t.regs, raised := t.raised, cal := t.cal } ∧ t.calNow = c ∧ t.rd Reg.CAL_SUBSEC = 0 ∧
      t.rf Reg.CAL_DATE 26 24 = calDow c.year c.month c.day ∧
      (∀ b, b < 32 → t.rb Reg.CAL_STAT b =
        if b = 8 ∨ b = 0 ∨ (b = 1 ∧ s.rb Reg.CAL_STAT 9 = false) then false else s.rb Reg.CAL_STAT b) ∧
      KeepsRegs [Reg.CAL_STAT, Reg.CAL_TIME, Reg.CAL_DATE, Reg.CAL_YEAR, Reg.CAL_SUBSEC] s t ∧
      t.cal = { s.cal with skipped := false, set := true, winOk := false }) ∧
    (¬ok →
      t = { s with regs := t.regs, raised := t.raised } ∧ KeepsRegs [Reg.CAL_STAT] s t ∧
      ∀ b, b < 32 → t.rb Reg.CAL_STAT b = if b = 8 then false else if b = 4 then true else s.rb Reg.CAL_STAT b)

/-- For every valid date and time, the second that follows is valid; it counts one second more since 2000-01-01
00:00:00, and the day of the week steps from one day to the next through the week, except that 2399-12-31 23:59:59 is
followed by 2000-01-01 00:00:00, a Saturday (DOW 6). Where the crystal's edge of the tick is due, its waiting writes
commit nothing and leave the calendar at 2399-12-31 23:59:59 with SUBSEC 32,767, CALENDAR_WRAP completes with the date
and time 2000-01-01 00:00:00, SUBSEC 0, DOW 6 and CAL.STAT.WRAP set; from those writes it leaves every register
outside the calendar and SUP.XTAL and XTALTRIM, and every memory, as they were. When the crystal's edges fall is the
model's choice (log entry 19). -/
def Obligations.CalendarSecondsAdvanceAndWrapAfter2399 : Prop :=
  ∀ (c : CalTime) (s : State),
    (c.valid = true →
      c.next.valid = true ∧
    (c ≠ ⟨2399, 12, 31, 23, 59, 59⟩ →
      c.next.seconds = c.seconds + 1 ∧
      (calDow c.next.year c.next.month c.next.day = calDow c.year c.month c.day ∨
        (c.next.hour = 0 ∧ calDow c.next.year c.next.month c.next.day = calDow c.year c.month c.day % 7 + 1))) ∧
    (c = ⟨2399, 12, 31, 23, 59, 59⟩ → c.next = ⟨2000, 1, 1, 0, 0, 0⟩ ∧ calDow 2000 1 1 = 6)) ∧
    let b := calWrites s
    (s.edgeDue = true → b.cal.set = false → b.rf Reg.CAL_SUBSEC 14 0 = 32767 → b.calNow = ⟨2399, 12, 31, 23, 59, 59⟩ →
      Completes .calendarWrap s fun t =>
        t = { b with regs := t.regs, raised := t.raised, cue := t.cue, cal := t.cal } ∧ t.calNow = ⟨2000, 1, 1, 0, 0, 0⟩ ∧
        t.rf Reg.CAL_SUBSEC 14 0 = 0 ∧ t.rf Reg.CAL_DATE 26 24 = 6 ∧ t.rb Reg.CAL_STAT 3 = true ∧
        KeepsRegs [Reg.CAL_STAT, Reg.CAL_TIME, Reg.CAL_DATE, Reg.CAL_YEAR, Reg.CAL_SUBSEC, Reg.CAL_TRIM, Reg.SUP_XTAL,
          Reg.SUP_XTALTRIM] b t)

/-- One step of the calendar moves the sub-second count on, or the date and time to the next second; it sets WAKEF and
fires CAL.WAKE on its INT and SYS.WAKE routes where the value it steps into qualifies, sets ALARMF and fires CAL.ALARM
where the alarm matches it, sets WRAP after the last instant of 2399, and into a window start puts the written PULSES
in force and ends the crystal's measurement: SUP.XTAL takes the error in 2^-16 ppm and SUP.XTALTRIM the trim only
where SYN stayed LOCKED. Nothing else changes. CAL_WAKE, CAL_ALARM, CALENDAR_WRAP, TRIM_WINDOW_START and
XTAL_WINDOW_END are the crystal edge of the tick where that edge is due, no commit sets the calendar at it, and a step
of it moves into such a value: the waiting writes take effect, then one step is made, or two with an added pulse; else
each changes nothing. While the always-on domain is powered CAL_CAPTURE waits for its crystal edge, which latches the
count of 1/256 s modulo 2^48 with SEQ one higher, and the slate. OSC_STOP_DETECT stops the crystal and, where no edge
has come for 1 ms, sets OSF, and OSCILLATOR_RESTART starts it again with OSF and the date and time as they stand;
VBAT_LOW sets VBATLOW and LBV, and VBAT_RECOVERY clears VBATLOW alone; the stop and the low VBAT count violations of
classes 5 and 6 while the always-on domain is powered. In BACKUP, BACKUP_DOMAIN_LOSS gives every backup-domain
register its reset value (2000-01-01 00:00:00, OSF set), makes the backup SRAM read zero and keeps every register of
the other domains. The instants of the crystal's edges, and its stop and start by these commands, with OSF only after
1 ms without an edge, are the model's choices (log entry 19). -/
def Obligations.CalendarEventsSetTheirFlagsAndFireTheirCues : Prop :=
  ∀ (s : State),
    let w : CalWrite := { addr := Reg.CAL_CAPCMD, val := 1, mask := 0xFFFFFFFF }
    let e := calApply s w
    let m := calMove s
    let u := calStep s
    let sub := s.rf Reg.CAL_SUBSEC 14 0
    let d := s.slate - s.cal.winTick
    let err := rdiv (((s.cal.winEdges * 32000000 : Nat) - (32768 * d : Nat) : Int) * 2000000) d
    let measured := m.atTrimWindow = true ∧ s.cal.winOk = true ∧ 0 < d
    let b := calWrites { s with cal := { s.cal with phase := s.cal.phase + s.cal.rate - 32000000, ticked := true } }
    let one := calStep { b with cal := { b.cal with skipped := false } }
    (u = { s with regs := u.regs, raised := u.raised, cue := u.cue, cal := u.cal } ∧
      u.rf Reg.CAL_SUBSEC 14 0 = (if sub < 32767 then sub + 1 else 0) ∧
      u.calNow = (if sub < 32767 then s.calNow else s.calNow.next) ∧
      u.cue = { s.cue with pending := s.cue.pending ++ (if m.wakeQualifies then s.cuesOf [6, 213] 1 else []) ++
        (if m.alarmQualifies then s.cuesOf [7, 214] 1 else []) } ∧
      (∀ b, b < 32 → u.rb Reg.CAL_STAT b =
        if (b = 11 ∧ m.wakeQualifies = true) ∨ (b = 10 ∧ m.alarmQualifies = true) ∨ (b = 3 ∧ s.calLast = true) then true
        else s.rb Reg.CAL_STAT b) ∧
      GivesField Reg.CAL_TRIM 28 16 (if m.atTrimWindow then s.rf Reg.CAL_TRIM 12 0 else s.rf Reg.CAL_TRIM 28 16) s u ∧
      (measured → u.rd Reg.SUP_XTAL = word (toU 32 err) ∧
        u.rd Reg.SUP_XTALTRIM = word (toU 13 (clampI (-4095) 4095 (rdiv (-err * 512) 1000000)))) ∧
      u.cal = (if m.atTrimWindow then { s.cal with winTick := s.slate, winEdges := 0, winOk := s.rb Reg.SYN_STAT 0 } else s.cal) ∧
      KeepsRegs ([Reg.CAL_STAT, Reg.CAL_TIME, Reg.CAL_DATE, Reg.CAL_YEAR, Reg.CAL_SUBSEC, Reg.CAL_TRIM] ++
        if measured then [Reg.SUP_XTAL, Reg.SUP_XTALTRIM] else []) s u) ∧
    (∀ x ∈ ([(.calWake, State.wakeQualifies), (.calAlarm, State.alarmQualifies), (.trimWindowStart, State.atTrimWindow),
        (.xtalWindowEnd, State.atTrimWindow),
        (.calendarWrap, fun t => t.rf Reg.CAL_SUBSEC 14 0 == 0 && t.calNow == ⟨2000, 1, 1, 0, 0, 0⟩)] : List (Instr × (State → Bool))),
      (s.edgeInto x.2 = true ↔ s.edgeDue = true ∧ (calWrites s).cal.set = false ∧ (calWrites s).calMoves.any x.2 = true) ∧
      (s.edgeInto x.2 = true → Completes x.1 s fun t => t = if b.calSteps = 2 then calStep one else one) ∧
      (s.edgeInto x.2 = false → Completes x.1 s fun t => t = s)) ∧
    (s.aonOn = true → Completes .calCapture s fun t =>
      t = { s with cal := { s.cal with writes := s.cal.writes ++ [w] } }) ∧
    (e = { s with regs := e.regs, raised := e.raised } ∧
      e.rd64 (Reg.CAL_CAPT 0) % 2 ^ 48 = (s.calNow.seconds * 256 + s.rf Reg.CAL_SUBSEC 14 7) % 2 ^ 48 ∧
      e.rf (Reg.CAL_CAPT 1) 31 16 = (s.rf (Reg.CAL_CAPT 1) 31 16 + 1) % 2 ^ 16 ∧
      e.rd64 (Reg.CAL_CAPSL 0) = s.slateNow % 2 ^ 64 ∧
      KeepsRegs [Reg.CAL_CAPT 0, Reg.CAL_CAPT 0 + 4, Reg.CAL_CAPSL 0, Reg.CAL_CAPSL 0 + 4] s e) ∧
    (s.oscStopDue = false → Completes .oscStopDetect s fun t => t = { s with cal := { s.cal with running := false } }) ∧
    (s.oscStopDue = true → Completes .oscStopDetect s fun t =>
      t = { s with regs := t.regs, raised := t.raised, cal := { s.cal with running := false, stopped := true } } ∧
      GivesBits Reg.CAL_STAT [0] true s t ∧ KeepsRegs [Reg.CAL_STAT, Reg.SUP_VIOL 5] s t ∧
      t.rd (Reg.SUP_VIOL 5) = s.rd (Reg.SUP_VIOL 5) + (if s.aonOn then 1 else 0)) ∧
    (Completes .oscillatorRestart s fun t => t = { s with cal := { s.cal with running := true } }) ∧
    (Completes .vbatLow s fun t =>
      t = { s with regs := t.regs, raised := t.raised } ∧ GivesBits Reg.CAL_STAT [1, 9] true s t ∧
      KeepsRegs [Reg.CAL_STAT, Reg.SUP_VIOL 6] s t ∧
      t.rd (Reg.SUP_VIOL 6) = s.rd (Reg.SUP_VIOL 6) + (if s.aonOn then 1 else 0)) ∧
    (Completes .vbatRecovery s fun t =>
      t = { s with regs := t.regs, raised := t.raised } ∧ GivesBits Reg.CAL_STAT [9] false s t ∧ KeepsRegs [Reg.CAL_STAT] s t) ∧
    (s.mode = 0 → Completes .backupDomainLoss s fun t =>
      t = { s with regs := t.regs, raised := t.raised, mem := t.mem, ecc := t.ecc, undef := t.undef, cal := { lost := true } } ∧
      (∀ a, regDomain a = .backup → t.rd a = regReset a) ∧ (∀ a, regDomain a ≠ .backup → t.rd a = s.rd a) ∧
      t.calNow = ⟨2000, 1, 1, 0, 0, 0⟩ ∧ t.rb Reg.CAL_STAT 0 = true ∧ ∀ o, o < 256 → t.readByte 13 o = 0)

/-- With the always-on domain powered: a request for code 0 or 8-15 is refused with CAUSE 6, even while BUSY; any
other while BUSY with CAUSE 2; one for the current mode does nothing; one that the table marks X (from VERIFY to any
mode but STANDBY) with CAUSE 1; one for CONCENTRATE or RELAY with CAUSE 3 where the microcode is not loaded (and DRAM
was not the failure of boot), 5 where DRAM is not ready, 4 where no chain receives or, for RELAY, no parent channel is
configured, in that order. A refusal sets REFUSED and CAUSE, fires SYS.MODE_REFUSED, and leaves every other field,
register and part of the state. -/
def Obligations.ModeRequestsAreRefusedInTheOrderOfR40 : Prop :=
  ∀ (m : Nat) (s : State), m < 16 → s.aonOn = true →
    let refused (cause : Nat) : Prop := Completes (.modeRequest m) s fun t =>
      t = { s with regs := t.regs, raised := t.raised, cue := t.cue } ∧ Fires [1] 1 s t ∧ KeepsRegs [Reg.SYS_MODE] s t ∧
      t.rb Reg.SYS_MODE 16 = true ∧ t.rf Reg.SYS_MODE 27 24 = cause ∧
      ∀ b, b < 32 → b ≠ 16 → ¬(24 ≤ b ∧ b ≤ 27) → t.rb Reg.SYS_MODE b = s.rb Reg.SYS_MODE b
    let legal := 1 ≤ m ∧ m ≤ 7
    let idle := s.rb Reg.SYS_MODE 12 = false
    let onward := legal ∧ idle ∧ m ≠ s.mode ∧ s.mode ≤ 6 ∧ (m = 4 ∨ m = 5)
    (¬legal → refused 6) ∧
    (legal → ¬idle → refused 2) ∧
    (legal → idle → m = s.mode → Completes (.modeRequest m) s fun t => t = s) ∧
    (legal → idle → s.mode = 7 → m ≠ 7 → m ≠ 2 → refused 1) ∧
    (onward → s.sys.microcode = false → s.rf Reg.SYS_BOOTSTAT 23 16 ≠ 0x20 → refused 3) ∧
    (onward → s.sys.microcode = true → s.rb Reg.MEM_STAT 0 = false → refused 5) ∧
    (onward → s.sys.microcode = true → s.rb Reg.MEM_STAT 0 = true →
      (∀ n, n < 8 → s.rf Reg.SYS_ROLE (4 * n + 3) (4 * n) ≠ 1 ∧ s.rf Reg.SYS_ROLE (4 * n + 3) (4 * n) ≠ 3) → refused 4) ∧
    (onward → m = 5 → s.mainOn = true → s.sys.microcode = true → s.rb Reg.MEM_STAT 0 = true →
      (∀ j, j < 4 → s.rb (Reg.LNK_PCH j) 31 = false) → refused 4)

/-- For a request that passes every check of R40, REQ takes the code, and: a D or A move enters the mode in this tick,
with PREV the old mode, BUSY 0 and SYS.MODE_CHANGED fired, of generation 0 where no wake left a generation for it
(leaving VERIFY sets VSTAT.ABORTED); a DD or SD move sets BUSY and begins a drain in this tick, discards the
detections that wait and are stamped at or after this tick, and changes nothing else; an S move enters STANDBY in this
tick with BUSY set and the second step to follow; from HIBERNATE, BUSY is set and the wake to that mode starts. In no
case does a memory change, unless HIBERNATE is entered. -/
def Obligations.AcceptedModeRequestsMoveByTheTableOfR42 : Prop :=
  ∀ (m : Nat) (s : State), 1 ≤ m → m ≤ 7 → 1 ≤ s.mode → s.mode ≤ 7 → m ≠ s.mode → s.rb Reg.SYS_MODE 12 = false →
    s.targetCause m = 0 →
    let cur := s.mode
    let direct := cur = 2 ∨ (cur = 3 ∧ m = 2) ∨ (cur = 4 ∧ m = 5) ∨ (cur = 5 ∧ m = 4) ∨
      (cur = 6 ∧ (m = 2 ∨ m = 4 ∨ m = 5)) ∨ (cur = 7 ∧ m = 2)
    let drains := (cur = 4 ∨ cur = 5) ∧ ¬direct
    let through := (cur = 3 ∨ cur = 6) ∧ ¬direct
    let entered (t : State) (n : Nat) : Prop :=
      t.mode = n ∧ t.rf Reg.SYS_MODE 7 4 = cur ∧ (n ≠ 1 → t.mem = s.mem) ∧
      (s.sys.wakeGen = none → ∀ c ∈ s.cuesOf [0] 1, c ∈ t.cue.pending)
    (direct → Completes (.modeRequest m) s fun t =>
      entered t m ∧ t.rf Reg.SYS_MODE 11 8 = m ∧ t.rb Reg.SYS_MODE 12 = false ∧ t.sys.trans = none ∧
      (cur = 7 → t.rb Reg.SYS_VSTAT 30 = true)) ∧
    (drains → Completes (.modeRequest m) s fun t =>
      t = { s with regs := t.regs, raised := t.raised, sys := t.sys,
                   chz := { s.chz with dets := s.chz.dets.filter fun d => decide (d.stamp < 8 * s.slate) } } ∧
      KeepsRegs [Reg.SYS_MODE] s t ∧ t.mode = cur ∧
      t.rf Reg.SYS_MODE 11 8 = m ∧ t.rb Reg.SYS_MODE 12 = true ∧
      t.sys = { s.sys with testToBoot := false, trans := some { target := m, since := s.slate, drain := true } }) ∧
    (through → Completes (.modeRequest m) s fun t =>
      entered t 2 ∧ t.rf Reg.SYS_MODE 11 8 = m ∧ t.rb Reg.SYS_MODE 12 = true ∧
      t.sys.trans = some { target := m, since := s.slate, second := true }) ∧
    (cur = 1 → Completes (.modeRequest m) s fun t =>
      t = { s with regs := t.regs, raised := t.raised, sys := t.sys } ∧ KeepsRegs [Reg.SYS_MODE] s t ∧ t.mode = 1 ∧
      t.rf Reg.SYS_MODE 11 8 = m ∧ t.rb Reg.SYS_MODE 12 = true ∧
      t.sys = { s.sys with testToBoot := false, trans := some { target := m, since := s.slate }, wakeAt := some s.slate,
                           wakeTo := m, wakeGen := none, wakeDue := false,
                           wakeDueGen := none, wakeReq := true })

/-- At or after the drain limit, or once 64 ticks have passed with no draining take, detection or ACK left, DRAIN_END
ends every take in flight TRUNCATED, cuts the detections that still wait at the present tick, drops the ACKs that
wait, and enters SURVEY, or STANDBY with BUSY 0 where that is the target, or STANDBY with the second step to follow
where the target is another mode. In a later tick TRANSITION_SECOND_STEP enters the target and clears BUSY. In VERIFY,
VERIFY_DONE writes the result bits of the test in progress into VSTAT (the first test's, one bit a chain; of the
others, the reported bit where the block's own check agrees) and takes out none; after the fourth test it sets DONE
and enters STANDBY, with PREV VERIFY, from which the boot target follows where VERIFY was entered by the boot and the
target, not STANDBY, passes R43, and else none. Each step into a mode sets PREV to the mode it left. That one
VERIFY_DONE ends one test, and that a reported bit is taken where the block's own check agrees, are the model's
choices (log entry 97). -/
def Obligations.DrainsSecondStepsAndSelfTestsComplete : Prop :=
  ∀ (loop : Nat) (ecc cue reel : Bool) (s : State), 1 ≤ s.mode →
    (∀ tr, s.sys.trans = some tr → tr.drain = true → (s.mode = 4 ∨ s.mode = 5) → (tr.target ≠ 4 ∧ tr.target ≠ 5) →
      (tr.since + 64 ≤ s.slate ∧ s.drained = true) ∨ tr.since + (s.rd Reg.SYS_DRAIN).toNat ≤ s.slate →
      Completes .drainEnd s fun t =>
        t.mode = (if tr.target = 6 then 6 else 2) ∧ t.rf Reg.SYS_MODE 7 4 = s.mode ∧
        t.rb Reg.SYS_MODE 12 = decide (tr.target ≠ 6 ∧ tr.target ≠ 2) ∧
        (tr.target ≠ 6 → tr.target ≠ 2 →
          t.sys.trans = some { target := tr.target, since := s.slate, second := true }) ∧
        (tr.target = 6 ∨ tr.target = 2 → t.sys.trans = none) ∧
        t.lnk.takes.map (fun e => (e.1, e.2.outcome)) = s.lnk.takes.map (fun e => (e.1, some (e.2.outcome.getD 8))) ∧
        (∀ d ∈ t.chz.dets, d.cut ≠ none) ∧ t.lnk.acks = []) ∧
    (∀ tr, s.sys.trans = some tr → tr.second = true → tr.since < s.slate → 1 ≤ tr.target → tr.target ≤ 7 →
      (tr.target = 1 → s.sys.wakeDue = false) →
      Completes .transitionSecondStep s fun t =>
        t.mode = tr.target ∧ t.rf Reg.SYS_MODE 7 4 = s.mode ∧ t.rb Reg.SYS_MODE 12 = false ∧ t.sys.trans = none) ∧
    (s.mode = 7 → s.sys.testing = true →
      let k := s.sys.tested
      let gives := if k = 0 then loop % 256 else if k = 1 then (if ecc && s.eccTest then 0x100 else 0)
        else if k = 2 then (if cue && s.cueTest then 0x200 else 0) else if reel && s.reelTest then 0x400 else 0
      Completes (.verifyDone loop ecc cue reel []) s fun t =>
        t.mem = s.mem ∧ t.sys.tested = k + 1 ∧
        (∀ b, b < 31 → t.rb Reg.SYS_VSTAT b = (s.rb Reg.SYS_VSTAT b || gives.testBit b)) ∧
        (k < 3 → t.mode = 7 ∧ t.sys = { s.sys with tested := k + 1 } ∧ t.rb Reg.SYS_VSTAT 31 = s.rb Reg.SYS_VSTAT 31) ∧
        (3 ≤ k → t.mode = 2 ∧ t.rf Reg.SYS_MODE 7 4 = 7 ∧ t.rb Reg.SYS_VSTAT 31 = true ∧ t.sys.testing = false ∧
          t.sys.testToBoot = false ∧
          (s.sys.testToBoot = true → s.sys.bootTarget ≠ 2 → t.targetCause s.sys.bootTarget = 0 →
            t.rb Reg.SYS_MODE 12 = true ∧ t.sys.trans = some { target := s.sys.bootTarget, since := s.slate, second := true }) ∧
          (s.sys.testToBoot = false ∨ s.sys.bootTarget = 2 ∨ t.targetCause s.sys.bootTarget ≠ 0 → t.sys.trans = s.sys.trans)))

/-- While the always-on domain is powered, SYS_WAKE_TRIGGER counts at its input, in CUE's word of that count too where
memory 12 is powered. In HIBERNATE, sources that SYS.HIBCTL enables are recorded in WAKESRC and, where no wake runs,
start one to WAKEMODE in this tick; where one runs, nothing more changes. A source it does not enable changes nothing
more, nor does any source in a mode above HIBERNATE with no transition in progress. WAKE_COMPLETE ends a running wake:
the device is in STANDBY with PREV HIBERNATE, with the microcode loaded where the boot had loaded it and its image and
that of the tables verify; for a wake to STANDBY BUSY is 0. A wake to another mode has its second step to follow, with
BUSY 1, where a mode request started it or the mode then passes R43; else BUSY is 0 and SYS.MODE shows REFUSED with
the cause that R43 gives. That all of R54 happens in the tick of WAKE_COMPLETE and WAKEMODE is tested there, and that
only enabled sources enter WAKESRC, are the model's choices (log entry 33). -/
def Obligations.WakeTriggersAndTheEndOfTheWake : Prop :=
  ∀ (sources count gen : Nat) (s : State), sources < 16 → s.aonOn = true →
    let enabled := (List.range 4).filter fun i => sources.testBit i && s.rb Reg.SYS_HIBCTL (8 + i)
    let u := s.cueRead 213
    let counts (t : State) : Prop := Counted 213 count u t
    (s.mode = 1 → enabled ≠ [] → s.sys.wakeAt = none →
      Completes (.sysWakeTrigger sources count gen) s fun t =>
        t = { u with regs := t.regs, raised := t.raised, mem := t.mem, ecc := t.ecc, sys := t.sys } ∧ counts t ∧ GivesBits Reg.SYS_WAKESRC enabled true u t ∧
        GivesBits Reg.SYS_MODE [12] true s t ∧ KeepsRegs [Reg.CUE_CNT 213, Reg.SYS_WAKESRC, Reg.SYS_MODE] u t ∧
        t.sys.wakeAt = some s.slate ∧ t.sys.wakeTo = s.rf Reg.SYS_HIBCTL 7 4) ∧
    (s.mode = 1 → s.sys.wakeAt ≠ none →
      Completes (.sysWakeTrigger sources count gen) s fun t =>
        t = { u with regs := t.regs, raised := t.raised, mem := t.mem, ecc := t.ecc } ∧ counts t ∧ GivesBits Reg.SYS_WAKESRC enabled true u t ∧
        KeepsRegs [Reg.CUE_CNT 213, Reg.SYS_WAKESRC] u t) ∧
    (enabled = [] ∨ (2 ≤ s.mode ∧ s.sys.trans = none) →
      Completes (.sysWakeTrigger sources count gen) s fun t =>
        t = { u with regs := t.regs, raised := t.raised, mem := t.mem, ecc := t.ecc } ∧ counts t ∧ KeepsRegs [Reg.CUE_CNT 213] u t) ∧
    (s.mode = 1 → s.sys.wakeAt ≠ none →
      Completes .wakeComplete s fun t =>
        let m := s.sys.wakeTo
        t.mode = 2 ∧ t.rf Reg.SYS_MODE 7 4 = 1 ∧
        t.sys.microcode = (s.sys.microcode && s.imageOk 1 (s.comp 1).active && s.imageOk 4 (s.comp 4).active) ∧ t.sys.wakeAt = none ∧ t.slate = s.slate ∧
        (m = 2 → t.rb Reg.SYS_MODE 12 = false ∧ t.sys.trans = none) ∧
        (m ≠ 2 → s.sys.wakeReq = true ∨ t.targetCause m = 0 →
          t.rb Reg.SYS_MODE 12 = true ∧ t.sys.trans = some { target := m, since := s.slate, second := true }) ∧
        (m ≠ 2 → s.sys.wakeReq = false → t.targetCause m ≠ 0 →
          t.rb Reg.SYS_MODE 12 = false ∧ t.sys.trans = none ∧ t.rb Reg.SYS_MODE 16 = true ∧
          t.rf Reg.SYS_MODE 27 24 = t.targetCause m))

/-- POWER_ON_RESET gives every register but SYS.RSTCAUSE and the ageing index its reset value and RSTCAUSE the cause
POR, empties every memory, and senses the supply of each bank and TEST, whose levels are free. With the always-on
domain powered, PIN, brown-out and system resets, and the watchdog's expiry after PERIOD ms, do so for the always-on,
main and RF domains: backup-domain registers and the backup SRAM keep their contents, as do the ageing index, the
violation counters and the crash records but for what the watchdog records (KSS's PC in SUP.WDPC), and RSTCAUSE shows
the cause. Loss of the main supplies enters BACKUP, with VBAT in range keeping the backup domain, else losing it;
their return leaves BACKUP in SERVICE by a BKUP reset, which keeps the backup domain and the ageing index alone, or by
a POR where the backup domain was lost. After each, the slate is 0 and every engine is at its reset state, the cores
are stopped, and the images, the registry's and the dictionary's stores, the revoked keys and the root key are kept.
The queue of commands stays. The slate at 0 until the boot loads it (log entry 9), what each reset keeps beside R56,
R537 and R543 (log entry 34), and that nRESET holds the part for the tick of its command (log entry 87) are the
model's choices. -/
def Obligations.ResetsReachTheirDomains : Prop :=
  ∀ (s : State),
    let fresh (y : SysState) (t : State) : Prop :=
      t.slate = 0 ∧ t.pending = s.pending ∧ t.cue = {} ∧ t.tmr = [] ∧ t.reels = [] ∧ t.rfs = {} ∧ t.chz = {} ∧
      t.lnk = {} ∧ t.dcb = {} ∧ t.cores = [] ∧ t.syn = {} ∧ t.host = {} ∧ t.sys = y ∧
      t.cip = { rootOk := s.cip.rootOk } ∧
      t.epr = { dirA := s.epr.dirA, dirB := s.epr.dirB, units := s.epr.units, retired := s.epr.retired, nand := s.epr.nand } ∧
      t.upd.imgs = s.upd.imgs ∧
      t.upd.revoked = s.upd.revoked ∧ t.odx = { copyA := s.odx.copyA, copyB := s.odx.copyB }
    let kept (a : Nat) : Prop := regDomain a = .backup ∨ a = Reg.SUP_AGE ∨ crashReg a = true
    let sys : SysState := { volt33 := s.sys.volt33, testPin := s.sys.testPin }
    let warm (t : State) (cause pc : Nat) : Prop :=
      fresh { sys with pinLow := decide (cause = 2) } t ∧ t.rd Reg.SYS_RSTCAUSE = word (2 ^ cause) ∧ t.rd Reg.SUP_WDPC = word pc ∧
      (∀ a, a ≠ Reg.SYS_RSTCAUSE ∧ ¬kept a → t.rd a = regReset a) ∧
      (∀ a, kept a ∧ a ≠ Reg.SYS_RSTCAUSE ∧ a ≠ Reg.SUP_WDPC → t.rd a = s.rd a) ∧
      ∀ o, o < 256 → t.readByte 13 o = s.readByte 13 o
    let wdpc := (s.rd Reg.SUP_WDPC).toNat
    let por (t : State) : Prop :=
      fresh { volt33 := Config.bankSupply s.free % 32, testPin := Config.testPin s.free } t ∧ t.rd Reg.SYS_RSTCAUSE = 1 ∧ (∀ a, a ≠ Reg.SYS_RSTCAUSE ∧ a ≠ Reg.SUP_AGE → t.rd a = regReset a) ∧
      t.rd Reg.SUP_AGE = s.rd Reg.SUP_AGE ∧ t.mem = [] ∧ t.ecc = []
    Completes .powerOnReset s por ∧
    (s.aonOn = true →
      (Completes .pinReset s fun t => warm t 2 wdpc) ∧ (Completes .brownOutReset s fun t => warm t 5 wdpc) ∧
      (Completes .systemResetCmd s fun t => warm t 3 wdpc) ∧
      (Completes (.mainSupplyLoss true) s fun t =>
        fresh sys t ∧ t.mode = 0 ∧ (∀ a, regDomain a = .backup → t.rd a = s.rd a) ∧
        ∀ o, o < 256 → t.readByte 13 o = s.readByte 13 o) ∧
      (Completes (.mainSupplyLoss false) s fun t =>
        fresh sys t ∧ t.mode = 0 ∧ (∀ a, regDomain a = .backup → t.rd a = regReset a) ∧ t.cal = { lost := true } ∧
        ∀ o, o < 256 → t.readByte 13 o = 0) ∧
      (s.rf Reg.CPR_WDOG 15 0 ≠ 0 → s.sys.wdogAt + s.rf Reg.CPR_WDOG 15 0 * 32000 ≤ s.slate →
        Completes .watchdogExpiry s fun t => warm t 4 (s.core 4).pc)) ∧
    (s.aonOn = false → s.cal.lost = false →
      Completes .mainSupplyReturn s fun t =>
        fresh sys t ∧ t.mode = 3 ∧ t.rd Reg.SYS_RSTCAUSE = 2 ∧
        (∀ a, regDomain a = .backup ∨ a = Reg.SUP_AGE → t.rd a = s.rd a) ∧
        ∀ a, a ≠ Reg.SYS_RSTCAUSE ∧ regDomain a ≠ .backup ∧ a ≠ Reg.SUP_AGE → t.rd a = regReset a) ∧
    (s.aonOn = false → s.cal.lost = true → Completes .mainSupplyReturn s por)

/-- With the always-on domain powered: MAIN_RESET_CMD gives every register of TMR, CHZ, DMD, LNK, DCB and REL its
reset value, discards takes, ACKs, reels and transmissions, enters SERVICE with the boot to resume at step 9, sets
RSTCAUSE.MAIN, and keeps the slate, the backup domain's registers, and memories 4, 9 and 13; TCXO_RECOVERY does the
same where the slate is held, and releases it. While the main domain is powered, CORE_RESET_CMD restarts one
application core at its recorded entry point with its own registers at their reset values, sets its bit of RSTCAUSE,
stores what was written to SYS.RST, and changes nothing else, its SRAM included. TCXO_LOSS sets TCXOFAIL and the
margin flag and marks the slate held, THERMAL_SHUTDOWN counts class 6, and both take every RF chain down, leaving the
slate, memory and cores; THERMAL_RECOVERY powers every chain that its role asks for, and in the loopback mode blanks
its receivers again. WDOG_WRITE with the key stores PERIOD and restarts the count; without it, it changes nothing. The
mode SERVICE and the boot step after a MAIN reset are the model's reading (log entry 34). -/
def Obligations.MainAndCoreResetsAndTheWatchdogWrite : Prop :=
  ∀ (v : Word) (m o : Nat) (s : State), s.aonOn = true →
    let mainReset (t : State) : Prop :=
      t.mode = 3 ∧ t.rb Reg.SYS_RSTCAUSE 6 = true ∧ t.slate = s.slate ∧ t.sys.boot = 9 ∧ t.sys.mainBoot = true ∧
      t.lnk.takes = [] ∧ t.lnk.acks = [] ∧ t.chz = {} ∧ t.reels = [] ∧ t.rfs.txs = [] ∧ t.tmr = [] ∧
      (∀ a, a / 0x10000 ∈ [0x4003, 0x4020, 0x4030, 0x4040, 0x4050, 0x4080] → t.rd a = regReset a) ∧
      (∀ a, regDomain a = .backup → t.rd a = s.rd a) ∧
      (m ∈ [4, 9, 13] → t.readByte m o = s.readByte m o)
    Completes .mainResetCmd s mainReset ∧
    (s.sup.held = true → Completes .tcxoRecovery s fun t => mainReset t ∧ t.sup.held = false) ∧
    (∀ k, k < 4 → s.mainOn = true → Completes (.coreResetCmd k) s fun t =>
      t = { s with regs := t.regs, raised := t.raised, cores := t.cores } ∧ t.rb Reg.SYS_RSTCAUSE (8 + k) = true ∧
      t.core k = { coreStart (s.core k).entry with on := (s.core k).on } ∧ KeepsMap k s.cores t.cores ∧
      (∀ a, isCpr k a = false ∧ a ≠ Reg.SYS_RSTCAUSE ∧ a ≠ Reg.SYS_RST → t.rd a = s.rd a) ∧
      (∀ a, isCpr k a = true → t.rd a = regReset a)) ∧
    (s.sup.held = false → Completes .tcxoLoss s fun t =>
      t.sup.held = true ∧ t.rb Reg.SUP_STAT 7 = true ∧ t.rb Reg.SUP_STAT 0 = true ∧ t.slate = s.slate ∧ t.mem = s.mem ∧
      t.cores = s.cores ∧ ∀ n, n < 8 → (t.rfs.chains.get n {}).on = false) ∧
    (s.sup.hot = false → Completes .thermalShutdown s fun t =>
      t.sup.hot = true ∧ t.rd (Reg.SUP_VIOL 6) = s.rd (Reg.SUP_VIOL 6) + 1 ∧ t.slate = s.slate ∧ t.mem = s.mem ∧
      t.cores = s.cores ∧ ∀ n, n < 8 → (t.rfs.chains.get n {}).on = false) ∧
    (s.sup.hot = true → Completes .thermalRecovery s fun t =>
      t.sup = { s.sup with hot := false } ∧ t.slate = s.slate ∧ t.mem = s.mem ∧ t.cores = s.cores ∧
      ∀ n, n < 8 → t.chainWanted n = true → (t.chain n).on = true) ∧
    (fld v 31 16 = 0x6480 → Completes (.wdogWrite v) s fun t =>
      t = { s with regs := t.regs, raised := t.raised, sys := { s.sys with wdogAt := s.slate } } ∧
      t.rd Reg.CPR_WDOG = word (fld v 15 0) ∧ KeepsRegs [Reg.CPR_WDOG] s t) ∧
    (fld v 31 16 ≠ 0x6480 → Completes (.wdogWrite v) s fun t => t = s)

/-- With the always-on domain powered, let each chain's new role be the written one where it is 0-4 and the old one
where it is 5-15. In CONCENTRATE or RELAY, where no chain would have role RX or RX+TX, ROLE_WRITE changes no role,
sets REFUSED with CAUSE 4 and fires SYS.MODE_REFUSED; otherwise each field of SYS.ROLE takes its new role, and
SYS.MODE, the slate, every memory and every core stay. -/
def Obligations.RoleWritesChangeRolesOrAreRefused : Prop :=
  ∀ (v : Word) (s : State), s.aonOn = true →
    let role (n : Nat) : Nat :=
      if fld v (4 * n + 3) (4 * n) ≤ 4 then fld v (4 * n + 3) (4 * n) else s.rf Reg.SYS_ROLE (4 * n + 3) (4 * n)
    let deaf := ∀ n, n < 8 → role n ≠ 1 ∧ role n ≠ 3
    ((s.mode = 4 ∨ s.mode = 5) → deaf → Completes (.roleWrite v) s fun t =>
      t = { s with regs := t.regs, raised := t.raised, cue := t.cue } ∧ Fires [1] 1 s t ∧ KeepsRegs [Reg.SYS_MODE] s t ∧
      t.rb Reg.SYS_MODE 16 = true ∧ t.rf Reg.SYS_MODE 27 24 = 4 ∧ t.mode = s.mode) ∧
    (¬((s.mode = 4 ∨ s.mode = 5) ∧ deaf) → Completes (.roleWrite v) s fun t =>
      (∀ n, n < 8 → t.rf Reg.SYS_ROLE (4 * n + 3) (4 * n) = role n) ∧ t.rd Reg.SYS_MODE = s.rd Reg.SYS_MODE ∧
      t.slate = s.slate ∧ t.mem = s.mem ∧ t.cores = s.cores)

/-- With KSS out of reset, BOOT_SEQUENCE at step 1 or 3 records the step (step 3 with the pins it read) and changes no
other register; at step 2 the slate becomes 0 where OSF or LBV is set, and the calendar's time at 32,000,000 ticks per
second otherwise, which SLSRC records; at step 4 without flash it stops with ERR 0x10; at step 5 a supported DRAM
becomes ready with every octet reading 0, and an unsupported one stops the boot with ERR 0x20. Steps 6, 10 and 12 are
recorded, whether or not they leave an ERR; steps 7, 8, 9 and 11 are recorded where the images verify, a compatible
set is found, the microcode loads, or the cores start, and else stop the boot with ERR 0x31, 0x32, 0x40 or 0x51. Step
13 is recorded and ends the boot. A completed step below 13 is followed by the next one, a stopped boot by none, and a
stopped step is not recorded. Where KSS is held or locked up, TEST was high at POR, or no boot is in progress, nothing
changes. The STEP that a boot which goes on after an ERR shows (log entry 35) and the sub-seconds of the slate's load
(log entry 9) are the model's choices. -/
def Obligations.BootStepsAreRecorded : Prop :=
  ∀ (x : BootInput) (m o : Nat) (s : State), x.bootSel < 4 →
    let passed (t : State) : Prop := t.rf Reg.SYS_BOOTSTAT 31 24 = s.sys.boot ∧ t.sys.boot = s.sys.boot + 1
    let stopped (t : State) (err : Nat) : Prop :=
      t.rf Reg.SYS_BOOTSTAT 31 24 = s.rf Reg.SYS_BOOTSTAT 31 24 ∧ t.rf Reg.SYS_BOOTSTAT 23 16 = err ∧ t.sys.boot = 0
    let only (t : State) : Prop := KeepsRegs [Reg.SYS_BOOTSTAT] s t ∧
      t = { s with regs := t.regs, raised := t.raised, sys := t.sys, host := t.host }
    let held := s.aonOn = false ∨ s.sup.started = false ∨ s.sys.boot = 0 ∨ s.sys.testPin = true ∨ (s.core 4).lockup = true
    (held → Completes (.bootSequence x) s fun t => t = s) ∧
    (¬held →
      (s.sys.boot = 1 → Completes (.bootSequence x) s fun t => passed t ∧ only t ∧ t.sys = { s.sys with boot := 2 }) ∧
      (s.sys.boot = 2 → Completes (.bootSequence x) s fun t =>
        passed t ∧ t.mem = s.mem ∧
        (s.rb Reg.CAL_STAT 0 = true ∨ s.rb Reg.CAL_STAT 1 = true → t.slate = 0) ∧
        (s.rb Reg.CAL_STAT 0 = false → s.rb Reg.CAL_STAT 1 = false →
          t.slate = (s.calNow.seconds * 32000000 + s.rf Reg.CAL_SUBSEC 14 0 * 32000000 / 32768) % 2 ^ 64 ∧
          t.rb Reg.SYS_BOOTSTAT 3 = true)) ∧
      (s.sys.boot = 3 → Completes (.bootSequence x) s fun t =>
        passed t ∧ only t ∧ t.sys = { s.sys with boot := 4, bootSel := x.bootSel }) ∧
      (s.sys.boot = 4 → Completes (.bootSequence x) s fun t =>
        if x.flash then passed t ∧ only t else stopped t 0x10 ∧ only t) ∧
      (s.sys.boot = 5 → x.dramGib ∈ [2, 3, 4, 6, 8] → 1 ≤ x.rate → x.rate ≤ 3 → Completes (.bootSequence x) s fun t =>
        passed t ∧ t.rb Reg.MEM_STAT 0 = true ∧ t.rf Reg.MEM_DCFG 3 0 = x.dramGib ∧ t.readByte 14 o = 0 ∧
        (m < 14 → t.readByte m o = s.readByte m o)) ∧
      (s.sys.boot = 5 → ¬(x.dramGib ∈ [2, 3, 4, 6, 8] ∧ 1 ≤ x.rate ∧ x.rate ≤ 3) →
        Completes (.bootSequence x) s fun t => stopped t 0x20 ∧ only t) ∧
      (s.sys.boot = 6 ∨ s.sys.boot = 10 ∨ s.sys.boot = 12 → Completes (.bootSequence x) s passed) ∧
      (s.sys.boot = 7 → Completes (.bootSequence x) s fun t => if (verifyImages s).2 then passed t else stopped t 0x31) ∧
      (s.sys.boot = 8 → Completes (.bootSequence x) s fun t => if (chooseSet s).2 then passed t else stopped t 0x32) ∧
      (s.sys.boot = 9 → Completes (.bootSequence x) s fun t => if (loadMicrocode s).2 then passed t else stopped t 0x40) ∧
      (s.sys.boot = 11 → Completes (.bootSequence x) s fun t => if (startCores s).2 then passed t else stopped t 0x51) ∧
      (s.sys.boot = 13 → Completes (.bootSequence x) s fun t => t.rf Reg.SYS_BOOTSTAT 31 24 = 13 ∧ t.sys.boot = 0))

/-- While the always-on domain is powered PLAN_CMD requests a run with trigger COMMAND, shown in PLANQ while one is in
progress. PLAN_RUN_START begins a requested run at the end of a window, with that window's margin, where none is in
progress: at the START run, or where VOUT.CMD is 0, with a read of the output voltage, else with a decision on the
margin as below. PLAN_STEP_MEASURED, once the first whole window after the confirmed voltage has ended: with the
margin of the window that ended last below TARGET and 900 mV the next command is STEP higher, at most 900, and the run
has risen; at or above HIGH, above 550 mV and not risen, it is STEP lower, at least 550; otherwise the run ends, and
VOUT.CMD, TEMP.PLAN, PLANLAST (as the slate is read), PLANCAUSE and AGE take its results, VOLT_CEILING showing a
voltage above 880 mV, MARGIN_LOST clear at a margin of 120 per mille or more and raised by source 4 below that at 900
mV. Nothing outside SUP changes, but for the cues that the end fires, and where no such window has ended or no run is
requested nothing changes. Which window a run decides on is the model's choice (log entry 39). -/
def Obligations.MarginPlanRunsByR532 : Prop :=
  ∀ (r : PlanRun) (since w : Nat) (s : State), s.aonOn = true →
    let m := s.margin
    let step := s.rf Reg.SUP_PLANLIM 15 8
    let rise (v : Nat) := m < s.rf Reg.SUP_PLANLIM 31 24 ∧ v < 900
    let fall (v : Nat) (raised : Bool) := ¬rise v ∧ (s.rf Reg.SUP_PLANLIM 23 16 : Int) ≤ m ∧ 550 < v ∧ raised = false
    let up (v : Nat) := max 550 (min (v + step) 900)
    let v0 := s.rf Reg.SUP_VOUT 15 0
    let base : Bool := !s.sup.started || v0 == 0
    let r0 : PlanRun := { cause := s.sup.req, raised := false, v := v0, conf := v0, phase := .read s.slate, retry := false, base := base,
                          m := m, at_ := s.slate, temp := s.rf Reg.SUP_TEMP 15 0 }
    let running (t : State) : Prop := KeepsRegs [Reg.SUP_STAT] s t ∧
      ∀ b, b < 32 → t.rb Reg.SUP_STAT b = if b = 3 then true else if b = 2 then false else s.rb Reg.SUP_STAT b
    let starts := s.sup.run = none ∧ s.sup.req ≠ 0 ∧ s.sup.winTick = some s.slate
    let waits := s.sup.run = some r ∧ r.phase = .window since ∧ s.sup.winTick = some w
    let measured := waits ∧ (since / 32000 + 2) * 32000 ≤ w
    let r1 : PlanRun := { r with m := m, at_ := w, temp := s.rf Reg.SUP_TEMP 15 0 }
    (Completes .planCmd s fun t =>
      t = { s with regs := t.regs, raised := t.raised, sup := { s.sup with req := s.sup.req ||| 8 } } ∧
      GivesBits Reg.SUP_STAT [2] s.sup.run.isSome s t ∧ KeepsRegs [Reg.SUP_STAT] s t) ∧
    (¬starts → Completes .planRunStart s fun t => t = s) ∧
    (starts → base = true → Completes .planRunStart s fun t =>
      t = { s with regs := t.regs, raised := t.raised, sup := { s.sup with req := 0, run := some r0 } } ∧ running t) ∧
    (starts → base = false →
      (rise v0 → Completes .planRunStart s fun t => running t ∧
        t = { s with regs := t.regs, raised := t.raised,
                     sup := { s.sup with req := 0, run := some { r0 with v := up v0, raised := true, phase := .write } } }) ∧
      (fall v0 false → Completes .planRunStart s fun t => running t ∧
        t = { s with regs := t.regs, raised := t.raised,
                     sup := { s.sup with req := 0, run := some { r0 with v := max (v0 - step) 550, phase := .write } } }) ∧
      (¬rise v0 → ¬fall v0 false → Completes .planRunStart s fun t =>
        t.sup.run = none ∧ t.rf Reg.SUP_VOUT 15 0 = v0 ∧ t.rb Reg.SUP_STAT 3 = false)) ∧
    (waits → ¬measured → Completes .planStepMeasured s fun t => t = s) ∧
    (measured → rise r.v → Completes .planStepMeasured s fun t =>
      t = { s with sup := { s.sup with run := some { r1 with v := up r.v, raised := true, phase := .write, retry := false } } }) ∧
    (measured → fall r.v r.raised → Completes .planStepMeasured s fun t =>
      t = { s with sup := { s.sup with run := some { r1 with v := max (r.v - step) 550, phase := .write, retry := false } } }) ∧
    (measured → ¬rise r.v → ¬fall r.v r.raised → Completes .planStepMeasured s fun t =>
      t = { s with regs := t.regs, raised := t.raised, cue := t.cue,
                   sup := { s.sup with run := none, started := true, req := t.sup.req, planTick := w } } ∧
      t.rf Reg.SUP_VOUT 15 0 = r.v % 2 ^ 16 ∧ t.rf Reg.SUP_TEMP 31 16 = s.rf Reg.SUP_TEMP 15 0 ∧
      t.rd64 (Reg.SUP_PLANLAST 0) = s.shownTick w % 2 ^ 64 ∧ t.rd Reg.SUP_PLANCAUSE = word r.cause ∧
      t.rb Reg.SUP_STAT 3 = false ∧ t.rb Reg.SUP_STAT 1 = decide (880 < r.v) ∧
      t.rd Reg.SUP_AGE = word (t.ageIndex.1 * 2 ^ 24 + t.ageIndex.2 % 65536) ∧
      (120 ≤ m → t.rb Reg.SUP_STAT 0 = false ∧ t.sup.req = s.sup.req) ∧
      (m < 120 → r.v = 900 → t.rb Reg.SUP_STAT 0 = true ∧ t.rf Reg.SUP_MLSRC 11 8 = 4) ∧
      KeepsRegs [Reg.SUP_VOUT, Reg.SUP_TEMP, Reg.SUP_PLANLAST 0, Reg.SUP_PLANLAST 0 + 4, Reg.SUP_PLANCAUSE, Reg.SUP_AGE,
        Reg.SUP_STAT, Reg.SUP_MLSTART 0, Reg.SUP_MLSTART 0 + 4, Reg.SUP_MLEND 0, Reg.SUP_MLEND 0 + 4, Reg.SUP_MLCNT,
        Reg.SUP_MLSRC] s t)

/-- With the always-on domain powered, for the run in progress: a VOUT_COMMAND acknowledged leads to the reading that
follows SETTLE; a write or a reading after SETTLE that fails (NACK, wrong PEC, SCL held low) is retried, and where the
retry fails the run ends at the last confirmed voltage with PMBFAIL and PLANFAIL and STATUS_WORD is to be read; a
wrong PEC and SCL held low count violations of classes 2 and 3, and with PMB.PEC = 0 a wrong PEC is none. A READ_VOUT
after SETTLE stores the reading; within 15 mV of the command it confirms it and the run waits for the first whole
window that starts after it; the first reading of a run that has no voltage yet is taken as the voltage, on which the
run decides; any other reading counts class 2 and is retried, and then ends the run. PMBUS_ALERT counts class 7 and
has STATUS_WORD read; the reading is stored in PMBSTAT, and one that fails is retried once and then sets PMBFAIL. The
reading where no voltage was commanded, that it is taken as the voltage, and what a retry repeats are the model's
choices (log entry 39). -/
def Obligations.PmbusTransactionsOfAPlanRun : Prop :=
  ∀ (r : PlanRun) (since raw : Nat) (s : State), s.aonOn = true →
    let running := s.sup.run = some r
    let mv := s.linear16 raw
    let step := s.rf Reg.SUP_PLANLIM 15 8
    let reading := running ∧ r.phase = .read since
    let seen (t : State) : Prop := t.rf Reg.SUP_VOUT 31 16 = mv % 2 ^ 16
    let ended (t : State) : Prop :=
      t = { s with regs := t.regs, raised := t.raised, cue := t.cue, sup := t.sup } ∧ t.sup.run = none ∧ t.sup.started = true ∧
      t.sup.status = true ∧ t.sup.statusRetry = false ∧ t.rb Reg.SUP_STAT 4 = true ∧ t.rb Reg.SUP_STAT 5 = true ∧
      t.rf Reg.SUP_VOUT 15 0 = r.conf % 2 ^ 16
    (∀ cmd ∈ [PmbusCmd.voutCommand, .readVout], s.sup.run = none → ∀ x ∈ [PmbusResult.ack raw, .nack, .badPec raw, .sclLow],
      Completes (.pmbusTransactionEnd cmd x) s fun t => t = s) ∧
    (s.rb Reg.SUP_PMB 17 = false → ∀ cmd ∈ [PmbusCmd.voutCommand, .readVout, .statusWord],
      Completes (.pmbusTransactionEnd cmd (.ack raw)) s fun u => Completes (.pmbusTransactionEnd cmd (.badPec raw)) s fun t => t = u) ∧
    (running → r.phase = .write → Completes (.pmbusTransactionEnd .voutCommand (.ack raw)) s fun t =>
      t = { s with sup := { s.sup with run := some { r with phase := .read (s.slate + 256 * s.rf Reg.SUP_PLANLIM 7 0), retry := false } } }) ∧
    (∀ x ∈ [(PmbusResult.nack, 0), (PmbusResult.badPec raw, 2), (PmbusResult.sclLow, 3)],
      (x.2 = 2 → s.rb Reg.SUP_PMB 17 = true) →
      let violates (t : State) : Prop := x.2 ≠ 0 → t.rd (Reg.SUP_VIOL x.2) = s.rd (Reg.SUP_VIOL x.2) + 1
      let keeps (t : State) : Prop := KeepsRegs (if x.2 = 0 then [] else [Reg.SUP_VIOL x.2]) s t
      (∀ y ∈ [(PmbusCmd.voutCommand, PlanPhase.write), (.readVout, .read since)], running → r.phase = y.2 → since ≤ s.slate →
        (r.retry = false → Completes (.pmbusTransactionEnd y.1 x.1) s fun t =>
          t = { s with regs := t.regs, raised := t.raised, sup := { s.sup with run := some { r with retry := true } } } ∧
          violates t ∧ keeps t) ∧
        (r.retry = true → Completes (.pmbusTransactionEnd y.1 x.1) s fun t => ended t ∧ violates t)) ∧
      (s.sup.status = true → s.sup.statusRetry = false → Completes (.pmbusTransactionEnd .statusWord x.1) s fun t =>
        t = { s with regs := t.regs, raised := t.raised, sup := { s.sup with statusRetry := true } } ∧ violates t ∧ keeps t) ∧
      (s.sup.status = true → s.sup.statusRetry = true → Completes (.pmbusTransactionEnd .statusWord x.1) s fun t =>
        t = { s with regs := t.regs, raised := t.raised, sup := { s.sup with status := false, statusRetry := false } } ∧
        violates t ∧ GivesBits Reg.SUP_STAT [5] true s t ∧
        KeepsRegs (Reg.SUP_STAT :: if x.2 = 0 then [] else [Reg.SUP_VIOL x.2]) s t)) ∧
    (reading → s.slate < since → Completes (.pmbusTransactionEnd .readVout (.ack raw)) s fun t => t = s) ∧
    (reading → since ≤ s.slate → r.base = false →
      let near := mv ≤ r.v + 15 ∧ r.v ≤ mv + 15
      let reads (r' : PlanRun) (rs : List Nat) : Prop := Completes (.pmbusTransactionEnd .readVout (.ack raw)) s fun t =>
        t = { s with regs := t.regs, raised := t.raised, sup := { s.sup with run := some r' } } ∧
        seen t ∧ KeepsRegs (Reg.SUP_VOUT :: rs) s t ∧ ∀ a ∈ rs, t.rd a = s.rd a + 1
      (near → reads { r with conf := r.v, phase := .window s.slate, retry := false } []) ∧
      (¬near → r.retry = false → reads { r with retry := true } [Reg.SUP_VIOL 2]) ∧
      (¬near → r.retry = true → Completes (.pmbusTransactionEnd .readVout (.ack raw)) s fun t =>
        ended t ∧ seen t ∧ t.rd (Reg.SUP_VIOL 2) = s.rd (Reg.SUP_VIOL 2) + 1)) ∧
    (reading → since ≤ s.slate → r.base = true →
      let rise := r.m < s.rf Reg.SUP_PLANLIM 31 24 ∧ mv < 900
      let fall := ¬rise ∧ (s.rf Reg.SUP_PLANLIM 23 16 : Int) ≤ r.m ∧ 550 < mv ∧ r.raised = false
      let r1 : PlanRun := { r with conf := mv, base := false, retry := false, phase := .write }
      let goes (r' : PlanRun) : Prop := Completes (.pmbusTransactionEnd .readVout (.ack raw)) s fun t =>
        t = { s with regs := t.regs, raised := t.raised, sup := { s.sup with run := some r' } } ∧ seen t ∧ KeepsRegs [Reg.SUP_VOUT] s t
      (rise → goes { r1 with v := max 550 (min (mv + step) 900), raised := true }) ∧
      (fall → goes { r1 with v := max (mv - step) 550 }) ∧
      (¬rise → ¬fall → Completes (.pmbusTransactionEnd .readVout (.ack raw)) s fun t =>
        t.sup.run = none ∧ t.sup.started = true ∧ seen t ∧ t.rf Reg.SUP_VOUT 15 0 = mv % 2 ^ 16)) ∧
    (s.sup.status = true → Completes (.pmbusTransactionEnd .statusWord (.ack raw)) s fun t =>
      t = { s with regs := t.regs, raised := t.raised, sup := { s.sup with status := false, statusRetry := false } } ∧
      t.rd Reg.SUP_PMBSTAT = word (raw % 2 ^ 16) ∧ KeepsRegs [Reg.SUP_PMBSTAT] s t) ∧
    (Completes .pmbusAlert s fun t =>
      t = { s with regs := t.regs, raised := t.raised, sup := { s.sup with status := true, statusRetry := false } } ∧
      t.rd (Reg.SUP_VIOL 7) = s.rd (Reg.SUP_VIOL 7) + 1 ∧ KeepsRegs [Reg.SUP_VIOL 7] s t)

/-- With the always-on domain powered, where a window ends in this tick (a multiple of 32,000 ticks or a slate step
over one) and its end has not come, SENTINEL_WINDOW_END stores the count of each powered sentinel (16, or 4 in
HIBERNATE), and MARGIN takes the least of the margins floor(1,000 (COUNT - SDC) / SDC), where they lie in its range,
with the sentinel that gave it; a margin below 120 per mille requests a run, and one below the guard raises
MARGIN_LOST. At the end of a slate hour, once and by a slate step over it too, that stayed locked, TCXO_HOUR_END
stores the negated mean of SYN.FREQ and the ageing against the baseline; after an unlocked hour both stay. Nothing
else changes but SUP's own data and cues, and where no window or hour ends, nothing. The fused counts and what a
sentinel counts per mille are the model's choices (log entry 17). -/
def Obligations.SentinelWindowsGiveTheSlowestMargin : Prop :=
  ∀ (counts : List Nat) (temp : Nat) (s : State), s.aonOn = true →
    let n := s.sentinels
    let margin (k : Nat) : Int := s.marginOf k (counts.getD k 0 % 2 ^ 24)
    (s.windowDue = decide (s.passes 32000 = true ∧ 0 < s.slate ∧ s.sup.winTick ≠ some s.slate)) ∧
    (s.windowDue = false → Completes (.sentinelWindowEnd counts temp) s fun t => t = s) ∧
    (s.windowDue = true → (∀ k, k < n → -32768 ≤ margin k ∧ margin k ≤ 32767) →
      Completes (.sentinelWindowEnd counts temp) s fun t =>
        t = { s with regs := t.regs, raised := t.raised, cue := t.cue, sup := { s.sup with winTick := some s.slate, req := t.sup.req } } ∧
        (∀ k, k < n → t.rf (Reg.SUP_SENT k) 23 0 = counts.getD k 0 % 2 ^ 24 ∧ t.margin ≤ margin k) ∧
        t.rf Reg.SUP_MARGIN 31 24 < n ∧ t.margin = margin (t.rf Reg.SUP_MARGIN 31 24) ∧
        t.rf Reg.SUP_TEMP 15 0 = temp % 2 ^ 16 ∧ (t.margin < 120 → t.sup.req.testBit 0 = true) ∧
        (t.margin < s.rf Reg.SUP_PLANCFG 15 8 → t.rb Reg.SUP_STAT 0 = true ∧ t.rf Reg.SUP_MLSRC 11 8 = 3) ∧
        (s.rf Reg.SUP_PLANCFG 15 8 ≤ t.margin → t.cue = s.cue ∧ t.rd Reg.SUP_MLCNT = s.rd Reg.SUP_MLCNT) ∧
        KeepsRegs ((List.range n).map Reg.SUP_SENT ++ [Reg.SUP_MARGIN, Reg.SUP_TEMP, Reg.SUP_STAT, Reg.SUP_MLSTART 0,
          Reg.SUP_MLSTART 0 + 4, Reg.SUP_MLCNT, Reg.SUP_MLSRC]) s t) ∧
    (s.slate / 115200000000 ≤ s.sup.hourAt → Completes .tcxoHourEnd s fun t => t = s) ∧
    (s.sup.hourAt < s.slate / 115200000000 → Completes .tcxoHourEnd s fun t =>
      t = { s with regs := t.regs, raised := t.raised, sup := { s.sup with
        hourOk := s.synLocked, hourSum := 0, hourN := 0, hourAt := s.slate / 115200000000, hourSeen := t.sup.hourSeen, baseline := t.sup.baseline } } ∧
      KeepsRegs (if s.sup.hourOk = true ∧ 0 < s.sup.hourN then [Reg.SUP_TCXO, Reg.SUP_TCXOAGE] else []) s t ∧
      (s.sup.hourOk = true → 0 < s.sup.hourN →
        t.rd Reg.SUP_TCXO = word (toU 32 (-(rdiv s.sup.hourSum s.sup.hourN))) ∧
        t.rd Reg.SUP_TCXOAGE = t.rd Reg.SUP_TCXO - t.sup.baseline ∧ t.sup.hourSeen = true))

/-- For chain n: CHAIN_POWER_UP_COMPLETE at its tick leaves the chain locked, with a DC calibration measured;
SYNTHESIZER_RETUNE_COMPLETE at its tick leaves it locked, unless it has lost lock, with the DC calibration that
follows to end 3,200 ticks later; RFC_RELOCK of a chain that has lost lock locks it and ends its unlock outage;
FEM_PIN_CHANGE drives PA and TR by the timeline of the transmission on the chain; AGC_GAIN_STEP of a powered branch of
its own gain lowers the gain by one step (at least 0) after a loud block, keeps it after a middle one, raises it (at
most 10) after a quiet one once HOLD milliseconds were quiet, and does nothing after a quiet one before. Nothing else
of the state changes but the chain's own data. That the chain is locked while the DC calibration of R87 runs its 3,200
ticks is the model's reading (log entry 92). -/
def Obligations.ChainsPowerUpRelockSwitchAndSetTheirGain : Prop :=
  ∀ (n e : Nat) (u : Tx) (isB : Bool) (s : State), n < 8 →
    let c := s.chain n
    let lo := if isB then 8 else 0
    let g := s.rf (Reg.RFC_GAIN n) (lo + 3) lo
    let quiet := if isB then c.quietB else c.quietA
    let held := quiet + 32000 * s.rf (Reg.RFC_AGC n) 23 16 ≤ s.slate
    let auto := c.on = true ∧ s.rb (Reg.RFC_AGC n) 0 = false ∧ (isB = true → s.rb (Reg.RFC_CTL n) 8 = true)
    let onlyChain (t : State) : Prop := t = { s with rfs := { s.rfs with chains := t.rfs.chains } } ∧
      KeepsMap n s.rfs.chains t.rfs.chains
    let gained (t : State) (v : Nat) : Prop :=
      t = { s with regs := t.regs, raised := t.raised, rfs := { s.rfs with chains := t.rfs.chains } } ∧ KeepsMap n s.rfs.chains t.rfs.chains ∧
      t.chain n = (if isB then { c with quietB := s.slate } else { c with quietA := s.slate }) ∧
      GivesField (Reg.RFC_GAIN n) (lo + 3) lo v s t ∧ KeepsRegs [Reg.RFC_GAIN n] s t
    (c.upAt = some e → e ≤ s.slate → Completes (.chainPowerUpComplete n) s fun t =>
      t = { s with rfs := { s.rfs with chains := t.rfs.chains, live := t.rfs.live }, free := s.free + 1 } ∧
      KeepsMap n s.rfs.chains t.rfs.chains ∧ KeepsMap (4 * n) s.rfs.live t.rfs.live ∧
      t.chain n = { c with upAt := none, locked := true }) ∧
    (c.retuneAt = some e → e ≤ s.slate → Completes (.synthesizerRetuneComplete n) s fun t =>
      onlyChain t ∧ t.chain n = { c with retuneAt := none, locked := c.relockAt.isNone, dcTill := some (s.slate + 3200) }) ∧
    (c.relockAt = some e → Completes (.rfcRelock n) s fun t =>
      t = { s with rfs := { s.rfs with chains := t.rfs.chains, outs := t.rfs.outs } } ∧
      KeepsMap n s.rfs.chains t.rfs.chains ∧ t.chain n = { c with locked := true, relockAt := none } ∧
      t.rfs.outs.length = s.rfs.outs.length ∧
      (∀ o ∈ t.rfs.outs, o.chain = n → o.kind = .unlock → o.has (8 * s.slate) = false) ∧
      (∀ o ∈ s.rfs.outs, o.chain ≠ n ∨ o.kind ≠ .unlock → o ∈ t.rfs.outs)) ∧
    (s.rfs.txs = [u] → u.chain = n → Completes (.femPinChange n) s fun t =>
      onlyChain t ∧
      ((t.chain n).pa = true ↔ u.femcfg.testBit 4 = true ∧ u.t0 - u.ramp - u.paLead ≤ s.slate ∧ s.slate < u.radEnd + u.paLag) ∧
      ((t.chain n).tr = true ↔ u.t0 - u.ramp - u.trLead ≤ s.slate ∧ s.slate < u.radEnd + u.trLag) ∧
      t.chain n = { c with pa := (t.chain n).pa, tr := (t.chain n).tr }) ∧
    (auto → Completes (.agcGainStep n isB .loud) s fun t => gained t (g - 1)) ∧
    (auto → Completes (.agcGainStep n isB .middle) s fun t => gained t g) ∧
    (auto → held → Completes (.agcGainStep n isB .quiet) s fun t => gained t (min 10 (g + 1))) ∧
    (auto → ¬held → Completes (.agcGainStep n isB .quiet) s fun t => t = s)

/-- CAL_DC, CAL_IQ, CAL_FC and CAL_PA for chain n: where the chain has no power or its mode does not accept the
command, its bit of CALSTAT.REFUSED is set and nothing else changes; accepted, its busy bit is set, and it waits with
the others in the order DC, FC, IQ, PA, behind the one that runs; one whose busy bit is set already changes nothing
(the model's choice, log entry 92). CAL_SUSPEND_START of a chain that may suspend takes it out of reception, leaves no
take in flight where the drain limit has come, and starts the first for its time; CAL_COMPLETE at its end clears the
busy bit, sets DONE or FAIL, fires CAL_DONE or CAL_FAIL, and starts the next, or ends the suspension; only where it
converged does a live calibration value change, its own. A PA calibration stores its drift. -/
def Obligations.CalibrationCommandsRunInTheirOrderOrAreRefused : Prop :=
  ∀ (n k e : Nat) (conv : Bool) (drift : Int) (r : CalRun) (s : State), n < 8 → k < 4 →
    let c := s.chain n
    let ok := c.on = true ∧ (s.mode = 3 ∨ s.mode = 7 ∨ (4 ≤ s.mode ∧ s.mode ≤ 6 ∧ k ≠ 3))
    let idle := s.rb (Reg.RFC_CALSTAT n) k = false
    let cmd : Instr := match k with | 0 => .calDc n | 1 => .calIq n | 2 => .calFc n | _ => .calPa n
    let queued (t : State) : Prop :=
      t = { s with regs := t.regs, raised := t.raised, rfs := { s.rfs with chains := t.rfs.chains } } ∧ KeepsMap n s.rfs.chains t.rfs.chains ∧
      GivesBits (Reg.RFC_CALSTAT n) [k] true s t ∧ KeepsRegs [Reg.RFC_CALSTAT n] s t
    let out : Outage := { chain := n, kind := .cal, since := s.slate, till := none }
    (¬ok → Completes cmd s fun t =>
      t = { s with regs := t.regs, raised := t.raised } ∧ GivesBits (Reg.RFC_CALSTAT n) [12 + k] true s t ∧ KeepsRegs [Reg.RFC_CALSTAT n] s t) ∧
    (ok → idle → c.cal = none → Completes cmd s fun t =>
      queued t ∧ t.chain n = { c with cal := some { since := s.slate, drain := !s.loopMode, todo := [k] } }) ∧
    (ok → ¬idle → Completes cmd s fun t => t = s) ∧
    (ok → idle → c.cal = some r → Completes cmd s fun t =>
      let todo := ((t.chain n).cal.map (·.todo)).getD []
      queued t ∧ t.chain n = { c with cal := some { r with todo := todo } } ∧
      ((if r.till = none then todo else todo.drop 1).Pairwise fun a b => calOrder a ≤ calOrder b) ∧
      (r.till ≠ none → r.todo ≠ [] → todo.head? = r.todo.head?) ∧
      (∀ j, j < 4 → (j ∈ todo ↔ j = k ∨ j ∈ r.todo))) ∧
    (c.cal = some { r with todo := k :: r.todo } → s.calReady n = true →
      Completes (.calSuspendStart n) s fun t =>
        t = { s with rfs := { s.rfs with chains := t.rfs.chains, outs := t.rfs.outs }, lnk := { s.lnk with takes := t.lnk.takes },
                     chz := { s.chz with dets := t.chz.dets } } ∧
        (s.calLimit n = false → t.lnk = s.lnk ∧ t.chz = s.chz) ∧ (s.calLimit n = true → t.takesOn n = false) ∧
        KeepsMap n s.rfs.chains t.rfs.chains ∧ out ∈ t.rfs.outs ∧
        t.chain n = { c with cal := some { r with drain := false, todo := k :: r.todo, till := some (s.slate + calTicks k) } }) ∧
    (c.cal = some { r with todo := k :: r.todo, till := some e } → e ≤ s.slate →
      Completes (.calComplete n conv drift) s fun t =>
        t = { s with regs := t.regs, raised := t.raised, cue := t.cue, free := t.free,
                     rfs := { s.rfs with chains := t.rfs.chains, outs := t.rfs.outs, live := t.rfs.live } } ∧
        (conv = false → t.rfs.live = s.rfs.live ∧ t.free = s.free) ∧ KeepsMap (4 * n + k) s.rfs.live t.rfs.live ∧
        KeepsMap n s.rfs.chains t.rfs.chains ∧ Fires [(if conv then 85 else 86) + 4 * n] 1 s t ∧
        (∀ b, b < 32 → t.rb (Reg.RFC_CALSTAT n) b =
          if b = k then false else if b = (if conv then 4 else 8) + k then true else s.rb (Reg.RFC_CALSTAT n) b) ∧
        KeepsRegs ([Reg.RFC_CALSTAT n] ++ if k = 3 then [Reg.SUP_PADRIFT n, Reg.SUP_STAT] else []) s t ∧
        (k = 3 → t.rd (Reg.SUP_PADRIFT n) = word (toU 16 drift)) ∧
        (r.todo = [] → t.chain n = { c with cal := none } ∧
          ∀ o ∈ t.rfs.outs, o.chain = n → o.kind = .cal → o.has (8 * s.slate) = false) ∧
        (∀ j, r.todo.head? = some j → t.rfs.outs = s.rfs.outs ∧
          t.chain n = { c with cal := some { r with drain := false, todo := r.todo, till := some (s.slate + calTicks j) } }))

/-- TX_RAMP_UP_START of a latched transmission begins its radiated interval: each chain that it shadows under BLANK is
out until its end, with its takes truncated now, and under KEEP the stretch is recorded; other takes stay.
RADIATED_INTERVAL_END of an ACK stores TXRS and TXRE, increments TXCNT, fires TX_END, releases its reservation and
counts its verdict. That of a schedule entry does the same, and frees the entry with its verdict in the transmit
notice, fires TX_DONE, and takes the slot out of the queue where the verdict is SENT or the relay uplink was dropped.
That of a beacon with verdict SENT, whose boundary did not pass it, fires TX_END and BEACON_SENT. DCB reads the stored
buckets of the accounts that are charged and writes them anew; no other memory changes at the end of an ACK. LOCK_LOSS
on a powered chain sets UNLOCK, fires UNLOCK, is to relock after 1,280 ticks, truncates the chain's takes, makes a
transmission that has ramped up end CHAIN_BUSY after a ramp-down, and ends the ACK of one that has not at once
CHAIN_BUSY, with its reservation released and the FEM pins idle. RETUNE_BACK_END drops the chain's transmission whose
retune back has ended. That the relock takes exactly 1,280 ticks, where R71 gives a bound, is the model's reading (log
entry 45), and the words of the stored buckets are its choice (log entry 99). -/
def Obligations.TransmissionsRampUpRadiateAndMayLoseLock : Prop :=
  ∀ (id d v : Nat) (x : Tx) (k : Take) (s : State), s.tx id = some x → x.id = id →
    let n := x.chain
    let sh (w : Nat) : Bool := decide (w < 8) && s.shadowed n w x.word
    let blank (w : Nat) : Bool := sh w && s.rb (Reg.LNK_SHPOL n) w
    let mine := (s.dcb.reserved.filter fun r => r.id == id).map fun r => (r.acc, r.bin)
    let b := bucketsRead s mine
    let stamped (t : State) : Prop :=
      t.rd64 (Reg.RFC_TXRS n 0) = (x.t0 - x.ramp) % 2 ^ 64 ∧ t.rd64 (Reg.RFC_TXRE n 0) = x.radEnd % 2 ^ 64 ∧
      t.rd (Reg.RFC_TXCNT n) = s.rd (Reg.RFC_TXCNT n) + 1 ∧ t.tx id = some { x with down := true } ∧
      t.dcb.reserved = s.dcb.reserved.filter (fun r => r.id != id) ∧ t.lnk.stats.get x.verdict 0 = s.lnk.stats.get x.verdict 0 + 1
    let cut (k : Take) : Take := { k with outcome := some 8, endAt := 8 * s.slate, eof := 8 * s.slate }
    (x.up = false → x.t0 - x.ramp ≤ s.slate → Completes (.txRampUpStart id) s fun t =>
      t = { s with rfs := { t.rfs with chains := s.rfs.chains }, lnk := { s.lnk with takes := t.lnk.takes },
                   chz := { s.chz with dets := t.chz.dets } } ∧
      t.tx id = some { x with up := true } ∧
      (blank v = true → { chain := v, kind := .shadow, since := s.slate, till := some x.radEnd, id := id } ∈ t.rfs.outs) ∧
      (sh v = true → blank v = false → { id := id, v := v, since := s.slate, till := x.radEnd } ∈ t.rfs.keeps) ∧
      (s.lnk.takes.find d = some k →
        t.lnk.takes.find d = some (if k.chain < 8 ∧ blank k.chain = true ∧ k.outcome = none then cut k else k))) ∧
    (x.up = true → x.down = false → x.radEnd ≤ s.slate → x.what = .ack false v false →
      Completes (.radiatedIntervalEnd id) s fun t =>
        t = { b with regs := t.regs, raised := t.raised, cue := t.cue, rfs := { s.rfs with txs := t.rfs.txs }, dcb := t.dcb,
                     lnk := { s.lnk with stats := t.lnk.stats }, mem := t.mem, ecc := t.ecc, undef := t.undef } ∧
        stamped t ∧ Fires ([83 + 4 * n] ++ if x.verdict = 0x20 then [21, 218] else []) 1 b t ∧ BinsStored mine b t ∧
        KeepsRegs [Reg.RFC_TXRS n 0, Reg.RFC_TXRS n 0 + 4, Reg.RFC_TXRE n 0, Reg.RFC_TXRE n 0 + 4, Reg.RFC_TXCNT n] b t) ∧
    (x.up = true → x.down = false → x.radEnd ≤ s.slate → ∀ slot dest, ∀ pend drop : Bool, x.what = .entry v slot dest pend drop →
      Completes (.radiatedIntervalEnd id) s fun t =>
        let octets := ((s.entry v).setCtrl 23 20 0).setCtrl 31 24 x.verdict
        stamped t ∧ (∀ c ∈ s.cuesOf [83 + 4 * n, 22, 217] 1, c ∈ t.cue.pending) ∧
        t.lnk.notices = s.lnk.notices ++ [{ entry := v, octets := octets, chain := octets.chain, prof := octets.prof }] ∧
        (x.verdict ≠ 0x20 ∨ pend = false → t.entryFree v = true ∧ t.entry v = octets) ∧
        (x.verdict = 0x20 ∨ drop = true → t.queued slot = none)) ∧
    (x.up = true → x.down = false → x.radEnd ≤ s.slate → x.what = .beacon v → x.verdict = 0x20 → s.lnk.bcnMissed ≠ v →
      Completes (.radiatedIntervalEnd id) s fun t => stamped t ∧ Fires ([83 + 4 * n] ++ [25]) 1 b t) ∧
    (n < 8 → (s.chain n).on = true → s.rfs.txs = [x] → x.since ≤ s.slate → x.up = true → x.down = false →
      Completes (.lockLoss n) s fun t =>
        t = { s with regs := t.regs, raised := t.raised, cue := t.cue, rfs := t.rfs, lnk := { s.lnk with takes := t.lnk.takes },
                     chz := { s.chz with dets := t.chz.dets } } ∧
        GivesBits (Reg.RFC_STAT n) [15] true s t ∧ KeepsRegs [Reg.RFC_STAT n] s t ∧ Fires [84 + 4 * n] 1 s t ∧
        t.chain n = { s.chain n with locked := false, relockAt := some (s.slate + 1280) } ∧
        t.rfs.txs = [{ x with verdict := 0x24, radEnd := min x.radEnd (s.slate + x.ramp) }] ∧
        { chain := n, kind := .unlock, since := s.slate, till := none } ∈ t.rfs.outs ∧
        (s.lnk.takes.find d = some k →
          t.lnk.takes.find d = some (if k.chain = n ∧ k.outcome = none then cut k else k))) ∧
    (n < 8 → (s.chain n).on = true → s.rfs.txs = [x] → x.since ≤ s.slate → x.up = false → x.down = false →
      x.what = .ack false v false → Completes (.lockLoss n) s fun t =>
        t.rfs.txs = [] ∧ t.dcb.reserved = s.dcb.reserved.filter (fun r => r.id != id) ∧
        t.lnk.stats.get 0x24 0 = s.lnk.stats.get 0x24 0 + 1 ∧ Fires [84 + 4 * n] 1 s t ∧
        t.chain n = { s.chain n with locked := false, relockAt := some (s.slate + 1280), pa := false, tr := false }) ∧
    (n < 8 → s.rfs.txs = [x] → (∀ j, j < 8 → s.chainWanted j = (s.chain j).on) → x.down = true → x.back ≤ s.slate →
      Completes (.retuneBackEnd n) s fun t => t = { s with rfs := { s.rfs with txs := [] } })

/-- While the main domain is powered, APPLY_GO (a write of CHZ.APPLY with GO): while an apply is pending it is refused
with cause 1; with no chain and no profile table, cause 6; else with the first failure of the validation; APPLYSTAT
shows the cause, chain and profile, APPLY_REFUSED fires, and nothing is copied. Otherwise the apply pends for APPLYAT,
or for the present tick where APPLYAT is 0 or past, which sets PAST. APPLY_INSTANT at the instant of an apply that
still validates makes the staged plan, enables (of the N channels) and assignments of every applied chain active, and
the staged profile table where PROF was set, retunes the chain exactly where C, S or the raster changed, steps the
epoch modulo 65,536 and fires APPLIED; the old epoch stays, with its fence from the instant, while takes of it are in
flight, as do the older ones; another chain keeps its plan. One that no longer validates is refused with its cause. A
survey count in progress is dropped. That only an accepted apply sets PAST is the model's choice (log entry 106). -/
def Obligations.AppliesAreRefusedByCauseOrWaitForTheirInstant : Prop :=
  ∀ (val : Word) (n k : Nat) (p : PendApply) (s : State), s.mainOn = true → bit val 31 = true → n < 8 → k < 64 →
    let old : OldEpoch := { num := s.epoch, at_ := p.at_, fence := p.at_ + (s.rd Reg.CHZ_FENCE).toNat }
    let chains := fld val 7 0
    let prof := bit val 8
    let busy := s.chz.apply.isSome = true
    let empty := chains = 0 ∧ prof = false
    let at_ := s.rd64 (Reg.CHZ_APPLYAT 0)
    let past := at_ = 0 ∨ at_ < s.slate
    let refused (c ch pr : Nat) (t : State) : Prop :=
      t = { s with regs := t.regs, raised := t.raised, cue := t.cue } ∧ Fires [16] 1 s t ∧ KeepsRegs [Reg.CHZ_APPLY, Reg.CHZ_APPLYSTAT] s t ∧
      t.rb Reg.CHZ_APPLYSTAT 0 = true ∧ t.rf Reg.CHZ_APPLYSTAT 11 8 = c ∧ t.rf Reg.CHZ_APPLYSTAT 27 24 = ch ∧
      t.rf Reg.CHZ_APPLYSTAT 19 16 = pr
    let changed := s.planC 0 n ≠ s.planC active n ∨ s.planS 0 n ≠ s.planS active n ∨ s.planD 0 n ≠ s.planD active n
    (busy → Completes (.applyGo val) s fun t => refused 1 0 0 t) ∧
    (¬busy → empty → Completes (.applyGo val) s fun t => refused 6 0 0 t) ∧
    (∀ f, (if busy ∨ empty then none else s.applyFault chains prof) = some f →
      Completes (.applyGo val) s fun t => refused f.1 f.2.1 f.2.2 t) ∧
    (¬busy → ¬empty → s.applyFault chains prof = none → Completes (.applyGo val) s fun t =>
      t = { s with regs := t.regs, raised := t.raised, chz := { s.chz with apply := some { chains := chains, prof := prof, at_ := if past then s.slate else at_ } } } ∧
      GivesBits Reg.CHZ_APPLYSTAT (if past then [3] else []) true s t ∧ KeepsRegs [Reg.CHZ_APPLY, Reg.CHZ_APPLYSTAT] s t) ∧
    (s.chz.apply = some p → p.at_ ≤ s.slate → ∀ f, s.applyFault p.chains p.prof = some f → Completes .applyInstant s fun t =>
      t.chz = { s.chz with apply := none } ∧ refused f.1 f.2.1 f.2.2 { t with chz := s.chz }) ∧
    (s.chz.apply = some p → p.at_ ≤ s.slate → s.applyFault p.chains p.prof = none → Completes .applyInstant s fun t =>
        t = { s with regs := t.regs, raised := t.raised, cue := t.cue, rfs := t.rfs, chz := t.chz, lnk := { s.lnk with takes := t.lnk.takes } } ∧
        t.epoch = (s.epoch + 1) % 65536 ∧ t.chz.apply = none ∧ t.chz.occFrom = none ∧ (∀ c ∈ s.cuesOf [15] 1, c ∈ t.cue.pending) ∧
        (∀ e ∈ t.chz.epochs, e ∈ s.chz.epochs ++ [old]) ∧
        (∀ e ∈ s.chz.epochs ++ [old], (s.lnk.takes.any fun k => k.2.epoch == e.num) = true → e ∈ t.chz.epochs) ∧
        (∀ e ∈ s.chz.epochs ++ [old], s.chz.dets = [] → (s.lnk.takes.any fun k => k.2.epoch == e.num) = false → e ∉ t.chz.epochs) ∧
        (p.prof = true → ∀ q, q < 16 → t.profWords active q = s.profWords 0 q) ∧
        (p.chains.testBit n = true → t.planC active n = s.planC 0 n ∧ t.planS active n = s.planS 0 n ∧
          t.planD active n = s.planD 0 n ∧ t.planMask active n = s.planMask 0 n % 2 ^ s.planN 0 n ∧
          t.rf (Reg.CHZ_ASSIGN_A (64 * n + k)) 19 0 = s.rf (Reg.CHZ_ASSIGN (64 * n + k)) 19 0 ∧
          t.rd (Reg.RFC_RXLO n) = if changed then word (tuneWord (s.planC 0 n)) else s.rd (Reg.RFC_RXLO n)) ∧
        (p.chains.testBit n = true → ¬changed → t.chain n = s.chain n) ∧
        (p.chains.testBit n = false → t.planC active n = s.planC active n ∧ t.planMask active n = s.planMask active n ∧
          t.chain n = s.chain n ∧ t.rd (Reg.RFC_RXLO n) = s.rd (Reg.RFC_RXLO n)))

/-- DETECTION outside the conditions of R107 to R110, or whose preamble, sync word or power does not match, leaves
everything as it is, and so does the later of two branch detections of one frame; any other waits for its allocation,
in the place of one of its channel and profile that waits already. DEMOD_ALLOCATION, 64 ticks after the first waiting
stamp, makes it a take of the lowest free demodulator with the profile's words latched and its stamp in the take
record (already TRUNCATED where it was cut while it waited), or, with none free, counts POOL_MISS and fires it;
superseded epochs without a take may then drain. PROFILE_SEARCH_RESUME after the tick of a release ends the parking.
The epoch of a detection that waits across an apply (log entry 48), and that the demodulator's word of engine state
holds the stamp (log entry 99), are the model's reading and choice. -/
def Obligations.DetectionsStandAndTakeTheLowestFreeDemodulator : Prop :=
  ∀ (d : Detected) (x : Det) (m : Nat) (s : State), d.chain < 8 → d.ch < 64 → d.prof < 16 →
    let key := 16 * (64 * d.chain + d.ch) + d.prof
    let brb := s.rb (Reg.RFC_CTL d.chain) 8
    let rate := pwRate (s.profWords active d.prof)
    let det (sync1 : Bool) : Det := {
      stamp := d.stamp, chain := d.chain, ch := d.ch, prof := d.prof, sync1 := sync1, onB := d.onB,
      word := tuneWord (s.chanHz active d.chain d.ch),
      rssiA := rssiRaw d.powerA, rssiB := if brb then rssiRaw d.powerB else 0x80 }
    let mine (e : Det) : Prop := e.chain = d.chain ∧ e.ch = d.ch ∧ e.prof = d.prof
    let rest := s.chz.dets.tail
    let waits := s.chz.dets.head? = some x ∧ x.stamp + 512 ≤ 8 * s.slate
    let pool := Reg.DMD_POOL_MISS (64 * x.chain + x.ch)
    let take : Take := {
      stamp := x.stamp, chain := x.chain, ch := x.ch, prof := x.prof, pw := s.profWords active x.prof,
      word := x.word, epoch := s.epochOf x.stamp }
    let cut (i : Nat) : Take := { take with outcome := some 8, endAt := i, eof := x.stamp }
    let stands := ∀ y, s.chz.last.find key = some y → y.2 = d.onB ∨ sameFrame rate y.1 d.stamp = false ∨ d.stamp < y.1 ∨
      (d.stamp = y.1 ∧ d.onB = false)
    (s.detectable d = false ∨ s.detectSync d = none → Completes (.detection d) s fun t => t = s) ∧
    (∀ y, s.chz.last.find key = some y → y.2 ≠ d.onB → sameFrame rate y.1 d.stamp = true →
      (y.1 < d.stamp ∨ (y.1 = d.stamp ∧ d.onB = true)) → Completes (.detection d) s fun t => t = s) ∧
    (s.detectable d = true → stands → ∀ sync1, s.detectSync d = some sync1 →
      Completes (.detection d) s fun t =>
        t = { s with chz := { s.chz with dets := t.chz.dets, last := t.chz.last } } ∧
        t.chz.last.find key = some (d.stamp, d.onB) ∧ KeepsMap key s.chz.last t.chz.last ∧
        (∀ e ∈ t.chz.dets, e = det sync1 ∨ (e ∈ s.chz.dets ∧ ¬mine e)) ∧ det sync1 ∈ t.chz.dets ∧
        (∀ e ∈ s.chz.dets, ¬mine e → e ∈ t.chz.dets)) ∧
    (waits → m < 192 → s.demodFree m x.stamp = true → (∀ j, j < m → s.demodFree j x.stamp = false) →
      Completes .demodAllocation s fun t =>
        t = { s with regs := t.regs, raised := t.raised, chz := { s.chz with dets := rest }, lnk := { s.lnk with takes := t.lnk.takes },
                     mem := t.mem, ecc := t.ecc } ∧ WordPut 12 (demodWord m) (x.stamp % 2 ^ 64) s t ∧
        t.lnk.takes.find m = some ((x.cut.map cut).getD take) ∧ KeepsMap m s.lnk.takes t.lnk.takes ∧
        t.rd64 (Reg.DMD_TREC m 0) = x.stamp % 2 ^ 64 ∧ t.rf (Reg.DMD_TREC m 2) 7 0 = x.chain % 256 ∧
        t.rf (Reg.DMD_TREC m 2) 15 8 = x.ch % 256 ∧ t.rf (Reg.DMD_TREC m 2) 23 16 = x.prof % 256 ∧
        KeepsRegs ((List.range 8).map (Reg.DMD_TREC m) ++ [Reg.DMD_STAT]) s t) ∧
    (waits → (∀ j, j < 192 → s.demodFree j x.stamp = false) → Completes .demodAllocation s fun t =>
      t = { s with regs := t.regs, raised := t.raised, cue := t.cue, chz := { t.chz with dets := rest } } ∧
      t.chz = { s.chz with dets := rest, epochs := t.chz.epochs, lastDrn := t.chz.lastDrn } ∧
      (∀ c ∈ s.cuesOf [20, 220] 1, c ∈ t.cue.pending) ∧ (s.chz.epochs = [] → t.chz.epochs = [] ∧ Fires [20, 220] 1 s t) ∧
      (pool ≠ Reg.DMD_CNT 6 → pool ≠ Reg.CHZ_LASTDRN → t.rd pool = s.rd pool + 1 ∧ t.rd (Reg.DMD_CNT 6) = s.rd (Reg.DMD_CNT 6) + 1) ∧
      KeepsRegs [pool, Reg.DMD_CNT 6, Reg.CHZ_LASTDRN] s t) ∧
    (∀ r, s.lnk.parked.find key = some r → r < s.slate → Completes (.profileSearchResume d.chain d.ch d.prof) s fun t =>
      t = { s with lnk := { s.lnk with parked := t.lnk.parked } } ∧ t.lnk.parked.find key = none ∧
      KeepsMap key s.lnk.parked t.lnk.parked)

/-- At the end of a 1 ms window on a receiving chain without an outage, NOISE_WINDOW_END takes the floor of each
branch in use of each channel that no take, and no detection that waits for its allocation, overlapped to W where the
chain is fresh (the window after the power-up or retune having begun, and no take on any of its channels; the model's
choice, log entry 92), down by a quarter of the difference (floor shift) where W is not above it, up by 1 in every
sixteenth window, and else keeps it; the floor of branch B stands while BRB is 0. Where a survey count runs and the
channel is scanned or enabled, a branch-A power that reaches its floor plus the threshold counts the window.
SURVEY_INTERVAL_END where the device operates or surveys, or a chain receives in loopback, at a multiple of the
interval, after a whole interval's count, stores it in OCC of each searched or scanned channel and fires SURV_DONE,
and a new count starts; with no count running it starts one. While the main domain is powered CLEAR_HIGH_WATER sets
HIWATER to the takes in flight. Nothing else changes. That such a detection counts as a take is the model's choice
(log entry 106). -/
def Obligations.FloorsFollowR112AndSurveysStoreTheirCounts : Prop :=
  ∀ (n k : Nat) (pa pb : List Int) (s : State), n < 8 → k < 64 →
    let c := 64 * n + k
    let a := s.slate - 32000
    let fresh := (s.chain n).fresh.isSome
    let brb := s.rb (Reg.RFC_CTL n) 8
    let next (f w : Int) : Int := if fresh then w else if w ≤ f then f - (f - w) / 4 else if a / 32000 % 16 = 0 then f + 1 else f
    let na := next (s.floor c false) (pa.getD k 0)
    let nb := next (s.floor c true) (pb.getD k 0)
    let free (j : Nat) : Prop := s.takeOverlaps n j a s.slate = false
    let int := s.survTicks
    let th : Int := 8 * s.rf Reg.CHZ_SURVINT 23 16
    let wanted := s.scans n = true ∨ (s.planMask active n).testBit k = true
    let surveyed := s.operating = true ∨ s.mode = 6 ∨ (s.loopMode = true ∧ ∃ j ∈ List.range 8, s.receiving j = true)
    let shown := s.receiving n = true ∧ k < s.planN active n ∧ wanted
    (s.passes 32000 = true → 32000 ≤ s.slate → s.receiving n = true → s.outOverlaps n a s.slate = false →
      k < s.planN active n → free k → (fresh = true → ∀ j, j < 64 → free j) → (∀ u, (s.chain n).fresh = some u → u ≤ a) →
      -32768 ≤ na → na ≤ 32767 → -32768 ≤ nb → nb ≤ 32767 → Completes (.noiseWindowEnd n pa pb) s fun t =>
        t = { s with regs := t.regs, raised := t.raised, rfs := { s.rfs with chains := t.rfs.chains }, chz := { s.chz with occ := t.chz.occ } } ∧
        t.floor c false = na ∧ t.floor c true = (if brb then nb else s.floor c true) ∧ (t.chain n).fresh = none ∧
        (s.chz.occFrom = none → t.chz.occ = s.chz.occ) ∧
        (s.chz.occFrom ≠ none → wanted → s.floor c false + th ≤ pa.getD k 0 → t.chz.occ.get c 0 = s.chz.occ.get c 0 + 1) ∧
        KeepsMap n s.rfs.chains t.rfs.chains ∧
        KeepsRegs ((List.range (s.planN active n)).map fun j => Reg.CHZ_FLOOR (64 * n + j)) s t) ∧
    (int ≠ 0 → s.slate % int = 0 → int ≤ s.slate → surveyed → s.chz.occFrom = some (s.slate - int) →
      Completes .surveyIntervalEnd s fun t =>
        t = { s with regs := t.regs, raised := t.raised, cue := t.cue, chz := { s.chz with occ := [], occFrom := some s.slate } } ∧
        Fires [18] 1 s t ∧ t.rd (Reg.CHZ_OCC c) = (if shown then word (s.chz.occ.get c 0) else s.rd (Reg.CHZ_OCC c)) ∧
        KeepsRegs ((List.range 512).map Reg.CHZ_OCC) s t) ∧
    (int ≠ 0 → s.slate % int = 0 → surveyed → s.chz.occFrom = none →
      Completes .surveyIntervalEnd s fun t => t = { s with chz := { s.chz with occ := [], occFrom := some s.slate } }) ∧
    (s.mainOn = true → Completes .clearHighWater s fun t =>
      t = { s with regs := t.regs, raised := t.raised } ∧ GivesField Reg.DMD_STAT 23 16 (s.lnk.takes.length % 256) s t ∧ KeepsRegs [Reg.DMD_STAT] s t)

/-- For the take x of demodulator d: PHR_RECEIVED checks the 24 bits in order (CRC-8, reserved bits, FEC, whitening
and CRC width against the profile: verdict 7; length 0 or above MAXLEN: 9) and ends the take, or lets its body be
received; a failing check wins over a truncation of the same or a later instant. DEAD_SYMBOL_TRUNCATION of eight
consecutive symbols, each below floor + 3 dB on the take's branch or further than 1.5 DEV from the carrier, ends a
take that has not ended before TRUNCATED (8) at the end of the eighth; of other symbols it changes nothing.
TAKE_COMPLETE ends complete a take whose header passed, also one that a cause at or after its last bit truncated.
DECODE_DONE of a complete take stores PSDU and CRC octets in its frame buffer, decides 0 or 6 by the payload CRC, and
writes EOF, LEN and the verdict; where a partly covered word of the buffer cannot be read the octets are not stored;
no octet outside the stored ones, no other take and, beyond the report of the write, no register but its take record
and EOF changes. What the air gives and how the soft decisions are decoded (log entry 47), and that the symbols after
the end-of-frame stamp are not counted as received (log entry 107), are the model's choices. -/
def Obligations.DemodulatorOutcomesOfATake : Prop :=
  ∀ (d eof till j m a : Nat) (est : List Int) (seen : List SymbolSeen) (r : Demodulated) (x : Take) (s : State), d < 192 →
    s.lnk.takes.find d = some x →
    let bits := (softAll (pwFsk4 x.pw) (pwDev x.pw) (est.take (phrSyms x.pw))).map hardBit
    let h := natMsb (bits.take 16)
    let crcOk := crc8 [h / 256, h % 256] = natMsb ((bits.drop 16).take 8)
    let fieldsOk := h % 16 = 0 ∧ allows (pwFec x.pw) (h.testBit 6) = true ∧ allows (pwWhiten x.pw) (h.testBit 5) = true ∧
      allows (pwCrc x.pw) (h.testBit 4) = true
    let lenOk := h / 128 % 512 ≠ 0 ∧ h / 128 % 512 ≤ pwMax x.pw
    let verdict := if ¬(crcOk ∧ fieldsOk) then 7 else 9
    let now (y : Take) (t : State) : Prop :=
      t = { s with lnk := { s.lnk with takes := t.lnk.takes } } ∧ t.lnk.takes.find d = some y ∧ KeepsMap d s.lnk.takes t.lnk.takes
    let phr := x.phr.getD 0
    let wide := phr.testBit 4
    let body := r.est.take (frameB (phr / 128 % 512) (phr.testBit 6) wide / pwBits x.pw)
    let dec := decodeBody (softAll (pwFsk4 x.pw) (pwDev x.pw) (body.drop (phrSyms x.pw))) (phr / 128 % 512) (phr.testBit 6)
      (phr.testBit 5) wide
    let octets := dec.psdu ++ dec.crc
    let out := if dec.crc = payloadCrc wide dec.psdu then 0 else 6
    let open_ := x.phr = none ∧ x.body = false ∧ (x.outcome = none ∨ (x.outcome = some 8 ∧ eof ≤ x.endAt))
    let floor := s.floor (64 * x.chain + x.ch) (((s.trec d).getD 11 0).testBit 0)
    let dead (y : SymbolSeen) : Prop := 16 * y.power < 100 * (floor + 48) ∨ 3 * pwDev x.pw < 2 * y.freq.natAbs
    let fades := seen.length = 8 ∧ ∀ y ∈ seen, dead y
    (open_ → ¬(crcOk ∧ fieldsOk ∧ lenOk) → Completes (.phrReceived d est eof) s fun t =>
      now { x with phr := if crcOk then some h else none, outcome := some verdict, endAt := eof, eof := eof, dead := false } t) ∧
    (open_ → crcOk ∧ fieldsOk ∧ lenOk → Completes (.phrReceived d est eof) s fun t => now { x with phr := some h, body := true } t) ∧
    (fades → x.decoded = false → x.outcome = none ∨ (x.outcome = some 8 ∧ till < x.endAt) →
      Completes (.deadSymbolTruncation d ⟨seen, eof⟩ till) s fun t =>
        now { x with outcome := some 8, endAt := till, eof := eof, dead := true } t) ∧
    (¬fades → Completes (.deadSymbolTruncation d ⟨seen, eof⟩ till) s fun t => t = s) ∧
    (x.body = true → x.decoded = false → x.outcome = none ∨ (x.outcome = some 8 ∧ eof ≤ x.endAt) →
      Completes (.takeComplete d eof) s fun t => now { x with outcome := some 0, endAt := eof, eof := eof, dead := false } t) ∧
    (x.outcome = some 0 → x.body = true → x.decoded = false → dec.psdu.length ≤ 511 → Completes (.decodeDone d r) s fun t =>
      let u := if octets.isEmpty then s else (s.write 5 8 (1024 * d) (ofOcts octets)).1
      t = { u with regs := t.regs, raised := t.raised, lnk := { s.lnk with takes := t.lnk.takes } } ∧
      t.lnk.takes.find d = some { x with outcome := some out, decoded := true, len := dec.psdu.length, desensed := s.desensed x.chain x.stamp x.eof } ∧
      KeepsMap d s.lnk.takes t.lnk.takes ∧
      (s.writable 8 (1024 * d) octets.length = true → j < octets.length → t.readByte 8 (1024 * d + j) = BitVec.ofNat 8 (octets.getD j 0)) ∧
      (m < 15 → a < 2 ^ 40 → m ≠ 8 ∨ a < 1024 * d ∨ 1024 * d + octets.length ≤ a → t.readByte m a = s.readByte m a) ∧
      t.rd64 (Reg.DMD_EOF d 0) = x.eof % 2 ^ 64 ∧ t.rf (Reg.DMD_TREC d 5) 31 16 = phr / 128 % 512 ∧
      t.rf (Reg.DMD_TREC d 7) 23 16 = out ∧
      KeepsRegs ((List.range 8).map (Reg.DMD_TREC d) ++ [Reg.DMD_EOF d 0, Reg.DMD_EOF d 0 + 4]) u t)

/-- For a decoded take alone in flight, TAKE_READY at its ready instant comes after the call sheet of its tick. Where
no sheet takes effect it ends the take with ECC_FAIL and DMD.ERR, beside the report of the read, where its frame
buffer or its demodulator's word of engine state cannot be read; else, where the read corrects nothing, it keeps the
PSDU read and gives the demodulator's verdict (stage 1) where it has one, and else the first failing verdict of stage
2, shown in the take record, or, for an uplink whose record is provisioned, takes that record on to stage 5.
SIBLING_RESOLUTION of an uplink that reached stage 5 compares its counter f with the record's H and W: f = H, or H - f
up to 32 with its bit of W set, is a repeat (verdict 1, stage 5, and its ACK may be repeated); H - f beyond 32 is one
without; f more than 2^31 ahead is verdict 2; any other f goes to stage 6, where an unprotected frame that the minimum
level allows passes with its payload in the clear. Of a repeat and of one that passes, this covers takes that ask no
ACK, or with ACKs off. That an earlier take released or not yet decoded is not seen (log entry 104), and which word
the demodulator's state is (log entry 99), are the model's choices. -/
def Obligations.FilterStagesDecideATakesVerdict : Prop :=
  ∀ (d : Nat) (x : Take) (p : List Nat) (s : State), d < 192 → s.lnk.takes = [(d, x)] →
    let due := x.decoded = true ∧ x.ready = false ∧ x.readyAt ≤ s.slate
    let quietly := due ∧ sheetApply s = s
    let held := s.readable 12 (8 * demodWord d) 8 = true
    let seen := (s.readReport 6 8 (1024 * d) x.len).readReport 6 12 (8 * demodWord d) 8
    let read := held ∧ s.psdu d x = some p
    let clean := read ∧ seen = s
    let out := x.outcome.getD 8
    let ends (s : State) (y : Take) (stage verdict : Nat) (rs : List Nat) (t : State) : Prop :=
      t = { s with regs := t.regs, raised := t.raised, lnk := { s.lnk with takes := t.lnk.takes } } ∧
      t.lnk.takes = [(d, { y with ready := true, resolved := true, laned := true, stage := stage, verdict := verdict, resAt := x.readyAt })] ∧
      t.rf (Reg.DMD_TREC d 7) 23 16 = verdict % 256 ∧ KeepsRegs ((List.range 8).map (Reg.DMD_TREC d) ++ rs) s t
    let named := s.setRecAddr d (recordAddr p)
    let fetched := (stage34 named p).1
    let waiting := s.psdu d x = some p ∧ x.ready = true ∧ x.reach5 = true ∧ x.resolved = false ∧ fcUplink (fcOf p) = true
    let quiet := fcAckReq (fcOf p) = false ∨ s.rb Reg.LNK_CTL 0 = false
    let f := frameCounter p
    let h := recH x.record
    let w := recW x.record
    let again := f = h ∨ (f < h ∧ h - f ≤ 32 ∧ w.testBit (h - f - 1) = true)
    let below := f < h ∧ 32 < h - f
    let far := h < f ∧ 2 ^ 31 < f - h
    let shown (stage verdict : Nat) (reack reach6 : Bool) (t : State) : Prop :=
      t = { s with regs := t.regs, raised := t.raised, lnk := { s.lnk with takes := t.lnk.takes }, cip := { s.cip with laneRx := t.cip.laneRx } } ∧
      (t.lnk.takes.find d).map (fun y => (y.resolved, y.laned, y.stage, y.verdict, y.reack, y.reach6, y.resAt)) =
        some (true, true, stage, verdict, reack, reach6, x.readyAt) ∧
      t.lnk.takes.keys = [d] ∧ t.rf (Reg.DMD_TREC d 7) 23 16 = verdict ∧
      KeepsRegs ((List.range 8).map (Reg.DMD_TREC d) ++
        if reach6 then [Reg.CIP_FREE 0 0, Reg.CIP_FREE 0 0 + 4, Reg.CIP_FREE 1 0, Reg.CIP_FREE 1 0 + 4] else []) s t
    (due → Completes (.takeReady d) s fun t => t = assignLanes 192 (takeReady (sheetApply s) d)) ∧
    (¬due → Completes (.takeReady d) s fun t => t = s) ∧
    (quietly → ¬held ∨ s.psdu d x = none → Completes (.takeReady d) s fun t =>
      ends seen x 1 0x0C [Reg.DMD_ERR] t ∧ t.rb Reg.DMD_ERR 0 = true ∧ t.rf Reg.DMD_ERR 15 8 = d) ∧
    (clean → quietly → out ≠ 0 → Completes (.takeReady d) s fun t => ends s { x with psdu := some p } 1 out [] t) ∧
    (clean → quietly → out = 0 → s.stage2 p ≠ 0 → Completes (.takeReady d) s fun t => ends s { x with psdu := some p } 2 (s.stage2 p) [] t) ∧
    (clean → quietly → out = 0 → s.stage2 p = 0 → fcUplink (fcOf p) = true → x.resolved = false → ∀ r, stage34 named p = (fetched, .inl r) →
      Completes (.takeReady d) s fun t =>
        t = { fetched with lnk := { s.lnk with takes := [(d, { x with psdu := some p, ready := true, reach5 := true, record := r })] } }) ∧
    (p.length < 2 → s.stage2 p = 9) ∧
    (2 ≤ p.length → fcAllowed (fcOf p) = false → s.stage2 p = 0x0D) ∧
    (s.stage2 p = 0 → s.netOk (field p 2 2) = true ∧ mhrLen (fcOf p) + micLen (fcSec (fcOf p)) ≤ p.length) ∧
    (waiting → again → quiet → Completes (.siblingResolution d) s fun t => shown 5 1 true false t) ∧
    (waiting → below → x.reack = false → Completes (.siblingResolution d) s fun t => shown 5 1 false false t) ∧
    (waiting → far → x.reack = false → Completes (.siblingResolution d) s fun t => shown 5 2 false false t) ∧
    (waiting → ¬again → ¬below → ¬far → quiet → fcSec (fcOf p) = 0 → s.rf Reg.LNK_CTL 5 4 = 0 → s.chz.epochs = [] → x.verdict = 0 → x.reack = false → x.stage = 0 →
      Completes (.siblingResolution d) s fun t => shown 0 0 false true t ∧
        (t.lnk.takes.find d).map (·.plain) = some ((p.drop (mhrLen (fcOf p))).take (p.length - mhrLen (fcOf p))))

/-- Where no call sheet takes effect in the tick, TAKE_RELEASE of a complete take at its release instant, and
LATE_TAKE_COMMIT of one whose release deadline was missed (its verdict 0 shown as 0x0B), where no route takes it and
it updates no record: its demodulator is free, its search parked until the next tick, its verdict, PASS or REJ and the
demodulator count go up, TAKE_DONE fires, and the slate and every other take stay. With the always-on domain powered,
DEADLINE_MISS of a path that stands unfinished at its deadline raises MARGIN_LOST from source 1; the ACK build that
was missed ends its request and, where C is not after the release, gives a passed take 0x0B; a missed release marks
the take late and drops its ACK request; a beacon missed before it was latched is recorded as missed. The release of a
truncated take misses nothing, and of a path that does not stand so, it changes nothing. A beacon that is missed after
its ramp began goes down again with verdict MISSED. Which paths a command names, and when it changes nothing, are the
model's choices (log entry 84). -/
def Obligations.ReleasesCountAndMissedDeadlinesFallBack : Prop :=
  ∀ (d id sec : Nat) (x : Take) (b : AckReq) (s : State), d < 192 → x.chain < 8 → x.ch < 64 → x.stage ≤ 6 → s.aonOn = true →
    let c := 64 * x.chain + x.ch
    let free (k : Nat) : Prop := s.routeTakes k x.chain x.prof (if x.late ∧ x.verdict = 0 then 0x0B else x.verdict) x.desensed = false
    let quiet := sheetApply s = s ∧ s.lnk.takes = [(d, x)] ∧ (∀ k, k < 16 → free k) ∧ x.reach5 = false ∧ s.chz.epochs = [] ∧
      (∀ n, n < 8 → s.chainWanted n = (s.chain n).on)
    let done := x.ready = true ∧ x.resolved = true ∧ x.laned = true
    let released (v : Nat) (t : State) : Prop :=
      t = { s with regs := t.regs, raised := t.raised, cue := t.cue, lnk := t.lnk, chz := { s.chz with took := t.chz.took } } ∧
      t.lnk.takes = [] ∧ t.lnk.freeAt.find d = some s.slate ∧ t.lnk.parked.find (16 * c + x.prof) = some s.slate ∧
      t.chz.took.find c = some s.slate ∧ Fires [19, 219] 1 s t ∧ t.lnk.stats.get v 0 = s.lnk.stats.get v 0 + 1 ∧
      t.rd (Reg.DMD_CNT 0) = s.rd (Reg.DMD_CNT 0) + 1 ∧
      (x.stage = 0 → t.rd Reg.LNK_PASS = s.rd Reg.LNK_PASS + 1) ∧
      (0 < x.stage → t.rd (Reg.LNK_REJ (x.stage - 1)) = s.rd (Reg.LNK_REJ (x.stage - 1)) + 1) ∧
      t.rf (Reg.DMD_TREC d 7) 23 16 = v ∧
      KeepsRegs ((List.range 8).map (Reg.DMD_TREC d) ++ (List.range 8).map Reg.DMD_CNT ++ (List.range 6).map Reg.LNK_REJ ++
        [Reg.LNK_PASS, Reg.REL_NOROUTE]) s t
    let margin (t : State) : Prop := t.rb Reg.SUP_STAT 0 = true ∧ t.rf Reg.SUP_MLSRC 11 8 = 1 ∧
      KeepsRegs [Reg.SUP_STAT, Reg.SUP_MLSTART 0, Reg.SUP_MLSTART 0 + 4, Reg.SUP_MLCNT, Reg.SUP_MLSRC] s t ∧
      t = { s with regs := t.regs, raised := t.raised, cue := t.cue, sup := t.sup, lnk := t.lnk }
    (quiet → done → x.late = false → x.releaseAt ≤ s.slate → x.outcome.isSome = true → x.desensed = false → x.verdict < 14 →
      Completes (.takeRelease d) s fun t => released x.verdict t) ∧
    (quiet → done → x.late = true → x.releaseAt ≤ s.slate → x.outcome.isSome = true → s.lnk.acks = [] → x.desensed = false → x.verdict < 14 →
      Completes (.lateTakeCommit d) s fun t => released (if x.verdict = 0 then 0x0B else x.verdict) t) ∧
    (s.lnk.acks = [b] → b.id = id → b.demod = d → b.stamp = x.stamp → s.lnk.takes = [(d, x)] → b.commitAt ≤ s.slate →
      Completes (.deadlineMiss (.ackBuild id)) s fun t =>
        margin t ∧ t.lnk = { s.lnk with acks := [], takes := [(d, { x with acked := false, verdict := if x.verdict = 0 ∧ b.commitAt ≤ x.releaseAt then 0x0B else x.verdict })] }) ∧
    (s.lnk.acks = [b] → b.demod = d → b.stamp = x.stamp → s.lnk.takes = [(d, x)] →
      x.outcome.isSome = true → x.outcome ≠ some 8 → x.late = false → x.releaseAt ≤ s.slate →
      Completes (.deadlineMiss (.takeRelease d)) s fun t =>
        margin t ∧ t.lnk = { s.lnk with acks := [], takes := [(d, { x with late := true, acked := false })] }) ∧
    (s.pathMissed (.beacon sec) = true → s.rfs.txs = [] → Completes (.deadlineMiss (.beacon sec)) s fun t =>
      margin t ∧ t.lnk = { s.lnk with bcnMissed := sec, bcnDone := if s.lnk.bcnDone = sec then 0 else s.lnk.bcnDone }) ∧
    (∀ y ∈ s.rfs.txs, s.pathMissed (.beacon sec) = true → s.rfs.txs = [y] → y.what = .beacon sec → y.up = true → y.down = false →
      Completes (.deadlineMiss (.beacon sec)) s fun t =>
        t.rfs.txs = [{ y with verdict := 0x22, radEnd := min y.radEnd (s.slate + y.ramp) }] ∧ t.lnk.bcnMissed = sec ∧ margin { t with rfs := s.rfs }) ∧
    (∀ q ∈ [DeadlinePath.ackBuild id, .takeRelease d, .budgetAck id, .budgetEntry id, .budgetBeacon sec, .dispatch id, .beacon sec],
      s.pathMissed q = false → Completes (.deadlineMiss q) s fun t => t = s)

/-- With the main domain powered, for the entry e that LNK.SIDX selects: SCHEDULE_ARM of one that cannot be read, and
the dispatch of one, end it MISSED; otherwise SCHEDULE_ARM is refused with cause 1 (not FREE), 6 (slot not queued or
held), 3 or 4 (preamble or copies), or, at PMODE 0 or 1, 2 (too late for SLACK, verdict 0x22), and else, at PMODE 0 or
1, the entry is ARMED with its set-up time and the earliest TIME that still can be met. SCHEDULE_CANCEL frees an ARMED
entry without a cue. SCHEDULE_DISPATCH ends one whose chain cannot transmit CHAIN_BUSY; one of an unprotected downlink
that passes every check takes the next counter value and is latched. DISPATCH_SLACK_EXPIRY ends an entry MISSED after
D + SLACK. An entry that ends is FREE with its verdict counted, fires TX_DONE and leaves a notice to be written. Every
other entry stays. The length of a transmission whose slot cannot be read (log entry 93), and what an ARM of an
unreadable entry does (log entry 53), are the model's choice and reading. -/
def Obligations.ScheduleEntriesArmDispatchCancelAndExpire : Prop :=
  ∀ (e e2 id : Nat) (q : QSlot) (a : ArmInfo) (r : Rec) (h : SlotHead) (b : List Nat) (u v : State) (s : State), s.mainOn = true →
    e = s.rf Reg.LNK_SIDX 11 0 → e2 < 4096 → e2 ≠ e →
    let x := s.entry e
    let n := x.chain
    let pw := s.profWords active x.prof
    let setup := s.setup n
    let lam : Int := (s.slate + 1 + setup : Nat) - (x.time : Int)
    let slack : Int := s.rf Reg.LNK_SLACK 15 0
    let read := s.readReport 6 11 (16 * e) 16
    let empty := s.lnk.arms.find e = none
    let free := empty ∧ s.entryBad e = false
    let held := s.slotHeld x.slot = true
    let armed := s.lnk.arms.find e = some a ∧ x.state = 1
    let others (t : State) : Prop := t.entry e2 = s.entry e2 ∧ t.lnk.arms.find e2 = s.lnk.arms.find e2
    let refused (c : Nat) (t : State) : Prop := t = { s with regs := t.regs, raised := t.raised } ∧ t.rb Reg.LNK_SSTAT 0 = true ∧
      t.rf Reg.LNK_SSTAT 11 8 = c ∧ GivesBits Reg.LNK_STAT [0] true s t ∧ KeepsRegs [Reg.LNK_SSTAT, Reg.LNK_STAT] s t
    let table (t : State) : Prop := t = { s with mem := t.mem, ecc := t.ecc, undef := t.undef, lnk := { s.lnk with arms := t.lnk.arms } }
    let freed (w : State) (verdict : Nat) (t : State) : Prop := others t ∧ t.lnk.arms.find e = none ∧ (t.entry e).state = 0 ∧
      fld (t.entry e).ctrl 31 24 = verdict ∧ t.lnk.stats.get verdict 0 = s.lnk.stats.get verdict 0 + 1 ∧
      t.lnk.queue = s.lnk.queue ∧
      t.lnk.notices = s.lnk.notices ++ [{ entry := e, octets := t.entry e, chain := n, prof := x.prof }] ∧ Fires [22, 217] 1 { s with cue := w.cue } t
    let plain := x.pmode = 0 ∨ (x.pmode = 1 ∧ pwPmin pw ≤ x.prelen)
    let due := armed ∧ x.dispatchAt a ≤ s.slate ∧ (s.slate : Int) ≤ x.dispatchAt a + slack ∧ s.operating = true ∧
      s.draining = none ∧ s.readReport 6 11 (16 * e) 16 = s ∧ s.readable 11 (16 * e) 16 = true ∧ s.queued x.slot = some q ∧
      q.dest ≤ s.eprLimit ∧ s.rangeLoaded q.dest = true
    let timed := s.setEntry e (x.setTime (s.slate + a.setup))
    let t0 := s.slate + a.setup
    let pre := if x.pmode = 1 ∨ x.pmode = 2 then x.prelen else pwPmin pw
    let t1 := t0 + airTicks pw pre h.len x.copies
    let w := tuneWord (u.chanHz active n x.ch)
    let tx := { u.mkTx id (.entry e q.slot q.dest (decide (1 < recPending r)) false) n x.ch x.prof w s.slate t0 t1 with mhr := u.entryMhr q h (decide (1 < recPending r)), copies := x.copies, pre := pre }
    let numbered := { u with lnk := { u.lnk with seq := id + 1 } }
    (¬empty → Completes (.scheduleArm 1) s fun t => refused 1 t) ∧
    (empty → s.entryBad e = true → Completes (.scheduleArm 1) s fun t => freed read 0x22 t ∧ t.rfs = s.rfs) ∧
    (s.lnk.arms.find e = some a → s.entryBad e = true → s.inAir e = false → x.dispatchAt a ≤ s.slate →
      Completes (.scheduleDispatch e) s fun t => freed read 0x22 t ∧ t.rfs = s.rfs) ∧
    (free → s.queued x.slot = none ∨ held → Completes (.scheduleArm 1) s fun t => refused 6 t) ∧
    (free → s.queued x.slot = some q → ¬held → x.pmode = 1 → x.prelen < pwPmin pw → Completes (.scheduleArm 1) s fun t => refused 3 t) ∧
    (free → s.queued x.slot = some q → ¬held → x.pmode = 3 → x.nrep = 1 → Completes (.scheduleArm 1) s fun t => refused 4 t) ∧
    (free → s.queued x.slot = some q → ¬held → plain → slack < lam → Completes (.scheduleArm 1) s fun t =>
      others t ∧ t.lnk = s.lnk ∧ t.rf Reg.LNK_SSTAT 11 8 = 2 ∧ fld (t.entry e).ctrl 31 24 = 0x22) ∧
    (free → s.queued x.slot = some q → ¬held → plain → lam ≤ slack → s.slate + 1 + setup < 2 ^ 64 →
      Completes (.scheduleArm 1) s fun t =>
        table t ∧ others t ∧ t.lnk.arms.find e = some { setup := setup, pmode := x.pmode, nrep := x.nrep } ∧ (t.entry e).state = 1 ∧
        (t.entry e).origin = false ∧ (t.entry e).route = x.route ∧
        (t.entry e).time = (if 1 ≤ lam then s.slate + 1 + setup else x.time)) ∧
    (armed → Completes (.scheduleCancel 2) s fun t =>
      table t ∧ others t ∧ t.lnk.arms.find e = none ∧ (t.entry e).state = 0 ∧ (t.entry e).time = x.time) ∧
    (armed → s.entryBad e = false → x.dispatchAt a + slack < s.slate → Completes (.dispatchSlackExpiry e) s fun t =>
      freed read 0x22 t ∧ t.regs = read.regs ∧ t.rfs = s.rfs) ∧
    (due → recFetch timed q.dest = (u, .got r) → recSusp r = false → u.chainRefuses n = true →
      Completes (.scheduleDispatch e) s fun t => freed u 0x24 t ∧ t.rfs = s.rfs) ∧
    (due → recFetch timed q.dest = (u, .got r) → recSusp r = false → u.chainRefuses n = false → u.txPlanOk n x.ch x.prof = true →
      s.holdExpiry = none → u.counterLeft = true → u.slotHead q.slot = some h → h.type = 1 → h.sec = 0 → h.len ≤ 511 →
      x.dispatchAt a = s.slate → u.txConflict n s.slate (u.backOf n t1) true = false → id = s.lnk.seq →
      budgetCheck numbered id w tx.us x.kind = (v, .approved) → v.readReport 6 14 (v.slotAt q.slot) 512 = v →
      v.slotRead q.slot = some (h, b) → v.setup n ≤ a.setup → s.lnk.latchAt ≠ s.slate →
      s.rfs.txs = [] → Completes (.scheduleDispatch e) s fun t =>
        others t ∧ (t.entry e).state = 3 ∧ t.lnk.arms.find e = some a ∧
        t.rfs.txs.map (fun y => (y.id, y.chain, y.ch, y.t0, y.t1, y.copies)) = [(id, n, x.ch, t0, t1, x.copies)] ∧
        t.rfs.txs.map (fun y => (y.counter, y.payload)) = [(some (s.rd Reg.LNK_TXCTR).toNat, b.drop 8)] ∧
        t.rd Reg.LNK_TXCTR = s.rd Reg.LNK_TXCTR + 1 ∧ t.lnk.stats = s.lnk.stats)

/-- ACK_COMMIT at the commit point of the only request, whose take has been released: outside CONCENTRATE and RELAY it
is dropped without a verdict; else its record is read, and PEND says that its pending count is above the increments of
the tick, 0 for a deleted record; where the chain cannot transmit or the interval conflicts it ends CHAIN_BUSY;
refused by the budget it ends 0x21; an approved ACK without security is latched with its header, ACKCNT and for a
repeat REACKCNT count, and the transmit lane works on. With the main domain powered, TX_COUNTER_RESET with the key
0x6480 sets the counter to 0 in STANDBY and SERVICE and is refused in other modes; without it, only the written value
is kept. The order of a commit point and its lane (log entry 50) and PEND of a record that cannot be read (log entry
110) are the model's reading and choice. -/
def Obligations.AcksCommitAndTheTransmitCounterIsReset : Prop :=
  ∀ (val : Word) (a : AckReq) (v : State) (s : State), s.lnk.acks = [a] → s.lnk.takes.find a.demod = none → a.commitAt ≤ s.slate →
    bit val 0 = true →
    let w := (ackPending s a).1
    let u := { w with lnk := { w.lnk with acks := [] } }
    let x := u.ackTx a (ackPending s a).2
    let back := u.backOf a.chain x.t1
    let busy := u.chainRefuses a.chain = true ∨ u.txConflict a.chain x.since back true = true
    let key := fld val 31 16 = 0x6480
    (s.operating = false → Completes (.ackCommit a.id) s fun t => t = { s with lnk := { s.lnk with acks := [] } }) ∧
    (a.deleted = true → w = s ∧ x.what = .ack a.reack a.addr false) ∧
    (a.deleted = false → w = (recFetch s a.addr).1 ∧
      x.what = .ack a.reack a.addr
        (match (recFetch s a.addr).2 with | .got r => decide (s.lnk.incs.get a.addr 0 < recPending r) | _ => false)) ∧
    (s.operating = true → busy → Completes (.ackCommit a.id) s fun t =>
      t = { u with lnk := { u.lnk with stats := t.lnk.stats } } ∧ t.lnk.stats.get 0x24 0 = s.lnk.stats.get 0x24 0 + 1 ∧
      KeepsMap 0x24 s.lnk.stats t.lnk.stats) ∧
    (s.operating = true → ¬busy → budgetCheck u a.id a.word x.us .ack = (v, .refused) → Completes (.ackCommit a.id) s fun t =>
      t = { v with lnk := { u.lnk with stats := t.lnk.stats } } ∧ t.lnk.stats.get 0x21 0 = s.lnk.stats.get 0x21 0 + 1) ∧
    (s.operating = true → ¬busy → budgetCheck u a.id a.word x.us .ack = (v, .approved) → a.sec = 0 → s.rfs.txs = [] →
      Completes (.ackCommit a.id) s fun t =>
        t = { v with regs := t.regs, raised := t.raised, rfs := { s.rfs with txs := t.rfs.txs, outs := t.rfs.outs }, chz := { s.chz with dets := t.chz.dets },
                     lnk := { u.lnk with takes := t.lnk.takes }, cip := { v.cip with laneTx := t.cip.laneTx } } ∧
        t.rfs.txs = [{ x with key := [] }] ∧
        t.rd Reg.LNK_ACKCNT = s.rd Reg.LNK_ACKCNT + 1 ∧
        t.rd Reg.LNK_REACKCNT = s.rd Reg.LNK_REACKCNT + (if a.reack then 1 else 0) ∧
        (a.chain < 8 → t.rd (Reg.RFC_TXLO a.chain) = word a.word) ∧
        t.rd64 (Reg.CIP_FREE 2 0) = (max (s.rd64 (Reg.CIP_FREE 2 0)) s.slate + 28) % 2 ^ 64) ∧
    (s.mainOn = true → key → s.mode = 2 ∨ s.mode = 3 → Completes (.txCounterReset val) s fun t =>
      t = { s with regs := t.regs, raised := t.raised } ∧ t.rd Reg.LNK_TXCTR = 0 ∧ GivesBits Reg.LNK_STAT [3] false s t ∧
      KeepsRegs [Reg.LNK_TXCTR, Reg.LNK_STAT, Reg.LNK_TXRST] s t) ∧
    (s.mainOn = true → key → s.mode ≠ 2 → s.mode ≠ 3 → Completes (.txCounterReset val) s fun t =>
      t = { s with regs := t.regs, raised := t.raised } ∧ GivesBits Reg.LNK_STAT [2] true s t ∧ KeepsRegs [Reg.LNK_STAT, Reg.LNK_TXRST] s t) ∧
    (s.mainOn = true → ¬key → Completes (.txCounterReset val) s fun t =>
      t = { s with regs := t.regs, raised := t.raised } ∧ KeepsRegs [Reg.LNK_TXRST] s t)

/-- With the main domain powered ENQUEUE and WITHDRAW leave the queue command to its place in the tick, after the
sheet and the takes, and change nothing else. There, with the chain of the slot's destination readable in the queue
directory: ENQUEUE of a queued slot is refused with cause 2, of an unreadable or malformed header 3, of a destination
that is not provisioned in a loaded range or suspended 4, of a full count 5; else the slot joins the end of the queue,
its directory words are written, and the pending count of its destination's record rises by one. WITHDRAW of a slot
not queued is refused with cause 2, of one held by an entry 6; else it leaves the queue and the directory and the
record's count falls by one. With both bits set the command is refused with cause 1. A refusal changes only DLQ and
DLSTAT. Cause 3 for an unreadable header is the model's reading (log entry 52); the field that keeps the command for
its place (log entry 98) and the words of the directory (log entry 99) are its choices. -/
def Obligations.QueueCommandsAreRefusedOrMoveThePendingCount : Prop :=
  ∀ (val : Word) (h : SlotHead) (q : QSlot) (r : Rec) (u s : State), s.mainOn = true →
    let n := fld val 17 0
    let t := lateQueues [.queue val] s
    let s1 := s.plainWrite Reg.LNK_DLQ val
    let enq := bit val 30 = true ∧ bit val 31 = false
    let wdr := bit val 31 = true ∧ bit val 30 = false
    let refused (c : Nat) : Prop := t = { s with regs := t.regs, raised := t.raised } ∧ t.rb Reg.LNK_DLSTAT 31 = true ∧
      t.rf Reg.LNK_DLSTAT 27 24 = c ∧ KeepsRegs [Reg.LNK_DLQ, Reg.LNK_DLSTAT] s t
    let clean := s1.readReport 6 14 (s.slotAt n) 8 = s1 ∧ (∀ x, s.slotHead n = some x → chainCheck s1 x.dest = s1)
    let chained := chainCheck s1 q.dest = s1
    let valid := s.slotHead n = some h ∧ s.headOk h = true
    let reachable := h.dest ≠ 0 ∧ h.dest ≤ s.eprLimit ∧ s.rangeLoaded h.dest = true
    let room := recPending r < 65535 ∧ (s.lnk.queue.filter fun q => q.dest % 2 ^ 18 == h.dest % 2 ^ 18).length < 64
    let left := { s1 with lnk := { s.lnk with queue := s.lnk.queue.filter fun k => k.slot != n } }
    (bit val 30 = true → Completes (.enqueue val) s fun t => t = { s with late := s.late ++ [.queue val] }) ∧
    (bit val 31 = true → Completes (.withdraw val) s fun t => t = { s with late := s.late ++ [.queue val] }) ∧
    (bit val 30 = true → bit val 31 = true → refused 1) ∧
    (enq → (s.queued n).isSome = true → refused 2) ∧
    (enq → s.queued n = none → clean → (s.slotHead n = none ∨ (s.slotHead n = some h ∧ s.headOk h = false)) → refused 3) ∧
    (enq → s.queued n = none → clean → valid → ¬reachable → refused 4) ∧
    (enq → s.queued n = none → clean → valid → reachable → recFetch s1 h.dest = (u, .got r) → recSusp r = true → t = dlRefused u 4) ∧
    (enq → s.queued n = none → clean → valid → reachable → recFetch s1 h.dest = (u, .got r) → recSusp r = false → ¬room →
      t = dlRefused u 5) ∧
    (enq → s.queued n = none → clean → valid → reachable → recFetch s1 h.dest = (u, .got r) → recSusp r = false → room →
      t = recStore (State.storeDir { u with lnk := t.lnk } (bucketOf h.dest) n) h.dest (recSet r 56 2 (recPending r + 1)) ∧
      t.lnk = { s.lnk with queue := t.lnk.queue, incs := t.lnk.incs } ∧
      t.lnk.queue = s.lnk.queue ++ [{ slot := n, dest := h.dest, relay := h.type == 0 }] ∧
      t.lnk.incs.get h.dest 0 = s.lnk.incs.get h.dest 0 + 1) ∧
    (wdr → s.queued n = none → refused 2) ∧
    (wdr → s.queued n = some q → chained → s.slotHeld n = true → refused 6) ∧
    (wdr → s.queued n = some q → chained → s.slotHeld n = false →
      recFetch (left.storeDir (bucketOf q.dest) n) q.dest = (u, .got r) →
      t = recStore u q.dest (recSet r 56 2 (recPending r - 1)) ∧ t.lnk = left.lnk)

/-- BEACON_COMMIT of a due second at T0 - T_setup: a chain that cannot transmit skips it with verdict 0x24; otherwise,
where every check passes, the beacon is latched with its payload and the next counter value. BEACON_DUE_BOUNDARY of a
due second steps BSEQ modulo 65,536 and counts and fires a skip where no commit decided it. BEACON_MISS_DECISION in
TRACK counts a miss, doubles the window up to its maximum, moves the expected beacon by the offset, and enters HOLD at
the third miss, where the slate's holdover shows and it runs at FREQ; HOLDOVER_EXPIRED marks an expired holdover once,
and SCAN_STEP fires and restarts the dwell. A beacon whose payload cannot be read (log entry 52) and a set-up time
that changes over a commit (log entry 55) are the model's reading and choice. -/
def Obligations.BeaconsAreSentOrSkippedAndAParentIsTracked : Prop :=
  ∀ (sec id : Nat) (m kk : List Nat) (v : State) (s : State),
    let n := s.rf Reg.LNK_BCNCFG 26 24
    let k := s.rf Reg.LNK_BCNCFG 23 18
    let p := s.rf Reg.LNK_BCNCFG 17 14
    let key := s.rf Reg.LNK_BCNCFG 11 0
    let t0 := 32000000 * sec
    let pw := s.profWords active p
    let w := tuneWord (s.chanHz active n k)
    let t1 := t0 + airTicks pw (pwPmin pw) (28 + m.length + 8) 1
    let commit := s.beaconDue sec = true ∧ s.operating = true ∧ s.draining = none ∧ s.lnk.bcnDone ≠ sec ∧
      s.lnk.bcnMissed ≠ sec ∧ s.slate + s.setup n = t0
    let u := { s with lnk := { s.lnk with bcnDone := sec, seq := id + 1 } }
    let us := cdiv (t1 - t0 + 2 * (32 * s.rf (Reg.RFC_RAMP n) 6 0)) 32
    let misses := min 255 (s.rf Reg.LNK_PSTAT 23 16 + 1)
    (commit → s.chainRefuses n = true → Completes (.beaconCommit sec) s fun t =>
      t = { s with regs := t.regs, raised := t.raised, cue := t.cue, lnk := { s.lnk with bcnDone := sec, stats := t.lnk.stats } } ∧
      t.rd Reg.LNK_BSKIP = s.rd Reg.LNK_BSKIP + 1 ∧ t.lnk.stats.get 0x24 0 = s.lnk.stats.get 0x24 0 + 1 ∧
      Fires [25] 1 s t ∧ KeepsRegs [Reg.LNK_BSKIP] s t) ∧
    (commit → s.chainRefuses n = false → s.txPlanOk n k p = true → (s.slot key).st ≠ 0 → s.counterLeft = true →
      s.rb Reg.LNK_BCNPL 31 = false ∨ s.readReport 6 14 (s.slotAt (s.rf Reg.LNK_BCNPL 17 0)) 512 = s → s.beaconPayload = some m → s.txConflict n s.slate (s.backOf n t1) false = false → id = s.lnk.seq →
      budgetCheck u id w us .beacon = (v, .approved) → (hostKey v key 4).2 = .key kk → s.lnk.latchAt ≠ s.slate → s.rfs.txs = [] →
      Completes (.beaconCommit sec) s fun t =>
        t.rfs.txs.map (fun y => (y.id, y.what, y.chain, y.ch, y.t0, y.t1)) = [(id, .beacon sec, n, k, t0, t1)] ∧
        t.rfs.txs.map (fun y => (y.counter, y.key, y.payload)) = [(some (s.rd Reg.LNK_TXCTR).toNat, kk, m)] ∧
        t.rd Reg.LNK_TXCTR = s.rd Reg.LNK_TXCTR + 1 ∧ t.lnk.bcnDone = sec ∧ t.lnk.stats = s.lnk.stats) ∧
    (s.lnk.bcnSec < sec → t0 ≤ s.slate → Completes (.beaconDueBoundary sec) s fun t =>
      t = { s with regs := t.regs, raised := t.raised, cue := t.cue, lnk := { s.lnk with bcnSec := sec } } ∧
      KeepsRegs [Reg.LNK_BSEQ, Reg.LNK_BSKIP] s t ∧
      t.rf Reg.LNK_BSEQ 15 0 = (if s.beaconDue sec then (s.rf Reg.LNK_BSEQ 15 0 + 1) % 65536 else s.rf Reg.LNK_BSEQ 15 0) ∧
      (s.beaconDue sec = true → s.lnk.bcnDone ≠ sec → t.rd Reg.LNK_BSKIP = s.rd Reg.LNK_BSKIP + 1 ∧ Fires [25] 1 s t) ∧
      (s.beaconDue sec = false ∨ s.lnk.bcnDone = sec → t.rd Reg.LNK_BSKIP = s.rd Reg.LNK_BSKIP ∧ t.cue = s.cue)) ∧
    (s.pstate = 2 → s.decisionAt ≤ s.slate → Completes .beaconMissDecision s fun t =>
      t = { s with regs := t.regs, raised := t.raised, cue := t.cue, lnk := { s.lnk with scanFrom := if 3 ≤ misses then s.slate else s.lnk.scanFrom } } ∧
      t.rf Reg.LNK_PSTAT 23 16 = misses ∧ t.pstate = (if 3 ≤ misses then 3 else 2) ∧
      t.rf Reg.LNK_PSTAT 15 0 = min (2 * s.rf Reg.LNK_PSTAT 15 0) (s.rf Reg.LNK_BWIN 31 16) ∧
      t.rd Reg.LNK_PMISSCNT = s.rd Reg.LNK_PMISSCNT + 1 ∧ t.pNext = (s.pNext + 256000000 * s.lnk.pOff) % 2 ^ 64 ∧
      (3 ≤ misses → t.rd64 (Reg.LNK_HSTART 0) = s.slate % 2 ^ 64 ∧ t.rb Reg.SYN_STAT 1 = true ∧ t.synRate = t.synFreq) ∧ Fires (if 3 ≤ misses then [26, 27] else [26]) 1 s t ∧
      KeepsRegs ([Reg.LNK_PSTAT, Reg.LNK_PMISSCNT, Reg.LNK_PNEXT 0, Reg.LNK_PNEXT 0 + 4] ++
        if 3 ≤ misses then [Reg.LNK_HSTART 0, Reg.LNK_HSTART 0 + 4, Reg.SYN_STAT, Reg.SYN_FREQ, Reg.SYN_RATE] else []) s t) ∧
    (s.pstate = 3 → s.rd64 (Reg.LNK_HSTART 0) + s.rf Reg.LNK_HOLD 31 16 * 32000000 ≤ s.slate → s.rb Reg.LNK_PSTAT 27 = false →
      Completes .holdoverExpired s fun t =>
        t = { s with regs := t.regs, raised := t.raised, cue := t.cue } ∧ GivesBits Reg.LNK_PSTAT [27] true s t ∧ KeepsRegs [Reg.LNK_PSTAT] s t ∧
        Fires [29] 1 s t) ∧
    (s.scanDue = true → Completes .scanStep s fun t =>
      t = { s with cue := t.cue, lnk := { s.lnk with scanFrom := s.slate } } ∧ Fires [30] 1 s t)

/-- With the main domain powered, BUDGET_ACCOUNT_ENABLE of a disabled account with valid limits takes the written
configuration and starts each of its bins at 0, or full with START_FULL, leaving other accounts as they are, and
stores its buckets in their words of DRAM alone (the layout is the model's choice, log entry 99); one that was enabled
before HIBERNATE or a MAIN reset keeps its buckets; with invalid fields it changes nothing but STAT.CFGREF; on an
enabled account the window stays and a change of it sets CFGREF. PRESET_LOAD of a known preset of the account's kind
into a disabled account writes its limits, window and start; of any other it changes nothing but CFGREF. -/
def Obligations.BudgetAccountsAreEnabledOrRefusedAndLoadPresets : Prop :=
  ∀ (dwell : Bool) (n bin : Nat) (val : Word) (s : State), s.mainOn = true → n < 16 → bit val 31 = true →
    let k := if dwell then 16 + n else n
    let a := acctBase k
    let win := fld val 11 0
    let sum := if bit val 29 then (if k < 16 then s.acctLim k * win else s.acctLim k) else 0
    let cfgRef (t : State) : Prop := t = { s with regs := t.regs, raised := t.raised } ∧ GivesBits Reg.DCB_STAT [0] true s t ∧ KeepsRegs [Reg.DCB_STAT] s t
    let id := fld val 3 0
    let loads := s.acctOn k = false ∧ (id = 8 ↔ dwell = true)
    (s.acctOn k = false → s.acctValid k win = true → s.dcb.kept.contains k = false → Completes (.budgetAccountEnable dwell n val) s fun t =>
      t = { s with regs := t.regs, raised := t.raised, dcb := { s.dcb with buckets := t.dcb.buckets, reserved := t.dcb.reserved }, mem := t.mem, ecc := t.ecc, undef := t.undef } ∧
      BinsStored ((s.usedBins k ++ List.range (t.acctBins k)).map fun b => (k, b)) s t ∧
      KeepsRegs [a] s t ∧ t.acctOn k = true ∧ t.acctWin k = win ∧ (bin < s.acctBins k → t.windowSum k bin s.slate = sum) ∧
      t.dcb.reserved = s.dcb.reserved.filter (fun e => e.acc != k) ∧
      t.dcb.buckets.filter (fun e => e.acc != k) = s.dcb.buckets.filter (fun e => e.acc != k)) ∧
    (s.acctOn k = false → s.acctValid k win = true → s.dcb.kept.contains k = true → Completes (.budgetAccountEnable dwell n val) s fun t =>
      t = { s with regs := t.regs, raised := t.raised, dcb := { s.dcb with kept := s.dcb.kept.filter (fun j => j != k) } } ∧
      KeepsRegs [a] s t ∧ t.acctOn k = true ∧ t.acctWin k = win) ∧
    (s.acctOn k = false → s.acctValid k win = false → Completes (.budgetAccountEnable dwell n val) s cfgRef) ∧
    (s.acctOn k = true → Completes (.budgetAccountEnable dwell n val) s fun t =>
      t = { s with regs := t.regs, raised := t.raised } ∧ t.acctOn k = true ∧ t.acctWin k = s.acctWin k ∧ KeepsRegs [a, Reg.DCB_STAT] s t ∧
      GivesBits Reg.DCB_STAT (if win = s.acctWin k then [] else [0]) true s t) ∧
    (∀ q, preset id = some q → loads → Completes (.presetLoad dwell n val) s fun t =>
      t = { s with regs := t.regs, raised := t.raised } ∧ t.acctLo k = q.1 ∧ t.acctHi k = q.2.1 ∧ t.acctLim k = q.2.2.1 ∧ t.acctAux k = q.2.2.2.1 ∧
      t.acctWin k = q.2.2.2.2 ∧ t.acctDefer k = false ∧ t.rb a 29 = true ∧
      KeepsRegs [a, a + 4, a + 8, a + 12, a + 16, a + 28] s t) ∧
    (preset id = none ∨ ¬loads → Completes (.presetLoad dwell n val) s cfgRef)

/-- With the main domain powered, SHEET_SUBMIT, by a core or the dictionary, reads the header, and the body behind a
good one. It is refused with cause 1 while a sheet waits, else with cause 2 for a malformed header, 3 for an old and 4
for a skipped generation, and 10 where the registry is not ready. Otherwise the sheet waits for the later of its own
tick and the submission plus 256,000 and 64 ticks an entry, its tag queued where the body could be read; one whose
header cannot be read waits 256,000 (the model's choice, log entry 57). SHEET_APPLY at that tick refuses a sheet whose
key names no HOST-class slot that holds a key with cause 9, whose octets could not be read 8, whose tag failed 5, or
by its first failing entry; one whole UPSERT that passes stores the record, and the generation, SHEETCNT and
SHEET_APPLIED follow. GENERATION_SEED sets the generation of an empty loaded registry and is refused with cause 11 on
another. RECORD_CAPTURE shows a record, zeros for one that cannot be read. A refusal changes only CSSTAT, SREFCNT and
the cue. -/
def Obligations.SheetsAreRefusedByCauseOrTakeEffectWhole : Prop :=
  ∀ (val : Word) (addr i src : Nat) (f b : List Nat) (bo : Option (List Nat)) (x : Sheet) (r : CipDone) (u v : State) (s : State), s.mainOn = true →
    addr < 2 ^ 25 → i < 16 → src < 6 → bit val 0 = true →
    let o := if src = 5 then s.sheetBuffer else s.winBase + s.rd64 (Reg.EPR_CSADDR 0) % 2 ^ 33 / 64 * 64
    let q := if src = 5 then 6 else src + 1
    let told (c en : Nat) (w t : State) : Prop := t = { w with regs := t.regs, raised := t.raised, cue := t.cue } ∧ Fires [34] 1 w t ∧
      t.rb Reg.EPR_CSSTAT 31 = true ∧ t.rf Reg.EPR_CSSTAT 27 24 = c ∧ t.rf Reg.EPR_CSSTAT 23 12 = en % 4096
    let refused (c en : Nat) (w t : State) : Prop := told c en w t ∧
      t.rd Reg.EPR_SREFCNT = w.rd Reg.EPR_SREFCNT + 1 ∧ KeepsRegs [Reg.EPR_CSSTAT, Reg.EPR_SREFCNT] w t
    let ready (w : State) : Bool := w.eprReady && w.mode != 7
    let header := sheetOctets s o 32
    let sheet := sheetHeaderOk f = true ∧ header = (u, some f) ∧ sheetOctets u o (sheetLen (sheetCount f)) = (v, bo)
    let cause := if v.epr.sheet.isSome then 1 else if sheetGen f ≤ v.eprGen then 3 else if v.eprGen + 1 < sheetGen f then 4
      else if ready v then 0 else 10
    let at_ := max (sheetAt f) (v.slate + 256000 + 64 * sheetCount f)
    let waits (w : State) (y : Sheet) (rs : List Nat) (t : State) : Prop :=
      t = { w with regs := t.regs, raised := t.raised, epr := { w.epr with sheet := some y }, cip := { w.cip with wait := t.cip.wait, done := t.cip.done } } ∧
      t.rd64 (Reg.EPR_CSAT 0) = y.at_ % 2 ^ 64 ∧ t.rb Reg.EPR_CSSTAT 28 = true ∧
      KeepsRegs ([Reg.EPR_CSSTAT, Reg.EPR_CSAT 0, Reg.EPR_CSAT 0 + 4] ++ rs) w t
    let key := s.rf Reg.EPR_CSKEY 11 0
    let keyOk := slotClass key = 1 ∧ (s.slot key).st ≠ 0
    let due := s.epr.sheet = some x ∧ x.at_ ≤ s.slate
    let done := due ∧ x.octets = some b ∧ s.cipDone sheetJob = some r ∧ r.tick ≤ x.at_
    let gone := sheetGone s
    let es := (List.range x.count).map (sheetEntry b)
    let e := sheetEntry b 0
    let empty := s.registryEmpty = true ∧ (∀ k, k < s.rangesPresent → 2 ≤ (s.range k).st) ∧ s.epr.sheet = none
    let looked := recReport s addr
    (header = (u, none) → u.epr.sheet.isSome = true → Completes (.sheetSubmit src) s (refused 1 0 u)) ∧
    (header = (u, none) → u.epr.sheet = none → ready u = false → Completes (.sheetSubmit src) s (refused 10 0 u)) ∧
    (header = (u, none) → u.epr.sheet = none → ready u = true → Completes (.sheetSubmit src) s
      (waits u { octets := none, sub := u.slate, at_ := u.slate + 256000, gen := u.eprGen + 1, count := 0 } [])) ∧
    (header = (u, some f) → sheetHeaderOk f = false → Completes (.sheetSubmit src) s
      (refused (if u.epr.sheet.isSome then 1 else 2) 0 u)) ∧
    (sheet → cause ≠ 0 → Completes (.sheetSubmit src) s (refused cause 0 v)) ∧
    (sheet → cause = 0 → bo = none → Completes (.sheetSubmit src) s
      (waits v { octets := none, sub := v.slate, at_ := at_, gen := v.eprGen + 1, count := sheetCount f } [])) ∧
    (sheet → cause = 0 → bo = some b → v.queueFull q = false → Completes (.sheetSubmit src) s fun t =>
      waits v { octets := some b, sub := v.slate, at_ := at_, gen := v.eprGen + 1, count := sheetCount f } [Reg.CIP_QSTAT q] t ∧
      t.cip.wait.length = v.cip.wait.length + 1) ∧
    (due → x.octets = none → Completes .sheetApply s (refused (if slotClass key = 1 ∧ (s.slot key).st ≠ 0 then 8 else 9) 0 gone)) ∧
    (done → ¬keyOk → Completes .sheetApply s (refused 9 0 gone)) ∧
    (done → keyOk → r.code = 5 → Completes .sheetApply s (refused 5 0 gone)) ∧
    (done → keyOk → r.code = 0 → ∀ c, gone.entriesRefusal es = some c → Completes .sheetApply s (refused c.1 c.2 (gone.sheetReads es))) ∧
    (done → keyOk → r.code = 0 → x.count = 1 → gone.entriesRefusal [e] = none → e.op = 1 → e.mask = 31 → e.flags.testBit 14 = false →
      (s.range (rangeOf e.addr)).gen < x.gen → Completes .sheetApply s fun t =>
        t.recPeek e.addr = .got (recSeal e.addr (e.apply (sheetBase gone e).2 x.gen)) ∧ t.eprGen = x.gen % 2 ^ 64 ∧
        t.rd Reg.EPR_SHEETCNT = s.rd Reg.EPR_SHEETCNT + 1 ∧ t.rb Reg.EPR_CSSTAT 30 = true ∧ t.rb Reg.EPR_CSSTAT 28 = false ∧
        t.epr.sheet = none ∧ t.lnk = s.lnk ∧ t.rfs = s.rfs) ∧
    (fld val 31 16 = 0x6480 → empty → Completes (.generationSeed val) s fun t =>
      t = { s with regs := t.regs, raised := t.raised } ∧ t.eprGen = s.rd64 (Reg.EPR_GENSET 0) ∧
      KeepsRegs [Reg.EPR_GENCMD, Reg.EPR_GEN 0, Reg.EPR_GEN 0 + 4] s t) ∧
    (fld val 31 16 = 0x6480 → ¬empty → Completes (.generationSeed val) s fun t =>
      told 11 (s.rf Reg.EPR_CSSTAT 23 12) s t ∧ KeepsRegs [Reg.EPR_GENCMD, Reg.EPR_CSSTAT] s t) ∧
    Completes (.recordCapture addr) s fun t =>
      t = { looked with regs := t.regs, raised := t.raised } ∧ t.rd Reg.EPR_RECSEL = word addr ∧
      t.rd (Reg.EPR_RECDATA i) = (match s.recPeek addr with | .got rec => word (recGet rec (4 * i) 4) | .ue => 0) ∧
      KeepsRegs (Reg.EPR_RECSEL :: (List.range 16).map Reg.EPR_RECDATA) looked t

/-- RANGE_SAVE_START of the range due next waits for the end of its tick (of any other range it does nothing); the
capture then cleans the range, reads its records and, where its segment fits, writes its units and starts the save;
where it does not, SNAP_FULL is set and fires, and an uncorrectable record sets UE; the range stays dirty then.
RANGE_SAVED writes the directory copy that is not current with the new segment, frees the old one's units, counts
SAVECNT and fires RANGE_SAVED; units whose blocks failed meanwhile are retired, which lowers SNAPCAP, and the
segment's units among them are written elsewhere; where it then no longer fits the save ends in SNAP_FULL. Retiring by
unit and the order of free units are the model's choice (log entry 59). SAVE_ALL requests every present range.
RANGE_LOADED of the range that loads leaves it LOADED with its segment's generation, its records in DRAM, and fires
RANGE_LOADED, or FAILED with STAT.LOADF; LOAD_DONE fires with the last one, and the next range loads. RANGE_RELEASE
makes a FAILED range LOADED. -/
def Obligations.RangesAreSavedLoadedAndReleased : Prop :=
  ∀ (r q : Nat) (bad : List Nat) (good : Bool) (val : Word) (rec : List Nat) (v : RangeSave) (s : State), r < 512 → q ≠ r → bit val 31 = true →
    let x := s.range r
    let cleaned := s.setRange r { x with dirty := none, sheet := none }
    let clean := { cleaned with epr := { cleaned.epr with saveAll := s.epr.saveAll.filter (· != r) } }
    let reads := (clean.rangeAddrs r).foldl recReport clean
    let us := snapUnits r reads.eprGen (reads.epr.dir.seq + 1) (chunks 36 ((clean.rangeRecords r).map fun p => snapRecord p.1 p.2)) 0
    let seg : Segment := { seq := reads.epr.dir.seq + 1, gen := reads.eprGen, locs := reads.freeLocs us.length }
    let next := s.range (r + 1)
    let loads := r + 1 < s.rangesPresent ∧ next.st = 0
    let last := ∀ k, k < s.rangesPresent → k ≠ r → 2 ≤ (s.range k).st
    let all := bit val 30 = true ∨ r = fld val 8 0
    let failed := bad.eraseDups.filter fun l => !s.epr.retired.contains l
    let kept := { s with epr := { s.epr with save := none, units := s.epr.units - failed.length, retired := s.epr.retired ++ failed } }
    let moved := rewriteUnits kept v.seg
    let captured := lateCaptures [.capture r] s
    let stayed (t : State) : Prop := t.epr.save = none ∧ (x.dirty.isSome = true ∨ x.sheet.isSome = true → (t.range r).dirty.isSome = true ∨ (t.range r).sheet.isSome = true)
    let onlyEpr (t : State) : Prop := t = { s with regs := t.regs, raised := t.raised, cue := t.cue, epr := t.epr }
    let follows (t : State) : Prop := t.range (r + 1) = (if loads then { next with st := 1 } else next) ∧ (q ≠ r + 1 → t.range q = s.range q)
    (s.saveNext ≠ some r → Completes (.rangeSaveStart r) s fun t => t = s) ∧
    (s.saveNext = some r → Completes (.rangeSaveStart r) s fun t => t = { s with late := s.late ++ [.capture r] }) ∧
    (s.saveNext = some r → clean.rangeUe r = false → reads.snapFits r seg = true → let t := captured
      t = { reads with epr := { reads.epr with
        nand := writeUnits reads.epr.nand seg.locs us, save := some { range := r, seg := seg, dirty := x.dirty, sheet := x.sheet } } } ∧
      t.range q = s.range q ∧ (t.range r).st = x.st) ∧
    (s.saveNext = some r → clean.rangeUe r = false → reads.snapFits r seg = false → let t := captured
      GivesBits Reg.EPR_STAT [4] true reads t ∧ KeepsRegs [Reg.EPR_STAT] reads t ∧ Fires [38] 1 reads t ∧ stayed t ∧ t.range q = s.range q) ∧
    (s.saveNext = some r → clean.rangeUe r = true → let t := captured
      GivesBits Reg.EPR_STAT [5] true reads t ∧ KeepsRegs [Reg.EPR_STAT] reads t ∧ stayed t) ∧
    (Completes .saveAll s fun t => t = if s.mainOn then { s with epr := { s.epr with saveAll := List.range s.rangesPresent } } else s) ∧
    (s.epr.save = none → Completes (.rangeSaved bad) s fun t => t = s) ∧
    (s.epr.save = some v → s.epr.dir.seq < v.seg.seq → moved.1.snapFits v.range moved.2 = true → Completes (.rangeSaved bad) s fun t =>
      onlyEpr t ∧ t.epr = { kept.epr with dirA := t.epr.dirA, dirB := t.epr.dirB, nand := freeUnits moved.1.epr.nand (s.segment v.range).locs } ∧
      t.epr.dir = { st := 1, seq := v.seg.seq, segs := s.epr.dir.segs.put v.range moved.2 } ∧
      (∀ l ∈ moved.2.locs, l ∉ kept.epr.retired) ∧ moved.2.locs.length = v.seg.locs.length ∧
      (s.epr.dirIsB = true → t.epr.dirB = s.epr.dirB) ∧ (s.epr.dirIsB = false → s.epr.dirA.valid = true → t.epr.dirA = s.epr.dirA) ∧
      Fires [37] 1 s t ∧ t.rf Reg.EPR_SNAPSTAT 8 0 = v.range % 512 ∧ t.rd Reg.EPR_SAVECNT = s.rd Reg.EPR_SAVECNT + 1 ∧
      t.rd Reg.EPR_SNAPCAP = word (kept.epr.units / 2 * 36) ∧
      KeepsRegs [Reg.EPR_SNAPSTAT, Reg.EPR_SAVECNT, Reg.EPR_SNAPCAP] s t) ∧
    (s.epr.save = some v → moved.1.snapFits v.range moved.2 = false → Completes (.rangeSaved bad) s fun t =>
      onlyEpr t ∧ t.epr.save = none ∧ t.epr.units = kept.epr.units ∧ t.epr.retired = kept.epr.retired ∧ t.epr.dir = s.epr.dir ∧
      t.epr.nand = freeUnits moved.1.epr.nand moved.2.locs ∧ Fires [38] 1 s t ∧
      GivesBits Reg.EPR_STAT [4] true s t ∧ KeepsRegs [Reg.EPR_STAT, Reg.EPR_SNAPCAP] s t) ∧
    (x.st ≠ 1 → Completes (.rangeLoaded r good) s fun t => t = s) ∧
    (x.st = 1 → ∀ l, s.rangeUnits r = some l → Completes (.rangeLoaded r true) s fun t =>
      t = { s with regs := t.regs, raised := t.raised, cue := t.cue, epr := { s.epr with ranges := t.epr.ranges }, mem := t.mem, ecc := t.ecc, undef := t.undef } ∧
      t.range r = { x with st := 2, gen := (s.segment r).gen } ∧ follows t ∧
      (l.flatMap unitRecords = [] → t.mem = s.mem) ∧
      (l.flatMap unitRecords = [rec] → let p := loadRecord rec (s.rf Reg.EPR_LOADADV 15 0); t.mem = (s.poke 14 (64 * p.1) (ofOcts p.2)).mem) ∧
      Fires (if last then [35, 36] else [35]) 1 s t ∧ (last → GivesBits Reg.EPR_STAT [1] false s t) ∧ KeepsRegs [Reg.EPR_STAT] s t) ∧
    (x.st = 1 → (good = true → s.rangeUnits r = none) → Completes (.rangeLoaded r good) s fun t =>
      onlyEpr t ∧ t.epr = { s.epr with ranges := t.epr.ranges } ∧ t.range r = { x with st := 3 } ∧ follows t ∧ t.rb Reg.EPR_STAT 3 = true ∧
      (last → Fires [36] 1 s t ∧ t.rb Reg.EPR_STAT 1 = false) ∧ KeepsRegs [Reg.EPR_STAT] s t) ∧
    (s.mainOn = true → r < s.rangesPresent → Completes (.rangeRelease val) s fun t =>
      t = { s with regs := t.regs, raised := t.raised, epr := { s.epr with ranges := t.epr.ranges } } ∧ KeepsRegs [Reg.EPR_LOADCMD] s t ∧
      t.range r = if all ∧ x.st = 3 then { st := 2 } else x)

/-- With the main domain powered, CIP_SUBMIT of an aligned address in shared SRAM queues a request of the core's queue
in service order, of any other sets BADADDR only; KEY_LOAD with GO queues an unwrap of the staged blob, and SLOT_CLEAR
a clear; a full queue refuses the first two with FULL. CIP_REQUEST_START of the first waiting request after its
submission tick: a clear empties its HOST slot at once (the model's choice, log entry 60; where the slot's octets lie
is log entry 99); a descriptor or a key load starts in the tick after its submission or at the finish before, and one
that passes the checks of R319 runs for its modelled work, one that fails a check 16 ticks to that check's code.
CIP_REQUEST_PUBLISH of a key load that finished in time writes the slot, counts DONE and fires DONEq; one that has not
finished ends MARGIN and raises MARGIN_LOST. With none due, neither changes anything. -/
def Obligations.CipherRequestsRunInServiceOrderAndPublishWhole : Prop :=
  ∀ (core n : Nat) (val : Word) (a : Nat) (bytes : List Byte) (r : CipReq) (rest : List CipReq) (run : CipRun) (k : KeySlot) (s : State), core < 5 → n < 1024 →
    let q := core + 1
    let o := val.toNat - 0x10000000
    let good := 0x10000000 ≤ val.toNat ∧ val.toNat < 0x10200000 ∧ val.toNat % 64 = 0
    let full := s.queueFull q = true
    let queued (x : CipReq) (rs : List Nat) (t : State) : Prop :=
      t = { s with regs := t.regs, raised := t.raised, cip := { s.cip with wait := t.cip.wait } } ∧ t.cip.wait = insertBy serviceLe x s.cip.wait ∧
      KeepsRegs (rs ++ [Reg.CIP_QSTAT q]) s t
    let len := if bit val 30 then 40 else 24
    let blob := (octs (s.cip.staged.flatMap fun w => bytesLE 4 w.toNat)).take len
    let desc : CipDesc := {
      mode := 6, dir := 1, cls := 0, key := fld val 15 12, dst := fld val 11 0, toSlot := true, usage := fld val 29 25, len := len - 8 }
    let waiting := s.cip.run = none ∧ s.cip.wait = r :: rest ∧ r.sub < s.slate
    let begins (w : State) (d : CipDesc) (mem : Bool) (t : State) : Prop :=
      let code := w.cipCheck r.q d mem
      let start := max (r.sub + 1) (w.rd64 (Reg.CIP_FREE 3 0))
      let finish := start + (if code = 0 then d.work (if d.cls = 3 then rootKey else (s.slot d.key).key).length else 16)
      t.cip.run.map (fun x => (x.req, x.start, x.finish)) = some (r, start, finish) ∧ t.cip.wait = rest ∧
      t.rd64 (Reg.CIP_FREE 3 0) = finish % 2 ^ 64 ∧
      (code ≠ 0 → t = { w with regs := t.regs, raised := t.raised, cip := { w.cip with wait := rest, run := some { req := r, start := start, finish := finish, code := code } } } ∧
        KeepsRegs [Reg.CIP_FREE 3 0, Reg.CIP_FREE 3 0 + 4] w t)
    let given := s.readReport 8 5 a 64
    let stored (t : State) : Prop := KeepsOutside (memKey 9 (128 * n)) 128 s.mem t.mem ∧ KeepsOutside (memKey 9 (16 * n)) 16 s.ecc t.ecc
    let prins (p : Nat) : Bool := s.rf (Reg.ODX_P_CFG p) 11 0 == n
    let done := s.cip.run = some run ∧ run.finish ≤ s.slate ∧ 1 ≤ run.req.q ∧ run.req.q ≤ 5 ∧ run.out = none ∧ (s.chan (run.req.q - 1) 5).length < 32
    (s.mainOn = true → good → ¬full → Completes (.cipSubmit core val) s fun t => queued { q := q, sub := s.slate, origin := .desc o } [Reg.CIP_SUB] t) ∧
    (s.mainOn = true → good → full → Completes (.cipSubmit core val) s fun t =>
      t.cip = s.cip ∧ t.rb (Reg.CIP_QSTAT q) 0 = true ∧ t.rd Reg.CIP_ERRCNT = s.rd Reg.CIP_ERRCNT + 1) ∧
    (s.mainOn = true → ¬good → Completes (.cipSubmit core val) s fun t =>
      t = { s with regs := t.regs, raised := t.raised } ∧ GivesBits (Reg.CIP_QSTAT q) [1] true s t ∧ KeepsRegs [Reg.CIP_SUB, Reg.CIP_QSTAT q] s t) ∧
    (s.mainOn = true → bit val 31 = true → Completes (.slotClear val) s fun t =>
      t = { s with regs := t.regs, raised := t.raised, cip := { s.cip with wait := t.cip.wait } } ∧
      t.cip.wait = insertBy serviceLe { q := 8, sub := s.slate, origin := .clear (fld val 11 0) } s.cip.wait ∧
      KeepsRegs [Reg.CIP_SLOTCMD] s t) ∧
    (s.mainOn = true → bit val 31 = true → ¬full → Completes (.keyLoad core val) s fun t =>
      queued { q := q, sub := s.slate, origin := .kload blob, d := desc } [Reg.CIP_KLOAD, Reg.CIP_KLSTAT] t ∧
      t.rd Reg.CIP_KLSTAT = 0) ∧
    (s.mainOn = true → bit val 31 = true → full → Completes (.keyLoad core val) s fun t =>
      t = { s with regs := t.regs, raised := t.raised } ∧ t.rd Reg.CIP_KLSTAT = word (2 ^ 31 + 9) ∧ t.rb (Reg.CIP_QSTAT q) 0 = true ∧
      t.rd Reg.CIP_ERRCNT = s.rd Reg.CIP_ERRCNT + 1) ∧
    (waiting → 16 ≤ n → r.origin = .clear n → (∀ p, p < 16 → prins p = false) → Completes .cipRequestStart s fun t =>
      t = { s with mem := t.mem, ecc := t.ecc, undef := t.undef, cip := { s.cip with wait := rest, slots := t.cip.slots } } ∧
      (t.slot n).st = 0 ∧ stored t ∧ KeepsMap n s.cip.slots t.cip.slots) ∧
    (waiting → r.origin = .desc a → s.peek 5 a 64 = some bytes → Completes .cipRequestStart s (begins given (descOf (octs bytes)) true)) ∧
    (waiting → r.origin = .kload blob → Completes .cipRequestStart s (begins s r.d false)) ∧
    (s.cipStartDue = false → Completes .cipRequestStart s fun t => t = s) ∧
    (s.cipPublishDue = false → Completes (.cipRequestPublish true) s fun t => t = s) ∧
    (done → run.req.origin = .kload blob → run.slot = some (n, k) → run.code = 0 → 16 ≤ n → (∀ p, p < 16 → prins p = false) → Completes (.cipRequestPublish true) s fun t =>
        t.chan (run.req.q - 1) 5 = s.chan (run.req.q - 1) 5 ++ [{ w0 := 0, w1 := word (2 ^ 31 + run.req.q * 256), tick := s.slate }] ∧
        t.slot n = k ∧ stored t ∧ KeepsMap n s.cip.slots t.cip.slots ∧ t.cip.run = none ∧ t.cip.wait = s.cip.wait ∧
        t.rd Reg.CIP_KLSTAT = word (2 ^ 31) ∧ t.rd (Reg.CIP_DONECNT run.req.q) = s.rd (Reg.CIP_DONECNT run.req.q) + 1 ∧
        Fires [39 + run.req.q] 1 s t ∧
        KeepsRegs [Reg.CIP_KLSTAT, Reg.CIP_DONECNT run.req.q] s t) ∧
    (done → run.req.origin = .kload blob → s.aonOn = true → Completes (.cipRequestPublish false) s fun t =>
      t.cip.slots = s.cip.slots ∧ t.mem = s.mem ∧ t.cip.run = none ∧ t.rd Reg.CIP_KLSTAT = word (2 ^ 31 + 0x0C) ∧
      t.rb Reg.CIP_STAT 2 = true ∧ t.rd Reg.CIP_ERRCNT = s.rd Reg.CIP_ERRCNT + 1 ∧ t.rb Reg.SUP_STAT 0 = true ∧
      t.rf Reg.SUP_MLSRC 11 8 = 2)

/-- With the main domain powered, REEL_ENABLE of a disabled reel within R323 makes it empty, else sets the STAT bits
and IDX, or CFGIGN on an enabled one; REEL_DISABLE of an enabled reel leaves it to be empty and disabled once the tick
ends. ROUTE_ENABLE is refused where its reel is not an LNK reel that is enabled. From the core that produces it,
PACKET_OPEN opens a packet where the fill bank has room, REEL_PUSH appends a word to an open COMMIT packet at the fill
pointer, or counts a drop without one, and PACKET_CLOSE appends the trailer with the word count, makes the packet
visible and fires READY; from another they do nothing. A COMMIT packet that stalls for PTO is rewound and counted.
REEL_POP waits for its place in its tick (log entry 98); the pop then, after the swap test, returns the head word, on
an empty reel the last one with UNDERRUN, and removes one that cannot be read. POINTER_FAULT is met at the tick's end,
which empties the reel, sets PTRF and fires. -/
def Obligations.ReelsCarryWholePacketsInOrder : Prop :=
  ∀ (n req i : Nat) (val : Word) (o : OpenPacket) (w : Word) (e : Bool) (s : State), s.mainOn = true → n < 32 → req < 5 → i < 16 →
    let r := s.reel n
    let cfg := Reg.REL_RCFG n
    let written (t : State) : Prop := KeepsRegs [cfg] s t ∧ t.rd cfg = plainValue (regRW cfg) (regW1C cfg) (s.raised.get cfg 0) (s.rd cfg) val
    let own := s.reelBy n req = true
    let quiet := s.canSwap n = false
    let only (t : State) : Prop := t = { s with reels := t.reels } ∧ KeepsMap n s.reels t.reels
    let cap := s.reelCap n
    let at_ := s.poolWord n (!r.p.drainB) r.p.fill
    let room := r.p.fill + 2 ≤ cap ∧ o.words + 1 ≤ s.rf (Reg.REL_RMAX n) 13 0
    let mark := s.reelMark n = true
    let popped := latePops [.pop req n] s req
    let pops := s.reelOn n = true ∧ s.reelCons n = 0
    let v := reelSwap s n
    let h := v.reel n
    let head := v.poolWord n h.p.drainB h.p.rd
    let read := v.reportWord req 7 head
    (bit val 31 = true → s.reelOn n = false → s.reelRefusal n val = 0 → Completes (.reelEnable n val) s fun t =>
      t = { s with regs := t.regs, raised := t.raised, reels := t.reels } ∧ written t ∧ t.reel n = {} ∧ KeepsMap n s.reels t.reels) ∧
    (bit val 31 = true → s.reelOn n = false → s.reelRefusal n val ≠ 0 → Completes (.reelEnable n val) s fun t =>
      t = { s with regs := t.regs, raised := t.raised } ∧ KeepsRegs [Reg.REL_STAT] s t ∧ t.rf Reg.REL_STAT 20 16 = n ∧
      ∀ b, b < 3 → t.rb Reg.REL_STAT b = (s.rb Reg.REL_STAT b || (s.reelRefusal n val).testBit b)) ∧
    (bit val 31 = true → s.reelOn n = true → Completes (.reelEnable n val) s fun t =>
      t = { s with regs := t.regs, raised := t.raised } ∧ GivesBits Reg.REL_STAT [3] true s t ∧ KeepsRegs [Reg.REL_STAT] s t) ∧
    (bit val 31 = false → s.reelOn n = true → Completes (.reelDisable n val) s fun t =>
      only t ∧ t.reel n = { r with off := some val } ∧ (tickReels t).reel n = {} ∧ (tickReels t).reelOn n = false) ∧
    (bit val 31 = false → s.reelOn n = false → Completes (.reelDisable n val) s fun t =>
      t = { s with regs := t.regs, raised := t.raised } ∧ written t) ∧
    (bit val 31 = true → (s.reelOn (fld val 20 16) = false ∨ s.reelProd (fld val 20 16) ≠ 0 ∨ fld val 29 28 = 3) →
      Completes (.routeEnable i val) s fun t => t = { s with regs := t.regs, raised := t.raised } ∧ KeepsRegs [Reg.REL_STAT] s t ∧
        t.rb Reg.REL_STAT 4 = true ∧ t.rf Reg.REL_STAT 20 16 = i) ∧
    (bit val 31 = true → s.reelOn (fld val 20 16) = true → s.reelProd (fld val 20 16) = 0 → fld val 29 28 ≠ 3 →
      Completes (.routeEnable i val) s fun t => t = { s with regs := t.regs, raised := t.raised } ∧ KeepsRegs [Reg.REL_ROUTE_A i] s t ∧
        t.rb (Reg.REL_ROUTE_A i) 31 = true ∧ t.rf (Reg.REL_ROUTE_A i) 20 16 = fld val 20 16) ∧
    (own → r.opened = none → s.reelOn n = true → r.p.fill < cap → ¬mark ∨ quiet → Completes (.packetOpen req n) s fun t =>
      only t ∧ t.reel n = { r with opened := some { words := 0, last := s.slate } }) ∧
    (own → r.opened = none → s.reelOn n = false ∨ cap ≤ r.p.fill → quiet → Completes (.packetOpen req n) s fun t => t = s) ∧
    (¬own → Completes (.packetOpen req n) s (fun t => t = s) ∧ Completes (.packetClose req n) s (fun t => t = s) ∧
      Completes (.reelPush req n val) s fun t => t = s) ∧
    (own → r.opened = some o → room → ¬mark → quiet → Completes (.reelPush req n val) s fun t =>
      t = { s with regs := t.regs, raised := t.raised, reels := t.reels, mem := t.mem, ecc := t.ecc } ∧ KeepsMap n s.reels t.reels ∧
      t.reel n = { r.move { r.p with fill := r.p.fill + 1 } with opened := some { words := o.words + 1, last := s.slate } } ∧
      t.poolLoad at_ = some (val, false) ∧ KeepsRegs [Reg.REL_RPUSH n] s t) ∧
    (own → r.opened = none → Completes (.reelPush req n val) s fun t =>
      t = { s with regs := t.regs, raised := t.raised } ∧ t.rd (Reg.REL_RDROPCNT n) = s.rd (Reg.REL_RDROPCNT n) + 1 ∧ KeepsRegs [Reg.REL_RDROPCNT n] s t) ∧
    (own → r.opened = some o → r.p.rd ≠ r.p.wr → Completes (.packetClose req n) s fun t =>
      t = { s with reels := t.reels, mem := t.mem, ecc := t.ecc, cue := t.cue } ∧ KeepsMap n s.reels t.reels ∧
      t.reel n = { r.move { r.p with fill := r.p.fill + 1, vis := r.p.fill + 1 } with opened := none, pkts := r.pkts + 1 } ∧
      t.poolLoad at_ = some (word (o.words % 65536), true) ∧ Fires [48 + n] 1 s t) ∧
    (r.opened = some o → o.last + (s.rd Reg.REL_PTO).toNat ≤ s.slate → ¬mark → r.p.rd ≠ r.p.wr → Completes (.producerStall n) s fun t =>
      t = { s with regs := t.regs, raised := t.raised, reels := t.reels } ∧ KeepsMap n s.reels t.reels ∧ KeepsRegs [Reg.REL_RREWCNT n] s t ∧
      t.reel n = { r.move { r.p with fill := r.p.vis } with opened := none } ∧
      t.rd (Reg.REL_RREWCNT n) = s.rd (Reg.REL_RREWCNT n) + 1) ∧
    (s.stallDue n = false → Completes (.producerStall n) s fun t => t = s) ∧
    Completes (.reelPop req n) s (fun t => t = { s with late := s.late ++ [.pop req n] }) ∧
    (pops → h.p.rd ≠ h.p.wr → v.poolLoad head = some (w, e) → let t := popped
      t = { read with reels := t.reels, rdata := w } ∧ KeepsMap n v.reels t.reels ∧
      t.reel n = { h.move { h.p with rd := h.p.rd + 1 } with last := w, lastEnd := e, pkts := h.pkts - b2n e }) ∧
    (pops → h.p.rd ≠ h.p.wr → v.poolLoad head = none → let t := popped
      t = { read with regs := t.regs, raised := t.raised, reels := t.reels } ∧ KeepsMap n v.reels t.reels ∧ (t.reel n).p.rd = h.p.rd + 1 ∧
      (t.reel n).last = h.last ∧ GivesBits (Reg.REL_RSTAT n) [7] true read t ∧ KeepsRegs [Reg.REL_RSTAT n] read t) ∧
    (pops → h.p.rd = h.p.wr → let t := popped
      t = { v with regs := t.regs, raised := t.raised, cue := t.cue, rdata := h.last } ∧ Fires [81] 1 v t ∧ GivesBits (Reg.REL_RSTAT n) [4] true v t ∧
      t.rd (Reg.REL_RUNDCNT n) = v.rd (Reg.REL_RUNDCNT n) + 1 ∧ KeepsRegs [Reg.REL_RSTAT n, Reg.REL_RUNDCNT n] v t) ∧
    (¬pops → popped = { s with rdata := 0 }) ∧
    (s.reelOn n = true → Completes (.pointerFault n) s fun t =>
      only t ∧ t.reel n = { r with fault := true } ∧
      let e := reelPointerFault t n
      e = { s with regs := e.regs, raised := e.raised, cue := e.cue, reels := e.reels } ∧ KeepsMap n s.reels e.reels ∧ Fires [82] 1 s e ∧
      e.reel n = { last := r.last, lastEnd := r.lastEnd, off := r.off, seq := r.seq } ∧
      GivesBits (Reg.REL_RSTAT n) [6] true s e ∧ e.rd Reg.REL_FAULTCNT = s.rd Reg.REL_FAULTCNT + 1 ∧
      KeepsRegs [Reg.REL_RSTAT n, Reg.REL_FAULTCNT] s e) ∧
    (s.reelOn n = false → Completes (.pointerFault n) s fun t => t = s)

/-- In SERVICE or VERIFY, for the ECC word that TSEL names: TEST_RAW_WRITE of data d with all valid copies set,
followed by TEST_DECODED_READ, gives d and class 0 where TCHK holds the check bits of d; the other word, class 1 and
the position i where it holds the check bits of d with data bit i inverted; and class 2 where it holds those of d with
two data bits inverted. TEST_RAW_READ gives data and TCHK back as written. A raw write changes no octet and no mark of
another word; beside memory, only the key slots, directory chains, buckets and CUE counters that are kept in memories
9, 10, 12 and 14 follow it (where each lies is the model's choice, log entry 99). Outside those modes or words, with
the main domain powered, each command only sets TESTREF. No ordinary counter changes. -/
def Obligations.TheCodeCorrectsOneErrorAndDetectsTwo : Prop :=
  ∀ (i j : Nat) (s : State),
    let m := s.rf Reg.MEM_TSELH 31 28
    let r := eccR m
    let k := eccK m
    let d := testIn m s.tdata
    let valid := 0xE00 + (if m = 14 then 0x7000 else 0)
    let chk (x : Nat) : Prop := (s.rd Reg.MEM_TCHK).toNat = eccCheck r k x + valid
    let w := s.rf Reg.MEM_TSEL 27 0
    let cnt := if m = 12 then [Reg.CUE_CNT w] else []
    let tsel := cnt ++ (List.range 4).map Reg.MEM_TDATA ++ [Reg.MEM_TRES, Reg.MEM_TSYN]
    let follows (t : State) : Prop :=
      t = { s with mem := t.mem, ecc := t.ecc, undef := t.undef, regs := t.regs, raised := t.raised,
                   cip := { s.cip with slots := t.cip.slots, cache := t.cip.cache }, lnk := { s.lnk with queue := t.lnk.queue },
                   dcb := { s.dcb with buckets := t.dcb.buckets } } ∧
      KeepsRegs cnt s t ∧ KeepsOutside (memKey m (w * eccOctets m)) (eccOctets m) s.mem t.mem ∧ KeepsMap (memKey m w) s.ecc t.ecc ∧
      (m ∉ [9, 10, 12, 14] → t = { s with mem := t.mem, ecc := t.ecc, undef := t.undef })
    let reads (cls : Nat) (u : State) : Prop := u.rf Reg.MEM_TRES 31 30 = cls ∧ u.rb Reg.MEM_TRES 29 = false ∧ KeepsRegs tsel s u
    (s.testOk = true → chk d → Completes .testRawWrite s fun t => Completes .testDecodedRead t fun u => reads 0 u ∧ testIn m u.tdata = d) ∧
    (s.testOk = true → i < k → chk (d ^^^ 2 ^ i) → Completes .testRawWrite s fun t => Completes .testDecodedRead t fun u =>
      reads 1 u ∧ testIn m u.tdata = d ^^^ 2 ^ i ∧ u.rf Reg.MEM_TRES 27 8 = i) ∧
    (s.testOk = true → i < k → j < k → i ≠ j → chk (d ^^^ 2 ^ i ^^^ 2 ^ j) →
      Completes .testRawWrite s fun t => Completes .testDecodedRead t fun u => reads 2 u) ∧
    (s.testOk = true → chk d → Completes .testRawWrite s fun t =>
      follows t ∧ Completes .testRawRead t fun u =>
        testIn m u.tdata = d ∧ u.rd Reg.MEM_TCHK = s.rd Reg.MEM_TCHK ∧ KeepsRegs (cnt ++ (List.range 4).map Reg.MEM_TDATA ++ [Reg.MEM_TCHK]) s u) ∧
    (s.testOk = false → s.mainOn = true →
      let only (t : State) : Prop := t = { s with regs := t.regs, raised := t.raised } ∧ GivesBits Reg.MEM_STAT [3] true s t ∧ KeepsRegs [Reg.MEM_STAT] s t
      Completes .testRawWrite s only ∧ Completes .testRawRead s only ∧ Completes .testDecodedRead s only)

/-- In a tick that is, or skips, a multiple of the visit interval, the first SCRUBBER_VISIT of an enabled scrubber of
a powered memory moves to the next word, or wraps and counts a pass; a good word stays, a correctable one is stored
corrected and counts in CECNT and the bucket, an uncorrectable one stays and is recorded in UECNT, UECNTm, UEADDR and
UESRC with MEM.UE; an octet that the word does not hold reads as before. A disabled scrubber visits nothing, and none
in another tick or a second time in one. In a tick that is, or skips, a multiple of the leak interval, the first
LEAKY_BUCKET_LEAK of a memory compares an armed level with TH, where above it disarms the bucket with CE_BURST,
LASTBURST and the cue, then lowers the level by one, at least to 0, and re-arms the bucket at 0; any other changes
nothing. -/
def Obligations.ScrubbersRepairAndBucketsLeak : Prop :=
  ∀ (m a : Nat) (s : State), m < 15 → a < 2 ^ 40 →
    let on := s.rb (Reg.MEM_SCRUB m) 31 = true ∧ s.memOn m = true ∧ 0 < s.eccWords m ∧ s.eccWords m < 2 ^ 32 ∧
      s.slate % (32 * 2 ^ s.rf (Reg.MEM_SCRUB m) 4 0) ≤ s.syn.skip ∧ m ∉ s.memDone
    let leaks := 0 < s.rf Reg.MEM_LEAK 15 0 ∧ s.slate % (s.rf Reg.MEM_LEAK 15 0 * 32000) ≤ s.syn.skip ∧ 16 + m ∉ s.memDone
    let u : State := { s with memDone := m :: s.memDone }
    let i := (s.rd (Reg.MEM_SCRPOS m)).toNat
    let r := s.eccRead m i
    let k := s.eccMark m i
    let whole := majority k.v0 = true ∧ (m ≠ 14 ∨ majority k.v1 = true)
    let moved (t : State) : Prop := t.rd (Reg.MEM_SCRPOS m) = (if i + 1 < s.eccWords m then word (i + 1) else 0) ∧
      t.rd (Reg.MEM_SCRPASS m) = s.rd (Reg.MEM_SCRPASS m) + (if i + 1 < s.eccWords m then 0 else 1)
    let level := s.rf (Reg.MEM_LEVEL m) 7 0
    let armed := s.rb (Reg.MEM_LEVEL m) 8 = true
    let bursts := armed ∧ s.rf Reg.MEM_LEAK 23 16 < level
    let pos := [Reg.MEM_SCRPOS m, Reg.MEM_SCRPASS m]
    (¬(s.rb (Reg.MEM_SCRUB m) 31 = true ∧ s.memOn m = true ∧ s.slate % (32 * 2 ^ s.rf (Reg.MEM_SCRUB m) 4 0) ≤ s.syn.skip ∧
      m ∉ s.memDone) → Completes (.scrubberVisit m) s fun t => t = s) ∧
    (on → r.cls = .good ∨ r.cls = .unwritten → Completes (.scrubberVisit m) s fun t =>
      t = { u with regs := t.regs, raised := t.raised } ∧ moved t ∧ KeepsRegs pos s t) ∧
    (on → r.cls = .corrected → whole → i < s.eccWords m → Completes (.scrubberVisit m) s fun t =>
      t = { u with regs := t.regs, raised := t.raised, mem := t.mem, ecc := t.ecc } ∧ moved t ∧ (t.eccRead m i).cls = .good ∧
      (t.eccRead m i).data = r.data ∧ t.rd (Reg.MEM_CECNT m) = s.rd (Reg.MEM_CECNT m) + 1 ∧
      t.rf (Reg.MEM_LEVEL m) 7 0 = min 255 (level + 1) ∧
      (a / eccOctets m ≠ i → t.readByte m a = s.readByte m a) ∧
      KeepsRegs (pos ++ [Reg.MEM_CECNT m, Reg.MEM_LEVEL m]) s t) ∧
    (on → r.cls = .uncorrectable → s.ueAt = none → Completes (.scrubberVisit m) s fun t =>
      t = { u with regs := t.regs, raised := t.raised, cue := t.cue, ueAt := some s.slate } ∧ moved t ∧ Fires [9] 1 s t ∧
      t.rd Reg.MEM_UECNT = s.rd Reg.MEM_UECNT + 1 ∧ t.rd (Reg.MEM_UECNTM m) = s.rd (Reg.MEM_UECNTM m) + 1 ∧
      t.rd64 (Reg.MEM_UEADDR 0) = (if m = 7 then 4 * i else i * eccOctets m) % 2 ^ 64 ∧ t.rd Reg.MEM_UESRC = word (m * 256 + 14) ∧
      GivesBits Reg.MEM_STAT [1] true s t ∧
      KeepsRegs (pos ++ [Reg.MEM_UECNT, Reg.MEM_UECNTM m, Reg.MEM_UEADDR 0, Reg.MEM_UEADDR 0 + 4, Reg.MEM_UESRC, Reg.MEM_STAT]) s t) ∧
    (¬leaks → Completes (.leakyBucketLeak m) s fun t => t = s) ∧
    (leaks → Completes (.leakyBucketLeak m) s fun t =>
      t = { s with regs := t.regs, raised := t.raised, cue := t.cue, memDone := (16 + m) :: s.memDone } ∧
      t.rf (Reg.MEM_LEVEL m) 7 0 = level - 1 ∧ (t.rb (Reg.MEM_LEVEL m) 8 = true ↔ level ≤ 1 ∨ (armed ∧ ¬bursts)) ∧
      KeepsRegs (Reg.MEM_LEVEL m :: if bursts then [Reg.MEM_STAT] else []) s t ∧
      (bursts → t.rb Reg.MEM_STAT 2 = true ∧ t.rf Reg.MEM_STAT 7 4 = m) ∧ Fires (if bursts then [8] else []) 1 s t)

/-- REGISTER_WRITE of any value to an aligned address outside every powered block is a bus error (which registers stay
powered in HIBERNATE is the model's choice, log entry 11); to an offset of a block that holds no register it changes
nothing (log entry 4); of LNK.DLQ it waits for its place in the tick (log entry 98); to a register without an effect
of its own (the cue enables and masks, link control and network identifiers, wake sources) every RW bit takes the
written bit, every W1C bit written 1 becomes 0 unless hardware has set it in this tick, every other bit stays, and
nothing else changes. A write of EPR.KEKG takes the four KEK numbers, and of the TRANSIENT keys exactly those
unwrapped for a generation whose KEK it changes are lost. A write of a value out of range is refused or clamped for a
ramp, an ACK turnaround, a slack and a GPIO filter. DWIN_WRITE changes only the writing core's own field. -/
def Obligations.RegisterWritesActByTheirAccessCodes : Prop :=
  ∀ (req a b n : Nat) (v : Word) (s : State), a % 4 = 0 → a < 2 ^ 32 → b < 32 → n < 8 → req < 5 →
    let plain := (List.range 7).map Reg.CUE_EN ++ (List.range 5).map (Reg.CUE_IMASK 0) ++ [Reg.CUE_STAT, Reg.LNK_CTL, Reg.LNK_STAT,
      Reg.LNK_NETID 0, Reg.LNK_NETID 1, Reg.LNK_NETID 2, Reg.LNK_NETID 3, Reg.EPR_CSKEY, Reg.SYS_WAKESRC]
    let wrote (r : Nat) (t : State) : Prop := t = { s with regs := t.regs, raised := t.raised } ∧ KeepsRegs [r] s t
    (s.busOk a = false → exec (.registerWrite req a v) s = .fault (.busError a)) ∧
    (s.busOk a = true → (regRow a).isNone = true → Completes (.registerWrite req a v) s fun t => t = s) ∧
    (s.mainOn = true → Completes (.registerWrite req Reg.LNK_DLQ v) s fun t => t = { s with late := s.late ++ [.queue v] }) ∧
    (s.busOk a = true → a ∈ plain → Completes (.registerWrite req a v) s fun t =>
      wrote a t ∧ t.rb a b = (if (regRW a).testBit b then bit v b else if (regW1C a).testBit b && bit v b && !bit (s.raised.get a 0) b then false else s.rb a b)) ∧
    (s.mainOn = true → Completes (.registerWrite req Reg.EPR_KEKG v) s fun t =>
      t = { s with regs := t.regs, raised := t.raised, cip := { s.cip with cache := t.cip.cache } } ∧ KeepsRegs [Reg.EPR_KEKG] s t ∧
      t.rf Reg.EPR_KEKG 15 0 = fld v 15 0 ∧
      t.cip.cache = s.cip.cache.filter fun c => s.kekOf c.gen == t.kekOf c.gen) ∧
    (s.rfOn = true → 2 ≤ fld v 6 0 → fld v 6 0 ≤ 64 → Completes (.registerWrite req (Reg.RFC_RAMP n) v) s fun t =>
      wrote (Reg.RFC_RAMP n) t ∧ t.rf (Reg.RFC_RAMP n) 6 0 = fld v 6 0) ∧
    (s.rfOn = true → ¬(2 ≤ fld v 6 0 ∧ fld v 6 0 ≤ 64) → Completes (.registerWrite req (Reg.RFC_RAMP n) v) s fun t =>
      wrote (Reg.RFC_STAT n) t ∧ GivesBits (Reg.RFC_STAT n) [14] true s t) ∧
    (s.mainOn = true → Completes (.registerWrite req (Reg.LNK_TACK n) v) s fun t =>
      wrote (Reg.LNK_TACK n) t ∧ t.rf (Reg.LNK_TACK n) 19 0 =
        if 12800 ≤ fld v 19 0 ∧ fld v 19 0 ≤ 640000 then fld v 19 0 else s.rf (Reg.LNK_TACK n) 19 0) ∧
    (s.mainOn = true → Completes (.registerWrite req Reg.LNK_SLACK v) s fun t =>
      wrote Reg.LNK_SLACK t ∧ t.rf Reg.LNK_SLACK 15 0 = min 32000 (fld v 15 0)) ∧
    (s.busOk (Reg.CUE_GPIO_CFG n) = true → Completes (.registerWrite req (Reg.CUE_GPIO_CFG n) v) s fun t =>
      t = { s with regs := t.regs, raised := t.raised } ∧ KeepsRegs [Reg.CUE_GPIO_CFG n, Reg.CUE_GPIO_STATE n] s t ∧
      t.rf (Reg.CUE_GPIO_CFG n) 23 16 = (if fld v 23 16 = 0 then 1 else fld v 23 16) ∧
      t.rb (Reg.CUE_GPIO_STATE n) 0 = t.pinLevel n) ∧
    (s.mainOn = true → Completes (.dwinWrite req v) s fun t =>
      wrote Reg.MEM_DWIN t ∧ GivesField Reg.MEM_DWIN (4 * req + 3) (4 * req)
        (if fld v (4 * req + 3) (4 * req) ≤ 6 then fld v (4 * req + 3) (4 * req) else s.rf Reg.MEM_DWIN (4 * req + 3) (4 * req)) s t)

/-- For each core n, a KS32 instruction that core n has, with every field in its range, decodes from the word of R427
(or the halfword of R443) that spells it. Conversely, a word that decodes on core n gives an instruction that core n
has with its fields in range, and the word is the one that spells it: all of its 32 bits, or the low 16 of a halfword
whose bit 0 is 0. So the halfword 0x0000 and the word 0xFFFF_FFFF spell none. -/
def Obligations.KeasuricInstructionsDecodeAsTheyEncode : Prop :=
  ∀ (n : Nat) (i : KIns) (w : Word), n < 5 →
    (i.wf n = true → decodeKs n (encodeKs i) = some i) ∧
    (∀ j, decodeKs n w = some j →
      j.wf n = true ∧ encodeKs j = (if bit w 0 then w else word (fld w 15 0)) ∧ (bit w 0 = true ↔ j.len = 4)) ∧
    decodeKs n 0 = none ∧ decodeKs n 0xFFFFFFFF = none

/-- Where core n is ready and PC holds the instruction, the command of its mnemonic completes and retires it: rd takes
the result (CMP and CMPI write none), k0 stays 0, a load that it was the slot of reaches its register, PC moves past
it, and the flags change by their group: N, Z, C and V as R438 for ADD, SUB, NEG, CMP, ADDI, CMPI; N and Z from the
result for AND, OR, XOR, NOT, ANDI, ORI, XORI; unchanged for MOV, CLZ, SEXTB, SEXTH, ZEXTB, ZEXTH, LIH, LIL. The
compressed C.MOV, C.ADD, C.SUB, C.ADDI, C.CMP, C.AND and C.OR do as the instruction they stand for. Every other
register, the accumulators, the memories and the rest of the state stay as the fetch left them. -/
def Obligations.ArithmeticAndLogicGiveResultsAndFlags : Prop :=
  ∀ (n : Nat) (i : KIns) (s u : State), Executes n s u i →
    let st := Reg.CPR_STATUS n
    let a := u.k n i.rs1
    let b := u.k n i.rs2
    let imm := BitVec.ofInt 32 i.imm
    let next := ((u.core n).pc + i.len) % 2 ^ 32
    let gives (w : List (Nat × Word)) (flags : State → Prop) : Prop := Completes (i.name.command n) s fun t =>
      Retires n w none next u t ∧ KeepsAccs n u t ∧ OnlyCore n [st] u t ∧ flags t
    let nz (v : Word) (t : State) : Prop := (t.rb st 31 = bit v 31) ∧ (t.rb st 30 = true ↔ v = 0) ∧
      ∀ k, k < 28 → t.rb st k = u.rb st k
    let arith (v : Word) (carry : Bool) (x : Int) (t : State) : Prop :=
      nz v t ∧ t.rb st 29 = carry ∧ (t.rb st 28 = true ↔ x < -2147483648 ∨ 2147483647 < x)
    let logic (v : Word) (t : State) : Prop := nz v t ∧ t.rb st 29 = u.rb st 29 ∧ t.rb st 28 = u.rb st 28
    let keep (t : State) : Prop := t.rd st = u.rd st
    let above (x y : Word) : Bool := decide (y.toNat < x.toNat)
    (i.op = .add → gives [(i.rd, a + b)] (arith (a + b) (decide (2 ^ 32 ≤ a.toNat + b.toNat)) (a.toInt + b.toInt))) ∧
    (i.op = .addi → gives [(i.rd, a + imm)] (arith (a + imm) (decide (2 ^ 32 ≤ a.toNat + imm.toNat)) (a.toInt + i.imm))) ∧
    (i.op = .sub → gives [(i.rd, a - b)] (arith (a - b) (above b a) (a.toInt - b.toInt))) ∧
    (i.op = .neg → gives [(i.rd, 0 - a)] (arith (0 - a) (above a 0) (-a.toInt))) ∧
    (i.op = .cmp → gives [] (arith (a - b) (above b a) (a.toInt - b.toInt))) ∧
    (i.op = .cmpi → gives [] (arith (a - imm) (above imm a) (a.toInt - i.imm))) ∧
    (i.op = .and → gives [(i.rd, a &&& b)] (logic (a &&& b))) ∧
    (i.op = .or → gives [(i.rd, a ||| b)] (logic (a ||| b))) ∧
    (i.op = .xor → gives [(i.rd, a ^^^ b)] (logic (a ^^^ b))) ∧
    (i.op = .not → gives [(i.rd, ~~~a)] (logic (~~~a))) ∧
    (i.op = .andi → gives [(i.rd, a &&& imm)] (logic (a &&& imm))) ∧
    (i.op = .ori → gives [(i.rd, a ||| imm)] (logic (a ||| imm))) ∧
    (i.op = .xori → gives [(i.rd, a ^^^ imm)] (logic (a ^^^ imm))) ∧
    (i.op = .mov → gives [(i.rd, a)] keep) ∧
    (i.op = .clz → ∃ z, z ≤ 32 ∧ (∀ k, k < z → bit a (31 - k) = false) ∧ (z < 32 → bit a (31 - z) = true) ∧
      gives [(i.rd, word z)] keep) ∧
    (i.op = .sextb → gives [(i.rd, (a.truncate 8).signExtend 32)] keep) ∧
    (i.op = .sexth → gives [(i.rd, (a.truncate 16).signExtend 32)] keep) ∧
    (i.op = .zextb → gives [(i.rd, a &&& 0xFF)] keep) ∧
    (i.op = .zexth → gives [(i.rd, a &&& 0xFFFF)] keep) ∧
    (i.op = .lih → gives [(i.rd, word (i.imm.toNat * 2 ^ 16))] keep) ∧
    (i.op = .lil → gives [(i.rd, (u.k n i.rd &&& 0xFFFF0000) ||| word i.imm.toNat)] keep)

/-- Where core n is ready and PC holds the instruction, the command of its mnemonic completes and retires it. LSL,
LSR, ASR and ROR by a register count of 0 to 2^32 - 1, and LSLI, LSRI, ASRI and RORI by 0-31, write the result of R439
to rd and C by its table, N and Z from the result, and keep V. MUL gives the low and MULHS and MULHU the high 32 bits
of the signed or unsigned product, write N and Z and keep C and V. C.LSLI, C.LSRI and C.ASRI do as LSLI, LSRI and
ASRI. Every other register, the accumulators, the memories and the rest of the state stay as the fetch left them. -/
def Obligations.ShiftsAndProductsGiveResultsAndFlags : Prop :=
  ∀ (n : Nat) (i : KIns) (s u : State), Executes n s u i →
    let st := Reg.CPR_STATUS n
    let a := u.k n i.rs1
    let b := u.k n i.rs2
    let next := ((u.core n).pc + i.len) % 2 ^ 32
    let gives (v : Word) (carry : Bool) : Prop := Completes (i.name.command n) s fun t =>
      Retires n [(i.rd, v)] none next u t ∧ KeepsAccs n u t ∧ OnlyCore n [st] u t ∧
      t.rb st 31 = bit v 31 ∧ (t.rb st 30 = true ↔ v = 0) ∧ t.rb st 29 = carry ∧ ∀ k, k < 29 → t.rb st k = u.rb st k
    let c := u.rb st 29
    let hi := (if bit a 31 then BitVec.allOnes 32 else 0 : Word)
    let lsl (m : Nat) : Prop := (m = 0 → gives a c) ∧ (1 ≤ m → m ≤ 31 → gives (a <<< m) (bit a (32 - m))) ∧
      (m = 32 → gives 0 (bit a 0)) ∧ (33 ≤ m → gives 0 false)
    let lsr (m : Nat) : Prop := (m = 0 → gives a c) ∧ (1 ≤ m → m ≤ 31 → gives (a >>> m) (bit a (m - 1))) ∧
      (m = 32 → gives 0 (bit a 31)) ∧ (33 ≤ m → gives 0 false)
    let asr (m : Nat) : Prop := (m = 0 → gives a c) ∧ (1 ≤ m → m ≤ 31 → gives (a.sshiftRight m) (bit a (m - 1))) ∧
      (32 ≤ m → gives hi (bit a 31))
    let ror (m : Nat) : Prop := (m = 0 → gives a c) ∧
      (m ≠ 0 → gives ((a >>> (m % 32)) ||| (a <<< (32 - m % 32))) (bit ((a >>> (m % 32)) ||| (a <<< (32 - m % 32))) 31))
    (i.op = .lsl → lsl b.toNat) ∧ (i.op = .lsr → lsr b.toNat) ∧ (i.op = .asr → asr b.toNat) ∧ (i.op = .ror → ror b.toNat) ∧
    (i.op = .lsli → i.rs2 < 32 ∧ lsl i.rs2) ∧ (i.op = .lsri → i.rs2 < 32 ∧ lsr i.rs2) ∧
    (i.op = .asri → i.rs2 < 32 ∧ asr i.rs2) ∧ (i.op = .rori → i.rs2 < 32 ∧ ror i.rs2) ∧
    (i.op = .mul → gives (a * b) c) ∧
    (i.op = .mulhs → gives (((a.signExtend 64 * b.signExtend 64) >>> 32).truncate 32) c) ∧
    (i.op = .mulhu → gives (((a.zeroExtend 64 * b.zeroExtend 64) >>> 32).truncate 32) c)

/-- Where core n is ready and PC holds the instruction, the command of its mnemonic completes. DIVS and DIVU write the
quotient to rd and the remainder to rd + 1 (rd is even), N and Z from the quotient, C 0 and V only for DIVS of
0x8000_0000 by -1; by zero they set DZ and, where CTL.DZT is 1, then enter vector 3 with the next address saved.
ADDSAT, SUBSAT, NEGSAT, ADDSAT.H, SUBSAT.H, CLAMP.H and ARND write a clamped result to rd, MAC.L, MAC.U, MSB.L, MSB.U
and MACF a clamped sum to the accumulator, and each sets the sticky SAT exactly when it clamps; AZERO, ALOAD and APUT
write the accumulator and AGETL and AGETH read it, unclamped. The DSP instructions run on KSA only and keep N, Z, C
and V. MUL, MULHS and MULHU stand in the statement of the shifts. Every other register, accumulator, memory and the
rest of the state stay as the fetch left them. -/
def Obligations.DividesAndTheDspExtensionGiveTheirResults : Prop :=
  ∀ (n : Nat) (i : KIns) (s u : State), Executes n s u i →
    let st := Reg.CPR_STATUS n
    let a := u.k n i.rs1
    let b := u.k n i.rs2
    let next := ((u.core n).pc + i.len) % 2 ^ 32
    let divides (q r : Word) (v dz : Bool) : Prop :=
      let result (t : State) : Prop := Retires n [(i.rd, q), (i.rd + 1, r)] none next u t ∧ KeepsAccs n u t ∧ OnlyCore n [st] u t ∧
        t.rb st 31 = bit q 31 ∧ (t.rb st 30 = true ↔ q = 0) ∧ t.rb st 29 = false ∧ t.rb st 28 = v ∧
        ∀ k, k < 28 → t.rb st k = (u.rb st k || (dz && k == 8))
      i.rd % 2 = 0 ∧ Completes (i.name.command n) s fun t =>
        result (u.retired n i) ∧
        t = (if dz = true ∧ u.rb (Reg.CPR_CTL n) 0 = true then enterVector (u.retired n i) n 3 next else u.retired n i)
    let lo (x : Word) : Int := (x.truncate 16 : BitVec 16).toInt
    let hi (x : Word) : Int := ((x >>> 16).truncate 16 : BitVec 16).toInt
    let accIs (v : Int) (t : State) : Prop :=
      i.rd < 2 ∧ (t.core n).acc i.rd = v ∧ (t.core n).acc (1 - i.rd) = (u.core n).acc (1 - i.rd)
    let gives (w : List (Nat × Word)) (accs : State → Prop) (sat : Bool) : Prop := n < 4 ∧ Completes (i.name.command n) s fun t =>
      Retires n w none next u t ∧ OnlyCore n [st] u t ∧
      (∀ k, k < 32 → t.rb st k = (u.rb st k || (sat && k == 9))) ∧ accs t
    let clamp (k : Nat) (v : Int) : Int := max (-(2 ^ (k - 1))) (min (2 ^ (k - 1) - 1) v)
    let sat32 (v : Int) : Prop := gives [(i.rd, BitVec.ofInt 32 (clamp 32 v))] (KeepsAccs n u) (clamp 32 v != v)
    let lanes (l h : Int) : Prop := gives [(i.rd, (BitVec.ofInt 16 (clamp 16 h)) ++ (BitVec.ofInt 16 (clamp 16 l)))] (KeepsAccs n u)
      (clamp 16 l != l || clamp 16 h != h)
    let mac (d : Int) : Prop := gives [] (accIs (clamp 40 ((u.core n).acc i.rd + d))) (clamp 40 ((u.core n).acc i.rd + d) != (u.core n).acc i.rd + d)
    let acc := (u.core n).acc i.rs1
    (i.op = .divu → b ≠ 0 → divides (word (a.toNat / b.toNat)) (word (a.toNat % b.toNat)) false false) ∧
    (i.op = .divu → b = 0 → divides 0xFFFFFFFF a false true) ∧
    (i.op = .divs → b ≠ 0 → ¬(a = 0x80000000 ∧ b = 0xFFFFFFFF) →
      divides (BitVec.ofInt 32 (a.toInt.tdiv b.toInt)) (BitVec.ofInt 32 (a.toInt.tmod b.toInt)) false false) ∧
    (i.op = .divs → a = 0x80000000 → b = 0xFFFFFFFF → divides 0x80000000 0 true false) ∧
    (i.op = .divs → b = 0 → divides (if bit a 31 then 0x80000000 else 0x7FFFFFFF) a false true) ∧
    (i.op = .addsat → sat32 (a.toInt + b.toInt)) ∧ (i.op = .subsat → sat32 (a.toInt - b.toInt)) ∧
    (i.op = .negsat → sat32 (-a.toInt)) ∧
    (i.op = .addsatH → lanes (lo a + lo b) (hi a + hi b)) ∧ (i.op = .subsatH → lanes (lo a - lo b) (hi a - hi b)) ∧
    (i.op = .clampH → gives [(i.rd, BitVec.ofInt 32 (clamp 16 a.toInt))] (KeepsAccs n u) (clamp 16 a.toInt != a.toInt)) ∧
    (i.op = .macL → mac (lo a * lo b)) ∧ (i.op = .macU → mac (hi a * hi b)) ∧
    (i.op = .msbL → mac (-(lo a * lo b))) ∧ (i.op = .msbU → mac (-(hi a * hi b))) ∧
    (i.op = .macf → mac ((a.toInt * b.toInt).fdiv (2 ^ 31))) ∧
    (i.op = .azero → gives [] (accIs 0) false) ∧ (i.op = .aload → gives [] (accIs a.toInt) false) ∧
    (i.op = .arnd → i.rs1 < 2 ∧ i.rs2 < 32 ∧ sat32 ((acc + (if i.rs2 = 0 then 0 else 2 ^ (i.rs2 - 1))).fdiv (2 ^ i.rs2))) ∧
    (i.op = .agetl → i.rs1 < 2 ∧ gives [(i.rd, (BitVec.ofInt 40 acc).truncate 32)] (KeepsAccs n u) false) ∧
    (i.op = .ageth → i.rs1 < 2 ∧ gives [(i.rd, ((BitVec.ofInt 40 acc >>> 32).truncate 8 : BitVec 8).signExtend 32)] (KeepsAccs n u) false) ∧
    (i.op = .aput → gives [] (accIs ((a.truncate 8 : BitVec 8) ++ b : BitVec 40).toInt) false)

/-- Where core n is ready and PC holds the instruction: Bcc goes to its target where the table of R429 says so and
else to the next instruction, JMP to its target, JR to rs1. CALL and CALLR push the next address at sp - 4 and go on
at the target; they abort with ALIGN or STACK where sp - 4 is not a multiple of 4 or lies below a nonzero SPLIM, and a
store that resets the core leaves it reset (log entry 29). RET pops PC. RETI with EXC 1 pops the pending value, STATUS
and PC, restores the flags, SAT, DZ, EXC and IE, and leaves the saved load pending; with EXC 0 it is undefined. JR,
CALLR, RET and RETI to an odd address abort at themselves with cause ALIGN and the target in FAULTADDR, with nothing
pushed or popped (log entry 23; the STACK check of CALLR is log entry 24). TRAP retires, with the load that it was the
slot of, and enters vector 4 with the next address saved (log entry 25). FEAT reads the words of R415. WAIT goes on
where the cue or the message line is asserted, and else stalls. C.B, C.BEQ, C.BNE, C.RET, C.JR and C.CALLR do as the
instruction they stand for. What each does not name stays. -/
def Obligations.BranchesCallsAndReturnsTransferControl : Prop :=
  ∀ (n : Nat) (i : KIns) (s u x1 x2 x3 : State) (v1 v2 v3 : Nat), Executes n s u i →
    let st := Reg.CPR_STATUS n
    let pc := (u.core n).pc
    let next := (pc + i.len) % 2 ^ 32
    let target := ((pc + 2 * i.imm) % 4294967296).toNat
    let a := u.k n i.rs1
    let z := u.rb st 30
    let c := u.rb st 29
    let ng := u.rb st 31
    let v := u.rb st 28
    let does (P : State → Prop) : Prop := Completes (i.name.command n) s P
    let goes (w : List (Nat × Word)) (x : State) (dest : Nat) (t : State) : Prop :=
      Retires n w none dest x t ∧ KeepsAccs n x t ∧ OnlyCore n [] x t
    let sp := u.k n 31
    let lim := (u.rd (Reg.CPR_SPLIM n)).toNat
    let calls (dest : Nat) : Prop :=
      ((sp - 4).toNat % 4 ≠ 0 → does fun t => t = dataAbort u n 1 (sp - 4).toNat true) ∧
      ((sp - 4).toNat % 4 = 0 → lim ≠ 0 → (sp - 4).toNat < lim → does fun t => t = dataAbort u n 4 (sp - 4).toNat true) ∧
      ((sp - 4).toNat % 4 = 0 → lim = 0 ∨ lim ≤ (sp - 4).toNat → coreStore u n (sp - 4).toNat 2 (word next) = .done x1 v1 →
        does fun t => if coreGone u x1 n then t = x1 else goes [(31, sp - 4)] x1 dest t)
    let odd : Prop := does fun t => t = prefetchAbort u n 1 a.toNat
    (i.op = .bcc → i.cond < 15 ∧ does (goes [] u
      (if [z, c, c || z, ng != v, z || ng != v, ng, v, true, !z, !c, !c && !z, ng == v, !z && ng == v, !ng, !v].getD i.cond false
        then target else next))) ∧
    (i.op = .jmp → does (goes [] u target)) ∧
    (i.op = .jr → a.toNat % 2 = 0 → does (goes [] u a.toNat)) ∧ (i.op = .jr → a.toNat % 2 = 1 → odd) ∧
    (i.op = .call → calls target) ∧
    (i.op = .callr → a.toNat % 2 = 0 → calls a.toNat) ∧ (i.op = .callr → a.toNat % 2 = 1 → odd) ∧
    (i.op = .ret → coreLoad u n sp.toNat 2 = .done x1 v1 → v1 % 2 = 0 → does (goes [(31, sp + 4)] x1 v1)) ∧
    (i.op = .ret → coreLoad u n sp.toNat 2 = .done x1 v1 → v1 % 2 = 1 → does fun t => t = prefetchAbort x1 n 1 v1) ∧
    (i.op = .reti → u.rb st 1 = false → does fun t => t = enterVector u n 1 pc) ∧
    (i.op = .reti → u.rb st 1 = true → coreLoad u n sp.toNat 2 = .done x1 v1 → coreLoad x1 n (sp + 4).toNat 2 = .done x2 v2 →
      coreLoad x2 n (sp + 8).toNat 2 = .done x3 v3 → v3 % 2 = 1 → does fun t => t = prefetchAbort x3 n 1 v3) ∧
    (i.op = .reti → u.rb st 1 = true → coreLoad u n sp.toNat 2 = .done x1 v1 → coreLoad x1 n (sp + 4).toNat 2 = .done x2 v2 →
      coreLoad x2 n (sp + 8).toNat 2 = .done x3 v3 → v3 % 2 = 0 → does fun t =>
        Retires n [(31, sp + 12)] (if bit (word v2) 16 then some (fld (word v2) 21 17, word v1) else none) v3 x3 t ∧
        KeepsAccs n x3 t ∧ OnlyCore n [st] x3 t ∧
        ∀ b, b < 32 → t.rb st b = (bit (word v2) b && [0, 1, 8, 9, 28, 29, 30, 31].contains b)) ∧
    (i.op = .trap → does fun t => goes [] u next (u.retired n i) ∧ t = enterVector (u.retired n i) n 4 next) ∧
    (i.op = .feat → does (goes [(i.rd, [word (n * 2 ^ 24 + 2 ^ 16 + if n = 4 then 0x1A else 0x1F), 0x40401004,
      if n = 4 then 0 else 0x00002824, 0x6480B000].getD i.rs2 0)] u next)) ∧
    (i.op = .wait → u.cueLine n = true ∨ u.msgLine n = true → does (goes [] u next)) ∧
    (i.op = .wait → u.cueLine n = false → u.msgLine n = false → does fun t =>
      t = { u with cores := t.cores } ∧ KeepsMap n u.cores t.cores ∧ t.core n = { u.core n with stall := some .wait })

/-- Where core n is ready and PC holds the instruction: the address and the new base value are those of the mode AM
(offset, post- and pre-increment, indexed, bit-reversed, modulo). LD leaves the zero-extended and LDS the
sign-extended value pending for rd; ST stores the low octets of rd as it was; each writes the base update at once, as
the next instruction follows. An access that aborts takes the data-abort with its cause, with no update. An access at
an address that is not a multiple of its size aborts with ALIGN, one that nothing maps with BUS. A store to local
SRAM, shared SRAM or DRAM changes just its octets, and a load of them reads the octets in little-endian order. A store
that resets the core leaves it reset (log entry 29). A load from REL.POPr stalls until its pop has had its place in
the tick, and then ends with the word popped, or aborts with ECC (log entry 98). C.LDWSP, C.STWSP, C.LDW and C.STW do
as the instruction they stand for. -/
def Obligations.LoadsAndStoresAccessTheirAddress : Prop :=
  ∀ (n : Nat) (i : KIns) (s u x : State) (v c m o b r : Nat) (w : Option Word), Executes n s u i → i.op = .ld ∨ i.op = .lds ∨ i.op = .st →
    let next := ((u.core n).pc + i.len) % 2 ^ 32
    let rb := u.k n i.rs1
    let by_ (k : Int) : Word := BitVec.ofInt 32 (2 ^ i.sz * k)
    let signed (bits x : Nat) : Int := if x < 2 ^ (bits - 1) then (x : Int) else x - 2 ^ bits
    let p := memAddr u n i
    let a := p.1
    let size : Nat := 2 ^ i.sz
    let does (P : State → Prop) : Prop := Completes (i.name.command n) s P
    let pair := i.x / 256
    let base := u.rd (Reg.CPR_MBASE n pair)
    let len := (u.rd (Reg.CPR_MLEN n pair)).toNat
    let d := (size : Int) * signed 8 (i.x % 256)
    let field (w : Word) : Nat := w.toNat / size % 2 ^ (i.x % 32)
    let y := p.2.getD 0
    let value : Word := if i.op = .lds then BitVec.ofInt 32 (signed (8 * size) v) else word v
    i.am < 6 ∧ i.sz < 3 ∧
    (i.am = 0 → p = ((rb + by_ (signed 10 i.x)).toNat, none)) ∧
    (i.am = 1 → p = (rb.toNat, some (rb + by_ (signed 10 i.x)))) ∧
    (i.am = 2 → p = ((rb + by_ (signed 10 i.x)).toNat, some (rb + by_ (signed 10 i.x)))) ∧
    (i.am = 3 → p = ((rb + by_ (u.k n (i.x / 32)).toNat).toNat, none)) ∧
    (i.am = 4 → n < 4 ∧ a = rb.toNat ∧ p.2 = some y ∧
      revBits (i.x % 32) (field y) = (revBits (i.x % 32) (field rb) + 1) % 2 ^ (i.x % 32) ∧
      ∀ k, k < 32 → k < i.sz ∨ i.sz + i.x % 32 ≤ k → bit y k = bit rb k) ∧
    (i.am = 5 → n < 4 ∧ a = rb.toNat ∧
      (len = 0 ∨ len ≤ (rb - base).toNat → p.2 = some (rb + BitVec.ofInt 32 d)) ∧
      (len ≠ 0 → (rb - base).toNat < len → p.2 = some (base + BitVec.ofInt 32 (((rb - base).toNat + d) % len)))) ∧
    (i.op ≠ .st → coreLoad u n a i.sz = .done x v → does fun t =>
      Retires n (u.baseWrite n i) (some (i.rd, value)) next x t ∧ KeepsAccs n x t ∧ OnlyCore n [] x t) ∧
    (i.op ≠ .st → coreLoad u n a i.sz = .abort x c → does fun t => t = dataAbort x n c a false) ∧
    (i.op = .st → coreStore u n a i.sz (u.k n i.rd) = .done x v → coreGone u x n = false → does fun t =>
      Retires n (u.baseWrite n i) none next x t ∧ KeepsAccs n x t ∧ OnlyCore n [] x t) ∧
    (i.op = .st → coreStore u n a i.sz (u.k n i.rd) = .done x v → coreGone u x n = true → does fun t => t = x) ∧
    (i.op = .st → coreStore u n a i.sz (u.k n i.rd) = .abort x c → does fun t => t = dataAbort x n c a true) ∧
    (i.op ≠ .st → a % size = 0 → r < 32 → a / 4 * 4 = Reg.REL_RPOP r → u.mainOn = true →
      ((u.core n).popped = none → does fun t =>
        t = { u with cores := t.cores } ∧ KeepsMap n u.cores t.cores ∧ t.core n = { u.core n with stall := some (.pop r) }) ∧
      ((u.core n).popped = some (r, w) →
        let x := u.setCore n { u.core n with popped := none }
        coreLoad u n a i.sz = match w with
          | some w => .done x (w.toNat / 2 ^ (8 * (a % 4)) % 2 ^ (8 * size))
          | none => .abort x 3)) ∧
    (a % size ≠ 0 → coreLoad u n a i.sz = .abort u 1 ∧ coreStore u n a i.sz (u.k n i.rd) = .abort u 1) ∧
    (a % size = 0 → 0xF0010000 ≤ a ∨ (0x20000 ≤ a ∧ a < 0x10000000) → coreLoad u n a i.sz = .abort u 2 ∧
      coreStore u n a i.sz (u.k n i.rd) = .abort u 2) ∧
    (u.coreMem n a = some (m, o) → ∀ bs, u.peek m o size = some bs →
      a % size = 0 → coreLoad u n a i.sz = .done (u.readReport n m o size) (natLE bs)) ∧
    (u.coreMem n a = some (m, o) → coreStore u n a i.sz (u.k n i.rd) = .done x v →
      (∀ j, j < size → x.readByte m (o + j) = BitVec.ofNat 8 (fld (u.k n i.rd) (8 * j + 7) (8 * j))) ∧
      (b < 2 ^ 40 → b < o ∨ o + size ≤ b → x.readByte m b = u.readByte m b) ∧
      ∀ m', m' < 15 → m' ≠ m → b < 2 ^ 40 → x.readByte m' b = u.readByte m' b)

/-- INTERRUPT_ENTRY of a running core with IE 1 that stands at an instruction boundary, or is stalled in a channel
access, enters vector 5 where the cue line is asserted, else 6 where the message line is, with PC saved. Under any
instruction command of a ready core a fetch that aborts enters vector 0 and an undefined word vector 1, with the PC of
the instruction saved; an abort first writes FAULTADDR, FAULTPC and FAULTCAUSE. Entry stores saved PC, STATUS (with
LDP and LDR of a pending load) and the pending value below sp, takes 12 from sp, clears IE, sets EXC and goes to VBASE
+ 16 times the vector. A fault in the first push locks the core up: it runs no more, its FAULT registers and the crash
record of SUP describe that fault. A command whose mnemonic the instruction at PC has not, or of a core that does not
run, changes nothing (log entry 21); FAULTPC of a lock-up is the PC that was to be saved (log entry 27). -/
def Obligations.ExceptionsSaveThreeWordsAndEnterTheirVector : Prop :=
  ∀ (n : Nat) (op : KOp) (i : KIns) (s u x1 x2 x3 : State) (w : Word) (v1 v2 v3 c a vec saved : Nat) (wr pf : Bool), n < 5 →
    let st := Reg.CPR_STATUS n
    let pc := (s.core n).pc
    let sp := s.k n 31
    let pend := (s.core n).pend
    let status : Word := (s.rd st &&& 0xFFC0FFFF) ||| (if pend.isSome then word (2 ^ 16 + 2 ^ 17 * ((pend.getD (0, 0)).1 % 32)) else 0)
    let boundary := (s.core n).stall = none ∧ pend = none ∨ (s.core n).stall = some .send ∨ (s.core n).stall = some .recv
    let faulted (y : State) : Prop := y.rd (Reg.CPR_FAULTADDR n) = word a ∧ y.rd (Reg.CPR_FAULTPC n) = word (u.core n).pc ∧
      y.rd (Reg.CPR_FAULTCAUSE n) = word (256 * b2n pf + 16 * b2n wr + c) ∧ y = { u with regs := y.regs } ∧
      KeepsRegs [Reg.CPR_FAULTADDR n, Reg.CPR_FAULTPC n, Reg.CPR_FAULTCAUSE n] u y
    (s.coreRuns n = true → s.rb st 0 = true → boundary → s.cueLine n = true ∨ s.msgLine n = true →
      Completes (.interruptEntry n) s fun t => t = enterVector s n (if s.cueLine n then 5 else 6) pc) ∧
    (s.coreReady n = true → fetchKs s n = .abort u c a → Completes (op.command n) s fun t => t = prefetchAbort u n c a) ∧
    (s.coreReady n = true → fetchKs s n = .word u w → decodeKs n w = none →
      Completes (op.command n) s fun t => t = enterVector u n 1 (u.core n).pc) ∧
    faulted (faultRegs u n (u.core n).pc a c pf wr) ∧
    (pf = true → wr = false → prefetchAbort u n c a = enterVector (faultRegs u n (u.core n).pc a c pf wr) n 0 (u.core n).pc) ∧
    (pf = false → dataAbort u n c a wr = enterVector (faultRegs u n (u.core n).pc a c pf wr) n 2 (u.core n).pc) ∧
    (coreStore s n (sp - 4).toNat 2 (word saved) = .done x1 v1 → coreStore x1 n (sp - 8).toNat 2 status = .done x2 v2 →
      coreStore x2 n (sp - 12).toNat 2 ((pend.getD (0, 0)).2) = .done x3 v3 → x3.core n = s.core n →
      x3.rd st = s.rd st → x3.rd (Reg.CPR_VBASE n) = s.rd (Reg.CPR_VBASE n) →
      Entered n vec s x3 (enterVector s n vec saved)) ∧
    (coreStore s n (sp - 4).toNat 2 (word saved) = .abort x1 c →
      let t := enterVector s n vec saved
      let fault := [((sp - 4).toNat, Reg.CPR_FAULTADDR n, Reg.SUP_CRAD n), (saved, Reg.CPR_FAULTPC n, Reg.SUP_CRPC n),
        (16 + c, Reg.CPR_FAULTCAUSE n, Reg.SUP_CRCA n)]
      t = { x1 with cores := t.cores, regs := t.regs, raised := t.raised } ∧ t.core n = { x1.core n with lockup := true, stall := none } ∧
      t.coreRuns n = false ∧ KeepsMap n x1.cores t.cores ∧ t.rd (Reg.SUP_CRCNT n) = x1.rd (Reg.SUP_CRCNT n) + 1 ∧
      (∀ e ∈ fault, t.rd e.2.1 = word e.1 ∧ t.rd e.2.2 = word e.1) ∧
      KeepsRegs ((Reg.SUP_CRCNT n) :: fault.flatMap fun e => [e.2.1, e.2.2]) x1 t) ∧
    (s.coreRuns n = false → Completes (op.command n) s fun t => t = s) ∧
    (s.coreReady n = true → s.insAt n = some (u, i) → i.name ≠ op → Completes (op.command n) s fun t => t = s)

/-- For core n at a store to CPR.MSGSENDd: MSG_SEND appends the message (MSGDATA0, the stored word, the present tick)
to channel n of core d; where that holds 16 messages the core stalls with nothing sent; where core d is off the
message is dropped and MSGCNT.DROP set; d = n aborts with MSGSELF. At a load of MSGRECVc, MSGRECVC or MSGANY with a
visible message: MSG_RECV, MSG_RECV_CIPHER and MSG_RECV_ANY remove the oldest of channel c, of the cipher channel, or
of the core channel whose oldest is earliest (ties to the lower sender), leave word 0 pending for rd and latch word 1
and the channel; with none visible the core stalls; a load of its own channel aborts. MSG_SEND_STALL_END,
MSG_RECV_STALL_END and WAIT_COMPLETE execute the instruction of a core stalled in it, which goes on once nothing
blocks it. -/
def Obligations.ChannelsCarryMessagesInOrderAndBlock : Prop :=
  ∀ (n d c : Nat) (i : KIns) (m : Msg) (rest : List Msg) (s u : State), n < 5 → d < 5 → s.insAt n = some (u, i) →
    let next := ((u.core n).pc + i.len) % 2 ^ 32
    let a := (memAddr u n i).1
    let sends := i.op = .st ∧ i.sz = 2 ∧ a = 0xF0000044 + 4 * d
    let msg : Msg := { w0 := u.rd (Reg.CPR_MSGDATA0 n), w1 := u.k n i.rd, tick := u.slate }
    let sent := u.setChan d n (u.chan d n ++ [msg])
    let goes (w : List (Nat × Word)) (load : Option (Nat × Word)) (x t : State) : Prop :=
      Retires n w load next x t ∧ KeepsAccs n x t ∧ OnlyCore n [] x t
    let stalls (k : Stall) (t : State) : Prop :=
      t = { u with cores := t.cores } ∧ KeepsMap n u.cores t.cores ∧ t.core n = { u.core n with stall := some k }
    let dropped := u.wb (Reg.CPR_MSGCNT n) 31 true
    let takes (j : Nat) (t : State) : Prop :=
      goes (u.baseWrite n i) (some (i.rd, m.w0))
        (((u.setChan n j rest).wr (Reg.CPR_MSGW1 n) m.w1).wr (Reg.CPR_MSGFROM n) (word j)) t
    let recvs (x : Nat) := (i.op = .ld ∨ i.op = .lds) ∧ i.sz = 2 ∧ a = 0xF0000060 + x
    let earliest := c < 5 ∧ m.tick < u.slate ∧ ∀ k, k < 5 → ∀ e ∈ u.visibleMsgs n k, m.tick < e.tick ∨ (m.tick = e.tick ∧ c ≤ k)
    let none_ := ∀ k, k < 5 → u.visibleMsgs n k = []
    let resumed (k : Stall) := s.coreRuns n = true ∧ (s.core n).stall = some k
    (s.coreReady n = true →
      (sends → d ≠ n → u.coreOn d = true → (u.chan d n).length < 16 →
        Completes (.msgSend n) s (goes (u.baseWrite n i) none sent)) ∧
      (sends → d ≠ n → u.coreOn d = true → 16 ≤ (u.chan d n).length → Completes (.msgSend n) s (stalls .send)) ∧
      (sends → d ≠ n → u.coreOn d = false → Completes (.msgSend n) s (goes (u.baseWrite n i) none dropped)) ∧
      (sends → d = n → Completes (.msgSend n) s fun t => t = dataAbort u n 6 a true) ∧
      (recvs (4 * d) → d ≠ n → u.chan n d = m :: rest → m.tick < u.slate → Completes (.msgRecv n) s (takes d)) ∧
      (recvs (4 * d) → d ≠ n → u.visibleMsgs n d = [] → Completes (.msgRecv n) s (stalls .recv)) ∧
      (recvs (4 * d) → d = n → Completes (.msgRecv n) s fun t => t = dataAbort u n 6 a false) ∧
      (recvs 0x14 → u.chan n 5 = m :: rest → Completes (.msgRecvCipher n) s (takes 5)) ∧
      (recvs 0x14 → u.chan n 5 = [] → Completes (.msgRecvCipher n) s (stalls .recv)) ∧
      (recvs 0x18 → u.chan n c = m :: rest → earliest → Completes (.msgRecvAny n) s (takes c)) ∧
      (recvs 0x18 → none_ → Completes (.msgRecvAny n) s (stalls .recv))) ∧
    (resumed .send → sends → d ≠ n → u.coreOn d = true → (u.chan d n).length < 16 →
      Completes (.msgSendStallEnd n) s (goes (u.baseWrite n i) none sent)) ∧
    (resumed .send → sends → d ≠ n → u.coreOn d = true → 16 ≤ (u.chan d n).length →
      Completes (.msgSendStallEnd n) s (stalls .send)) ∧
    (resumed .recv → recvs (4 * d) → d ≠ n → u.chan n d = m :: rest → m.tick < u.slate →
      Completes (.msgRecvStallEnd n) s (takes d)) ∧
    (resumed .recv → recvs (4 * d) → d ≠ n → u.visibleMsgs n d = [] → Completes (.msgRecvStallEnd n) s (stalls .recv)) ∧
    (resumed .recv → recvs 0x14 → u.chan n 5 = m :: rest → Completes (.msgRecvStallEnd n) s (takes 5)) ∧
    (resumed .recv → recvs 0x18 → u.chan n c = m :: rest → earliest → Completes (.msgRecvStallEnd n) s (takes c)) ∧
    (resumed .wait → i.op = .wait → u.cueLine n = true ∨ u.msgLine n = true →
      Completes (.waitComplete n) s (goes [] none u)) ∧
    (resumed .wait → i.op = .wait → u.cueLine n = false → u.msgLine n = false → Completes (.waitComplete n) s (stalls .wait))

/-- For the request that ODX serves next, the command of its OP completes. One whose tag request ended FULL counts in
DROPCNT, one whose tag is wrong in AUTHCNT, a duplicate or replay in REPLAYCNT, with no answer. An accepted counter
moves the principal's window. A malformed request is answered MALFORMED; a role above MAXROLE, and of the open
Observer a role or OP that R481 bars, ACCESS. An undefined entry is answered NO_ENTRY or NO_SUB. READ answers the
value or descriptor, TOO_BIG or ACCESS; WRITE the outcome of the write, at once or when its cipher request is
published; READ-BLOCK captures values into the principal's buffer in DRAM and answers the octets from OFFSET, or
SEQUENCE, RANGE or MODE; WRITE-BLOCK keeps a segment in order in its buffer, writes the whole value at LAST, or ends
SEQUENCE or TYPE (where the buffers lie is log entry 73); SUBSCRIBE takes the lowest free of 64 entries, removes one
or ends FULL or RANGE; ACTION answers its result, or waits for firmware, or is BUSY. Reads wait for the end of the
tick, and a write of the LNK queue entry for the tick's events, and are carried out there (log entries 71, 76). A
write that ends ACCESS, TYPE or RANGE changes nothing. A verified WRITE, WRITE-BLOCK or ACTION over SPH is a wake
source. A published key write is answered before any request. -/
def Obligations.DictionaryRequestsAreVerifiedAndCarriedOut : Prop :=
  ∀ (r : OdpReq) (code : Nat) (s : State),
    let m := r.msg
    let op := m.getD 1 0
    let p := m.getD 2 0 / 16
    let role := m.getD 2 0 % 4
    let flags := m.getD 3 0
    let index := field m 8 2
    let sub := m.getD 10 0
    let count := m.getD 11 0
    let ofs := field m 12 4
    let len := field m 18 2
    let pay := (m.drop 24).take len
    let respMax := if field m 16 2 = 0 then 1452 else min 8192 (field m 16 2)
    let row : Nat → Instr := fun o => if o = 2 then .odpWrite else if o = 3 then .odpReadBlock else if o = 4 then .odpWriteBlock
      else if o = 5 then .odpSubscribe else if o = 6 then .odpAction else .odpRead
    let gone : State := { s with odx := { s.odx with reqs := s.odx.reqs.filter fun x => x != r } }
    let v := gone.cipCollect r.job
    let h := (v.rd (Reg.ODX_P_H p)).toNat
    let w := (v.rd (Reg.ODX_P_W p)).toNat
    let ctr := field m 4 4
    let passed := (v.wr (Reg.ODX_P_H p) (word (windowNext h w ctr).1)).wr (Reg.ODX_P_W p) (word (windowNext h w ctr).2)
    let runs := r.open_.isSome = true ∨ (code = 0 ∧ classify h w ctr = none)
    let accepted := if r.open_.isSome then gone else passed
    let u := accepted.inc Reg.ODX_REQCNT
    let bad := op = 0 ∨ 6 < op ∨ role = 3 ∨ m.getD 2 0 / 4 % 4 ≠ 0 ∨ (flags ≠ 0 ∧ ¬(flags = 1 ∧ op = 1) ∧ ¬(flags = 2 ∧ op = 4)) ∨
      (op ≠ 3 ∧ count ≠ 0) ∨ (op = 3 ∧ count = 0) ∨ (op ≠ 3 ∧ op ≠ 4 ∧ ofs ≠ 0) ∨ field m 20 4 ≠ 0 ∨
      (1 ≤ field m 16 2 ∧ field m 16 2 < 64) ∨ (op = 5 ∧ pay.getD 1 0 ≠ 0)
    let barred := if r.open_.isSome then role ≠ 0 ∨ (op ≠ 1 ∧ op ≠ 3 ∧ op ≠ 5) else s.rf (Reg.ODX_P_CFG p) 29 28 < role
    let does (P : State → Prop) : Prop := Completes (row op) s P
    let fin (y : State) : State :=
      if r.open_ = none ∧ r.peer.port = 0 ∧ (op = 2 ∨ op = 4 ∨ op = 6) then wakeFired y 8 none else y
    let now (y : State) (status : Nat) : Prop := does fun t => t = fin (answer y r status 0 0 [])
    let ends (y : State) : Prop :=
      if op = 1 ∨ op = 3 then (does fun t => t = u.odpLater (.read r)) ∧ (s.odx.late = [] → odpAnswers (u.odpLater (.read r)) = odpSay y)
      else if r.queues = true then (does fun t => t = fin (u.odpLater (.queue r))) ∧ (s.odx.late = [] → odpQueues (u.odpLater (.queue r)) = y)
      else does fun t => t = fin y
    let replies (y : State) (status detail total : Nat) (b : List Nat) : Prop := ends (answer y r status detail total b)
    let x := u.target index sub
    let missing : Option (Nat × Nat) := match x with | .none st det => some (st, det) | _ => none
    let descriptor : List Nat := match x with | .hw e => e.descriptor | .fw d => d.octets.take 40 | .none _ _ => []
    let may (rights bit : Nat) : Bool := rights.testBit (2 * role + bit)
    let readable := may x.rights 0 && x.ty != .action
    let subs := (List.range count).map fun k => sub + k
    let seg (b : List Nat) : List Nat := b.take (respMax - 40)
    let recent (tick : Nat) := s.slate ≤ tick + 320000000
    let mode0 := pay.getD 0 0
    let mine (b : OdpSub) : Bool := b.prin == p && b.peer.port == r.peer.port && b.peer.addr == r.peer.addr &&
      b.peer.udp == r.peer.udp && b.index == index && b.sub == sub
    let y : State := { u with odx := { u.odx with writes := u.odx.writes.del p } }
    let known : Option Nat := (u.odx.subs.find? fun b => mine b.2).map Prod.fst
    let old : Option OdpSub := known.bind u.odx.subs.find
    let written (d : DRes) (b : List Nat) : Prop :=
      (d.job = none → replies d.state d.status d.detail 0 b) ∧
      (∀ j, d.job = some j → ends { d.state with
        odx := { d.state.odx with waits := d.state.odx.waits ++ [{ job := j, peer := r.peer, msg := m, tick := s.slate }] } })
    (s.odxWait = none → s.odxHead = some (r, code) →
      (r.open_ = none → code = 3 → does fun t => t = v.inc Reg.ODX_DROPCNT) ∧
      (r.open_ = none → code ≠ 3 → code ≠ 0 → does fun t => t = v.inc Reg.ODX_AUTHCNT) ∧
      (r.open_ = none → code = 0 → classify h w ctr ≠ none → does fun t => t = v.inc Reg.ODX_REPLAYCNT) ∧
      (runs → bad → now accepted 0x0A) ∧
      (runs → ¬bad → barred → now u 0x03) ∧
      (runs → ¬bad → ¬barred →
        (op ≠ 3 → ∀ e, missing = some e → replies (if op = 4 then y else u) e.1 e.2 0 []) ∧
        (missing = none →
          let d := targetGet u x
          let z := targetWrite u x role pay
          (op = 1 → flags = 1 → if 40 + descriptor.length ≤ respMax then replies u 0 0 0 descriptor else replies u 0x08 0 0 []) ∧
          (op = 1 → flags = 0 → readable = false → replies u 0x03 0 0 []) ∧
          (op = 1 → flags = 0 → readable = true → d.status = 0 →
            if 40 + d.value.length ≤ respMax then replies d.state 0 0 0 d.value else replies d.state 0x08 0 0 []) ∧
          (op = 1 → flags = 0 → readable = true → d.status ≠ 0 → replies d.state d.status d.detail 0 []) ∧
          (op = 2 → written z [] ∧
            ((may x.rights 1 = false → z.status = 0x03) ∧ (z.status = 0x03 ∨ z.status = 0x04 ∨ z.status = 0x05 → z.state = u))) ∧
          (op = 4 → may x.rights 1 = false → replies y 0x03 0 0 []) ∧
          (op = 5 → pay.length = 12 → mode0 = 0 → ∀ k, known = some k →
            replies { u with odx := { u.odx with subs := u.odx.subs.del k } } 0 k 0 []) ∧
          (op = 5 → pay.length = 12 → 3 < mode0 → replies u 0x05 0 0 []) ∧
          (op = 5 → pay.length = 12 → 1 ≤ mode0 → mode0 ≤ 3 → readable = true → x.size ≤ 1412 →
            (mode0 = 2 ∨ (1 ≤ field pay 4 4 ∧ field pay 4 4 ≤ 86400000)) → 1 ≤ field pay 8 4 → field pay 8 4 ≤ 86400 →
            let new (k : Nat) : State := { u with odx := { u.odx with subs := u.odx.subs.put k {
              prin := p, role := role, peer := r.peer, index := index, sub := sub, mode := mode0, minint := field pay 2 2,
              period := field pay 4 4, lapse := s.slate + field pay 8 4 * 32000000, last := old.bind (·.last), lastAt := (old.map (·.lastAt)).getD 0 } } }
            let place := match known with | some k => some k | none => lowest 64 fun k => (u.odx.subs.find k).isNone
            (∀ k, place = some k → replies (new k) 0 k 0 []) ∧ (place = none → replies u 0x0E 0 0 []))) ∧
        (op = 6 → ∀ e, dictFind index sub = some e → ¬(0x5000 ≤ index ∧ index ≤ 0x5FFF) →
          let a := dictAction u e role p pay
          if a.status = 0 ∧ respMax < 40 + a.value.length then replies a.state 0x08 0 0 []
          else written a (if a.status = 0 then a.value else [])) ∧
        (op = 3 → ofs = 0 → ∀ ts, (blockTargets u index role subs).toOption = some ts →
          ∀ b, (captureAll u ts).2.toOption = some b →
            let c := (captureAll u ts).1
            let c : State := { c with odx := { c.odx with caps := c.odx.caps.del p } }
            let k := c.write 10 14 (c.odxBuffer (2 * p)) (ofOcts b)
            (c.memOn 14 = false → replies c 0 0 b.length (seg b)) ∧
            (c.memOn 14 = true → k.2 = false → replies k.1 0x0B 14 0 []) ∧
            (c.memOn 14 = true → k.2 = true → replies { k.1 with odx := { k.1.odx with caps := k.1.odx.caps.put p {
              index := index, sub := sub, count := count, tick := s.slate, len := b.length } } } 0 0 b.length (seg b))) ∧
        (op = 3 → ofs ≠ 0 → (blockTargets u index role subs).toOption.isSome = true →
          (u.memOn 14 = false → replies u 0x0D u.mode 0 []) ∧
          (u.memOn 14 = true → u.odx.caps.find p = none → replies u 0x09 0 0 []) ∧
          (u.memOn 14 = true → ∀ c, u.odx.caps.find p = some c →
            let fits := c.index = index ∧ c.sub = sub ∧ c.count = count ∧ recent c.tick
            (¬fits → replies u 0x09 0 0 []) ∧
            let o := u.odxBuffer (2 * p) + ofs
            let n := min (c.len - ofs) (respMax - 40)
            (fits → c.len ≤ ofs → replies u 0x05 0 0 []) ∧
            (fits → ofs < c.len → ∀ g, u.peek 14 o n = some g → replies (u.readReport 10 14 o n) 0 0 c.len (octs g)) ∧
            (fits → ofs < c.len → u.peek 14 o n = none → replies (u.readReport 10 14 o n) 0x0B 14 0 []))) ∧
        (op = 4 → missing = none → may x.rights 1 = true → x.ty ≠ .action →
          (u.memOn 14 = false → replies y 0x0D u.mode 0 []) ∧
          (u.memOn 14 = true →
            let o := y.blockBuffer x p
            let takes (n : Nat) : Prop :=
              let len := n + pay.length
              let k := y.write 10 14 (o + n) (ofOcts pay)
              let whole := k.1.readReport 10 14 o len
              (x.size < len → replies y 0x04 0 0 []) ∧
              (len ≤ x.size → k.2 = false → replies k.1 0x0B 14 0 []) ∧
              (len ≤ x.size → k.2 = true → flags = 0 → replies { k.1 with odx := { k.1.odx with writes := k.1.odx.writes.put p {
                index := index, sub := sub, tick := s.slate, len := len } } } 0 0 0 []) ∧
              (len ≤ x.size → k.2 = true → flags = 2 → ∀ g, k.1.peek 14 o len = some g → written (targetWrite whole x role (octs g)) []) ∧
              (len ≤ x.size → k.2 = true → flags = 2 → k.1.peek 14 o len = none → replies whole 0x0B 14 0 [])
            (ofs = 0 → takes 0) ∧
            (ofs ≠ 0 → u.odx.writes.find p = none → replies y 0x09 0 0 []) ∧
            (ofs ≠ 0 → ∀ w, u.odx.writes.find p = some w →
              let next := w.index = index ∧ w.sub = sub ∧ w.len = ofs ∧ recent w.tick
              (next → takes ofs) ∧ (¬next → replies y 0x09 0 0 [])))) ∧
        (op = 6 → 0x5000 ≤ index → index ≤ 0x5FFF → u.fwTableBad = false → ∀ d, u.fwFind index sub = some d → may d.rights 1 = true → d.ty = .action →
          (u.odx.fw ≠ none → replies u 0x07 0 0 []) ∧
          (u.odx.fw = none → d.size < pay.length → replies u 0x04 0 0 []) ∧
          (u.odx.fw = none → pay.length ≤ d.size → (u.write 10 5 d.at_ (ofOcts pay)).2 = true → does fun t =>
            let y := (u.write 10 5 d.at_ (ofOcts pay)).1
            t = fin { y with odx := { y.odx with fw := some {
              job := 0, peer := r.peer, msg := m, tick := s.slate, value := [d.addr, d.size, pay.length], desc := d.num,
              till := s.slate + s.rf Reg.ODX_FWTO 15 0 * 32000 } } })))) ∧
    (∀ wait, s.odxWait = some wait →
      let y := s.cipCollect wait.1.job
      let y : State := { y with odx := { y.odx with waits := y.odx.waits.filter fun e => e != wait.1 } }
      let y := if wait.2 = 0 then dictDirty y else y
      Completes (row (odpOp wait.1.msg)) s fun t => t = odpRespond y wait.1.peer (some (odpPrin wait.1.msg)) wait.1.msg wait.1.tick
        (if wait.2 = 0 then 0 else 0x06) wait.2 0 [])

/-- An answer carries VER 1, the OP plus 0x80, status, counter, entry, DETAIL, OFFSET, tick, TOTAL and payload of
R477; for the open Observer it waits without a tag, for a principal its tag request joins queue 6, or it is dropped
and counted where that is full. ODP_RESPONSE_SEND sends the answer due with its eight tag octets on its port: to the
SPH queue of eight, or as a UDP datagram from port 47650 to the source of its request; with no room, a port that is
down (log entry 78), or a failed tag it counts in DROPCNT. A due sample of a readable entry forms a notification with
the counter one higher and is remembered; one that cannot be read (log entry 72), or finds queue 6 full, counts in
NSKIP; a principal whose counter is spent loses its subscriptions. At its tick a subscription lapses. A due save
captures the persistent values and joins the operations of QSPI0; its good end replaces the copy that is not current
with the sequence one higher, or erases both; a bad one, or one too large for its store area (log entry 74), sets
PSFAIL. FWDONE answers the pending ACTION with the result at its address, and its timeout answers FW_TIMEOUT. -/
def Obligations.AnswersNotificationsAndSavesOfTheDictionary : Prop :=
  ∀ (peer : OdpPeer) (wt : OdpWait) (st det tot tick k p : Nat) (m b : List Nat) (v : Word) (s : State),
    let a := odpRespond s peer none m tick st det tot b
    let c := odpRespond s peer (some p) m tick st det tot b
    let out := (a.odx.outs.getLast?.map (·.msg)).getD []
    let due := s.odpOutDue
    let tag (o : OdpOut) : Option (List Nat) :=
      if o.job = none then some (List.replicate 8 0)
      else (s.cipDone (o.job.getD 0)).bind fun d => if d.code = 0 then some (d.give.take 8) else none
    let left (o : OdpOut) : State :=
      let y : State := { s with odx := { s.odx with outs := s.odx.outs.filter fun e => e != o } }
      if o.job = none then y else y.cipCollect (o.job.getD 0)
    let sends (P : State → Prop) : Prop := Completes .odpResponseSend s P
    (a = { s with odx := { s.odx with outs := s.odx.outs ++ [{ job := none, peer := peer, msg := out }] } } ∧
      out.length = 32 + b.length ∧ field out 0 1 = 1 ∧ field out 1 1 = (odpOp m + 0x80) % 256 ∧ out.getD 2 0 = m.getD 2 0 ∧
      out.getD 3 0 = st ∧ field out 4 4 = odpCtr m % 2 ^ 32 ∧ field out 8 2 = odpIndex m % 2 ^ 16 ∧ out.getD 10 0 = odpSub m ∧
      out.getD 11 0 = det % 256 ∧ field out 12 4 = odpOffset m % 2 ^ 32 ∧ field out 16 8 = tick % 2 ^ 64 ∧
      field out 24 4 = tot % 2 ^ 32 ∧ field out 28 2 = b.length % 2 ^ 16 ∧ out.drop 32 = b) ∧
    (s.queueFull 6 = true → c = (s.cipFull 6).inc Reg.ODX_DROPCNT) ∧
    (s.queueFull 6 = false → c = { s with regs := c.regs, cip := c.cip, odx := c.odx } ∧ KeepsRegs [Reg.CIP_QSTAT 6] s c ∧
      c.odx.outs = s.odx.outs ++ [{ job := some s.odx.seq, peer := peer, msg := out }] ∧ c.odx.seq = s.odx.seq + 1) ∧
    (∀ o, due = some o → tag o = none → sends fun t => t = (left o).inc Reg.ODX_DROPCNT) ∧
    (∀ o, due = some o → ∀ g, tag o = some g → o.peer.port = 0 → sends fun t =>
      t = if s.host.sph.length < 8 then { left o with host := { s.host with sph := s.host.sph ++ [o.msg ++ g] } }
        else (left o).inc Reg.ODX_DROPCNT) ∧
    (∀ o, due = some o → ∀ g, tag o = some g → ∀ j, j < 3 → o.peer.port = j + 1 → sends fun t =>
      (s.portUp j = false → t = (left o).inc Reg.ODX_DROPCNT) ∧
      (s.portUp j = true → t = { left o with host := t.host, regs := t.regs, raised := t.raised } ∧ KeepsRegs [Reg.ETH_TXCNT j] s t ∧
        t.rd (Reg.ETH_TXCNT j) = s.rd (Reg.ETH_TXCNT j) + 1 ∧ (t.port j).sent = mkFrame o.peer.mac (s.portMac j) o.peer.vlan
          (if o.peer.own.length = 4 then 0x0800 else 0x86DD) (udpPacket o.peer.own o.peer.addr 47650 o.peer.udp (o.msg ++ g)))) ∧
    (k < 64 → ∀ x, s.odx.subs.find k = some x →
      let d := targetGet s (s.target x.index x.sub)
      let n := (s.rd (Reg.ODX_P_NCTR x.prin)).toNat + 1
      let periodic := x.mode ≠ 2 ∧ s.passes (x.period * 32000) = true
      let changed := x.mode ≠ 1 ∧ s.passes 32000 = true ∧ d.status = 0 ∧ x.last ≠ some d.value ∧
        (x.last = none ∨ x.lastAt + x.minint * 32000 ≤ s.slate)
      let full := s.openObs x.prin = false ∧ s.queueFull 6 = true
      let does (P : State → Prop) : Prop := Completes (.notificationSample k) s P
      (¬periodic → ¬changed → does fun t => t = s) ∧
      (periodic ∨ changed → n = 2 ^ 32 → does fun t =>
        t = { s with odx := { s.odx with subs := s.odx.subs.filter fun e => e.2.prin != x.prin } }) ∧
      (periodic → n < 2 ^ 32 → d.status ≠ 0 → does fun t => t = d.state.inc Reg.ODX_NSKIP) ∧
      (periodic ∨ changed → d.status = 0 → d.state = s → n < 2 ^ 32 → full → does fun t => t = (s.cipFull 6).inc Reg.ODX_NSKIP) ∧
      (periodic ∨ changed → d.status = 0 → d.state = s → ¬full → n < 2 ^ 32 - 1 → does fun t =>
        t = { s with regs := t.regs, raised := t.raised, cip := t.cip, odx := t.odx } ∧ t.rd (Reg.ODX_P_NCTR x.prin) = word n ∧
        KeepsRegs [Reg.ODX_P_NCTR x.prin, Reg.CIP_QSTAT 6] s t ∧
        t.odx.subs = s.odx.subs.put k { x with last := some d.value, lastAt := s.slate } ∧
        ∃ o, t.odx.outs = s.odx.outs ++ [o] ∧ o.peer = x.peer ∧ (o.job = none ↔ s.openObs x.prin = true) ∧
          field o.msg 0 2 = 1 + 256 * 0x86 ∧ field o.msg 4 4 = n ∧ field o.msg 8 2 = x.index % 2 ^ 16 ∧
          o.msg.getD 10 0 = x.sub ∧ o.msg.getD 11 0 = k ∧ field o.msg 16 8 = s.slateNow % 2 ^ 64 ∧ o.msg.drop 32 = d.value)) ∧
    (k < 64 → ∀ x, s.odx.subs.find k = some x → Completes (.subscriptionLapse k) s fun t =>
      t = if x.lapse ≤ s.slate then { s with odx := { s.odx with subs := s.odx.subs.del k } } else s) ∧
    (s.mainOn = true → s.odx.saving = none →
      let starts (t : State) : Prop := t = { s with
        odx := { s.odx with saving := some (if s.odx.eraseReq then none else some s.storeRecs), saveReq := false, dirtyAt := none },
        upd := { s.upd with ops := s.upd.ops ++ [.save] } }
      (∀ e, s.odx.dirtyAt = some e → e + s.rf Reg.ODX_PSTORE 15 0 * 32000 ≤ s.slate → Completes .pstoreSaveDelay s starts) ∧
      (s.odx.saveReq = true → Completes .pstoreSaveCmd s starts)) ∧
    (s.upd.ops.head? = some .save → ∀ w, s.odx.saving = some w →
      let y : State := { s with
        upd := { s.upd with ops := s.upd.ops.drop 1 },
        odx := { s.odx with saving := none } }
      (Completes (.pstoreSaveComplete false) s fun t => t = y.wb Reg.ODX_STAT 2 true) ∧
      (w = none → Completes (.pstoreSaveComplete true) s fun t =>
        t = { y with odx := { y.odx with copyA := none, copyB := none, eraseReq := false } }) ∧
      (∀ l, w = some l → 524288 < (StoreCopy.image { seq := ((s.storeCopy.map fun e => e.seq).getD 0) + 1, recs := l }).length →
        Completes (.pstoreSaveComplete true) s fun t => t = y.wb Reg.ODX_STAT 2 true) ∧
      (∀ l, w = some l → (StoreCopy.image { seq := ((s.storeCopy.map fun e => e.seq).getD 0) + 1, recs := l }).length ≤ 524288 →
        Completes (.pstoreSaveComplete true) s fun t =>
        t = { y with odx := t.odx } ∧ t.odx = { y.odx with copyA := t.odx.copyA, copyB := t.odx.copyB } ∧
        (t.odx.copyA = s.odx.copyA ∨ t.odx.copyB = s.odx.copyB) ∧
        (s.storeCopy ≠ none → t.odx.copyA = s.storeCopy ∨ t.odx.copyB = s.storeCopy) ∧
        t.storeCopy = some { seq := ((s.storeCopy.map fun e => e.seq).getD 0) + 1, recs := l })) ∧
    (∀ w, s.odx.fw = some w →
      let value := w.value.getD 0 0 - 0x10000000
      let size := min (fld v 13 0) (w.value.getD 1 0)
      (w.till ≤ s.slate → Completes .fwActionTimeout s fun t => t = fwEnd (s.wb Reg.ODX_STAT 3 true) w 0x0C 0 []) ∧
      (bit v 31 = true → ∀ g, (s.plainWrite Reg.ODX_FWDONE v).peek 5 value size = some g → Completes (.fwActionDone v) s fun t =>
        let z := (s.plainWrite Reg.ODX_FWDONE v).readReport 10 5 value size
        t = if odpRespMax w.msg < 40 + size then fwEnd z w 0x08 0 [] else fwEnd z w (if fld v 23 16 = 0 then 0 else 0x06) (fld v 23 16) (octs g))) ∧
    fwEnd s wt st det b = odpRespond { s with odx := { s.odx with fw := none } } wt.peer (some (odpPrin wt.msg)) wt.msg wt.tick st det 0 b ∧
    ((∀ w, s.odx.fw = some w → s.slate < w.till) → Completes .fwActionTimeout s fun t => t = s)

/-- At a port with link: a frame with a bad FCS, too short, too long or of another VID counts in DROPCNT; one not for
the port, or a pause frame, is ignored, uncounted (log entry 78); any other counts in RXCNT, and an ARP request or
Neighbour Solicitation for a port address gets its reply (its octets: log entry 77), an ODP datagram reaches ODX, and
another goes to the owned receive descriptor with its octets, cut to the buffer (log entry 78), length, and for a PTP
message stamp flag and stamp (the sign of LAT: log entry 79), or is dropped where there is none. A transmit
descriptor's frame is sent, with the VLAN tag of the port, the one-step timestamp where asked, and the stamp of an
event message; the descriptor returns to firmware, with the error flag where its buffer cannot be read or the frame is
too long. Without link nothing happens. A link change sets LINK, SPEED and ANFAIL (half duplex only, a speed that CTL
does not give the port, or 1,000 Mbit/s on ETH2 whose bank sensed 3.3 V), and its fall discards and counts the closed
batches. A batch closes at its age or at FLUSH with the header of R501 and the SEQ that its reel gave it when it
opened; without link it is counted as dropped. BATCH_SEND sends the batch that closed first (ties to the lower reel)
as UDP from port 47650 (log entry 78) and counts it, or discards it where its tag failed. -/
def Obligations.EthernetFramesAndBatchesAreHandled : Prop :=
  ∀ (k n stamp speed cnt : Nat) (f : List Nat) (fcs up half : Bool) (s : State), k < 3 → n < 32 →
    let vid := frameVid f
    let most := (if s.rb (Reg.ETH_CTL k) 30 then 9018 else 1518) + (if vid.isSome then 4 else 0)
    let own := if s.rb (Reg.ETH_CTL k) 29 then some (s.rf (Reg.ETH_CTL k) 27 16) else none
    let bad := fcs = false ∨ f.length + 4 < 64 ∨ most < f.length + 4 ∨ (vid ≠ none ∧ vid ≠ own)
    let p := s.port k
    let wire (g : List Nat) : List Nat :=
      let g := match own with | some v => g.take 12 ++ [0x81, 0] ++ octsBE 2 v ++ g.drop (if (frameVid g).isSome then 16 else 12) | none => g
      g ++ List.replicate (60 - g.length) 0
    let drop (x t : State) : Prop := t = { x with regs := t.regs, raised := t.raised } ∧ t.rd (Reg.ETH_DROPCNT k) = x.rd (Reg.ETH_DROPCNT k) + 1 ∧
      KeepsRegs [Reg.ETH_DROPCNT k] x t
    let rx (P : State → Prop) : Prop := Completes (.ethFrameReceive k f fcs stamp) s P
    let got := s.inc (Reg.ETH_RXCNT k)
    let sent (x : State) (g : List Nat) (t : State) : Prop := t = { x with host := t.host, regs := t.regs, raised := t.raised } ∧
      t.port k = { x.port k with sent := wire g } ∧ KeepsMap k x.host.eth t.host.eth ∧ t.host = { x.host with eth := t.host.eth } ∧
      t.rd (Reg.ETH_TXCNT k) = x.rd (Reg.ETH_TXCNT k) + 1 ∧ KeepsRegs [Reg.ETH_TXCNT k] x t
    let ours := s.portUp k = true ∧ ¬bad ∧ frameType f ≠ 0x8808 ∧ s.frameOurs k f = true
    let quiet := s.arpReply k f = none ∧ s.ndReply k f = none
    let rxn := s.rf (Reg.ETH_RINGLEN k) 15 0
    let txn := s.rf (Reg.ETH_RINGLEN k) 31 16
    let arp := frameBody f
    let open_ := p.open_.find n
    let tagged := s.rb (Reg.ETH_BCFG k) 30
    let image (reel why : Nat) (b : Batch) : List Nat :=
      [0x4C, 0x44, 0x52, 0x42, 1, reel, b2n tagged + 2 ^ why, 0] ++ le 4 b.seq ++ le 2 b.pkts ++ [0, 0] ++
        le 8 s.slate ++ b.words.flatMap fun w => le 4 w.toNat
    let v6 := s.rb (Reg.ETH_BCFG k) 29
    let to_ := if v6 then (List.range 4).flatMap fun i => octsBE 4 (s.rd (Reg.ETH_BDIP6 k i)).toNat
      else octsBE 4 (s.rd (Reg.ETH_BDIP4 k)).toNat
    let from_ := if v6 then (if s.portIp6 k = List.replicate 16 0 then linkLocal (s.portMac k) else s.portIp6 k) else s.portIp4 k
    let leaves (x : State) (b : ClosedBatch) (tag : List Nat) (t : State) : Prop :=
      t = { x with host := t.host, regs := t.regs, raised := t.raised } ∧
      t.port k = { x.port k with
        closed := p.closed.filter fun e => e != b
        sent := wire (mkFrame (s.macAt (Reg.ETH_BDMACLO k) (Reg.ETH_BDMACHI k)) (s.portMac k) own (if from_.length = 4 then 0x0800 else 0x86DD)
          (udpPacket from_ to_ 47650 (s.rf (Reg.ETH_BDST k) 31 16) (b.octets ++ tag))) } ∧
      t.rd (Reg.ETH_BATCHCNT k) = s.rd (Reg.ETH_BATCHCNT k) + 1 ∧ t.rd (Reg.ETH_TXCNT k) = s.rd (Reg.ETH_TXCNT k) + 1 ∧
      KeepsRegs [Reg.ETH_BATCHCNT k, Reg.ETH_TXCNT k] s t
    (s.portUp k = false → rx fun t => t = s) ∧
    (s.portUp k = true → bad → rx (drop s)) ∧
    (s.portUp k = true → ¬bad → frameType f = 0x8808 ∨ s.frameOurs k f = false → rx fun t => t = s) ∧
    (ours → ∀ g, s.arpReply k f = some g → rx (sent got g) ∧ frameType f = 0x0806 ∧ field arp 6 2 = 0x0100 ∧
      (arp.drop 24).take 4 = s.portIp4 k ∧ frameType g = 0x0806 ∧ field (frameBody g) 6 2 = 0x0200 ∧
      ((frameBody g).drop 8).take 10 = s.portMac k ++ s.portIp4 k) ∧
    (ours → s.arpReply k f = none → ∀ g, s.ndReply k f = some g → rx (sent got g)) ∧
    (ours → quiet → ∀ d, s.odpDatagram k f = some d → rx fun t => t = odpArrive got d.1 d.2) ∧
    (ours → quiet → s.odpDatagram k f = none →
      (rxn = 0 ∨ s.ringDesc (s.rd (Reg.ETH_RXRING k)).toNat p.rxAt = none → rx (drop got)) ∧
      (rxn ≠ 0 → ∀ d, s.ringDesc (s.rd (Reg.ETH_RXRING k)).toNat p.rxAt = some d →
        let body := f.take (field d.2 4 2)
        let a := field d.2 0 4 - 0x10000000
        0x10000000 ≤ field d.2 0 4 → a + body.length ≤ 0x200000 → a + body.length ≤ d.1 ∨ d.1 + 16 ≤ a → rx fun t =>
          t = { got with regs := t.regs, raised := t.raised, mem := t.mem, ecc := t.ecc, undef := t.undef, cue := t.cue, ueAt := t.ueAt, host := t.host } ∧
          t.port k = { p with rxAt := if p.rxAt + 1 < rxn then p.rxAt + 1 else 0 } ∧
          (s.writable 5 a body.length = true → ∀ o ∈ List.range body.length, t.readByte 5 (a + o) = BitVec.ofNat 8 (body.getD o 0)) ∧
          (let e := (List.range 16).map fun o => (t.readByte 5 (d.1 + o)).toNat
          field e 0 4 = field d.2 0 4 ∧ field e 4 2 = body.length ∧
          field e 6 2 = (if (ptpMessage f).isSome then 2 else 0) + (if field d.2 4 2 < f.length then 8 else 0) ∧
          field e 8 8 = if (ptpMessage f).isSome then (stamp - s.rf (Reg.ETH_LAT k) 15 0) % 2 ^ 64 else 0))) ∧
    (s.portUp k = false ∨ txn = 0 ∨ s.ringDesc (s.rd (Reg.ETH_TXRING k)).toNat p.txAt = none →
      Completes (.ethFrameTransmit k stamp) s fun t => t = s) ∧
    (s.portUp k = true → txn ≠ 0 → ∀ d, s.ringDesc (s.rd (Reg.ETH_TXRING k)).toNat p.txAt = some d →
      0x10000000 ≤ field d.2 0 4 → field d.2 0 4 + field d.2 4 2 ≤ 0x10200000 →
      let data := s.peek 5 (field d.2 0 4 - 0x10000000) (field d.2 4 2)
      let next := if p.txAt + 1 < txn then p.txAt + 1 else 0
      let entry (t : State) : List Nat := (List.range 16).map fun o => (t.readByte 5 (d.1 + o)).toNat
      (data = none ∨ s.frameLong k (s.tagged k (octs (data.getD []))) = true → Completes (.ethFrameTransmit k stamp) s fun t =>
        t.port k = { p with txAt := next } ∧ t.rd (Reg.ETH_TXCNT k) = s.rd (Reg.ETH_TXCNT k) ∧ field (entry t) 6 2 = 8 ∧ field (entry t) 8 8 = 0) ∧
      (∀ b, data = some b → s.frameLong k (s.tagged k (octs b)) = false → Completes (.ethFrameTransmit k stamp) s fun t =>
          let raw := octs b
          let at_ := stamp + s.rf (Reg.ETH_LAT k) 31 16
          let g := if field d.2 6 2 / 4 % 2 = 1 then oneStep raw at_ else raw
          let e := entry t
          (t.port k).sent = wire g ∧ (t.port k).txAt = next ∧
          t.rd (Reg.ETH_TXCNT k) = s.rd (Reg.ETH_TXCNT k) + 1 ∧ field e 6 2 = (if ptpEvent raw then 2 else 0) ∧
          field e 8 8 = if ptpEvent raw then at_ % 2 ^ 64 else 0)) ∧
    (s.mainOn = true → s.rb (Reg.ETH_CTL k) 31 = true → Completes (.ethLinkChange k up speed half) s fun t =>
      let fixed := s.rf (Reg.ETH_CTL k) 1 0
      let runs := 1 ≤ speed ∧ speed ≤ 3 ∧ (k = 2 ∨ s.rf (Reg.ETH_CTL k) 5 4 = 1 ∨ speed = 3) ∧ (fixed = 0 ∨ fixed = speed)
      let slow := (up = true ∧ ¬runs) ∨ k = 2 ∧ s.sys.volt33.testBit 3 = true ∧ up = true ∧ speed % 4 = 3
      let on := up = true ∧ half = false ∧ ¬slow
      t = { s with regs := t.regs, raised := t.raised, host := t.host } ∧ KeepsRegs [Reg.ETH_STAT k, Reg.ETH_DROPCNT k] s t ∧
      (t.rb (Reg.ETH_STAT k) 0 = true ↔ on) ∧ t.rf (Reg.ETH_STAT k) 2 1 = (if on then speed else 0) ∧
      (t.rb (Reg.ETH_STAT k) 3 = true ↔ half = true ∨ slow ∨ s.rb (Reg.ETH_STAT k) 3 = true) ∧
      t.port k = { p with closed := if on then p.closed else [] } ∧
      t.rd (Reg.ETH_DROPCNT k) = s.rd (Reg.ETH_DROPCNT k) + word (if on then 0 else p.closed.length)) ∧
    (open_ = none → Completes (.batchAgeExpiry k n) s fun t => t = s) ∧
    (∀ b, open_ = some b →
      let due := b.since + s.rf (Reg.ETH_BCFG k) 15 0 * 32000 ≤ s.slate
      let does (P : State → Prop) : Prop := Completes (.batchAgeExpiry k n) s P
      let seq (t : State) : Prop := t.reels = s.reels ∧ (t.port k).open_.find n = none
      (¬due → does fun t => t = s) ∧
      (due → s.rb (Reg.ETH_STAT k) 0 = false → does fun t => seq t ∧ t.rd (Reg.ETH_DROPCNT k) = s.rd (Reg.ETH_DROPCNT k) + 1 ∧
        (t.port k).closed = p.closed) ∧
      (due → s.rb (Reg.ETH_STAT k) 0 = true → tagged = false → does fun t => seq t ∧ t.regs = s.regs ∧
        (t.port k).closed = p.closed ++ [{ reel := n, close := s.slate, octets := image n 2 b, job := none }]) ∧
      (due → s.rb (Reg.ETH_STAT k) 0 = true → tagged = true → s.queueFull 6 = false → does fun t => seq t ∧
        (t.port k).closed = p.closed ++ [{ reel := n, close := s.slate, octets := image n 2 b, job := some s.odx.seq }]) ∧
      (due → s.rb (Reg.ETH_STAT k) 0 = true → tagged = true → s.queueFull 6 = true → does fun t => seq t ∧
        t.rd (Reg.ETH_DROPCNT k) = s.rd (Reg.ETH_DROPCNT k) + 1 ∧ (t.port k).closed = p.closed)) ∧
    (open_ = none → SMap.risingFrom 0 p.open_ = true → ∀ x, takePacket s n = some x → x.2 ≠ [] →
      24 + 4 * x.2.length + 8 ≤ s.rf (Reg.ETH_BDST k) 13 0 →
      let t := batchTake k n 1 s
      (t.port k).open_.find n = some { seq := (x.1.reel n).seq, words := x.2, pkts := 1, since := x.1.slate } ∧
      (t.reel n).seq = ((x.1.reel n).seq + 1) % 2 ^ 32) ∧
    (s.mainOn = true → SMap.risingFrom 0 p.open_ = true → Completes (.ethFlush k cnt) s fun t =>
      (t.port k).open_ = [] ∧ t.rd (Reg.CUE_CNT (214 + k)) = s.rd (Reg.CUE_CNT (214 + k)) + word cnt ∧
      (s.rb (Reg.ETH_STAT k) 0 = true → tagged = false → (t.port k).closed = p.closed ++ p.open_.map fun e => {
        reel := e.1, close := s.slate, octets := image e.1 3 e.2, job := none }) ∧
      (s.rb (Reg.ETH_STAT k) 0 = false → (t.port k).closed = p.closed ∧
        t.rd (Reg.ETH_DROPCNT k) = s.rd (Reg.ETH_DROPCNT k) + word p.open_.length)) ∧
    (s.portUp k = false ∨ p.closed = [] → Completes (.batchSend k) s fun t => t = s) ∧
    (s.portUp k = true → ∀ b, s.batchNext k = some b →
      b ∈ p.closed ∧ (∀ e ∈ p.closed, b.close < e.close ∨ (b.close = e.close ∧ b.reel ≤ e.reel)) ∧
      (b.job = none → Completes (.batchSend k) s (leaves s b [])) ∧
      (∀ j, b.job = some j → ∀ d, s.cipDone j = some d →
        (d.code = 0 → Completes (.batchSend k) s (leaves (s.cipCollect j) b (d.give.take 8))) ∧
        (d.code ≠ 0 → Completes (.batchSend k) s fun t => (t.port k).closed = (p.closed.filter fun e => e != b) ∧
          t.rd (Reg.ETH_DROPCNT k) = s.rd (Reg.ETH_DROPCNT k) + 1 ∧ KeepsRegs [Reg.ETH_DROPCNT k] s t)))

/-- While the always-on domain is powered, each returns the status octet first: WRITE-FRAME followed by exactly LEN
octets counts in FRMCNT and reaches ODX, and by any other number sets FRAMEERR; READ-FRAME returns the length and
octets of the oldest waiting answer and removes it where all of it was clocked out, and zeros where none waits;
READ-REEL, at its place in its tick (log entry 98), of a reel not served returns zero words, of a served one the words
of whole packets, which stay in the reel where not all were clocked out; STATUS returns SPH.STAT with BUSY 1 (log
entry 80); an unknown command returns zeros and sets FRAMEERR; an abandoned transaction, where SPH.TOUT ticks have
passed since the last one ended (log entry 80), sets ABANDONED, counts in ABNCNT and fires its cue. While the console
is enabled: a received octet joins the FIFO of 64 or is lost with OVR, FRAME marks a missing stop bit, BREAK a long
low; a transmitted octet leaves the FIFO at its head. A write of UAT.DATA joins the transmit FIFO where it has room,
and a read pops the oldest received octet. Errors count violations of classes 3 and 4. -/
def Obligations.SpiTransactionsAndTheConsoleMoveTheirOctets : Prop :=
  ∀ (n maxw len clocked o : Nat) (octets : List Nat) (stop : Bool) (v : Word) (s : State),
    let back (b : List Nat) (x : State) : State := { x with host := { x.host with miso := s.sphStatus :: b, sphAt := s.slate } }
    let read := lateReads [.readReel n maxw clocked] s
    let fill (b : List Nat) : List Nat := (b ++ List.replicate (clocked - b.length) 0).take clocked
    let err (bits : List Nat) (reg cls : Nat) (x t : State) : Prop := t = { x with regs := t.regs, raised := t.raised } ∧ GivesBits reg bits true x t ∧
      t.rd (Reg.SUP_VIOL cls) = x.rd (Reg.SUP_VIOL cls) + (if s.aonOn then 1 else 0) ∧ KeepsRegs [reg, Reg.SUP_VIOL cls] x t
    let served := s.mainOn = true ∧ n < 32 ∧ s.reelOn n = true ∧ s.reelCons n = 4
    let pops := sphPackets n (s.reel n).pkts s maxw []
    let words := le 2 pops.2.length ++ pops.2.flatMap fun w => le 4 w.toNat
    let rx := s.host.uatRx
    let tx := s.host.uatTx
    (s.aonOn = true →
      (octets.length = len → Completes (.sphWriteFrame len octets) s fun t =>
        t = odpArrive ((back (List.replicate (2 + octets.length) 0) s).inc Reg.SPH_FRMCNT) { port := 0 } octets) ∧
      (octets.length ≠ len → Completes (.sphWriteFrame len octets) s fun t =>
        err [3] Reg.SPH_STAT 4 (back (List.replicate (2 + octets.length) 0) s) t) ∧
      (s.host.sph = [] → Completes (.sphReadFrame clocked) s fun t => t = back (List.replicate clocked 0) s) ∧
      (∀ m, s.host.sph.head? = some m → Completes (.sphReadFrame clocked) s fun t =>
        t = back (fill (le 2 m.length ++ m)) (if 2 + m.length ≤ clocked then
          { s with host := { s.host with sph := s.host.sph.drop 1 } } else s)) ∧
      (Completes (.sphReadReel n maxw clocked) s fun t => t = { s with late := s.late ++ [.readReel n maxw clocked] }) ∧
      (¬served → read = back (List.replicate clocked 0) s) ∧
      (served → pops.2.length ≤ maxw ∧ read = back (fill words) (if 2 + 4 * pops.2.length ≤ clocked then pops.1 else s)) ∧
      (served → ∀ p, takePacket s n = some p → maxw < p.2.length → pops.2 = []) ∧
      (served → ∀ p, takePacket s n = some p → p.2.length ≤ maxw → p.2 = pops.2.take p.2.length) ∧
      (Completes .sphStatus s fun t => t = back (le 4 (s.rd Reg.SPH_STAT ||| if s.host.sph = [] then 1 else 3).toNat) s) ∧
      s.sphStatus = (if s.host.sph = [] then 0 else 1) + (if s.sphReelReady then 2 else 0) + (if s.rb Reg.SPH_STAT 2 then 4 else 0) +
        (if s.rb Reg.SPH_STAT 3 then 8 else 0) ∧
      (Completes (.sphUnknownCommand clocked) s fun t => err [3] Reg.SPH_STAT 4 (back (List.replicate clocked 0) s) t) ∧
      (s.slate < s.host.sphAt + (s.rd Reg.SPH_TOUT).toNat → Completes .sphAbandoned s fun t => t = s) ∧
      (s.host.sphAt + (s.rd Reg.SPH_TOUT).toNat ≤ s.slate → Completes .sphAbandoned s fun t =>
        t = { s with regs := t.regs, raised := t.raised, cue := t.cue, host := { s.host with sphAt := s.slate } } ∧ Fires [13] 1 s t ∧
        GivesBits Reg.SPH_STAT [2] true s t ∧ t.rd Reg.SPH_ABNCNT = s.rd Reg.SPH_ABNCNT + 1 ∧
        t.rd (Reg.SUP_VIOL 3) = s.rd (Reg.SUP_VIOL 3) + 1 ∧ KeepsRegs [Reg.SPH_STAT, Reg.SPH_ABNCNT, Reg.SUP_VIOL 3] s t)) ∧
    (s.aonOn = true → s.rb Reg.UAT_CTL 31 = true →
      (stop = true → rx.length < 64 → Completes (.uartReceive o stop) s fun t =>
        t = { s with host := { s.host with uatRx := rx ++ [o % 256] } }) ∧
      (stop = true → 64 ≤ rx.length → Completes (.uartReceive o stop) s fun t =>
        t = { s with regs := t.regs, raised := t.raised } ∧ GivesBits Reg.UAT_STAT [0] true s t ∧ KeepsRegs [Reg.UAT_STAT] s t) ∧
      (stop = false → Completes (.uartReceive o stop) s fun t =>
        t.host = (if rx.length < 64 then { s.host with uatRx := rx ++ [o % 256] } else s.host) ∧
        GivesBits Reg.UAT_STAT (if rx.length < 64 then [1] else [0, 1]) true s t ∧
        t.rd (Reg.SUP_VIOL 4) = s.rd (Reg.SUP_VIOL 4) + 1 ∧ KeepsRegs [Reg.UAT_STAT, Reg.SUP_VIOL 4] s t) ∧
      (Completes .uartBreak s (err [2] Reg.UAT_STAT 3 s)) ∧
      (∀ c, tx.head? = some c → Completes .uartTransmit s fun t =>
        t = { s with host := { s.host with uatTx := tx.drop 1, uatSent := some c } })) ∧
    (s.aonOn = true → Completes (.uartTxWrite v) s fun t =>
      t = if tx.length < 64 then { s with host := { s.host with uatTx := tx ++ [v.toNat % 256] } } else s) ∧
    (s.aonOn = true → ∀ c, rx.head? = some c → Completes .uartRxPop s fun t =>
      t = { s with host := { s.host with uatRx := rx.drop 1 }, rdata := word c }) ∧
    (s.aonOn = true → rx = [] → Completes .uartRxPop s fun t => t = { s with rdata := 0 }) ∧
    (tx = [] → Completes .uartTransmit s fun t => t = s)

/-- A used sample e sets LASTERR, counts in SAMPCNT, gives FREQ and RATE by R511 with both clamped to SLEWMAX, ends
holdover, and sets LOCKED at the eighth sample in a row within LOCK.TH or clears it, with SYN.LOCK_LOST, at the third
beyond. With AUTOSTEP in STANDBY or SERVICE a sample below -8 STEPTH leaves FREQ and RATE and plans a forward step,
which SLATE_STEP makes in a later tick and which sets STEPPED (log entry 66). A write of PTPOFF is a sample of source
2. A level of SYNC_PPS is taken once FILT samples agree (log entry 64); its selected edge, with the stamp of the first
of them, counts in PPSCNT where it comes 0.999-1.001 s after the last, fires SYN.PPS_IN (its routes: log entry 64) and
is a sample of source 1; any other counts in PPSBAD and as a violation of class 2. HOLDTO seconds without a sample
unlock, enter holdover and make RATE FREQ, within SLEWMAX. A boundary of the slate second fires SYN.SECOND and starts
PPS_OUT, which ends after W ticks; a SYNC_PPS active for longer than STUCK ms raises INPUT_STUCK once. In each tick
RATE adds to the accumulator, and a tick of seven or nine phases takes 8,192,000,000 from or to it. -/
def Obligations.TheSlateIsDisciplinedBySamples : Prop :=
  ∀ (frac sec samples : Nat) (level : Bool) (v : Word) (s : State),
    let field_ (hi lo : Nat) : Nat := s.rf Reg.SYN_CFG hi lo
    let lim : Int := 65536 * field_ 31 16
    let clamp (x : Int) : Int := max (-lim) (min lim x)
    let freq (e : Int) : Int := clamp ((s.rd Reg.SYN_FREQ).toInt - (e * 256).fdiv (2 ^ field_ 15 12))
    let rate (e : Int) : Int := clamp (freq e - (e * 256).fdiv (2 ^ field_ 11 8))
    let inside (e : Int) : Bool := decide (-(s.rf Reg.SYN_LOCK 23 0 : Int) ≤ e) && decide (e ≤ s.rf Reg.SYN_LOCK 23 0)
    let good (e : Int) := if inside e then s.syn.good + 1 else 0
    let bad (e : Int) := if inside e then 0 else s.syn.bad + 1
    let locked := s.rb Reg.SYN_STAT 0
    let lost (e : Int) := locked = true ∧ 3 ≤ bad e
    let unlocks (x t : State) : Prop := t.cal = { x.cal with winOk := false } ∧ t.sup = { x.sup with hourOk := false } ∧ Fires [12] 1 x t
    let seen (e : Int) (x t : State) : Prop :=
      t = { x with regs := t.regs, raised := t.raised, syn := t.syn, cue := t.cue, cal := t.cal, sup := t.sup } ∧
      t.rd Reg.SYN_LASTERR = BitVec.ofInt 32 e ∧ t.rd Reg.SYN_SAMPCNT = x.rd Reg.SYN_SAMPCNT + 1 ∧
      t.syn = { x.syn with good := min 8 (good e), bad := min 3 (bad e), sampleAt := s.slate, step := t.syn.step } ∧
      (∀ b, b < 32 → t.rb Reg.SYN_STAT b = if b = 1 then false
        else if b = 0 then (if locked then decide (bad e < 3) else decide (8 ≤ good e)) else x.rb Reg.SYN_STAT b) ∧
      KeepsRegs [Reg.SYN_LASTERR, Reg.SYN_SAMPCNT, Reg.SYN_FREQ, Reg.SYN_RATE, Reg.SYN_STAT] x t ∧
      (lost e → unlocks x t) ∧ (¬lost e → t.cal = x.cal ∧ t.sup = x.sup ∧ t.cue = x.cue)
    let sampled (e : Int) (x t : State) : Prop :=
      seen e x t ∧ t.rd Reg.SYN_FREQ = BitVec.ofInt 32 (freq e) ∧ t.rd Reg.SYN_RATE = BitVec.ofInt 32 (rate e) ∧ t.syn.step = x.syn.step
    let stepping (e : Int) (x t : State) : Prop :=
      seen e x t ∧ KeepsRegs [Reg.SYN_LASTERR, Reg.SYN_SAMPCNT, Reg.SYN_STAT] x t ∧ t.syn.step = some ((-e / 8).toNat, s.slate)
    let steps (e : Int) := field_ 2 2 = 1 ∧ (s.mode = 2 ∨ s.mode = 3) ∧ e < -(8 * ((s.rd Reg.SYN_STEPTH).toNat : Int))
    let sample (src : Nat) (e : Int) (x t : State) : Prop :=
      (field_ 1 0 ≠ src → t = x) ∧
      (field_ 1 0 = src → steps e → stepping e x t) ∧
      (field_ 1 0 = src → ¬steps e → sampled e x t)
    let taken := s.aonOn = true ∧ s.syn.level ≠ level ∧ s.rf Reg.SYN_PPSCFG 7 0 ≤ samples
    let active := level ≠ s.rb Reg.SYN_PPSCFG 8
    let stamp := 8 * (s.slate + 1 - samples) + frac
    let u : State := { s with syn := { s.syn with level := level, since := some s.slate } }
    let edge : State := { u with syn := { u.syn with edge := some stamp, stuck := false } }
    let stuckDue := s.aonOn = true ∧ s.syn.level ≠ s.rb Reg.SYN_PPSCFG 8 ∧ s.rf Reg.SYN_PPSCFG 31 16 ≠ 0 ∧ s.syn.stuck = false ∧
      s.syn.since.getD s.cue.aonAt + s.rf Reg.SYN_PPSCFG 31 16 * 32000 < s.slate
    let near := (stamp + 128000000) / 256000000
    let accepted := (s.syn.edge.map fun p => decide (p + 255744000 ≤ stamp) && decide (stamp ≤ p + 256256000)).getD false
    (s.aonOn = true → Completes (.ptpOffsetWrite v) s (sample 2 v.toInt (s.wr Reg.SYN_PTPOFF v))) ∧
    (frac < 8 → ¬taken → Completes (.ppsEdge ⟨level, samples, frac⟩) s fun t => t = s) ∧
    (frac < 8 → taken → ¬active → Completes (.ppsEdge ⟨level, samples, frac⟩) s fun t => t = u) ∧
    (frac < 8 → taken → active → accepted = true → Completes (.ppsEdge ⟨level, samples, frac⟩) s (sample 1
      ((stamp : Int) - 256000000 * near - (s.rd Reg.SYN_PPSOFS).toInt) ((edge.inc Reg.SYN_PPSCNT).emit [11, 212]))) ∧
    (frac < 8 → taken → active → accepted = false → Completes (.ppsEdge ⟨level, samples, frac⟩) s fun t =>
      t = { edge with regs := t.regs, raised := t.raised } ∧ t.rd Reg.SYN_PPSBAD = s.rd Reg.SYN_PPSBAD + 1 ∧
      t.rd (Reg.SUP_VIOL 2) = s.rd (Reg.SUP_VIOL 2) + 1 ∧ KeepsRegs [Reg.SYN_PPSBAD, Reg.SUP_VIOL 2] s t) ∧
    (stuckDue → Completes .ppsStuck s fun t =>
      t = { s with regs := t.regs, raised := t.raised, cue := t.cue, syn := { s.syn with stuck := true } } ∧ Fires [4] 1 s t ∧
      t.rd (Reg.SUP_VIOL 1) = s.rd (Reg.SUP_VIOL 1) + 1 ∧ KeepsRegs [Reg.SUP_VIOL 1] s t) ∧
    (¬stuckDue → Completes .ppsStuck s fun t => t = s) ∧
    (locked = true → s.syn.sampleAt + s.rf Reg.SYN_LOCK 31 24 * 32000000 ≤ s.slate → Completes .synHoldTimeout s fun t =>
      t = { s with regs := t.regs, raised := t.raised, cue := t.cue, cal := t.cal, sup := t.sup } ∧ unlocks s t ∧
      t.rd Reg.SYN_FREQ = BitVec.ofInt 32 (clamp (s.rd Reg.SYN_FREQ).toInt) ∧ t.rd Reg.SYN_RATE = t.rd Reg.SYN_FREQ ∧
      (∀ b, b < 32 → t.rb Reg.SYN_STAT b = if b = 0 then false else if b = 1 then true else s.rb Reg.SYN_STAT b) ∧
      KeepsRegs [Reg.SYN_STAT, Reg.SYN_FREQ, Reg.SYN_RATE] s t) ∧
    (locked = false ∨ s.slate < s.syn.sampleAt + s.rf Reg.SYN_LOCK 31 24 * 32000000 →
      Completes .synHoldTimeout s fun t => t = s) ∧
    (∀ p, s.syn.step = some p → Completes .slateStep s fun t =>
      (p.2 < s.slate → t = { s with regs := t.regs, raised := t.raised, slate := (s.slate + p.1) % 2 ^ 64, syn := { s.syn with step := none, skip := p.1 } } ∧
        GivesBits Reg.SYN_STAT [2] true s t ∧ KeepsRegs [Reg.SYN_STAT] s t) ∧
      (s.slate ≤ p.2 → t = s)) ∧
    (s.aonOn = true → sec = s.syn.second + 1 → sec * 32000000 ≤ s.slate → Completes (.synSecond sec) s fun t =>
      t = { s with regs := t.regs, raised := t.raised, cue := t.cue, sup := t.sup, syn := { s.syn with
        second := sec
        ppsOut := if s.rb Reg.SYN_PPSOUT 31 then some (s.slate + s.rf Reg.SYN_PPSOUT 23 0) else s.syn.ppsOut } } ∧ Fires [10, 211] 1 s t ∧
      KeepsRegs (if s.sup.hourAt < s.slate / 115200000000 then [Reg.SUP_TCXO, Reg.SUP_TCXOAGE] else []) s t) ∧
    (∀ e, s.syn.ppsOut = some e → Completes .ppsOutEnd s fun t =>
      t = if e ≤ s.slate then { s with syn := { s.syn with ppsOut := none } } else s) ∧
    (let t := synTick s
     let q := s.syn.q + (s.rd Reg.SYN_RATE).toInt
     t = { s with syn := { s.syn with q := t.syn.q, phases := t.syn.phases } } ∧
     (8192000000 ≤ q → t.syn.phases = 7 ∧ t.syn.q = q - 8192000000) ∧
     (q ≤ -8192000000 → t.syn.phases = 9 ∧ t.syn.q = q + 8192000000) ∧
     (-8192000000 < q → q < 8192000000 → t.syn.phases = 8 ∧ t.syn.q = q))

/-- With the main domain powered: BEGIN, by a principal or a core, is refused with cause 1 in a session and 11 in
VERIFY; a header with a cause of 2-7 makes the state FAILED with that cause; an accepted one opens the session of its
source and requests the erase, at whose end the component has no STAGED bit. CHUNK and FINISH are refused with 8
without a session, from another source or out of sequence, and CHUNK with 12 where the 32 KiB buffer lacks room; a
chunk advances RXOFS and requests its programming, FINISH begins the verification, which waits for its turn on QSPI0,
ABORT makes the state IDLE. A refusal only sets CAUSE. In its turn the verification sets STAGED and DONE, or fails
with 10; a failed operation of the session fails it with 9, a stall with 13; a good one erases or extends the rough
cut. Each end fires UPD.DONE. UNSTAGE clears STAGED in its turn. A change of STAGED writes the boot record with the
next sequence (below 2^32). A key is revoked unless it is the last or signs an active image. That 1 goes before 11 and
8 before 11 before 12 is the model's reading (log entry 81), the operations of QSPI0 and their outcome log entry 82. -/
def Obligations.StagingSessionsRunByTheirStatesAndCauses : Prop :=
  ∀ (src ofs c key : Nat) (hdr data : List Nat) (s : State), s.mainOn = true → src < 16 ∨ (0x80 ≤ src ∧ src < 0x85) →
    let st := s.rf Reg.UPD_STAT 2 0
    let open_ := st = 1 ∨ st = 2
    let foreign := open_ ∧ s.rf Reg.UPD_STAT 31 24 ≠ src
    let core := 0x80 ≤ src
    let begun := updFetch s (s.rd64 (Reg.UPD_SRC 0)) 256
    let chunk := updFetch s (s.rd64 (Reg.UPD_SRC 0)) (s.rd Reg.UPD_LEN).toNat
    let xb := if core then begun.1 else s
    let h := if core then begun.2.getD [] else hdr
    let xc := if core then chunk.1 else s
    let d := if core then chunk.2.getD [] else data
    let at_ := if core then (s.rd Reg.UPD_RXOFS).toNat else ofs
    let long := core ∧ 8000 < (s.rd Reg.UPD_LEN).toNat
    let rx := (s.rd Reg.UPD_RXOFS).toNat
    let len := hdrLen s.upd.hdr
    let refused (x : State) (n : Nat) (t : State) : Prop := t = { x with regs := t.regs, raised := t.raised } ∧ GivesField Reg.UPD_STAT 11 8 n x t ∧
      KeepsRegs [Reg.UPD_STAT] x t
    let ends (x : State) (state n : Nat) (t : State) : Prop :=
      t = { x with regs := t.regs, raised := t.raised, cue := t.cue } ∧ Fires [14] 1 x t ∧ t.rf Reg.UPD_STAT 2 0 = state ∧
      (state = 4 → t.rf Reg.UPD_STAT 11 8 = n) ∧ KeepsRegs [Reg.UPD_STAT] x t
    let begins (P : State → Prop) : Prop := Completes (.stageBegin src hdr) s P
    let chunks (P : State → Prop) : Prop := Completes (.stageChunk src ofs data) s P
    let badChunk := st ≠ 1 ∨ foreign ∨ at_ ≠ rx ∨ d.length = 0 ∨ 8000 < d.length ∨ len < rx + d.length
    let room := s.chunkOctets + d.length ≤ 32768
    let head := s.upd.ops.head?
    let reads_ : Bool := match head with | some (.verify _) => true | _ => false
    let popped : State := { s with upd := { s.upd with ops := s.upd.ops.drop 1 } }
    let recorded (x : State) (k : Nat) (b : Bool) (t : State) : Prop :=
      t = { x with upd := { x.upd with recA := t.upd.recA, recB := t.upd.recB } } ∧ ((x.comp k).staged = b → t = x) ∧
      ((x.bootRec.map (·.seq)).getD 0 + 1 < 2 ^ 32 →
        (t.comp k).staged = b ∧ (∀ j, j < 4 → t.comp (j + 1) = if j + 1 = k then { x.comp k with staged := b } else x.comp (j + 1)) ∧
        ((x.comp k).staged ≠ b → t.bootRec.map (·.seq) = some ((x.bootRec.map (·.seq)).getD 0 + 1)))
    (open_ → begins (refused xb 1)) ∧
    (¬open_ → s.mode = 7 → begins (refused xb 11)) ∧
    (¬open_ → s.mode ≠ 7 → xb.hdrCause h ≠ 0 → begins (ends xb 4 (xb.hdrCause h))) ∧
    (¬open_ → s.mode ≠ 7 → xb.hdrCause h = 0 → 1 ≤ hdrComp h ∧ hdrComp h ≤ 4 ∧ begins fun t =>
      t = { xb with regs := t.regs, raised := t.raised, upd := { s.upd with
        ses := s.upd.ses + 1, hdr := h, rx := [], last := s.slate
        ops := s.upd.ops ++ [.erase (s.upd.ses + 1) (hdrComp h) h] } } ∧
      t.rf Reg.UPD_STAT 2 0 = 1 ∧ t.rf Reg.UPD_STAT 31 24 = src ∧ t.rf Reg.UPD_STAT 17 16 = hdrComp h - 1 ∧
      t.rd Reg.UPD_RXOFS = 0 ∧ KeepsRegs [Reg.UPD_STAT, Reg.UPD_RXOFS] xb t) ∧
    (h.take 4 ≠ [0x4C, 0x44, 0x36, 0x34] ∨ field h 4 2 ≠ 1 → xb.hdrCause h = 2) ∧
    (hdrMagicOk h = true → hdrComp h = 0 ∨ 4 < hdrComp h ∨ hdrLen h = 0 → xb.hdrCause h = 3) ∧
    (xb.hdrCause h = 0 → xb.upd.revoked.testBit (hdrKey h) = false ∧ field h 8 4 = 0x6480 ∧ h.getD 12 0 ≤ 0xB0) ∧
    (long → chunks (refused s 8)) ∧
    (¬long → badChunk → chunks (refused xc 8)) ∧
    (¬long → ¬badChunk → s.mode = 7 → chunks (refused xc 11)) ∧
    (¬long → ¬badChunk → s.mode ≠ 7 → ¬room → chunks (refused xc 12)) ∧
    (¬long → ¬badChunk → s.mode ≠ 7 → room → chunks fun t =>
      t = { xc with regs := t.regs, raised := t.raised, upd := { s.upd with
        rx := s.upd.rx ++ d
        last := s.slate
        ops := s.upd.ops ++ [.chunk s.upd.ses (hdrComp s.upd.hdr) d] } } ∧
      t.rd Reg.UPD_RXOFS = word (rx + d.length) ∧ KeepsRegs [Reg.UPD_RXOFS] xc t) ∧
    (st ≠ 1 ∨ foreign ∨ rx ≠ len → Completes (.stageFinish src) s (refused s 8)) ∧
    (st = 1 → ¬foreign → rx = len → s.mode = 7 → Completes (.stageFinish src) s (refused s 11)) ∧
    (st = 1 → ¬foreign → rx = len → s.mode ≠ 7 → Completes (.stageFinish src) s fun t =>
      t = { s with regs := t.regs, raised := t.raised, upd := { s.upd with last := s.slate, ops := s.upd.ops ++ [.verify s.upd.ses] } } ∧
      GivesField Reg.UPD_STAT 2 0 2 s t ∧
      KeepsRegs [Reg.UPD_STAT] s t) ∧
    (foreign → Completes (.stageAbort src) s (refused s 8)) ∧
    (¬foreign → s.mode = 7 → Completes (.stageAbort src) s (refused s 11)) ∧
    (¬foreign → s.mode ≠ 7 → Completes (.stageAbort src) s fun t => t = { s with regs := t.regs, raised := t.raised } ∧
      GivesField Reg.UPD_STAT 2 0 0 s t ∧ KeepsRegs [Reg.UPD_STAT] s t) ∧
    (1 ≤ c → c ≤ 4 → s.mode = 7 → Completes (.unstage c) s (refused s 11)) ∧
    (1 ≤ c → c ≤ 4 → s.mode ≠ 7 → Completes (.unstage c) s fun t =>
      t = { s with upd := { s.upd with ops := s.upd.ops ++ [.unstage c], last := s.slate } }) ∧
    (key < 4 → Completes (.revokeKey key) s fun t =>
      t = if (s.upd.revoked ||| 2 ^ key) % 16 = 15 ∨ key ∈ s.activeKeys then s
        else { s with upd := { s.upd with revoked := s.upd.revoked ||| 2 ^ key } }) ∧
    (reads_ = false → Completes .stageVerifyDone s fun t => t = s) ∧
    (head = some (.verify key) → key ≠ s.upd.ses ∨ st ≠ 2 → Completes .stageVerifyDone s fun t => t = popped) ∧
    (head = some (.verify s.upd.ses) → st = 2 → 1 ≤ hdrComp s.upd.hdr → hdrComp s.upd.hdr ≤ 4 →
      let i := s.image (hdrComp s.upd.hdr) 2
      let good := (i.map fun e => e.hdr == s.upd.hdr && e.body.length == len && sha256 e.body == (e.hdr.drop 88).take 32 &&
        sectionsOk (hdrComp e.hdr) e.body).getD false
      (good = true → Completes .stageVerifyDone s (ends (popped.setStaged (hdrComp s.upd.hdr) true) 3 0) ∧
        recorded popped (hdrComp s.upd.hdr) true (popped.setStaged (hdrComp s.upd.hdr) true)) ∧
      (good = false → Completes .stageVerifyDone s (ends popped 4 10))) ∧
    (st = 1 → s.upd.last + s.rf Reg.UPD_TOUT 15 0 * 32000000 ≤ s.slate → Completes .stageStall s (ends s 4 13)) ∧
    (st ≠ 1 ∨ s.slate < s.upd.last + s.rf Reg.UPD_TOUT 15 0 * 32000000 → Completes .stageStall s fun t => t = s) ∧
    (head = none → ∀ good ∈ [true, false], Completes (.stageFlashComplete good) s fun t => t = s) ∧
    (head = some .save ∨ reads_ = true → Completes (.stageFlashComplete true) s fun t => t = s) ∧
    (head = some (.erase key c hdr) → 1 ≤ c → c ≤ 4 →
      let w := popped.setStaged c false
      recorded popped c false w ∧
      (key = s.upd.ses → open_ → Completes (.stageFlashComplete false) s (ends w 4 9)) ∧
      (key ≠ s.upd.ses ∨ ¬open_ → Completes (.stageFlashComplete false) s fun t => t = w) ∧
      Completes (.stageFlashComplete true) s fun t => t = { w with upd := t.upd } ∧ t.image c 2 = some { hdr := hdr, body := [] } ∧
        t.upd = { w.upd with imgs := t.upd.imgs } ∧ KeepsMap (3 * c + 2) s.upd.imgs t.upd.imgs) ∧
    (head = some (.chunk key c data) →
      (key = s.upd.ses → open_ → Completes (.stageFlashComplete false) s (ends popped 4 9)) ∧
      (key ≠ s.upd.ses ∨ ¬open_ → Completes (.stageFlashComplete false) s fun t => t = popped) ∧
      ∀ i, s.image c 2 = some i → Completes (.stageFlashComplete true) s fun t =>
        t = { popped with upd := t.upd } ∧ t.image c 2 = some { i with body := i.body ++ data } ∧
        t.upd = { popped.upd with imgs := t.upd.imgs } ∧ KeepsMap (3 * c + 2) s.upd.imgs t.upd.imgs) ∧
    (head = some (.unstage c) → 1 ≤ c → c ≤ 4 → Completes (.stageFlashComplete true) s (recorded popped c false) ∧
      Completes (.stageFlashComplete false) s fun t => t = popped)

/-- The state after a power-on reset has no command waiting, slate 0, memories that read zero as unwritten ones do,
every register at its reset value, and the canonical form. The registers that the statement names hold the values of
their tables: SYS.MODE 0x0303 (SERVICE), DRAIN, ROLE and HIBCTL; CTL, RAMP, FEMPA, FEMTR, AGC and LOOP of each chain;
CHZ.FENCE and SURVINT; LNK.CTL, SLACK and HOLD; DCB.CTL; EPR.SNAPCFG; REL.PTO; CUE.EN0-6; CAL.STAT with OSF and
ALMTIME; CPR.WDOG; MEM.LEAK; ODX.CTL and P0.CFG; UPD.TOUT. That an unlisted octet reads zero before the boot has
cleared it and that the slate starts at 0 are the model's readings (log entries 8 and 9). -/
def Obligations.ResetGivesTheTablesValues : Prop :=
  ∀ (s : State), s = State.reset →
    s.pending = [] ∧ s.slate = 0 ∧ s.canonical ∧ (∀ m o, s.memByte m o = 0) ∧ (∀ a, s.rd a = regReset a) ∧ s.mode = 3 ∧
    s.rd Reg.SYS_MODE = 0x303 ∧ s.rd Reg.SYS_DRAIN = 256000000 ∧ s.rd Reg.SYS_ROLE = 0x33333333 ∧ s.rd Reg.SYS_HIBCTL = 0xF21 ∧
    (∀ n, n < 8 → s.rd (Reg.RFC_CTL n) = 0x100 ∧ s.rd (Reg.RFC_RAMP n) = 16 ∧ s.rd (Reg.RFC_FEMPA n) = 0x400040 ∧
      s.rd (Reg.RFC_FEMTR n) = 0x400040 ∧ s.rd (Reg.RFC_AGC n) = 0x100000 ∧ s.rd (Reg.RFC_LOOP n) = 0x5000) ∧
    s.rd Reg.CHZ_FENCE = 0x30D400 ∧ s.rd Reg.CHZ_SURVINT = 0x1403E8 ∧ s.rd Reg.LNK_CTL = 0x11 ∧ s.rd Reg.LNK_SLACK = 320 ∧
    s.rd Reg.LNK_HOLD = 0x2580005 ∧ s.rd Reg.DCB_CTL = 1 ∧ s.rd Reg.EPR_SNAPCFG = 0xE10000A ∧ s.rd Reg.REL_PTO = 0x4E200 ∧
    (∀ w, w < 4 → s.rd (Reg.CUE_EN w) = 0xFFFFFFFF) ∧ s.rd (Reg.CUE_EN 4) = 0x7FFFF ∧ s.rd (Reg.CUE_EN 5) = 0 ∧
    s.rd (Reg.CUE_EN 6) = 0x1E00000 ∧ s.rd Reg.CAL_STAT = 1 ∧ s.rd Reg.CAL_ALMTIME = 0x70000000 ∧ s.rd Reg.CPR_WDOG = 2000 ∧
    s.rd Reg.MEM_LEAK = 0x1003E8 ∧ s.rd Reg.ODX_CTL = 15 ∧ s.rd (Reg.ODX_P_CFG 0) = 0xA00003FF ∧ s.rd Reg.UPD_TOUT = 60

/-- For every state s in canonical form and every state t that the step of s answers, t is in canonical form: the
cells of t's memory rise strictly in address, no cell holds the value that an unlisted octet reads as (zero), so that
equal memories are equal data, and the slate is below 2^64. It holds for each of the commands, bus writes, core
stores, resets, boot and the wake among them, and for the tick of an empty queue. -/
def Obligations.EveryStepKeepsTheCanonicalForm : Prop :=
  ∀ (s t : State), s.canonical → step s = .next t → t.canonical
end

