-- ==== Sys2Proof/Laws/Bits.lean ====
section
/-! SUPPORT. Laws of bit fields: what a field reads after it, or another one, is set. -/

namespace Sys2Proof.Machine

@[simp] theorem word_toNat (n : Nat) : (word n).toNat = n % 2 ^ 32 := by simp [word]

@[simp] theorem word_toNat_self (w : Word) : word w.toNat = w := by simp [word]

theorem fld_testBit (w : Word) (hi lo i : Nat) :
    (fld w hi lo).testBit i = (decide (i < hi + 1 - lo) && w.toNat.testBit (lo + i)) := by
  simp [fld, nfld, Nat.testBit_mod_two_pow, Nat.testBit_shiftRight]

/-- A word with a field set, bit by bit. -/
theorem setFld_toNat (w : Word) {hi lo : Nat} (v : Nat) (h : lo ≤ hi) (h32 : hi < 32) :
    (setFld w hi lo v).toNat =
      w.toNat / 2 ^ (hi + 1) * 2 ^ (hi + 1) + (v % 2 ^ (hi + 1 - lo)) * 2 ^ lo + w.toNat % 2 ^ lo := by
  have hw : w.toNat < 2 ^ 32 := w.isLt
  have e : (2 : Nat) ^ (hi + 1) = 2 ^ lo * 2 ^ (hi + 1 - lo) := by rw [← pow_add]; congr 1; omega
  have hf : fld w hi lo <<< lo = w.toNat % 2 ^ (hi + 1) - w.toNat % 2 ^ lo := by
    simp only [fld, nfld, Nat.shiftRight_eq_div_pow, Nat.shiftLeft_eq]
    have : w.toNat % 2 ^ (hi + 1) = w.toNat % 2 ^ lo + 2 ^ lo * (w.toNat / 2 ^ lo % 2 ^ (hi + 1 - lo)) := by
      rw [e, Nat.mod_mul]
    rw [this]; rw [Nat.mul_comm]; omega
  have hm : w.toNat % 2 ^ lo ≤ w.toNat % 2 ^ (hi + 1) := by
    rw [e, Nat.mod_mul]; omega
  have hsplit : w.toNat = w.toNat / 2 ^ (hi + 1) * 2 ^ (hi + 1) + w.toNat % 2 ^ (hi + 1) := by
    rw [Nat.mul_comm]; exact (Nat.div_add_mod _ _).symm
  have hv : (v % 2 ^ (hi + 1 - lo)) * 2 ^ lo + w.toNat % 2 ^ lo < 2 ^ (hi + 1) := by
    have h1 : v % 2 ^ (hi + 1 - lo) < 2 ^ (hi + 1 - lo) := Nat.mod_lt _ (by positivity)
    have h2 : w.toNat % 2 ^ lo < 2 ^ lo := Nat.mod_lt _ (by positivity)
    rw [e]
    calc (v % 2 ^ (hi + 1 - lo)) * 2 ^ lo + w.toNat % 2 ^ lo
        < (v % 2 ^ (hi + 1 - lo)) * 2 ^ lo + 2 ^ lo := by omega
      _ = (v % 2 ^ (hi + 1 - lo) + 1) * 2 ^ lo := by ring
      _ ≤ 2 ^ (hi + 1 - lo) * 2 ^ lo := Nat.mul_le_mul_right _ (by omega)
      _ = 2 ^ lo * 2 ^ (hi + 1 - lo) := by ring
  have hd : w.toNat / 2 ^ (hi + 1) * 2 ^ (hi + 1) + 2 ^ (hi + 1) ≤ 2 ^ 32 := by
    have e32 : (2 : Nat) ^ 32 = 2 ^ (hi + 1) * 2 ^ (31 - hi) := by rw [← pow_add]; congr 1; omega
    have : w.toNat / 2 ^ (hi + 1) < 2 ^ (31 - hi) := by
      rw [Nat.div_lt_iff_lt_mul (by positivity), Nat.mul_comm, ← e32]; exact hw
    calc w.toNat / 2 ^ (hi + 1) * 2 ^ (hi + 1) + 2 ^ (hi + 1) = (w.toNat / 2 ^ (hi + 1) + 1) * 2 ^ (hi + 1) := by ring
      _ ≤ 2 ^ (31 - hi) * 2 ^ (hi + 1) := Nat.mul_le_mul_right _ (by omega)
      _ = 2 ^ 32 := by rw [e32]; ring
  unfold setFld
  rw [hf, BitVec.toNat_ofNat, Nat.shiftLeft_eq, Nat.mod_eq_of_lt]
  · omega
  · omega

/-- The field that was set reads the low bits of the value. -/
theorem fld_setFld_self (w : Word) {hi lo : Nat} (v : Nat) (h : lo ≤ hi) (h32 : hi < 32) :
    fld (setFld w hi lo v) hi lo = v % 2 ^ (hi + 1 - lo) := by
  have e : (2 : Nat) ^ (hi + 1) = 2 ^ lo * 2 ^ (hi + 1 - lo) := by rw [← pow_add]; congr 1; omega
  have h2 : w.toNat % 2 ^ lo < 2 ^ lo := Nat.mod_lt _ (by positivity)
  have h1 : v % 2 ^ (hi + 1 - lo) < 2 ^ (hi + 1 - lo) := Nat.mod_lt _ (by positivity)
  simp only [fld, nfld, Nat.shiftRight_eq_div_pow, setFld_toNat w v h h32]
  have : w.toNat / 2 ^ (hi + 1) * 2 ^ (hi + 1) + v % 2 ^ (hi + 1 - lo) * 2 ^ lo + w.toNat % 2 ^ lo
      = 2 ^ lo * (w.toNat / 2 ^ (hi + 1) * 2 ^ (hi + 1 - lo) + v % 2 ^ (hi + 1 - lo)) + w.toNat % 2 ^ lo := by
    rw [e]; ring
  rw [this, Nat.mul_add_div (by positivity), Nat.div_eq_of_lt h2, Nat.add_zero,
    Nat.mul_comm, Nat.mul_add_mod, Nat.mod_eq_of_lt h1]

/-- A bit outside the field that was set. -/
theorem bit_setFld_of_lt (w : Word) {hi lo b : Nat} (v : Nat) (h : lo ≤ hi) (h32 : hi < 32) (hb : b < lo) :
    bit (setFld w hi lo v) b = bit w b := by
  have e : (2 : Nat) ^ (hi + 1) = 2 ^ lo * 2 ^ (hi + 1 - lo) := by rw [← pow_add]; congr 1; omega
  simp only [bit, setFld_toNat w v h h32]
  have : w.toNat / 2 ^ (hi + 1) * 2 ^ (hi + 1) + v % 2 ^ (hi + 1 - lo) * 2 ^ lo + w.toNat % 2 ^ lo
      = 2 ^ lo * (w.toNat / 2 ^ (hi + 1) * 2 ^ (hi + 1 - lo) + v % 2 ^ (hi + 1 - lo)) + w.toNat % 2 ^ lo := by
    rw [e]; ring
  rw [this, Nat.testBit_two_pow_mul_add _ (Nat.mod_lt _ (by positivity)), if_pos hb, Nat.testBit_mod_two_pow]
  simp [hb]

theorem bit_setFld_of_gt (w : Word) {hi lo b : Nat} (v : Nat) (h : lo ≤ hi) (h32 : hi < 32) (hb : hi < b) :
    bit (setFld w hi lo v) b = bit w b := by
  have e : (2 : Nat) ^ (hi + 1) = 2 ^ lo * 2 ^ (hi + 1 - lo) := by rw [← pow_add]; congr 1; omega
  have h2 : w.toNat % 2 ^ lo < 2 ^ lo := Nat.mod_lt _ (by positivity)
  have h1 : v % 2 ^ (hi + 1 - lo) < 2 ^ (hi + 1 - lo) := Nat.mod_lt _ (by positivity)
  have hv : v % 2 ^ (hi + 1 - lo) * 2 ^ lo + w.toNat % 2 ^ lo < 2 ^ (hi + 1) := by
    rw [e]
    calc v % 2 ^ (hi + 1 - lo) * 2 ^ lo + w.toNat % 2 ^ lo < (v % 2 ^ (hi + 1 - lo) + 1) * 2 ^ lo := by ring_nf; omega
      _ ≤ 2 ^ (hi + 1 - lo) * 2 ^ lo := Nat.mul_le_mul_right _ (by omega)
      _ = 2 ^ lo * 2 ^ (hi + 1 - lo) := by ring
  simp only [bit, setFld_toNat w v h h32]
  have : w.toNat / 2 ^ (hi + 1) * 2 ^ (hi + 1) + v % 2 ^ (hi + 1 - lo) * 2 ^ lo + w.toNat % 2 ^ lo
      = 2 ^ (hi + 1) * (w.toNat / 2 ^ (hi + 1)) + (v % 2 ^ (hi + 1 - lo) * 2 ^ lo + w.toNat % 2 ^ lo) := by ring
  rw [this, Nat.testBit_two_pow_mul_add _ hv, if_neg (by omega), Nat.testBit_div_two_pow]
  congr 1; omega

/-- A bit that was set. -/
theorem bit_setFld_self (w : Word) {b : Nat} (v : Bool) (h : b < 32) : bit (setFld w b b (b2n v)) b = v := by
  have := fld_setFld_self w (b2n v) (le_refl b) h
  have hb : fld (setFld w b b (b2n v)) b b = if bit (setFld w b b (b2n v)) b then 1 else 0 := by
    have e : b + 1 - b = 1 := by omega
    simp only [fld, nfld, bit, e, Nat.shiftRight_eq_div_pow, Nat.testBit_eq_decide_div_mod_eq]
    split <;> simp_all
  rw [hb] at this
  have e : b + 1 - b = 1 := by omega
  rw [e] at this
  cases v <;> cases hx : bit (setFld w b b (b2n _)) b <;> simp_all [b2n]

end Sys2Proof.Machine
end

