-- ==== Sys2Proof/Laws/Maps.lean ====
section
/-! SUPPORT. Laws of the sparse maps: a read after a write, reads elsewhere, and the canonical form, which every operation on
a map keeps. -/

namespace Sys2Proof.Machine

variable {α : Type}

@[simp] theorem SMap.find_put_self (m : SMap α) (k : Nat) (v : α) : (m.put k v).find k = some v := by
  induction m with
  | nil => simp [SMap.put, SMap.find]
  | cons e m ih =>
    obtain ⟨i, w⟩ := e
    by_cases h : k < i
    · simp [SMap.put, SMap.find, h]
    · by_cases h2 : i = k
      · simp [SMap.put, SMap.find, h2]
      · simp [SMap.put, SMap.find, h, h2, ih]

theorem SMap.find_put_of_ne (m : SMap α) {k j : Nat} (v : α) (h : j ≠ k) : (m.put k v).find j = m.find j := by
  induction m with
  | nil => simp [SMap.put, SMap.find, h.symm]
  | cons e m ih =>
    obtain ⟨i, w⟩ := e
    by_cases h1 : k < i
    · simp [SMap.put, SMap.find, h1, h.symm]
    · by_cases h2 : i = k
      · subst h2; simp [SMap.put, SMap.find, h.symm]
      · simp [SMap.put, SMap.find, h1, h2, ih]

@[simp] theorem SMap.find_del_self (m : SMap α) (k : Nat) : (m.del k).find k = none := by
  induction m with
  | nil => rfl
  | cons e m ih =>
    obtain ⟨i, w⟩ := e
    by_cases h : i = k <;> simp [SMap.del, SMap.find, h, ih]

theorem SMap.find_del_of_ne (m : SMap α) {k j : Nat} (h : j ≠ k) : (m.del k).find j = m.find j := by
  induction m with
  | nil => rfl
  | cons e m ih =>
    obtain ⟨i, w⟩ := e
    by_cases h1 : i = k
    · subst h1; simp [SMap.del, SMap.find, h.symm, ih]
    · simp [SMap.del, SMap.find, h1, ih]

@[simp] theorem SMap.get_put_self (m : SMap α) (k : Nat) (v d : α) : (m.put k v).get k d = v := by
  simp [SMap.get]

theorem SMap.get_put_of_ne (m : SMap α) {k j : Nat} (v d : α) (h : j ≠ k) : (m.put k v).get j d = m.get j d := by
  simp [SMap.get, SMap.find_put_of_ne m v h]

/-- A read of the index that was stored to gives the stored value. -/
@[simp] theorem SMap.get_store_self [DecidableEq α] (d : α) (m : SMap α) (k : Nat) (v : α) :
    (SMap.store d m k v).get k d = v := by
  unfold SMap.store
  split
  · next h => simp [SMap.get, h]
  · simp

/-- A store leaves every other index as it was. -/
theorem SMap.get_store_of_ne [DecidableEq α] (d e : α) (m : SMap α) {k j : Nat} (v : α) (h : j ≠ k) :
    (SMap.store d m k v).get j e = m.get j e := by
  unfold SMap.store
  split
  · simp [SMap.get, SMap.find_del_of_ne m h]
  · exact SMap.get_put_of_ne m v e h

/-! ### The canonical form -/

theorem SMap.risingFrom_mono {lo hi : Nat} (h : lo ≤ hi) : ∀ {m : SMap α}, SMap.risingFrom hi m = true → SMap.risingFrom lo m = true
  | [], _ => rfl
  | (i, w) :: m, hm => by
    simp only [SMap.risingFrom, Bool.and_eq_true, decide_eq_true_eq] at hm ⊢
    exact ⟨le_trans h hm.1, hm.2⟩

theorem SMap.risingFrom_filter (p : Nat × α → Bool) : ∀ {lo : Nat} {m : SMap α}, SMap.risingFrom lo m = true →
    SMap.risingFrom lo (List.filter p m) = true
  | _, [], _ => rfl
  | lo, (i, w) :: m, hm => by
    simp only [SMap.risingFrom, Bool.and_eq_true, decide_eq_true_eq] at hm
    have ih := SMap.risingFrom_filter p hm.2
    by_cases hp : p (i, w) = true
    · simp [List.filter, hp, SMap.risingFrom, hm.1, ih]
    · simp only [List.filter, hp]
      exact SMap.risingFrom_mono (by omega) ih

theorem SMap.risingFrom_put (k : Nat) (v : α) : ∀ {lo : Nat} {m : SMap α}, SMap.risingFrom lo m = true → lo ≤ k →
    SMap.risingFrom lo (SMap.put m k v) = true
  | lo, [], _, hk => by simp [SMap.put, SMap.risingFrom, hk]
  | lo, (i, w) :: m, hm, hk => by
    simp only [SMap.risingFrom, Bool.and_eq_true, decide_eq_true_eq] at hm
    by_cases h1 : k < i
    · have := SMap.risingFrom_mono (α := α) (m := m) (lo := i + 1) (hi := i + 1) (le_refl _) hm.2
      simp [SMap.put, h1, SMap.risingFrom, hk, this]
    · by_cases h2 : i = k
      · subst h2; simp [SMap.put, SMap.risingFrom, hm.1, hm.2]
      · have ih := SMap.risingFrom_put k v hm.2 (by omega)
        simp [SMap.put, h1, h2, SMap.risingFrom, hm.1, ih]

theorem SMap.del_eq_filter (m : SMap α) (k : Nat) : m.del k = List.filter (fun e => e.1 != k) m := by
  induction m with
  | nil => rfl
  | cons e m ih =>
    obtain ⟨i, w⟩ := e
    by_cases h : i = k <;> simp [SMap.del, h, ih]

/-- An entry of a map after a put is the new one or was there. -/
theorem SMap.mem_put {m : SMap α} {k : Nat} {v : α} {e : Nat × α} (h : e ∈ SMap.put m k v) : e = (k, v) ∨ e ∈ m := by
  induction m with
  | nil => simpa [SMap.put] using h
  | cons a m ih =>
    obtain ⟨i, w⟩ := a
    by_cases h1 : k < i
    · simpa [SMap.put, h1] using h
    · by_cases h2 : i = k
      · have hp : SMap.put ((i, w) :: m) k v = (k, v) :: m := by simp [SMap.put, h2]
        rw [hp, List.mem_cons] at h
        rcases h with h | h
        · exact .inl h
        · exact .inr (List.mem_cons_of_mem _ h)
      · have hp : SMap.put ((i, w) :: m) k v = (i, w) :: SMap.put m k v := by simp [SMap.put, h1, h2]
        rw [hp, List.mem_cons] at h
        rcases h with h | h
        · exact .inr (by simp [h])
        · rcases ih h with h | h
          · exact .inl h
          · exact .inr (List.mem_cons_of_mem _ h)

theorem SMap.wf_iff [DecidableEq α] {d : Nat → α} {m : SMap α} :
    SMap.wf d m = true ↔ SMap.risingFrom 0 m = true ∧ ∀ e ∈ m, e.2 ≠ d e.1 := by
  simp only [SMap.wf, Bool.and_eq_true, List.all_eq_true, decide_eq_true_eq]

theorem SMap.wf_filter [DecidableEq α] {d : Nat → α} {m : SMap α} (p : Nat × α → Bool) (h : SMap.wf d m = true) :
    SMap.wf d (List.filter p m) = true := by
  rw [SMap.wf_iff] at h ⊢
  exact ⟨SMap.risingFrom_filter p h.1, fun e he => h.2 e (List.mem_of_mem_filter he)⟩

/-- A store keeps the canonical form. -/
theorem SMap.wf_store [DecidableEq α] {d : Nat → α} {m : SMap α} (k : Nat) (v : α) (h : SMap.wf d m = true) :
    SMap.wf d (SMap.store (d k) m k v) = true := by
  unfold SMap.store
  split
  · rw [SMap.del_eq_filter]; exact SMap.wf_filter _ h
  · next hv =>
    rw [SMap.wf_iff] at h ⊢
    refine ⟨SMap.risingFrom_put k v h.1 (Nat.zero_le _), fun e he => ?_⟩
    rcases SMap.mem_put he with rfl | he
    · exact hv
    · exact h.2 e he

@[simp] theorem SMap.wf_nil [DecidableEq α] (d : Nat → α) : SMap.wf d ([] : SMap α) = true := rfl

end Sys2Proof.Machine
end

