-- ==== Sys2Proof/Laws/State.lean ====
section
/-! SUPPORT. What the shared updates of the state leave unchanged, field by field, and what a register or a core register reads
after it is written. -/

namespace Sys2Proof.Machine

@[simp] theorem State.wr_pending (s : State) (a : Nat) (v : Word) : (s.wr a v).pending = s.pending := rfl
@[simp] theorem State.wr_slate (s : State) (a : Nat) (v : Word) : (s.wr a v).slate = s.slate := rfl
@[simp] theorem State.wr_cue (s : State) (a : Nat) (v : Word) : (s.wr a v).cue = s.cue := rfl
@[simp] theorem State.wr_tmr (s : State) (a : Nat) (v : Word) : (s.wr a v).tmr = s.tmr := rfl
@[simp] theorem State.wr_tmrGroup (s : State) (a : Nat) (v : Word) : (s.wr a v).tmrGroup = s.tmrGroup := rfl
@[simp] theorem State.wr_cal (s : State) (a : Nat) (v : Word) : (s.wr a v).cal = s.cal := rfl
@[simp] theorem State.wr_mem (s : State) (a : Nat) (v : Word) : (s.wr a v).mem = s.mem := rfl
@[simp] theorem State.wr_ecc (s : State) (a : Nat) (v : Word) : (s.wr a v).ecc = s.ecc := rfl
@[simp] theorem State.wr_undef (s : State) (a : Nat) (v : Word) : (s.wr a v).undef = s.undef := rfl
@[simp] theorem State.wr_free (s : State) (a : Nat) (v : Word) : (s.wr a v).free = s.free := rfl
@[simp] theorem State.wr_ueAt (s : State) (a : Nat) (v : Word) : (s.wr a v).ueAt = s.ueAt := rfl
@[simp] theorem State.wr_reels (s : State) (a : Nat) (v : Word) : (s.wr a v).reels = s.reels := rfl
@[simp] theorem State.wr_sup (s : State) (a : Nat) (v : Word) : (s.wr a v).sup = s.sup := rfl
@[simp] theorem State.wr_cip (s : State) (a : Nat) (v : Word) : (s.wr a v).cip = s.cip := rfl
@[simp] theorem State.wr_epr (s : State) (a : Nat) (v : Word) : (s.wr a v).epr = s.epr := rfl
@[simp] theorem State.wr_dcb (s : State) (a : Nat) (v : Word) : (s.wr a v).dcb = s.dcb := rfl
@[simp] theorem State.wr_sys (s : State) (a : Nat) (v : Word) : (s.wr a v).sys = s.sys := rfl
@[simp] theorem State.wr_syn (s : State) (a : Nat) (v : Word) : (s.wr a v).syn = s.syn := rfl
@[simp] theorem State.wr_rfs (s : State) (a : Nat) (v : Word) : (s.wr a v).rfs = s.rfs := rfl
@[simp] theorem State.wr_chz (s : State) (a : Nat) (v : Word) : (s.wr a v).chz = s.chz := rfl
@[simp] theorem State.wr_lnk (s : State) (a : Nat) (v : Word) : (s.wr a v).lnk = s.lnk := rfl
@[simp] theorem State.wr_cores (s : State) (a : Nat) (v : Word) : (s.wr a v).cores = s.cores := rfl
@[simp] theorem State.wr_upd (s : State) (a : Nat) (v : Word) : (s.wr a v).upd = s.upd := rfl
@[simp] theorem State.wr_odx (s : State) (a : Nat) (v : Word) : (s.wr a v).odx = s.odx := rfl
@[simp] theorem State.wr_host (s : State) (a : Nat) (v : Word) : (s.wr a v).host = s.host := rfl
@[simp] theorem State.wr_rdata (s : State) (a : Nat) (v : Word) : (s.wr a v).rdata = s.rdata := rfl
@[simp] theorem State.wr_raised (s : State) (a : Nat) (v : Word) : (s.wr a v).raised = s.raised := rfl
@[simp] theorem State.wr_late (s : State) (a : Nat) (v : Word) : (s.wr a v).late = s.late := rfl
@[simp] theorem State.wr_memDone (s : State) (a : Nat) (v : Word) : (s.wr a v).memDone = s.memDone := rfl

@[simp] theorem State.wf_pending (s : State) (a hi lo v : Nat) : (s.wf a hi lo v).pending = s.pending := rfl
@[simp] theorem State.wf_slate (s : State) (a hi lo v : Nat) : (s.wf a hi lo v).slate = s.slate := rfl
@[simp] theorem State.wf_cue (s : State) (a hi lo v : Nat) : (s.wf a hi lo v).cue = s.cue := rfl
@[simp] theorem State.wf_tmr (s : State) (a hi lo v : Nat) : (s.wf a hi lo v).tmr = s.tmr := rfl
@[simp] theorem State.wf_tmrGroup (s : State) (a hi lo v : Nat) : (s.wf a hi lo v).tmrGroup = s.tmrGroup := rfl
@[simp] theorem State.wf_cal (s : State) (a hi lo v : Nat) : (s.wf a hi lo v).cal = s.cal := rfl
@[simp] theorem State.wf_mem (s : State) (a hi lo v : Nat) : (s.wf a hi lo v).mem = s.mem := rfl
@[simp] theorem State.wf_ecc (s : State) (a hi lo v : Nat) : (s.wf a hi lo v).ecc = s.ecc := rfl
@[simp] theorem State.wf_undef (s : State) (a hi lo v : Nat) : (s.wf a hi lo v).undef = s.undef := rfl
@[simp] theorem State.wf_free (s : State) (a hi lo v : Nat) : (s.wf a hi lo v).free = s.free := rfl
@[simp] theorem State.wf_ueAt (s : State) (a hi lo v : Nat) : (s.wf a hi lo v).ueAt = s.ueAt := rfl
@[simp] theorem State.wf_reels (s : State) (a hi lo v : Nat) : (s.wf a hi lo v).reels = s.reels := rfl
@[simp] theorem State.wf_sup (s : State) (a hi lo v : Nat) : (s.wf a hi lo v).sup = s.sup := rfl
@[simp] theorem State.wf_cip (s : State) (a hi lo v : Nat) : (s.wf a hi lo v).cip = s.cip := rfl
@[simp] theorem State.wf_epr (s : State) (a hi lo v : Nat) : (s.wf a hi lo v).epr = s.epr := rfl
@[simp] theorem State.wf_dcb (s : State) (a hi lo v : Nat) : (s.wf a hi lo v).dcb = s.dcb := rfl
@[simp] theorem State.wf_sys (s : State) (a hi lo v : Nat) : (s.wf a hi lo v).sys = s.sys := rfl
@[simp] theorem State.wf_syn (s : State) (a hi lo v : Nat) : (s.wf a hi lo v).syn = s.syn := rfl
@[simp] theorem State.wf_rfs (s : State) (a hi lo v : Nat) : (s.wf a hi lo v).rfs = s.rfs := rfl
@[simp] theorem State.wf_chz (s : State) (a hi lo v : Nat) : (s.wf a hi lo v).chz = s.chz := rfl
@[simp] theorem State.wf_lnk (s : State) (a hi lo v : Nat) : (s.wf a hi lo v).lnk = s.lnk := rfl
@[simp] theorem State.wf_cores (s : State) (a hi lo v : Nat) : (s.wf a hi lo v).cores = s.cores := rfl
@[simp] theorem State.wf_upd (s : State) (a hi lo v : Nat) : (s.wf a hi lo v).upd = s.upd := rfl
@[simp] theorem State.wf_odx (s : State) (a hi lo v : Nat) : (s.wf a hi lo v).odx = s.odx := rfl
@[simp] theorem State.wf_host (s : State) (a hi lo v : Nat) : (s.wf a hi lo v).host = s.host := rfl
@[simp] theorem State.wf_rdata (s : State) (a hi lo v : Nat) : (s.wf a hi lo v).rdata = s.rdata := rfl
@[simp] theorem State.wf_raised (s : State) (a hi lo v : Nat) : (s.wf a hi lo v).raised = s.raised := rfl
@[simp] theorem State.wf_late (s : State) (a hi lo v : Nat) : (s.wf a hi lo v).late = s.late := rfl
@[simp] theorem State.wf_memDone (s : State) (a hi lo v : Nat) : (s.wf a hi lo v).memDone = s.memDone := rfl

@[simp] theorem State.wb_pending (s : State) (a b : Nat) (v : Bool) : (s.wb a b v).pending = s.pending := rfl
@[simp] theorem State.wb_slate (s : State) (a b : Nat) (v : Bool) : (s.wb a b v).slate = s.slate := rfl
@[simp] theorem State.wb_cue (s : State) (a b : Nat) (v : Bool) : (s.wb a b v).cue = s.cue := rfl
@[simp] theorem State.wb_tmr (s : State) (a b : Nat) (v : Bool) : (s.wb a b v).tmr = s.tmr := rfl
@[simp] theorem State.wb_tmrGroup (s : State) (a b : Nat) (v : Bool) : (s.wb a b v).tmrGroup = s.tmrGroup := rfl
@[simp] theorem State.wb_cal (s : State) (a b : Nat) (v : Bool) : (s.wb a b v).cal = s.cal := rfl
@[simp] theorem State.wb_mem (s : State) (a b : Nat) (v : Bool) : (s.wb a b v).mem = s.mem := rfl
@[simp] theorem State.wb_ecc (s : State) (a b : Nat) (v : Bool) : (s.wb a b v).ecc = s.ecc := rfl
@[simp] theorem State.wb_undef (s : State) (a b : Nat) (v : Bool) : (s.wb a b v).undef = s.undef := rfl
@[simp] theorem State.wb_free (s : State) (a b : Nat) (v : Bool) : (s.wb a b v).free = s.free := rfl
@[simp] theorem State.wb_ueAt (s : State) (a b : Nat) (v : Bool) : (s.wb a b v).ueAt = s.ueAt := rfl
@[simp] theorem State.wb_reels (s : State) (a b : Nat) (v : Bool) : (s.wb a b v).reels = s.reels := rfl
@[simp] theorem State.wb_sup (s : State) (a b : Nat) (v : Bool) : (s.wb a b v).sup = s.sup := rfl
@[simp] theorem State.wb_cip (s : State) (a b : Nat) (v : Bool) : (s.wb a b v).cip = s.cip := rfl
@[simp] theorem State.wb_epr (s : State) (a b : Nat) (v : Bool) : (s.wb a b v).epr = s.epr := rfl
@[simp] theorem State.wb_dcb (s : State) (a b : Nat) (v : Bool) : (s.wb a b v).dcb = s.dcb := rfl
@[simp] theorem State.wb_sys (s : State) (a b : Nat) (v : Bool) : (s.wb a b v).sys = s.sys := rfl
@[simp] theorem State.wb_syn (s : State) (a b : Nat) (v : Bool) : (s.wb a b v).syn = s.syn := rfl
@[simp] theorem State.wb_rfs (s : State) (a b : Nat) (v : Bool) : (s.wb a b v).rfs = s.rfs := rfl
@[simp] theorem State.wb_chz (s : State) (a b : Nat) (v : Bool) : (s.wb a b v).chz = s.chz := rfl
@[simp] theorem State.wb_lnk (s : State) (a b : Nat) (v : Bool) : (s.wb a b v).lnk = s.lnk := rfl
@[simp] theorem State.wb_cores (s : State) (a b : Nat) (v : Bool) : (s.wb a b v).cores = s.cores := rfl
@[simp] theorem State.wb_upd (s : State) (a b : Nat) (v : Bool) : (s.wb a b v).upd = s.upd := rfl
@[simp] theorem State.wb_odx (s : State) (a b : Nat) (v : Bool) : (s.wb a b v).odx = s.odx := rfl
@[simp] theorem State.wb_host (s : State) (a b : Nat) (v : Bool) : (s.wb a b v).host = s.host := rfl
@[simp] theorem State.wb_rdata (s : State) (a b : Nat) (v : Bool) : (s.wb a b v).rdata = s.rdata := rfl
@[simp] theorem State.wb_late (s : State) (a b : Nat) (v : Bool) : (s.wb a b v).late = s.late := rfl
@[simp] theorem State.wb_memDone (s : State) (a b : Nat) (v : Bool) : (s.wb a b v).memDone = s.memDone := rfl

@[simp] theorem State.inc_pending (s : State) (a n : Nat) : (s.inc a n).pending = s.pending := rfl
@[simp] theorem State.inc_slate (s : State) (a n : Nat) : (s.inc a n).slate = s.slate := rfl
@[simp] theorem State.inc_cue (s : State) (a n : Nat) : (s.inc a n).cue = s.cue := rfl
@[simp] theorem State.inc_tmr (s : State) (a n : Nat) : (s.inc a n).tmr = s.tmr := rfl
@[simp] theorem State.inc_tmrGroup (s : State) (a n : Nat) : (s.inc a n).tmrGroup = s.tmrGroup := rfl
@[simp] theorem State.inc_cal (s : State) (a n : Nat) : (s.inc a n).cal = s.cal := rfl
@[simp] theorem State.inc_mem (s : State) (a n : Nat) : (s.inc a n).mem = s.mem := rfl
@[simp] theorem State.inc_ecc (s : State) (a n : Nat) : (s.inc a n).ecc = s.ecc := rfl
@[simp] theorem State.inc_undef (s : State) (a n : Nat) : (s.inc a n).undef = s.undef := rfl
@[simp] theorem State.inc_free (s : State) (a n : Nat) : (s.inc a n).free = s.free := rfl
@[simp] theorem State.inc_ueAt (s : State) (a n : Nat) : (s.inc a n).ueAt = s.ueAt := rfl
@[simp] theorem State.inc_reels (s : State) (a n : Nat) : (s.inc a n).reels = s.reels := rfl
@[simp] theorem State.inc_sup (s : State) (a n : Nat) : (s.inc a n).sup = s.sup := rfl
@[simp] theorem State.inc_cip (s : State) (a n : Nat) : (s.inc a n).cip = s.cip := rfl
@[simp] theorem State.inc_epr (s : State) (a n : Nat) : (s.inc a n).epr = s.epr := rfl
@[simp] theorem State.inc_dcb (s : State) (a n : Nat) : (s.inc a n).dcb = s.dcb := rfl
@[simp] theorem State.inc_sys (s : State) (a n : Nat) : (s.inc a n).sys = s.sys := rfl
@[simp] theorem State.inc_syn (s : State) (a n : Nat) : (s.inc a n).syn = s.syn := rfl
@[simp] theorem State.inc_rfs (s : State) (a n : Nat) : (s.inc a n).rfs = s.rfs := rfl
@[simp] theorem State.inc_chz (s : State) (a n : Nat) : (s.inc a n).chz = s.chz := rfl
@[simp] theorem State.inc_lnk (s : State) (a n : Nat) : (s.inc a n).lnk = s.lnk := rfl
@[simp] theorem State.inc_cores (s : State) (a n : Nat) : (s.inc a n).cores = s.cores := rfl
@[simp] theorem State.inc_upd (s : State) (a n : Nat) : (s.inc a n).upd = s.upd := rfl
@[simp] theorem State.inc_odx (s : State) (a n : Nat) : (s.inc a n).odx = s.odx := rfl
@[simp] theorem State.inc_host (s : State) (a n : Nat) : (s.inc a n).host = s.host := rfl
@[simp] theorem State.inc_rdata (s : State) (a n : Nat) : (s.inc a n).rdata = s.rdata := rfl
@[simp] theorem State.inc_raised (s : State) (a n : Nat) : (s.inc a n).raised = s.raised := rfl
@[simp] theorem State.inc_late (s : State) (a n : Nat) : (s.inc a n).late = s.late := rfl
@[simp] theorem State.inc_memDone (s : State) (a n : Nat) : (s.inc a n).memDone = s.memDone := rfl

@[simp] theorem State.wr64_pending (s : State) (a v : Nat) : (s.wr64 a v).pending = s.pending := rfl
@[simp] theorem State.wr64_slate (s : State) (a v : Nat) : (s.wr64 a v).slate = s.slate := rfl
@[simp] theorem State.wr64_cue (s : State) (a v : Nat) : (s.wr64 a v).cue = s.cue := rfl
@[simp] theorem State.wr64_tmr (s : State) (a v : Nat) : (s.wr64 a v).tmr = s.tmr := rfl
@[simp] theorem State.wr64_tmrGroup (s : State) (a v : Nat) : (s.wr64 a v).tmrGroup = s.tmrGroup := rfl
@[simp] theorem State.wr64_cal (s : State) (a v : Nat) : (s.wr64 a v).cal = s.cal := rfl
@[simp] theorem State.wr64_mem (s : State) (a v : Nat) : (s.wr64 a v).mem = s.mem := rfl
@[simp] theorem State.wr64_ecc (s : State) (a v : Nat) : (s.wr64 a v).ecc = s.ecc := rfl
@[simp] theorem State.wr64_undef (s : State) (a v : Nat) : (s.wr64 a v).undef = s.undef := rfl
@[simp] theorem State.wr64_free (s : State) (a v : Nat) : (s.wr64 a v).free = s.free := rfl
@[simp] theorem State.wr64_ueAt (s : State) (a v : Nat) : (s.wr64 a v).ueAt = s.ueAt := rfl
@[simp] theorem State.wr64_reels (s : State) (a v : Nat) : (s.wr64 a v).reels = s.reels := rfl
@[simp] theorem State.wr64_sup (s : State) (a v : Nat) : (s.wr64 a v).sup = s.sup := rfl
@[simp] theorem State.wr64_cip (s : State) (a v : Nat) : (s.wr64 a v).cip = s.cip := rfl
@[simp] theorem State.wr64_epr (s : State) (a v : Nat) : (s.wr64 a v).epr = s.epr := rfl
@[simp] theorem State.wr64_dcb (s : State) (a v : Nat) : (s.wr64 a v).dcb = s.dcb := rfl
@[simp] theorem State.wr64_sys (s : State) (a v : Nat) : (s.wr64 a v).sys = s.sys := rfl
@[simp] theorem State.wr64_syn (s : State) (a v : Nat) : (s.wr64 a v).syn = s.syn := rfl
@[simp] theorem State.wr64_rfs (s : State) (a v : Nat) : (s.wr64 a v).rfs = s.rfs := rfl
@[simp] theorem State.wr64_chz (s : State) (a v : Nat) : (s.wr64 a v).chz = s.chz := rfl
@[simp] theorem State.wr64_lnk (s : State) (a v : Nat) : (s.wr64 a v).lnk = s.lnk := rfl
@[simp] theorem State.wr64_cores (s : State) (a v : Nat) : (s.wr64 a v).cores = s.cores := rfl
@[simp] theorem State.wr64_upd (s : State) (a v : Nat) : (s.wr64 a v).upd = s.upd := rfl
@[simp] theorem State.wr64_odx (s : State) (a v : Nat) : (s.wr64 a v).odx = s.odx := rfl
@[simp] theorem State.wr64_host (s : State) (a v : Nat) : (s.wr64 a v).host = s.host := rfl
@[simp] theorem State.wr64_rdata (s : State) (a v : Nat) : (s.wr64 a v).rdata = s.rdata := rfl
@[simp] theorem State.wr64_raised (s : State) (a v : Nat) : (s.wr64 a v).raised = s.raised := rfl
@[simp] theorem State.wr64_late (s : State) (a v : Nat) : (s.wr64 a v).late = s.late := rfl
@[simp] theorem State.wr64_memDone (s : State) (a v : Nat) : (s.wr64 a v).memDone = s.memDone := rfl

@[simp] theorem State.plainWrite_pending (s : State) (a : Nat) (v : Word) : (s.plainWrite a v).pending = s.pending := rfl
@[simp] theorem State.plainWrite_slate (s : State) (a : Nat) (v : Word) : (s.plainWrite a v).slate = s.slate := rfl
@[simp] theorem State.plainWrite_cue (s : State) (a : Nat) (v : Word) : (s.plainWrite a v).cue = s.cue := rfl
@[simp] theorem State.plainWrite_tmr (s : State) (a : Nat) (v : Word) : (s.plainWrite a v).tmr = s.tmr := rfl
@[simp] theorem State.plainWrite_tmrGroup (s : State) (a : Nat) (v : Word) : (s.plainWrite a v).tmrGroup = s.tmrGroup := rfl
@[simp] theorem State.plainWrite_cal (s : State) (a : Nat) (v : Word) : (s.plainWrite a v).cal = s.cal := rfl
@[simp] theorem State.plainWrite_mem (s : State) (a : Nat) (v : Word) : (s.plainWrite a v).mem = s.mem := rfl
@[simp] theorem State.plainWrite_ecc (s : State) (a : Nat) (v : Word) : (s.plainWrite a v).ecc = s.ecc := rfl
@[simp] theorem State.plainWrite_undef (s : State) (a : Nat) (v : Word) : (s.plainWrite a v).undef = s.undef := rfl
@[simp] theorem State.plainWrite_free (s : State) (a : Nat) (v : Word) : (s.plainWrite a v).free = s.free := rfl
@[simp] theorem State.plainWrite_ueAt (s : State) (a : Nat) (v : Word) : (s.plainWrite a v).ueAt = s.ueAt := rfl
@[simp] theorem State.plainWrite_reels (s : State) (a : Nat) (v : Word) : (s.plainWrite a v).reels = s.reels := rfl
@[simp] theorem State.plainWrite_sup (s : State) (a : Nat) (v : Word) : (s.plainWrite a v).sup = s.sup := rfl
@[simp] theorem State.plainWrite_cip (s : State) (a : Nat) (v : Word) : (s.plainWrite a v).cip = s.cip := rfl
@[simp] theorem State.plainWrite_epr (s : State) (a : Nat) (v : Word) : (s.plainWrite a v).epr = s.epr := rfl
@[simp] theorem State.plainWrite_dcb (s : State) (a : Nat) (v : Word) : (s.plainWrite a v).dcb = s.dcb := rfl
@[simp] theorem State.plainWrite_sys (s : State) (a : Nat) (v : Word) : (s.plainWrite a v).sys = s.sys := rfl
@[simp] theorem State.plainWrite_syn (s : State) (a : Nat) (v : Word) : (s.plainWrite a v).syn = s.syn := rfl
@[simp] theorem State.plainWrite_rfs (s : State) (a : Nat) (v : Word) : (s.plainWrite a v).rfs = s.rfs := rfl
@[simp] theorem State.plainWrite_chz (s : State) (a : Nat) (v : Word) : (s.plainWrite a v).chz = s.chz := rfl
@[simp] theorem State.plainWrite_lnk (s : State) (a : Nat) (v : Word) : (s.plainWrite a v).lnk = s.lnk := rfl
@[simp] theorem State.plainWrite_cores (s : State) (a : Nat) (v : Word) : (s.plainWrite a v).cores = s.cores := rfl
@[simp] theorem State.plainWrite_upd (s : State) (a : Nat) (v : Word) : (s.plainWrite a v).upd = s.upd := rfl
@[simp] theorem State.plainWrite_odx (s : State) (a : Nat) (v : Word) : (s.plainWrite a v).odx = s.odx := rfl
@[simp] theorem State.plainWrite_host (s : State) (a : Nat) (v : Word) : (s.plainWrite a v).host = s.host := rfl
@[simp] theorem State.plainWrite_rdata (s : State) (a : Nat) (v : Word) : (s.plainWrite a v).rdata = s.rdata := rfl
@[simp] theorem State.plainWrite_raised (s : State) (a : Nat) (v : Word) : (s.plainWrite a v).raised = s.raised := rfl
@[simp] theorem State.plainWrite_late (s : State) (a : Nat) (v : Word) : (s.plainWrite a v).late = s.late := rfl
@[simp] theorem State.plainWrite_memDone (s : State) (a : Nat) (v : Word) : (s.plainWrite a v).memDone = s.memDone := rfl

@[simp] theorem State.emitAt_pending (s : State) (l : List (Nat × Nat)) (g e : Nat) : (s.emitAt l g e).pending = s.pending := rfl
@[simp] theorem State.emitAt_slate (s : State) (l : List (Nat × Nat)) (g e : Nat) : (s.emitAt l g e).slate = s.slate := rfl
@[simp] theorem State.emitAt_regs (s : State) (l : List (Nat × Nat)) (g e : Nat) : (s.emitAt l g e).regs = s.regs := rfl
@[simp] theorem State.emitAt_tmr (s : State) (l : List (Nat × Nat)) (g e : Nat) : (s.emitAt l g e).tmr = s.tmr := rfl
@[simp] theorem State.emitAt_tmrGroup (s : State) (l : List (Nat × Nat)) (g e : Nat) : (s.emitAt l g e).tmrGroup = s.tmrGroup := rfl
@[simp] theorem State.emitAt_cal (s : State) (l : List (Nat × Nat)) (g e : Nat) : (s.emitAt l g e).cal = s.cal := rfl
@[simp] theorem State.emitAt_mem (s : State) (l : List (Nat × Nat)) (g e : Nat) : (s.emitAt l g e).mem = s.mem := rfl
@[simp] theorem State.emitAt_ecc (s : State) (l : List (Nat × Nat)) (g e : Nat) : (s.emitAt l g e).ecc = s.ecc := rfl
@[simp] theorem State.emitAt_undef (s : State) (l : List (Nat × Nat)) (g e : Nat) : (s.emitAt l g e).undef = s.undef := rfl
@[simp] theorem State.emitAt_free (s : State) (l : List (Nat × Nat)) (g e : Nat) : (s.emitAt l g e).free = s.free := rfl
@[simp] theorem State.emitAt_ueAt (s : State) (l : List (Nat × Nat)) (g e : Nat) : (s.emitAt l g e).ueAt = s.ueAt := rfl
@[simp] theorem State.emitAt_reels (s : State) (l : List (Nat × Nat)) (g e : Nat) : (s.emitAt l g e).reels = s.reels := rfl
@[simp] theorem State.emitAt_sup (s : State) (l : List (Nat × Nat)) (g e : Nat) : (s.emitAt l g e).sup = s.sup := rfl
@[simp] theorem State.emitAt_cip (s : State) (l : List (Nat × Nat)) (g e : Nat) : (s.emitAt l g e).cip = s.cip := rfl
@[simp] theorem State.emitAt_epr (s : State) (l : List (Nat × Nat)) (g e : Nat) : (s.emitAt l g e).epr = s.epr := rfl
@[simp] theorem State.emitAt_dcb (s : State) (l : List (Nat × Nat)) (g e : Nat) : (s.emitAt l g e).dcb = s.dcb := rfl
@[simp] theorem State.emitAt_sys (s : State) (l : List (Nat × Nat)) (g e : Nat) : (s.emitAt l g e).sys = s.sys := rfl
@[simp] theorem State.emitAt_syn (s : State) (l : List (Nat × Nat)) (g e : Nat) : (s.emitAt l g e).syn = s.syn := rfl
@[simp] theorem State.emitAt_rfs (s : State) (l : List (Nat × Nat)) (g e : Nat) : (s.emitAt l g e).rfs = s.rfs := rfl
@[simp] theorem State.emitAt_chz (s : State) (l : List (Nat × Nat)) (g e : Nat) : (s.emitAt l g e).chz = s.chz := rfl
@[simp] theorem State.emitAt_lnk (s : State) (l : List (Nat × Nat)) (g e : Nat) : (s.emitAt l g e).lnk = s.lnk := rfl
@[simp] theorem State.emitAt_cores (s : State) (l : List (Nat × Nat)) (g e : Nat) : (s.emitAt l g e).cores = s.cores := rfl
@[simp] theorem State.emitAt_upd (s : State) (l : List (Nat × Nat)) (g e : Nat) : (s.emitAt l g e).upd = s.upd := rfl
@[simp] theorem State.emitAt_odx (s : State) (l : List (Nat × Nat)) (g e : Nat) : (s.emitAt l g e).odx = s.odx := rfl
@[simp] theorem State.emitAt_host (s : State) (l : List (Nat × Nat)) (g e : Nat) : (s.emitAt l g e).host = s.host := rfl
@[simp] theorem State.emitAt_rdata (s : State) (l : List (Nat × Nat)) (g e : Nat) : (s.emitAt l g e).rdata = s.rdata := rfl
@[simp] theorem State.emitAt_raised (s : State) (l : List (Nat × Nat)) (g e : Nat) : (s.emitAt l g e).raised = s.raised := rfl
@[simp] theorem State.emitAt_late (s : State) (l : List (Nat × Nat)) (g e : Nat) : (s.emitAt l g e).late = s.late := rfl
@[simp] theorem State.emitAt_memDone (s : State) (l : List (Nat × Nat)) (g e : Nat) : (s.emitAt l g e).memDone = s.memDone := rfl

@[simp] theorem State.emit_pending (s : State) (l : List Nat) (n : Nat) : (s.emit l n).pending = s.pending := rfl
@[simp] theorem State.emit_slate (s : State) (l : List Nat) (n : Nat) : (s.emit l n).slate = s.slate := rfl
@[simp] theorem State.emit_regs (s : State) (l : List Nat) (n : Nat) : (s.emit l n).regs = s.regs := rfl
@[simp] theorem State.emit_tmr (s : State) (l : List Nat) (n : Nat) : (s.emit l n).tmr = s.tmr := rfl
@[simp] theorem State.emit_tmrGroup (s : State) (l : List Nat) (n : Nat) : (s.emit l n).tmrGroup = s.tmrGroup := rfl
@[simp] theorem State.emit_cal (s : State) (l : List Nat) (n : Nat) : (s.emit l n).cal = s.cal := rfl
@[simp] theorem State.emit_mem (s : State) (l : List Nat) (n : Nat) : (s.emit l n).mem = s.mem := rfl
@[simp] theorem State.emit_ecc (s : State) (l : List Nat) (n : Nat) : (s.emit l n).ecc = s.ecc := rfl
@[simp] theorem State.emit_undef (s : State) (l : List Nat) (n : Nat) : (s.emit l n).undef = s.undef := rfl
@[simp] theorem State.emit_free (s : State) (l : List Nat) (n : Nat) : (s.emit l n).free = s.free := rfl
@[simp] theorem State.emit_ueAt (s : State) (l : List Nat) (n : Nat) : (s.emit l n).ueAt = s.ueAt := rfl
@[simp] theorem State.emit_reels (s : State) (l : List Nat) (n : Nat) : (s.emit l n).reels = s.reels := rfl
@[simp] theorem State.emit_sup (s : State) (l : List Nat) (n : Nat) : (s.emit l n).sup = s.sup := rfl
@[simp] theorem State.emit_cip (s : State) (l : List Nat) (n : Nat) : (s.emit l n).cip = s.cip := rfl
@[simp] theorem State.emit_epr (s : State) (l : List Nat) (n : Nat) : (s.emit l n).epr = s.epr := rfl
@[simp] theorem State.emit_dcb (s : State) (l : List Nat) (n : Nat) : (s.emit l n).dcb = s.dcb := rfl
@[simp] theorem State.emit_sys (s : State) (l : List Nat) (n : Nat) : (s.emit l n).sys = s.sys := rfl
@[simp] theorem State.emit_syn (s : State) (l : List Nat) (n : Nat) : (s.emit l n).syn = s.syn := rfl
@[simp] theorem State.emit_rfs (s : State) (l : List Nat) (n : Nat) : (s.emit l n).rfs = s.rfs := rfl
@[simp] theorem State.emit_chz (s : State) (l : List Nat) (n : Nat) : (s.emit l n).chz = s.chz := rfl
@[simp] theorem State.emit_lnk (s : State) (l : List Nat) (n : Nat) : (s.emit l n).lnk = s.lnk := rfl
@[simp] theorem State.emit_cores (s : State) (l : List Nat) (n : Nat) : (s.emit l n).cores = s.cores := rfl
@[simp] theorem State.emit_upd (s : State) (l : List Nat) (n : Nat) : (s.emit l n).upd = s.upd := rfl
@[simp] theorem State.emit_odx (s : State) (l : List Nat) (n : Nat) : (s.emit l n).odx = s.odx := rfl
@[simp] theorem State.emit_host (s : State) (l : List Nat) (n : Nat) : (s.emit l n).host = s.host := rfl
@[simp] theorem State.emit_rdata (s : State) (l : List Nat) (n : Nat) : (s.emit l n).rdata = s.rdata := rfl
@[simp] theorem State.emit_raised (s : State) (l : List Nat) (n : Nat) : (s.emit l n).raised = s.raised := rfl
@[simp] theorem State.emit_late (s : State) (l : List Nat) (n : Nat) : (s.emit l n).late = s.late := rfl
@[simp] theorem State.emit_memDone (s : State) (l : List Nat) (n : Nat) : (s.emit l n).memDone = s.memDone := rfl

@[simp] theorem State.setCore_pending (s : State) (n : Nat) (c : Core) : (s.setCore n c).pending = s.pending := rfl
@[simp] theorem State.setCore_slate (s : State) (n : Nat) (c : Core) : (s.setCore n c).slate = s.slate := rfl
@[simp] theorem State.setCore_regs (s : State) (n : Nat) (c : Core) : (s.setCore n c).regs = s.regs := rfl
@[simp] theorem State.setCore_cue (s : State) (n : Nat) (c : Core) : (s.setCore n c).cue = s.cue := rfl
@[simp] theorem State.setCore_tmr (s : State) (n : Nat) (c : Core) : (s.setCore n c).tmr = s.tmr := rfl
@[simp] theorem State.setCore_tmrGroup (s : State) (n : Nat) (c : Core) : (s.setCore n c).tmrGroup = s.tmrGroup := rfl
@[simp] theorem State.setCore_cal (s : State) (n : Nat) (c : Core) : (s.setCore n c).cal = s.cal := rfl
@[simp] theorem State.setCore_mem (s : State) (n : Nat) (c : Core) : (s.setCore n c).mem = s.mem := rfl
@[simp] theorem State.setCore_ecc (s : State) (n : Nat) (c : Core) : (s.setCore n c).ecc = s.ecc := rfl
@[simp] theorem State.setCore_undef (s : State) (n : Nat) (c : Core) : (s.setCore n c).undef = s.undef := rfl
@[simp] theorem State.setCore_free (s : State) (n : Nat) (c : Core) : (s.setCore n c).free = s.free := rfl
@[simp] theorem State.setCore_ueAt (s : State) (n : Nat) (c : Core) : (s.setCore n c).ueAt = s.ueAt := rfl
@[simp] theorem State.setCore_reels (s : State) (n : Nat) (c : Core) : (s.setCore n c).reels = s.reels := rfl
@[simp] theorem State.setCore_sup (s : State) (n : Nat) (c : Core) : (s.setCore n c).sup = s.sup := rfl
@[simp] theorem State.setCore_cip (s : State) (n : Nat) (c : Core) : (s.setCore n c).cip = s.cip := rfl
@[simp] theorem State.setCore_epr (s : State) (n : Nat) (c : Core) : (s.setCore n c).epr = s.epr := rfl
@[simp] theorem State.setCore_dcb (s : State) (n : Nat) (c : Core) : (s.setCore n c).dcb = s.dcb := rfl
@[simp] theorem State.setCore_sys (s : State) (n : Nat) (c : Core) : (s.setCore n c).sys = s.sys := rfl
@[simp] theorem State.setCore_syn (s : State) (n : Nat) (c : Core) : (s.setCore n c).syn = s.syn := rfl
@[simp] theorem State.setCore_rfs (s : State) (n : Nat) (c : Core) : (s.setCore n c).rfs = s.rfs := rfl
@[simp] theorem State.setCore_chz (s : State) (n : Nat) (c : Core) : (s.setCore n c).chz = s.chz := rfl
@[simp] theorem State.setCore_lnk (s : State) (n : Nat) (c : Core) : (s.setCore n c).lnk = s.lnk := rfl
@[simp] theorem State.setCore_upd (s : State) (n : Nat) (c : Core) : (s.setCore n c).upd = s.upd := rfl
@[simp] theorem State.setCore_odx (s : State) (n : Nat) (c : Core) : (s.setCore n c).odx = s.odx := rfl
@[simp] theorem State.setCore_host (s : State) (n : Nat) (c : Core) : (s.setCore n c).host = s.host := rfl
@[simp] theorem State.setCore_rdata (s : State) (n : Nat) (c : Core) : (s.setCore n c).rdata = s.rdata := rfl
@[simp] theorem State.setCore_raised (s : State) (n : Nat) (c : Core) : (s.setCore n c).raised = s.raised := rfl
@[simp] theorem State.setCore_late (s : State) (n : Nat) (c : Core) : (s.setCore n c).late = s.late := rfl
@[simp] theorem State.setCore_memDone (s : State) (n : Nat) (c : Core) : (s.setCore n c).memDone = s.memDone := rfl

@[simp] theorem State.setKR_pending (s : State) (n r : Nat) (v : Word) : (s.setKR n r v).pending = s.pending := rfl
@[simp] theorem State.setKR_slate (s : State) (n r : Nat) (v : Word) : (s.setKR n r v).slate = s.slate := rfl
@[simp] theorem State.setKR_regs (s : State) (n r : Nat) (v : Word) : (s.setKR n r v).regs = s.regs := rfl
@[simp] theorem State.setKR_cue (s : State) (n r : Nat) (v : Word) : (s.setKR n r v).cue = s.cue := rfl
@[simp] theorem State.setKR_tmr (s : State) (n r : Nat) (v : Word) : (s.setKR n r v).tmr = s.tmr := rfl
@[simp] theorem State.setKR_tmrGroup (s : State) (n r : Nat) (v : Word) : (s.setKR n r v).tmrGroup = s.tmrGroup := rfl
@[simp] theorem State.setKR_cal (s : State) (n r : Nat) (v : Word) : (s.setKR n r v).cal = s.cal := rfl
@[simp] theorem State.setKR_mem (s : State) (n r : Nat) (v : Word) : (s.setKR n r v).mem = s.mem := rfl
@[simp] theorem State.setKR_ecc (s : State) (n r : Nat) (v : Word) : (s.setKR n r v).ecc = s.ecc := rfl
@[simp] theorem State.setKR_undef (s : State) (n r : Nat) (v : Word) : (s.setKR n r v).undef = s.undef := rfl
@[simp] theorem State.setKR_free (s : State) (n r : Nat) (v : Word) : (s.setKR n r v).free = s.free := rfl
@[simp] theorem State.setKR_ueAt (s : State) (n r : Nat) (v : Word) : (s.setKR n r v).ueAt = s.ueAt := rfl
@[simp] theorem State.setKR_reels (s : State) (n r : Nat) (v : Word) : (s.setKR n r v).reels = s.reels := rfl
@[simp] theorem State.setKR_sup (s : State) (n r : Nat) (v : Word) : (s.setKR n r v).sup = s.sup := rfl
@[simp] theorem State.setKR_cip (s : State) (n r : Nat) (v : Word) : (s.setKR n r v).cip = s.cip := rfl
@[simp] theorem State.setKR_epr (s : State) (n r : Nat) (v : Word) : (s.setKR n r v).epr = s.epr := rfl
@[simp] theorem State.setKR_dcb (s : State) (n r : Nat) (v : Word) : (s.setKR n r v).dcb = s.dcb := rfl
@[simp] theorem State.setKR_sys (s : State) (n r : Nat) (v : Word) : (s.setKR n r v).sys = s.sys := rfl
@[simp] theorem State.setKR_syn (s : State) (n r : Nat) (v : Word) : (s.setKR n r v).syn = s.syn := rfl
@[simp] theorem State.setKR_rfs (s : State) (n r : Nat) (v : Word) : (s.setKR n r v).rfs = s.rfs := rfl
@[simp] theorem State.setKR_chz (s : State) (n r : Nat) (v : Word) : (s.setKR n r v).chz = s.chz := rfl
@[simp] theorem State.setKR_lnk (s : State) (n r : Nat) (v : Word) : (s.setKR n r v).lnk = s.lnk := rfl
@[simp] theorem State.setKR_upd (s : State) (n r : Nat) (v : Word) : (s.setKR n r v).upd = s.upd := rfl
@[simp] theorem State.setKR_odx (s : State) (n r : Nat) (v : Word) : (s.setKR n r v).odx = s.odx := rfl
@[simp] theorem State.setKR_host (s : State) (n r : Nat) (v : Word) : (s.setKR n r v).host = s.host := rfl
@[simp] theorem State.setKR_rdata (s : State) (n r : Nat) (v : Word) : (s.setKR n r v).rdata = s.rdata := rfl
@[simp] theorem State.setKR_raised (s : State) (n r : Nat) (v : Word) : (s.setKR n r v).raised = s.raised := rfl
@[simp] theorem State.setKR_late (s : State) (n r : Nat) (v : Word) : (s.setKR n r v).late = s.late := rfl
@[simp] theorem State.setKR_memDone (s : State) (n r : Nat) (v : Word) : (s.setKR n r v).memDone = s.memDone := rfl

@[simp] theorem State.setAccum_pending (s : State) (n i : Nat) (v : Int) : (s.setAccum n i v).pending = s.pending := rfl
@[simp] theorem State.setAccum_slate (s : State) (n i : Nat) (v : Int) : (s.setAccum n i v).slate = s.slate := rfl
@[simp] theorem State.setAccum_regs (s : State) (n i : Nat) (v : Int) : (s.setAccum n i v).regs = s.regs := rfl
@[simp] theorem State.setAccum_cue (s : State) (n i : Nat) (v : Int) : (s.setAccum n i v).cue = s.cue := rfl
@[simp] theorem State.setAccum_tmr (s : State) (n i : Nat) (v : Int) : (s.setAccum n i v).tmr = s.tmr := rfl
@[simp] theorem State.setAccum_tmrGroup (s : State) (n i : Nat) (v : Int) : (s.setAccum n i v).tmrGroup = s.tmrGroup := rfl
@[simp] theorem State.setAccum_cal (s : State) (n i : Nat) (v : Int) : (s.setAccum n i v).cal = s.cal := rfl
@[simp] theorem State.setAccum_mem (s : State) (n i : Nat) (v : Int) : (s.setAccum n i v).mem = s.mem := rfl
@[simp] theorem State.setAccum_ecc (s : State) (n i : Nat) (v : Int) : (s.setAccum n i v).ecc = s.ecc := rfl
@[simp] theorem State.setAccum_undef (s : State) (n i : Nat) (v : Int) : (s.setAccum n i v).undef = s.undef := rfl
@[simp] theorem State.setAccum_free (s : State) (n i : Nat) (v : Int) : (s.setAccum n i v).free = s.free := rfl
@[simp] theorem State.setAccum_ueAt (s : State) (n i : Nat) (v : Int) : (s.setAccum n i v).ueAt = s.ueAt := rfl
@[simp] theorem State.setAccum_reels (s : State) (n i : Nat) (v : Int) : (s.setAccum n i v).reels = s.reels := rfl
@[simp] theorem State.setAccum_sup (s : State) (n i : Nat) (v : Int) : (s.setAccum n i v).sup = s.sup := rfl
@[simp] theorem State.setAccum_cip (s : State) (n i : Nat) (v : Int) : (s.setAccum n i v).cip = s.cip := rfl
@[simp] theorem State.setAccum_epr (s : State) (n i : Nat) (v : Int) : (s.setAccum n i v).epr = s.epr := rfl
@[simp] theorem State.setAccum_dcb (s : State) (n i : Nat) (v : Int) : (s.setAccum n i v).dcb = s.dcb := rfl
@[simp] theorem State.setAccum_sys (s : State) (n i : Nat) (v : Int) : (s.setAccum n i v).sys = s.sys := rfl
@[simp] theorem State.setAccum_syn (s : State) (n i : Nat) (v : Int) : (s.setAccum n i v).syn = s.syn := rfl
@[simp] theorem State.setAccum_rfs (s : State) (n i : Nat) (v : Int) : (s.setAccum n i v).rfs = s.rfs := rfl
@[simp] theorem State.setAccum_chz (s : State) (n i : Nat) (v : Int) : (s.setAccum n i v).chz = s.chz := rfl
@[simp] theorem State.setAccum_lnk (s : State) (n i : Nat) (v : Int) : (s.setAccum n i v).lnk = s.lnk := rfl
@[simp] theorem State.setAccum_upd (s : State) (n i : Nat) (v : Int) : (s.setAccum n i v).upd = s.upd := rfl
@[simp] theorem State.setAccum_odx (s : State) (n i : Nat) (v : Int) : (s.setAccum n i v).odx = s.odx := rfl
@[simp] theorem State.setAccum_host (s : State) (n i : Nat) (v : Int) : (s.setAccum n i v).host = s.host := rfl
@[simp] theorem State.setAccum_rdata (s : State) (n i : Nat) (v : Int) : (s.setAccum n i v).rdata = s.rdata := rfl
@[simp] theorem State.setAccum_raised (s : State) (n i : Nat) (v : Int) : (s.setAccum n i v).raised = s.raised := rfl
@[simp] theorem State.setAccum_late (s : State) (n i : Nat) (v : Int) : (s.setAccum n i v).late = s.late := rfl
@[simp] theorem State.setAccum_memDone (s : State) (n i : Nat) (v : Int) : (s.setAccum n i v).memDone = s.memDone := rfl

@[simp] theorem State.setChan_pending (s : State) (n i : Nat) (l : List Msg) : (s.setChan n i l).pending = s.pending := rfl
@[simp] theorem State.setChan_slate (s : State) (n i : Nat) (l : List Msg) : (s.setChan n i l).slate = s.slate := rfl
@[simp] theorem State.setChan_regs (s : State) (n i : Nat) (l : List Msg) : (s.setChan n i l).regs = s.regs := rfl
@[simp] theorem State.setChan_cue (s : State) (n i : Nat) (l : List Msg) : (s.setChan n i l).cue = s.cue := rfl
@[simp] theorem State.setChan_tmr (s : State) (n i : Nat) (l : List Msg) : (s.setChan n i l).tmr = s.tmr := rfl
@[simp] theorem State.setChan_tmrGroup (s : State) (n i : Nat) (l : List Msg) : (s.setChan n i l).tmrGroup = s.tmrGroup := rfl
@[simp] theorem State.setChan_cal (s : State) (n i : Nat) (l : List Msg) : (s.setChan n i l).cal = s.cal := rfl
@[simp] theorem State.setChan_mem (s : State) (n i : Nat) (l : List Msg) : (s.setChan n i l).mem = s.mem := rfl
@[simp] theorem State.setChan_ecc (s : State) (n i : Nat) (l : List Msg) : (s.setChan n i l).ecc = s.ecc := rfl
@[simp] theorem State.setChan_undef (s : State) (n i : Nat) (l : List Msg) : (s.setChan n i l).undef = s.undef := rfl
@[simp] theorem State.setChan_free (s : State) (n i : Nat) (l : List Msg) : (s.setChan n i l).free = s.free := rfl
@[simp] theorem State.setChan_ueAt (s : State) (n i : Nat) (l : List Msg) : (s.setChan n i l).ueAt = s.ueAt := rfl
@[simp] theorem State.setChan_reels (s : State) (n i : Nat) (l : List Msg) : (s.setChan n i l).reels = s.reels := rfl
@[simp] theorem State.setChan_sup (s : State) (n i : Nat) (l : List Msg) : (s.setChan n i l).sup = s.sup := rfl
@[simp] theorem State.setChan_cip (s : State) (n i : Nat) (l : List Msg) : (s.setChan n i l).cip = s.cip := rfl
@[simp] theorem State.setChan_epr (s : State) (n i : Nat) (l : List Msg) : (s.setChan n i l).epr = s.epr := rfl
@[simp] theorem State.setChan_dcb (s : State) (n i : Nat) (l : List Msg) : (s.setChan n i l).dcb = s.dcb := rfl
@[simp] theorem State.setChan_sys (s : State) (n i : Nat) (l : List Msg) : (s.setChan n i l).sys = s.sys := rfl
@[simp] theorem State.setChan_syn (s : State) (n i : Nat) (l : List Msg) : (s.setChan n i l).syn = s.syn := rfl
@[simp] theorem State.setChan_rfs (s : State) (n i : Nat) (l : List Msg) : (s.setChan n i l).rfs = s.rfs := rfl
@[simp] theorem State.setChan_chz (s : State) (n i : Nat) (l : List Msg) : (s.setChan n i l).chz = s.chz := rfl
@[simp] theorem State.setChan_lnk (s : State) (n i : Nat) (l : List Msg) : (s.setChan n i l).lnk = s.lnk := rfl
@[simp] theorem State.setChan_upd (s : State) (n i : Nat) (l : List Msg) : (s.setChan n i l).upd = s.upd := rfl
@[simp] theorem State.setChan_odx (s : State) (n i : Nat) (l : List Msg) : (s.setChan n i l).odx = s.odx := rfl
@[simp] theorem State.setChan_host (s : State) (n i : Nat) (l : List Msg) : (s.setChan n i l).host = s.host := rfl
@[simp] theorem State.setChan_rdata (s : State) (n i : Nat) (l : List Msg) : (s.setChan n i l).rdata = s.rdata := rfl
@[simp] theorem State.setChan_raised (s : State) (n i : Nat) (l : List Msg) : (s.setChan n i l).raised = s.raised := rfl
@[simp] theorem State.setChan_late (s : State) (n i : Nat) (l : List Msg) : (s.setChan n i l).late = s.late := rfl
@[simp] theorem State.setChan_memDone (s : State) (n i : Nat) (l : List Msg) : (s.setChan n i l).memDone = s.memDone := rfl

@[simp] theorem State.setKflags_pending (s : State) (n : Nat) (f : KFlags) : (s.setKflags n f).pending = s.pending := by rw [State.setKflags, State.wf_pending]
@[simp] theorem State.setKflags_slate (s : State) (n : Nat) (f : KFlags) : (s.setKflags n f).slate = s.slate := by rw [State.setKflags, State.wf_slate]
@[simp] theorem State.setKflags_cue (s : State) (n : Nat) (f : KFlags) : (s.setKflags n f).cue = s.cue := by rw [State.setKflags, State.wf_cue]
@[simp] theorem State.setKflags_tmr (s : State) (n : Nat) (f : KFlags) : (s.setKflags n f).tmr = s.tmr := by rw [State.setKflags, State.wf_tmr]
@[simp] theorem State.setKflags_tmrGroup (s : State) (n : Nat) (f : KFlags) : (s.setKflags n f).tmrGroup = s.tmrGroup := by rw [State.setKflags, State.wf_tmrGroup]
@[simp] theorem State.setKflags_cal (s : State) (n : Nat) (f : KFlags) : (s.setKflags n f).cal = s.cal := by rw [State.setKflags, State.wf_cal]
@[simp] theorem State.setKflags_mem (s : State) (n : Nat) (f : KFlags) : (s.setKflags n f).mem = s.mem := by rw [State.setKflags, State.wf_mem]
@[simp] theorem State.setKflags_ecc (s : State) (n : Nat) (f : KFlags) : (s.setKflags n f).ecc = s.ecc := by rw [State.setKflags, State.wf_ecc]
@[simp] theorem State.setKflags_undef (s : State) (n : Nat) (f : KFlags) : (s.setKflags n f).undef = s.undef := by rw [State.setKflags, State.wf_undef]
@[simp] theorem State.setKflags_free (s : State) (n : Nat) (f : KFlags) : (s.setKflags n f).free = s.free := by rw [State.setKflags, State.wf_free]
@[simp] theorem State.setKflags_ueAt (s : State) (n : Nat) (f : KFlags) : (s.setKflags n f).ueAt = s.ueAt := by rw [State.setKflags, State.wf_ueAt]
@[simp] theorem State.setKflags_reels (s : State) (n : Nat) (f : KFlags) : (s.setKflags n f).reels = s.reels := by rw [State.setKflags, State.wf_reels]
@[simp] theorem State.setKflags_sup (s : State) (n : Nat) (f : KFlags) : (s.setKflags n f).sup = s.sup := by rw [State.setKflags, State.wf_sup]
@[simp] theorem State.setKflags_cip (s : State) (n : Nat) (f : KFlags) : (s.setKflags n f).cip = s.cip := by rw [State.setKflags, State.wf_cip]
@[simp] theorem State.setKflags_epr (s : State) (n : Nat) (f : KFlags) : (s.setKflags n f).epr = s.epr := by rw [State.setKflags, State.wf_epr]
@[simp] theorem State.setKflags_dcb (s : State) (n : Nat) (f : KFlags) : (s.setKflags n f).dcb = s.dcb := by rw [State.setKflags, State.wf_dcb]
@[simp] theorem State.setKflags_sys (s : State) (n : Nat) (f : KFlags) : (s.setKflags n f).sys = s.sys := by rw [State.setKflags, State.wf_sys]
@[simp] theorem State.setKflags_syn (s : State) (n : Nat) (f : KFlags) : (s.setKflags n f).syn = s.syn := by rw [State.setKflags, State.wf_syn]
@[simp] theorem State.setKflags_rfs (s : State) (n : Nat) (f : KFlags) : (s.setKflags n f).rfs = s.rfs := by rw [State.setKflags, State.wf_rfs]
@[simp] theorem State.setKflags_chz (s : State) (n : Nat) (f : KFlags) : (s.setKflags n f).chz = s.chz := by rw [State.setKflags, State.wf_chz]
@[simp] theorem State.setKflags_lnk (s : State) (n : Nat) (f : KFlags) : (s.setKflags n f).lnk = s.lnk := by rw [State.setKflags, State.wf_lnk]
@[simp] theorem State.setKflags_cores (s : State) (n : Nat) (f : KFlags) : (s.setKflags n f).cores = s.cores := by rw [State.setKflags, State.wf_cores]
@[simp] theorem State.setKflags_upd (s : State) (n : Nat) (f : KFlags) : (s.setKflags n f).upd = s.upd := by rw [State.setKflags, State.wf_upd]
@[simp] theorem State.setKflags_odx (s : State) (n : Nat) (f : KFlags) : (s.setKflags n f).odx = s.odx := by rw [State.setKflags, State.wf_odx]
@[simp] theorem State.setKflags_host (s : State) (n : Nat) (f : KFlags) : (s.setKflags n f).host = s.host := by rw [State.setKflags, State.wf_host]
@[simp] theorem State.setKflags_rdata (s : State) (n : Nat) (f : KFlags) : (s.setKflags n f).rdata = s.rdata := by rw [State.setKflags, State.wf_rdata]
@[simp] theorem State.setKflags_raised (s : State) (n : Nat) (f : KFlags) : (s.setKflags n f).raised = s.raised := by rw [State.setKflags, State.wf_raised]
@[simp] theorem State.setKflags_late (s : State) (n : Nat) (f : KFlags) : (s.setKflags n f).late = s.late := by rw [State.setKflags, State.wf_late]
@[simp] theorem State.setKflags_memDone (s : State) (n : Nat) (f : KFlags) : (s.setKflags n f).memDone = s.memDone := by rw [State.setKflags, State.wf_memDone]

@[simp] theorem State.setByte_pending (s : State) (m o : Nat) (b : Byte) : (s.setByte m o b).pending = s.pending := rfl
@[simp] theorem State.setByte_slate (s : State) (m o : Nat) (b : Byte) : (s.setByte m o b).slate = s.slate := rfl
@[simp] theorem State.setByte_regs (s : State) (m o : Nat) (b : Byte) : (s.setByte m o b).regs = s.regs := rfl
@[simp] theorem State.setByte_cue (s : State) (m o : Nat) (b : Byte) : (s.setByte m o b).cue = s.cue := rfl
@[simp] theorem State.setByte_tmr (s : State) (m o : Nat) (b : Byte) : (s.setByte m o b).tmr = s.tmr := rfl
@[simp] theorem State.setByte_tmrGroup (s : State) (m o : Nat) (b : Byte) : (s.setByte m o b).tmrGroup = s.tmrGroup := rfl
@[simp] theorem State.setByte_cal (s : State) (m o : Nat) (b : Byte) : (s.setByte m o b).cal = s.cal := rfl
@[simp] theorem State.setByte_ecc (s : State) (m o : Nat) (b : Byte) : (s.setByte m o b).ecc = s.ecc := rfl
@[simp] theorem State.setByte_undef (s : State) (m o : Nat) (b : Byte) : (s.setByte m o b).undef = s.undef := rfl
@[simp] theorem State.setByte_free (s : State) (m o : Nat) (b : Byte) : (s.setByte m o b).free = s.free := rfl
@[simp] theorem State.setByte_ueAt (s : State) (m o : Nat) (b : Byte) : (s.setByte m o b).ueAt = s.ueAt := rfl
@[simp] theorem State.setByte_reels (s : State) (m o : Nat) (b : Byte) : (s.setByte m o b).reels = s.reels := rfl
@[simp] theorem State.setByte_sup (s : State) (m o : Nat) (b : Byte) : (s.setByte m o b).sup = s.sup := rfl
@[simp] theorem State.setByte_cip (s : State) (m o : Nat) (b : Byte) : (s.setByte m o b).cip = s.cip := rfl
@[simp] theorem State.setByte_epr (s : State) (m o : Nat) (b : Byte) : (s.setByte m o b).epr = s.epr := rfl
@[simp] theorem State.setByte_dcb (s : State) (m o : Nat) (b : Byte) : (s.setByte m o b).dcb = s.dcb := rfl
@[simp] theorem State.setByte_sys (s : State) (m o : Nat) (b : Byte) : (s.setByte m o b).sys = s.sys := rfl
@[simp] theorem State.setByte_syn (s : State) (m o : Nat) (b : Byte) : (s.setByte m o b).syn = s.syn := rfl
@[simp] theorem State.setByte_rfs (s : State) (m o : Nat) (b : Byte) : (s.setByte m o b).rfs = s.rfs := rfl
@[simp] theorem State.setByte_chz (s : State) (m o : Nat) (b : Byte) : (s.setByte m o b).chz = s.chz := rfl
@[simp] theorem State.setByte_lnk (s : State) (m o : Nat) (b : Byte) : (s.setByte m o b).lnk = s.lnk := rfl
@[simp] theorem State.setByte_cores (s : State) (m o : Nat) (b : Byte) : (s.setByte m o b).cores = s.cores := rfl
@[simp] theorem State.setByte_upd (s : State) (m o : Nat) (b : Byte) : (s.setByte m o b).upd = s.upd := rfl
@[simp] theorem State.setByte_odx (s : State) (m o : Nat) (b : Byte) : (s.setByte m o b).odx = s.odx := rfl
@[simp] theorem State.setByte_host (s : State) (m o : Nat) (b : Byte) : (s.setByte m o b).host = s.host := rfl
@[simp] theorem State.setByte_rdata (s : State) (m o : Nat) (b : Byte) : (s.setByte m o b).rdata = s.rdata := rfl
@[simp] theorem State.setByte_raised (s : State) (m o : Nat) (b : Byte) : (s.setByte m o b).raised = s.raised := rfl
@[simp] theorem State.setByte_late (s : State) (m o : Nat) (b : Byte) : (s.setByte m o b).late = s.late := rfl
@[simp] theorem State.setByte_memDone (s : State) (m o : Nat) (b : Byte) : (s.setByte m o b).memDone = s.memDone := rfl

@[simp] theorem State.setMark_pending (s : State) (m i : Nat) (k : EccMark) : (s.setMark m i k).pending = s.pending := rfl
@[simp] theorem State.setMark_slate (s : State) (m i : Nat) (k : EccMark) : (s.setMark m i k).slate = s.slate := rfl
@[simp] theorem State.setMark_regs (s : State) (m i : Nat) (k : EccMark) : (s.setMark m i k).regs = s.regs := rfl
@[simp] theorem State.setMark_cue (s : State) (m i : Nat) (k : EccMark) : (s.setMark m i k).cue = s.cue := rfl
@[simp] theorem State.setMark_tmr (s : State) (m i : Nat) (k : EccMark) : (s.setMark m i k).tmr = s.tmr := rfl
@[simp] theorem State.setMark_tmrGroup (s : State) (m i : Nat) (k : EccMark) : (s.setMark m i k).tmrGroup = s.tmrGroup := rfl
@[simp] theorem State.setMark_cal (s : State) (m i : Nat) (k : EccMark) : (s.setMark m i k).cal = s.cal := rfl
@[simp] theorem State.setMark_mem (s : State) (m i : Nat) (k : EccMark) : (s.setMark m i k).mem = s.mem := rfl
@[simp] theorem State.setMark_undef (s : State) (m i : Nat) (k : EccMark) : (s.setMark m i k).undef = s.undef := rfl
@[simp] theorem State.setMark_free (s : State) (m i : Nat) (k : EccMark) : (s.setMark m i k).free = s.free := rfl
@[simp] theorem State.setMark_ueAt (s : State) (m i : Nat) (k : EccMark) : (s.setMark m i k).ueAt = s.ueAt := rfl
@[simp] theorem State.setMark_reels (s : State) (m i : Nat) (k : EccMark) : (s.setMark m i k).reels = s.reels := rfl
@[simp] theorem State.setMark_sup (s : State) (m i : Nat) (k : EccMark) : (s.setMark m i k).sup = s.sup := rfl
@[simp] theorem State.setMark_cip (s : State) (m i : Nat) (k : EccMark) : (s.setMark m i k).cip = s.cip := rfl
@[simp] theorem State.setMark_epr (s : State) (m i : Nat) (k : EccMark) : (s.setMark m i k).epr = s.epr := rfl
@[simp] theorem State.setMark_dcb (s : State) (m i : Nat) (k : EccMark) : (s.setMark m i k).dcb = s.dcb := rfl
@[simp] theorem State.setMark_sys (s : State) (m i : Nat) (k : EccMark) : (s.setMark m i k).sys = s.sys := rfl
@[simp] theorem State.setMark_syn (s : State) (m i : Nat) (k : EccMark) : (s.setMark m i k).syn = s.syn := rfl
@[simp] theorem State.setMark_rfs (s : State) (m i : Nat) (k : EccMark) : (s.setMark m i k).rfs = s.rfs := rfl
@[simp] theorem State.setMark_chz (s : State) (m i : Nat) (k : EccMark) : (s.setMark m i k).chz = s.chz := rfl
@[simp] theorem State.setMark_lnk (s : State) (m i : Nat) (k : EccMark) : (s.setMark m i k).lnk = s.lnk := rfl
@[simp] theorem State.setMark_cores (s : State) (m i : Nat) (k : EccMark) : (s.setMark m i k).cores = s.cores := rfl
@[simp] theorem State.setMark_upd (s : State) (m i : Nat) (k : EccMark) : (s.setMark m i k).upd = s.upd := rfl
@[simp] theorem State.setMark_odx (s : State) (m i : Nat) (k : EccMark) : (s.setMark m i k).odx = s.odx := rfl
@[simp] theorem State.setMark_host (s : State) (m i : Nat) (k : EccMark) : (s.setMark m i k).host = s.host := rfl
@[simp] theorem State.setMark_rdata (s : State) (m i : Nat) (k : EccMark) : (s.setMark m i k).rdata = s.rdata := rfl
@[simp] theorem State.setMark_raised (s : State) (m i : Nat) (k : EccMark) : (s.setMark m i k).raised = s.raised := rfl
@[simp] theorem State.setMark_late (s : State) (m i : Nat) (k : EccMark) : (s.setMark m i k).late = s.late := rfl
@[simp] theorem State.setMark_memDone (s : State) (m i : Nat) (k : EccMark) : (s.setMark m i k).memDone = s.memDone := rfl

@[simp] theorem State.setTm_pending (s : State) (n : Nat) (x : TmrState) : (s.setTm n x).pending = s.pending := rfl
@[simp] theorem State.setTm_slate (s : State) (n : Nat) (x : TmrState) : (s.setTm n x).slate = s.slate := rfl
@[simp] theorem State.setTm_regs (s : State) (n : Nat) (x : TmrState) : (s.setTm n x).regs = s.regs := rfl
@[simp] theorem State.setTm_cue (s : State) (n : Nat) (x : TmrState) : (s.setTm n x).cue = s.cue := rfl
@[simp] theorem State.setTm_tmrGroup (s : State) (n : Nat) (x : TmrState) : (s.setTm n x).tmrGroup = s.tmrGroup := rfl
@[simp] theorem State.setTm_cal (s : State) (n : Nat) (x : TmrState) : (s.setTm n x).cal = s.cal := rfl
@[simp] theorem State.setTm_mem (s : State) (n : Nat) (x : TmrState) : (s.setTm n x).mem = s.mem := rfl
@[simp] theorem State.setTm_ecc (s : State) (n : Nat) (x : TmrState) : (s.setTm n x).ecc = s.ecc := rfl
@[simp] theorem State.setTm_undef (s : State) (n : Nat) (x : TmrState) : (s.setTm n x).undef = s.undef := rfl
@[simp] theorem State.setTm_free (s : State) (n : Nat) (x : TmrState) : (s.setTm n x).free = s.free := rfl
@[simp] theorem State.setTm_ueAt (s : State) (n : Nat) (x : TmrState) : (s.setTm n x).ueAt = s.ueAt := rfl
@[simp] theorem State.setTm_reels (s : State) (n : Nat) (x : TmrState) : (s.setTm n x).reels = s.reels := rfl
@[simp] theorem State.setTm_sup (s : State) (n : Nat) (x : TmrState) : (s.setTm n x).sup = s.sup := rfl
@[simp] theorem State.setTm_cip (s : State) (n : Nat) (x : TmrState) : (s.setTm n x).cip = s.cip := rfl
@[simp] theorem State.setTm_epr (s : State) (n : Nat) (x : TmrState) : (s.setTm n x).epr = s.epr := rfl
@[simp] theorem State.setTm_dcb (s : State) (n : Nat) (x : TmrState) : (s.setTm n x).dcb = s.dcb := rfl
@[simp] theorem State.setTm_sys (s : State) (n : Nat) (x : TmrState) : (s.setTm n x).sys = s.sys := rfl
@[simp] theorem State.setTm_syn (s : State) (n : Nat) (x : TmrState) : (s.setTm n x).syn = s.syn := rfl
@[simp] theorem State.setTm_rfs (s : State) (n : Nat) (x : TmrState) : (s.setTm n x).rfs = s.rfs := rfl
@[simp] theorem State.setTm_chz (s : State) (n : Nat) (x : TmrState) : (s.setTm n x).chz = s.chz := rfl
@[simp] theorem State.setTm_lnk (s : State) (n : Nat) (x : TmrState) : (s.setTm n x).lnk = s.lnk := rfl
@[simp] theorem State.setTm_cores (s : State) (n : Nat) (x : TmrState) : (s.setTm n x).cores = s.cores := rfl
@[simp] theorem State.setTm_upd (s : State) (n : Nat) (x : TmrState) : (s.setTm n x).upd = s.upd := rfl
@[simp] theorem State.setTm_odx (s : State) (n : Nat) (x : TmrState) : (s.setTm n x).odx = s.odx := rfl
@[simp] theorem State.setTm_host (s : State) (n : Nat) (x : TmrState) : (s.setTm n x).host = s.host := rfl
@[simp] theorem State.setTm_rdata (s : State) (n : Nat) (x : TmrState) : (s.setTm n x).rdata = s.rdata := rfl
@[simp] theorem State.setTm_raised (s : State) (n : Nat) (x : TmrState) : (s.setTm n x).raised = s.raised := rfl
@[simp] theorem State.setTm_late (s : State) (n : Nat) (x : TmrState) : (s.setTm n x).late = s.late := rfl
@[simp] theorem State.setTm_memDone (s : State) (n : Nat) (x : TmrState) : (s.setTm n x).memDone = s.memDone := rfl

@[simp] theorem State.setTake_pending (s : State) (d : Nat) (x : Take) : (s.setTake d x).pending = s.pending := rfl
@[simp] theorem State.setTake_slate (s : State) (d : Nat) (x : Take) : (s.setTake d x).slate = s.slate := rfl
@[simp] theorem State.setTake_regs (s : State) (d : Nat) (x : Take) : (s.setTake d x).regs = s.regs := rfl
@[simp] theorem State.setTake_cue (s : State) (d : Nat) (x : Take) : (s.setTake d x).cue = s.cue := rfl
@[simp] theorem State.setTake_tmr (s : State) (d : Nat) (x : Take) : (s.setTake d x).tmr = s.tmr := rfl
@[simp] theorem State.setTake_tmrGroup (s : State) (d : Nat) (x : Take) : (s.setTake d x).tmrGroup = s.tmrGroup := rfl
@[simp] theorem State.setTake_cal (s : State) (d : Nat) (x : Take) : (s.setTake d x).cal = s.cal := rfl
@[simp] theorem State.setTake_mem (s : State) (d : Nat) (x : Take) : (s.setTake d x).mem = s.mem := rfl
@[simp] theorem State.setTake_ecc (s : State) (d : Nat) (x : Take) : (s.setTake d x).ecc = s.ecc := rfl
@[simp] theorem State.setTake_undef (s : State) (d : Nat) (x : Take) : (s.setTake d x).undef = s.undef := rfl
@[simp] theorem State.setTake_free (s : State) (d : Nat) (x : Take) : (s.setTake d x).free = s.free := rfl
@[simp] theorem State.setTake_ueAt (s : State) (d : Nat) (x : Take) : (s.setTake d x).ueAt = s.ueAt := rfl
@[simp] theorem State.setTake_reels (s : State) (d : Nat) (x : Take) : (s.setTake d x).reels = s.reels := rfl
@[simp] theorem State.setTake_sup (s : State) (d : Nat) (x : Take) : (s.setTake d x).sup = s.sup := rfl
@[simp] theorem State.setTake_cip (s : State) (d : Nat) (x : Take) : (s.setTake d x).cip = s.cip := rfl
@[simp] theorem State.setTake_epr (s : State) (d : Nat) (x : Take) : (s.setTake d x).epr = s.epr := rfl
@[simp] theorem State.setTake_dcb (s : State) (d : Nat) (x : Take) : (s.setTake d x).dcb = s.dcb := rfl
@[simp] theorem State.setTake_sys (s : State) (d : Nat) (x : Take) : (s.setTake d x).sys = s.sys := rfl
@[simp] theorem State.setTake_syn (s : State) (d : Nat) (x : Take) : (s.setTake d x).syn = s.syn := rfl
@[simp] theorem State.setTake_rfs (s : State) (d : Nat) (x : Take) : (s.setTake d x).rfs = s.rfs := rfl
@[simp] theorem State.setTake_chz (s : State) (d : Nat) (x : Take) : (s.setTake d x).chz = s.chz := rfl
@[simp] theorem State.setTake_cores (s : State) (d : Nat) (x : Take) : (s.setTake d x).cores = s.cores := rfl
@[simp] theorem State.setTake_upd (s : State) (d : Nat) (x : Take) : (s.setTake d x).upd = s.upd := rfl
@[simp] theorem State.setTake_odx (s : State) (d : Nat) (x : Take) : (s.setTake d x).odx = s.odx := rfl
@[simp] theorem State.setTake_host (s : State) (d : Nat) (x : Take) : (s.setTake d x).host = s.host := rfl
@[simp] theorem State.setTake_rdata (s : State) (d : Nat) (x : Take) : (s.setTake d x).rdata = s.rdata := rfl
@[simp] theorem State.setTake_raised (s : State) (d : Nat) (x : Take) : (s.setTake d x).raised = s.raised := rfl
@[simp] theorem State.setTake_late (s : State) (d : Nat) (x : Take) : (s.setTake d x).late = s.late := rfl
@[simp] theorem State.setTake_memDone (s : State) (d : Nat) (x : Take) : (s.setTake d x).memDone = s.memDone := rfl

@[simp] theorem State.setChain_pending (s : State) (n : Nat) (c : Chain) : (s.setChain n c).pending = s.pending := rfl
@[simp] theorem State.setChain_slate (s : State) (n : Nat) (c : Chain) : (s.setChain n c).slate = s.slate := rfl
@[simp] theorem State.setChain_regs (s : State) (n : Nat) (c : Chain) : (s.setChain n c).regs = s.regs := rfl
@[simp] theorem State.setChain_cue (s : State) (n : Nat) (c : Chain) : (s.setChain n c).cue = s.cue := rfl
@[simp] theorem State.setChain_tmr (s : State) (n : Nat) (c : Chain) : (s.setChain n c).tmr = s.tmr := rfl
@[simp] theorem State.setChain_tmrGroup (s : State) (n : Nat) (c : Chain) : (s.setChain n c).tmrGroup = s.tmrGroup := rfl
@[simp] theorem State.setChain_cal (s : State) (n : Nat) (c : Chain) : (s.setChain n c).cal = s.cal := rfl
@[simp] theorem State.setChain_mem (s : State) (n : Nat) (c : Chain) : (s.setChain n c).mem = s.mem := rfl
@[simp] theorem State.setChain_ecc (s : State) (n : Nat) (c : Chain) : (s.setChain n c).ecc = s.ecc := rfl
@[simp] theorem State.setChain_undef (s : State) (n : Nat) (c : Chain) : (s.setChain n c).undef = s.undef := rfl
@[simp] theorem State.setChain_free (s : State) (n : Nat) (c : Chain) : (s.setChain n c).free = s.free := rfl
@[simp] theorem State.setChain_ueAt (s : State) (n : Nat) (c : Chain) : (s.setChain n c).ueAt = s.ueAt := rfl
@[simp] theorem State.setChain_reels (s : State) (n : Nat) (c : Chain) : (s.setChain n c).reels = s.reels := rfl
@[simp] theorem State.setChain_sup (s : State) (n : Nat) (c : Chain) : (s.setChain n c).sup = s.sup := rfl
@[simp] theorem State.setChain_cip (s : State) (n : Nat) (c : Chain) : (s.setChain n c).cip = s.cip := rfl
@[simp] theorem State.setChain_epr (s : State) (n : Nat) (c : Chain) : (s.setChain n c).epr = s.epr := rfl
@[simp] theorem State.setChain_dcb (s : State) (n : Nat) (c : Chain) : (s.setChain n c).dcb = s.dcb := rfl
@[simp] theorem State.setChain_sys (s : State) (n : Nat) (c : Chain) : (s.setChain n c).sys = s.sys := rfl
@[simp] theorem State.setChain_syn (s : State) (n : Nat) (c : Chain) : (s.setChain n c).syn = s.syn := rfl
@[simp] theorem State.setChain_chz (s : State) (n : Nat) (c : Chain) : (s.setChain n c).chz = s.chz := rfl
@[simp] theorem State.setChain_lnk (s : State) (n : Nat) (c : Chain) : (s.setChain n c).lnk = s.lnk := rfl
@[simp] theorem State.setChain_cores (s : State) (n : Nat) (c : Chain) : (s.setChain n c).cores = s.cores := rfl
@[simp] theorem State.setChain_upd (s : State) (n : Nat) (c : Chain) : (s.setChain n c).upd = s.upd := rfl
@[simp] theorem State.setChain_odx (s : State) (n : Nat) (c : Chain) : (s.setChain n c).odx = s.odx := rfl
@[simp] theorem State.setChain_host (s : State) (n : Nat) (c : Chain) : (s.setChain n c).host = s.host := rfl
@[simp] theorem State.setChain_rdata (s : State) (n : Nat) (c : Chain) : (s.setChain n c).rdata = s.rdata := rfl
@[simp] theorem State.setChain_raised (s : State) (n : Nat) (c : Chain) : (s.setChain n c).raised = s.raised := rfl
@[simp] theorem State.setChain_late (s : State) (n : Nat) (c : Chain) : (s.setChain n c).late = s.late := rfl
@[simp] theorem State.setChain_memDone (s : State) (n : Nat) (c : Chain) : (s.setChain n c).memDone = s.memDone := rfl

@[simp] theorem State.setReel_pending (s : State) (n : Nat) (r : Reel) : (s.setReel n r).pending = s.pending := rfl
@[simp] theorem State.setReel_slate (s : State) (n : Nat) (r : Reel) : (s.setReel n r).slate = s.slate := rfl
@[simp] theorem State.setReel_regs (s : State) (n : Nat) (r : Reel) : (s.setReel n r).regs = s.regs := rfl
@[simp] theorem State.setReel_cue (s : State) (n : Nat) (r : Reel) : (s.setReel n r).cue = s.cue := rfl
@[simp] theorem State.setReel_tmr (s : State) (n : Nat) (r : Reel) : (s.setReel n r).tmr = s.tmr := rfl
@[simp] theorem State.setReel_tmrGroup (s : State) (n : Nat) (r : Reel) : (s.setReel n r).tmrGroup = s.tmrGroup := rfl
@[simp] theorem State.setReel_cal (s : State) (n : Nat) (r : Reel) : (s.setReel n r).cal = s.cal := rfl
@[simp] theorem State.setReel_mem (s : State) (n : Nat) (r : Reel) : (s.setReel n r).mem = s.mem := rfl
@[simp] theorem State.setReel_ecc (s : State) (n : Nat) (r : Reel) : (s.setReel n r).ecc = s.ecc := rfl
@[simp] theorem State.setReel_undef (s : State) (n : Nat) (r : Reel) : (s.setReel n r).undef = s.undef := rfl
@[simp] theorem State.setReel_free (s : State) (n : Nat) (r : Reel) : (s.setReel n r).free = s.free := rfl
@[simp] theorem State.setReel_ueAt (s : State) (n : Nat) (r : Reel) : (s.setReel n r).ueAt = s.ueAt := rfl
@[simp] theorem State.setReel_sup (s : State) (n : Nat) (r : Reel) : (s.setReel n r).sup = s.sup := rfl
@[simp] theorem State.setReel_cip (s : State) (n : Nat) (r : Reel) : (s.setReel n r).cip = s.cip := rfl
@[simp] theorem State.setReel_epr (s : State) (n : Nat) (r : Reel) : (s.setReel n r).epr = s.epr := rfl
@[simp] theorem State.setReel_dcb (s : State) (n : Nat) (r : Reel) : (s.setReel n r).dcb = s.dcb := rfl
@[simp] theorem State.setReel_sys (s : State) (n : Nat) (r : Reel) : (s.setReel n r).sys = s.sys := rfl
@[simp] theorem State.setReel_syn (s : State) (n : Nat) (r : Reel) : (s.setReel n r).syn = s.syn := rfl
@[simp] theorem State.setReel_rfs (s : State) (n : Nat) (r : Reel) : (s.setReel n r).rfs = s.rfs := rfl
@[simp] theorem State.setReel_chz (s : State) (n : Nat) (r : Reel) : (s.setReel n r).chz = s.chz := rfl
@[simp] theorem State.setReel_lnk (s : State) (n : Nat) (r : Reel) : (s.setReel n r).lnk = s.lnk := rfl
@[simp] theorem State.setReel_cores (s : State) (n : Nat) (r : Reel) : (s.setReel n r).cores = s.cores := rfl
@[simp] theorem State.setReel_upd (s : State) (n : Nat) (r : Reel) : (s.setReel n r).upd = s.upd := rfl
@[simp] theorem State.setReel_odx (s : State) (n : Nat) (r : Reel) : (s.setReel n r).odx = s.odx := rfl
@[simp] theorem State.setReel_host (s : State) (n : Nat) (r : Reel) : (s.setReel n r).host = s.host := rfl
@[simp] theorem State.setReel_rdata (s : State) (n : Nat) (r : Reel) : (s.setReel n r).rdata = s.rdata := rfl
@[simp] theorem State.setReel_raised (s : State) (n : Nat) (r : Reel) : (s.setReel n r).raised = s.raised := rfl
@[simp] theorem State.setReel_late (s : State) (n : Nat) (r : Reel) : (s.setReel n r).late = s.late := rfl
@[simp] theorem State.setReel_memDone (s : State) (n : Nat) (r : Reel) : (s.setReel n r).memDone = s.memDone := rfl

/-! ### Registers -/

@[simp] theorem State.rd_wr_self (s : State) (a : Nat) (v : Word) : (s.wr a v).rd a = v := by
  simp [State.rd, State.wr]

theorem State.rd_wr_of_ne (s : State) {a b : Nat} (v : Word) (h : b ≠ a) : (s.wr a v).rd b = s.rd b := by
  simp [State.rd, State.wr, SMap.get_store_of_ne _ _ _ _ h]

theorem State.rd_wf_self (s : State) (a hi lo v : Nat) : (s.wf a hi lo v).rd a = setFld (s.rd a) hi lo v := by
  simp [State.wf]

theorem State.rd_wf_of_ne (s : State) {a b : Nat} (hi lo v : Nat) (h : b ≠ a) : (s.wf a hi lo v).rd b = s.rd b := by
  simp [State.wf, State.rd_wr_of_ne _ _ h]

theorem State.rd_wb (s : State) (a b : Nat) (v : Bool) (c : Nat) : (s.wb a b v).rd c = (s.wf a b b (b2n v)).rd c := rfl

theorem State.rd_wb_of_ne (s : State) {a b : Nat} (i : Nat) (v : Bool) (h : b ≠ a) : (s.wb a i v).rd b = s.rd b := by
  simp [State.rd_wb, State.rd_wf_of_ne _ _ _ _ h]

/-- The record of the bits that hardware set in the present tick, after one more was given (R5). -/
theorem State.raised_wb (s : State) (a b : Nat) (v : Bool) :
    (s.wb a b v).raised = if v then s.raised.put a (s.raised.get a 0 ||| word (2 ^ b)) else s.raised := by
  cases v <;> rfl

theorem State.raised_wb_of_ne (s : State) {a c : Nat} (b : Nat) (v : Bool) (h : c ≠ a) :
    (s.wb a b v).raised.get c 0 = s.raised.get c 0 := by
  cases v <;> simp [State.raised_wb, SMap.get_put_of_ne _ _ _ h]

/-- A field that was set reads its value. -/
theorem State.rf_wf_self (s : State) (a v : Nat) {hi lo : Nat} (h : lo ≤ hi) (h32 : hi < 32) :
    (s.wf a hi lo v).rf a hi lo = v % 2 ^ (hi + 1 - lo) := by
  simp [State.rf, State.rd_wf_self, fld_setFld_self _ _ h h32]

/-- A bit that was set reads its value. -/
theorem State.rb_wb_self (s : State) (a : Nat) {b : Nat} (v : Bool) (h : b < 32) : (s.wb a b v).rb a b = v := by
  simp [State.rb, State.rd_wb, State.rd_wf_self, bit_setFld_self _ _ h]

theorem State.rd_inc_self (s : State) (a n : Nat) : (s.inc a n).rd a = s.rd a + word n := by
  simp [State.inc]

theorem State.rd_inc_of_ne (s : State) {a b : Nat} (n : Nat) (h : b ≠ a) : (s.inc a n).rd b = s.rd b := by
  simp [State.inc, State.rd_wr_of_ne _ _ h]

@[simp] theorem State.rd_emitAt (s : State) (l : List (Nat × Nat)) (g e a : Nat) : (s.emitAt l g e).rd a = s.rd a := rfl

@[simp] theorem State.rd_emit (s : State) (l : List Nat) (n a : Nat) : (s.emit l n).rd a = s.rd a := rfl

@[simp] theorem State.rd_setCore (s : State) (n : Nat) (c : Core) (a : Nat) : (s.setCore n c).rd a = s.rd a := rfl

@[simp] theorem State.rd_setKR (s : State) (n r : Nat) (v : Word) (a : Nat) : (s.setKR n r v).rd a = s.rd a := rfl

@[simp] theorem State.rd_setAccum (s : State) (n i : Nat) (v : Int) (a : Nat) : (s.setAccum n i v).rd a = s.rd a := rfl

@[simp] theorem State.rd_setByte (s : State) (m o : Nat) (b : Byte) (a : Nat) : (s.setByte m o b).rd a = s.rd a := rfl

@[simp] theorem State.rd_setMark (s : State) (m i : Nat) (k : EccMark) (a : Nat) : (s.setMark m i k).rd a = s.rd a := rfl

@[simp] theorem State.rd_setTm (s : State) (n : Nat) (x : TmrState) (a : Nat) : (s.setTm n x).rd a = s.rd a := rfl

@[simp] theorem State.rd_setTake (s : State) (d : Nat) (x : Take) (a : Nat) : (s.setTake d x).rd a = s.rd a := rfl

@[simp] theorem State.rd_setChain (s : State) (n : Nat) (c : Chain) (a : Nat) : (s.setChain n c).rd a = s.rd a := rfl

@[simp] theorem State.rd_setReel (s : State) (n : Nat) (r : Reel) (a : Nat) : (s.setReel n r).rd a = s.rd a := rfl

/-- A write to the register file keeps its canonical form. -/
theorem wf_regs_wr {s : State} (a : Nat) (v : Word) (h : SMap.wf regReset s.regs = true) :
    SMap.wf regReset (s.wr a v).regs = true := SMap.wf_store a v h

/-! ### Cores -/

@[simp] theorem State.core_setCore_self (s : State) (n : Nat) (c : Core) : (s.setCore n c).core n = c := by
  simp [State.core, State.setCore]

theorem State.core_setCore_of_ne (s : State) {n m : Nat} (c : Core) (h : m ≠ n) : (s.setCore n c).core m = s.core m := by
  simp [State.core, State.setCore, SMap.get_put_of_ne _ _ _ h]

@[simp] theorem State.core_wr (s : State) (a : Nat) (v : Word) (n : Nat) : (s.wr a v).core n = s.core n := rfl

@[simp] theorem State.core_wf (s : State) (a hi lo v n : Nat) : (s.wf a hi lo v).core n = s.core n := rfl

@[simp] theorem State.core_wb (s : State) (a b : Nat) (v : Bool) (n : Nat) : (s.wb a b v).core n = s.core n := rfl

@[simp] theorem State.core_setKflags (s : State) (n : Nat) (f : KFlags) (m : Nat) : (s.setKflags n f).core m = s.core m := by
  simp [State.core]

/-- k0 reads 0 (R404). -/
@[simp] theorem State.k_zero (s : State) (n : Nat) : s.k n 0 = 0 := rfl

/-- The register that was written reads its value; k0 reads 0 (R404). -/
theorem State.k_setKR_self (s : State) (n r : Nat) (v : Word) : (s.setKR n r v).k n r = if r = 0 then 0 else v := by
  by_cases h : r = 0 <;> simp [State.k, State.setKR, Core.setK, h]

theorem State.k_setKR_of_ne (s : State) {n m r q : Nat} (v : Word) (h : m ≠ n ∨ q ≠ r) : (s.setKR n r v).k m q = s.k m q := by
  by_cases hm : m = n
  · subst hm
    have hq : q ≠ r := by simpa using h
    by_cases hr : r = 0
    · simp [State.k, State.setKR, Core.setK, hr]
    · simp [State.k, State.setKR, Core.setK, hr, SMap.get_store_of_ne _ _ _ _ hq]
  · simp [State.k, State.setKR, State.core_setCore_of_ne _ _ hm]

@[simp] theorem State.k_setKflags (s : State) (n : Nat) (f : KFlags) (m q : Nat) : (s.setKflags n f).k m q = s.k m q := by
  simp [State.k]

@[simp] theorem State.k_wr (s : State) (a : Nat) (v : Word) (m q : Nat) : (s.wr a v).k m q = s.k m q := rfl

@[simp] theorem State.k_wb (s : State) (a b : Nat) (v : Bool) (m q : Nat) : (s.wb a b v).k m q = s.k m q := rfl

end Sys2Proof.Machine
end

