-- ==== Sys2Proof/Laws/Frame.lean ====
section
/-! SUPPORT. What the shared updates do in the terms of Safety.lean: which registers they keep, which bits and fields they
give, and which cues an emission fires. -/

namespace Sys2Proof.Machine

theorem KeepsRegs.refl (rs : List Nat) (s : State) : KeepsRegs rs s s := fun _ _ => ⟨rfl, rfl⟩

theorem KeepsRegs.of_regs {rs : List Nat} {s t : State} (h : t.regs = s.regs) (hr : t.raised = s.raised) : KeepsRegs rs s t :=
  fun a _ => by simp [State.rd, h, hr]

theorem KeepsRegs.trans {rs : List Nat} {s t u : State} (h : KeepsRegs rs s t) (g : KeepsRegs rs t u) :
    KeepsRegs rs s u := fun a ha => ⟨(g a ha).1.trans (h a ha).1, (g a ha).2.trans (h a ha).2⟩

theorem KeepsRegs.wr {rs : List Nat} {s t : State} (h : KeepsRegs rs s t) {a : Nat} (v : Word) (ha : a ∈ rs) :
    KeepsRegs rs s (t.wr a v) := fun b hb => by
  have hn : b ≠ a := fun e => hb (by rw [e]; exact ha)
  rw [State.rd_wr_of_ne _ _ hn]
  exact h b hb

theorem KeepsRegs.wf {rs : List Nat} {s t : State} (h : KeepsRegs rs s t) {a : Nat} (hi lo v : Nat) (ha : a ∈ rs) :
    KeepsRegs rs s (t.wf a hi lo v) := h.wr _ ha

theorem KeepsRegs.wb {rs : List Nat} {s t : State} (h : KeepsRegs rs s t) {a : Nat} (b : Nat) (v : Bool) (ha : a ∈ rs) :
    KeepsRegs rs s (t.wb a b v) := fun c hc => by
  have hn : c ≠ a := fun e => hc (by rw [e]; exact ha)
  rw [State.rd_wb_of_ne _ _ _ hn, State.raised_wb_of_ne _ _ _ hn]
  exact h c hc

theorem KeepsRegs.inc {rs : List Nat} {s t : State} (h : KeepsRegs rs s t) {a : Nat} (n : Nat) (ha : a ∈ rs) :
    KeepsRegs rs s (t.inc a n) := h.wr _ ha

theorem KeepsRegs.wr64 {rs : List Nat} {s t : State} (h : KeepsRegs rs s t) {a : Nat} (v : Nat) (ha : a ∈ rs)
    (hb : a + 4 ∈ rs) : KeepsRegs rs s (t.wr64 a v) := (h.wr _ ha).wr _ hb

theorem KeepsRegs.emit {rs : List Nat} {s t : State} (h : KeepsRegs rs s t) (routes : List Nat) (c : Nat) :
    KeepsRegs rs s (t.emit routes c) := fun a ha => h a ha

/-- An event of the present tick fires its routes. -/
theorem State.emit_cue (s : State) (rs : List Nat) (c : Nat) :
    (s.emit rs c).cue = { s.cue with pending := s.cue.pending ++ s.cuesOf rs c } := by
  simp [State.emit, State.emitAt, State.cuesOf, Function.comp_def]

theorem Fires.emit (s : State) (rs : List Nat) (c : Nat) : Fires rs c s (s.emit rs c) := s.emit_cue rs c

/-- An event emitted after updates that keep the cues and the slate. -/
theorem Fires.emit_after {s t : State} {rs : List Nat} (c : Nat) (hc : t.cue = s.cue) (hs : t.slate = s.slate) :
    Fires rs c s (t.emit rs c) := by
  unfold Fires
  rw [State.emit_cue, hc, State.cuesOf, State.cuesOf, hs]

/-- Whether a route delivers rests on two registers alone. -/
theorem State.routeOn_congr {s t : State} {r : Nat} (hm : t.rd Reg.SYS_MODE = s.rd Reg.SYS_MODE)
    (he : t.rd (Reg.CUE_EN (r / 32)) = s.rd (Reg.CUE_EN (r / 32))) : t.routeOn r = s.routeOn r := by
  have hmode : t.mode = s.mode := by simp only [State.mode, State.rf, hm]
  simp only [State.routeOn, State.rb, State.mainOn, State.aonOn, he, hmode]

theorem GivesBits.wb (s : State) {a b : Nat} (v : Bool) (hb : b < 32) : GivesBits a [b] v s (s.wb a b v) := by
  intro k hk
  by_cases h : k = b
  · subst h; simp [State.rb_wb_self _ _ _ hb]
  · have : bit (setFld (s.rd a) b b (b2n v)) k = bit (s.rd a) k := by
      rcases Nat.lt_or_gt_of_ne h with h | h
      · exact bit_setFld_of_lt _ _ le_rfl hb h
      · exact bit_setFld_of_gt _ _ le_rfl hb h
    simp [h, State.rb, State.rd_wb, State.wf, this]

theorem GivesField.wf (s : State) {a hi lo : Nat} {v : Nat} (h : lo ≤ hi) (h32 : hi < 32) (hv : v < 2 ^ (hi + 1 - lo)) :
    GivesField a hi lo v s (s.wf a hi lo v) := by
  refine ⟨?_, fun b hb hn => ?_⟩
  · rw [State.rf_wf_self _ _ _ h h32, Nat.mod_eq_of_lt hv]
  · have : bit (setFld (s.rd a) hi lo v) b = bit (s.rd a) b := by
      rcases Nat.lt_or_ge b lo with hl | hl
      · exact bit_setFld_of_lt _ _ h h32 hl
      · exact bit_setFld_of_gt _ _ h h32 (by omega)
    simp [State.rb, State.wf, this]

end Sys2Proof.Machine
end

