-- ==== Sys2Proof/Laws/Memory.lean ====
section
/-! SUPPORT. Laws of the memories: an octet reads what was stored, every other octet stays, and every memory operation keeps the
canonical form. -/

namespace Sys2Proof.Machine

@[simp] theorem State.memByte_setByte_self (s : State) (m o : Nat) (b : Byte) : (s.setByte m o b).memByte m o = b := by
  simp [State.memByte, State.setByte]

theorem State.memByte_setByte_of_ne (s : State) {m o m' o' : Nat} (b : Byte) (h : memKey m' o' ≠ memKey m o) :
    (s.setByte m o b).memByte m' o' = s.memByte m' o' := by
  simp [State.memByte, State.setByte, SMap.get_store_of_ne _ _ _ _ h]

theorem memKey_inj {m o m' o' : Nat} (h : o < 2 ^ 40) (h' : o' < 2 ^ 40) (e : memKey m o = memKey m' o') : m = m' ∧ o = o' := by
  simp only [memKey] at e
  constructor <;> omega

/-! ### The canonical form -/

theorem Memory.wf_setByte {s : State} (m o : Nat) (b : Byte) (h : Memory.wf s.mem = true) :
    Memory.wf (s.setByte m o b).mem = true := SMap.wf_store (d := fun _ => (0 : Byte)) (memKey m o) b h

/-- An operation folded over a list keeps what one use of it keeps. -/
theorem foldl_keeps {α β : Type} {P : β → Prop} {f : β → α → β} (hf : ∀ s a, P s → P (f s a)) :
    ∀ (l : List α) (s : β), P s → P (l.foldl f s)
  | [], _, h => h
  | a :: l, s, h => foldl_keeps hf l (f s a) (hf s a h)

theorem Memory.wf_setBytes {s : State} (m o : Nat) (bs : List Byte) (h : Memory.wf s.mem = true) :
    Memory.wf (s.setBytes m o bs).mem = true := by
  unfold State.setBytes
  exact foldl_keeps (P := fun s : State => Memory.wf s.mem = true) (fun s a hs => Memory.wf_setByte _ _ _ hs) _ _ h

theorem Memory.wf_setEccData {s : State} (m i d : Nat) (h : Memory.wf s.mem = true) :
    Memory.wf (s.setEccData m i d).mem = true := Memory.wf_setBytes _ _ _ h

theorem Memory.wf_poke {s : State} (m o : Nat) (bs : List Byte) (h : Memory.wf s.mem = true) :
    Memory.wf (s.poke m o bs).mem = true := by
  unfold State.poke
  simp only [State.settle]
  refine Memory.wf_setBytes _ _ _ (foldl_keeps (P := fun s : State => Memory.wf s.mem = true) (fun t a ht => ?_) _ _ h)
  simp only [State.setMark_mem]
  generalize EccMark.mk 0 7 _ = full
  by_cases hm : s.eccMark m a = full
  · simpa [hm] using ht
  · simpa [hm] using Memory.wf_setEccData _ _ _ ht

@[simp] theorem State.correction_mem (s : State) (m : Nat) : (s.correction m).mem = s.mem := by
  simp [State.correction]

@[simp] theorem State.uncorrectable_mem (s : State) (req m o : Nat) : (s.uncorrectable req m o).mem = s.mem := by
  unfold State.uncorrectable
  dsimp only
  split <;> simp

@[simp] theorem State.reportWord_mem (s : State) (req m i : Nat) : (s.reportWord req m i).mem = s.mem := by
  unfold State.reportWord
  split <;> simp

theorem foldl_mem {α : Type} {f : State → α → State} (hf : ∀ s a, (f s a).mem = s.mem) (l : List α) (s : State) :
    (l.foldl f s).mem = s.mem :=
  foldl_keeps (P := fun t : State => t.mem = s.mem) (fun t a h => (hf t a).trans h) l s rfl

/-- A read changes no octet. -/
@[simp] theorem State.readReport_mem (s : State) (req m o n : Nat) : (s.readReport req m o n).mem = s.mem :=
  foldl_mem (fun s i => State.reportWord_mem s req m i) _ _

theorem Memory.wf_write {s : State} (req m o : Nat) (bs : List Byte) (h : Memory.wf s.mem = true) :
    Memory.wf (s.write req m o bs).1.mem = true := by
  unfold State.write
  have hr : ∀ l : List Nat, Memory.wf (l.foldl (fun t i => t.reportWord req m i) s).mem = true := fun l => by
    rw [foldl_mem (fun s i => State.reportWord_mem s req m i)]; exact h
  dsimp only
  split
  · exact Memory.wf_poke _ _ _ (hr _)
  · exact hr _

theorem Memory.wf_unwrite {s : State} (m i n : Nat) (h : Memory.wf s.mem = true) : Memory.wf (s.unwrite m i n).mem = true :=
  SMap.wf_filter _ h

theorem Memory.wf_clearMem {s : State} (m : Nat) (h : Memory.wf s.mem = true) : Memory.wf (s.clearMem m).mem = true :=
  SMap.wf_filter _ h

theorem Memory.wf_undefine {s : State} (m o n : Nat) (h : Memory.wf s.mem = true) : Memory.wf (s.undefine m o n).mem = true := by
  unfold State.undefine
  split
  · exact h
  · exact Memory.wf_poke _ _ _ h

theorem Memory.wf_undefineBy {s : State} (req m o n : Nat) (h : Memory.wf s.mem = true) :
    Memory.wf (s.undefineBy req m o n).1.mem = true := by
  unfold State.undefineBy
  dsimp only
  split
  · exact Memory.wf_undefine _ _ _ (Memory.wf_write _ _ _ _ h)
  · exact Memory.wf_write _ _ _ _ h

theorem Memory.wf_putWord {s : State} (m i d : Nat) (h : Memory.wf s.mem = true) : Memory.wf (s.putWord m i d).mem = true := by
  simp only [State.putWord, State.setMark_mem]
  exact Memory.wf_setEccData _ _ _ h

theorem reset_mem_wf : Memory.wf State.reset.mem = true := rfl

end Sys2Proof.Machine
end

