-- ==== Sys2Proof/Tests/Slice0.lean ====
section
/-! SUPPORT. Tests: ill-formed commands, worked values of the spec, and for each obligation with hypotheses a concrete state and
operands that meet them, clause by clause. -/

namespace Sys2Proof.Tests

open Sys2Proof Sys2Proof.Machine

set_option maxRecDepth 100000

/-- The state after reset with registers written raw. -/
def st (l : List (Nat × Nat)) : State := l.foldl (fun (s : State) e => s.wr e.1 (word e.2)) {}

/-- The same in mode `m`, which supplies power to the domains of that mode. -/
def inMode (m : Nat) (l : List (Nat × Nat)) : State := (st l).wf Reg.SYS_MODE 3 0 m

/-- `P` holds of the next state of a command. -/
def after (i : Instr) (s : State) (P : State → Bool) : Bool :=
  match exec i s with
  | .next t => P t
  | _ => false

/-! ### The step and the queue -/

theorem test_step_takes_the_front_command :
    (match step { State.reset with pending := [.saveAll, .calFreeze] } with | .next t => t.pending | _ => []) = [.calFreeze] := by
  decide

theorem test_idle_step_is_a_tick :
    (match step State.reset with | .next t => t.slate | _ => 0) = 1 := by decide

theorem test_ill_formed_is_refused : exec (.coreResetCmd 4) {} = .refused .illFormed := rfl

theorem test_write_outside_the_blocks_faults :
    exec (.registerWrite 4 0x50000000 0) {} = .fault (.busError 0x50000000) := rfl

/-! ### Worked values of the spec, each from the example or table it names -/

/-- The eight words of the examples of R435-R436 and of the end of spec/17_keasuric_instructions.md. -/
theorem test_keasuric_words :
    ([0x40A61001, 0x00E52803, 0x623FFFF9, 0x197E, 0x87F8, 0x414BAA03, 0x41099007].map fun w =>
      (decodeKs 0 (word w)).map fun i => (i.name, i.rd, i.rs1, i.rs2)) =
    [some (.ld, 5, 6, 0), some (.add, 7, 5, 5), some (.bcc, 0, 0, 0), some (.cAddi, 5, 5, 0), some (.cBne, 0, 0, 0),
      some (.ld, 10, 11, 0), some (.ld, 8, 9, 0)] := by decide

/-- Displacements, conditions, addressing modes and lengths of the same words. -/
theorem test_keasuric_fields :
    ([0x623FFFF9, 0x197E, 0x87F8, 0x414BAA03, 0x41099007].map fun w =>
      (decodeKs 0 (word w)).map fun i => (i.imm, [i.cond, i.am, i.sz, i.x, i.len])) =
    [some (-4, [8, 0, 0, 0, 4]), some (-1, [0, 0, 0, 0, 2]), some (-4, [8, 0, 0, 0, 2]), some (0, [0, 5, 1, 0x101, 4]),
      some (0, [0, 4, 2, 3, 4])] := by decide

/-- A modulo load wraps (second access), and a bit-reversed one steps (R435, R436). -/
theorem test_modulo_and_bit_reversed_addresses :
    let s := (st [(Reg.CPR_MBASE 0 1, 0x10002000), (Reg.CPR_MLEN 0 1, 10)]).setCore 0 {
      k := [(9, 0x10000110#32), (11, 0x10002008#32), (31, 0x20000#32)] }
    ((decodeKs 0 0x414BAA03).map (memAddr s 0), (decodeKs 0 0x41099007).map (memAddr s 0)) =
      (some (0x10002008, some 0x10002000), some (0x10000110, some 0x10000108)) := by decide

/-- 868.3 MHz tunes to 0x1B226666 (R67). -/
theorem test_tuning_word : tuneWord 868300000 = 0x1B226666 := by decide

/-- The PHR of a 28-octet PSDU, and its CRC-8 (R131, R132); the three PHRs of the frame examples. -/
theorem test_phr_and_crc8 :
    (phrWord 28 false true false, [crc8 [0x0E, 0x20], crc8 [0x12, 0x20], crc8 [0x09, 0x20]]) = (0x0E20, [0x36, 0x9D, 0x5D]) := by
  decide

/-- The first octets of the whitening sequence are 0xFF, 0x87 and 0xB8 (R133). -/
theorem test_whitening_sequence :
    octetsOf (whitened (List.replicate 24 false)) = [0xFF, 0x87, 0xB8] := by decide

/-- The example uplink: FC 0x1C01, header 18, MIC 8, nonce and first block of associated data (R173, R176). -/
theorem test_frame_control_and_nonce :
    (mkFc 0 3 true false false 0 false, mhrLen 0x1C01, micLen 3, ccmNonce 0x02A74C000013A2F5 0x2A17 0x1C01) =
    (0x1C01, 18, 8, [0x02, 0xA7, 0x4C, 0, 0, 0x13, 0xA2, 0xF5, 0, 0, 0x2A, 0x17, 0x1C]) := by decide

/-- The replay window's example (R190, R191): the classifications and the window after the frames that pass. -/
theorem test_replay_window :
    ([0x2A17, 0x2A15, 0x2A1A].map (windowNext 0x2A17 5), windowNext 0x2A17 7 0x2A1A) =
    ([(0x2A17, 5), (0x2A17, 7), (0x2A1A, 0x2C)], (0x2A1A, 0x3C)) := by decide

/-- The check bits of data 3 are 0x0C (R445). -/
theorem test_check_bits : eccCheck (eccR 5) (eccK 5) 3 = 0x0C := by decide

/-- 2025-01-01 00:00:00 is 789,004,800 s after the epoch, and a Wednesday (R384). -/
theorem test_calendar_seconds :
    ((⟨2025, 1, 1, 0, 0, 0⟩ : CalTime).seconds, calDow 2025 1 1, calDow 2099 12 31) = (789004800, 3, 4) := by decide

/-- A COUNT trigger of 5 on a timer with TOP 1 from 1 wraps three times (R372). -/
theorem test_count_trigger_wraps :
    after (.tmrCountTrigger 2 5 0) ((st [(Reg.TMRN_CTL 2, 9), (Reg.TMRN_TOP 2, 1), (Reg.TMRN_CNT 2, 1)])) (fun t =>
      t.rd (Reg.TMRN_CNT 2) == 0 && t.cue.deferred.any fun e => e.routes.contains (181, 3)) = true := by decide

/-- The first sample of the example of R511: FREQ -160 and RATE -2,720. -/
theorem test_slate_sample :
    let t := synApply (st [(Reg.SYN_CFG, 100 * 65536 + 6 * 4096 + 2 * 256 + 1)]) 40
    (t.synFreq, t.synRate) = (-160, -2720) := by decide

/-- Sentinel 9's margin of the example of R530. -/
theorem test_sentinel_margin : [212800, 215700, 218500].map (({} : State).marginOf 9) = [120, 135, 150] := by decide

/-- SHA-256 of "abc" (FIPS 180-4). -/
theorem test_sha256 : (sha256 [0x61, 0x62, 0x63]).take 4 = [0xBA, 0x78, 0x16, 0xBF] := by decide

/-- AES-128 of FIPS 197, appendix C.1. -/
theorem test_aes :
    (aesEnc (List.range 16) ((List.range 16).map (· * 0x11))).take 4 = [0x69, 0xC4, 0xE0, 0xD8] := by decide

/-! ### Well-formedness: an operand just outside its range is refused, the last one inside it is not -/

theorem test_ill_formed_0 : ([
  .coreResetCmd 4, .modeRequest 16, .lockLoss 8, .rfcRelock 8, .calDc 8, .calIq 8, .calFc 8, .calPa 8,
  .calSuspendStart 8, .calComplete 8 false 0, .agcGainStep 8 false .loud, .retuneBackEnd 8, .applyGo 0x0,
  .profileSearchResume 8 63 15, .profileSearchResume 7 64 15, .profileSearchResume 7 63 16, .noiseWindowEnd 8 [] [],
  .phrReceived 192 [] 0, .deadSymbolTruncation 192 ⟨[], 0⟩ 0, .takeComplete 192 0,
  .decodeDone 192 { eof := 0, est := [], freq := 0, rateNum := 0, rateDen := 0 }, .takeReady 192,
  .siblingResolution 192, .takeRelease 192, .scheduleArm 0x0, .scheduleCancel 0x0, .scheduleCancel 0x3,
  .scheduleDispatch 4096, .dispatchSlackExpiry 4096, .txCounterReset 0x0, .enqueue 0x0, .withdraw 0x0,
  .budgetAccountEnable false 16 0x80000000, .budgetAccountEnable false 15 0x0, .presetLoad false 16 0x80000000,
  .presetLoad false 15 0x0, .sheetSubmit 6, .rangeSaveStart 512, .rangeLoaded 512 false, .rangeRelease 0x0,
  .generationSeed 0x0, .recordCapture 33554432] : List Instr).all (fun i => !i.wf) = true := by decide

theorem test_ill_formed_1 : ([
  .cipSubmit 5 0, .keyLoad 5 0x80000000, .keyLoad 4 0x0, .slotClear 0x0, .reelEnable 32 0x80000000,
  .reelEnable 31 0x0, .reelDisable 32 0, .reelDisable 31 0x80000000, .routeEnable 16 0x80000000, .routeEnable 15 0x0,
  .packetOpen 0 32, .packetClose 0 32, .reelPush 0 32 0, .reelPop 4 32, .reelPop 5 31, .producerStall 32,
  .pointerFault 32, .cueFire 7 0, .intTrigger 147 0, .gpoSet 16 0, .gpoClr 16 0, .gpoPulseEnd 16,
  .gpioInputEdge 16 ⟨false, 0⟩, .gpioStuck 16, .sysWakeTrigger 16 0 0, .ethFlush 3 0, .tmrCountTrigger 16 0 0,
  .tmrCaptTrigger 16 0 0 0, .tmrCaptureCmd 16, .tmrMatch 16 3, .tmrMatch 15 4, .tmrOverflow 16, .tmrCtlWrite 16 0,
  .tmrCntWrite 16 0, .tmrCmpWrite 16 3 0, .tmrCmpWrite 15 4 0, .tmrTopWrite 16 0, .interruptEntry 5, .msgSend 5,
  .msgSendStallEnd 5, .msgRecv 5, .msgRecvCipher 5] : List Instr).all (fun i => !i.wf) = true := by decide

theorem test_ill_formed_2 : ([
  .msgRecvAny 5, .msgRecvStallEnd 5, .dwinWrite 5 0, .waitComplete 5, .add 5, .sub 5, .neg 5, .cmp 5, .and 5, .or 5,
  .xor 5, .not 5, .mov 5, .lsl 5, .lsr 5, .asr 5, .ror 5, .lsli 5, .lsri 5, .asri 5, .rori 5, .clz 5, .sextb 5,
  .sexth 5, .zextb 5, .zexth 5, .addi 5, .andi 5, .ori 5, .xori 5, .cmpi 5, .lih 5, .lil 5, .ld 5, .lds 5, .st 5,
  .bcc 5, .call 5, .jmp 5, .jr 5, .callr 5, .ret 5] : List Instr).all (fun i => !i.wf) = true := by decide

theorem test_ill_formed_3 : ([
  .reti 5, .trap 5, .feat 5, .wait 5, .mul 5, .mulhs 5, .mulhu 5, .divs 5, .divu 5, .addsat 5, .subsat 5, .negsat 5,
  .addsatH 5, .subsatH 5, .clampH 5, .macL 5, .macU 5, .msbL 5, .msbU 5, .macf 5, .azero 5, .aload 5, .arnd 5,
  .agetl 5, .ageth 5, .aput 5, .cMov 5, .cAdd 5, .cSub 5, .cAddi 5, .cCmp 5, .cLdwsp 5, .cStwsp 5, .cLdw 5, .cStw 5,
  .cLsli 5, .cLsri 5, .cAsri 5, .cAnd 5, .cOr 5, .cB 5, .cBeq 5] : List Instr).all (fun i => !i.wf) = true := by decide

theorem test_ill_formed_4 : ([
  .cBne 5, .cRet 5, .cJr 5, .cCallr 5, .scrubberVisit 15, .leakyBucketLeak 15, .notificationSample 64,
  .subscriptionLapse 64, .ethFrameReceive 3 [] false 0, .ethFrameTransmit 3 0, .ethLinkChange 3 false 0 false,
  .batchAgeExpiry 3 31, .batchAgeExpiry 2 32, .batchSend 3, .ppsEdge ⟨false, 0, 8⟩, .stageBegin 16 [],
  .stageBegin 0x7F [], .stageBegin 0x85 [], .stageChunk 16 0 [], .stageChunk 0x7F 0 [], .stageChunk 0x85 0 [],
  .stageFinish 16, .stageFinish 0x7F, .stageFinish 0x85, .stageAbort 16, .stageAbort 0x7F, .stageAbort 0x85,
  .unstage 0, .unstage 5, .revokeKey 4, .chainPowerUpComplete 8, .synthesizerRetuneComplete 8, .femPinChange 8,
  .lateTakeCommit 192, .inputGlitch (.gpio 16 0), .registerWrite 0 0x40000012 1, .registerWrite 0 0x100000000 1,
  .detection { stamp := 0, chain := 8, ch := 63, prof := 15, onB := false, preamble := 0, bits := 0, powerA := 0, powerB := 0 },
  .detection { stamp := 0, chain := 7, ch := 64, prof := 15, onB := false, preamble := 0, bits := 0, powerA := 0, powerB := 0 },
  .detection { stamp := 0, chain := 7, ch := 63, prof := 16, onB := false, preamble := 0, bits := 0, powerA := 0, powerB := 0 },
  .bootSequence { bootSel := 4, flash := true, dramGib := 2, ranks := 1, rate := 1 }] : List Instr).all (fun i => !i.wf) = true := by decide

theorem test_well_formed_at_the_bound_0 : ([
  .coreResetCmd 3, .modeRequest 15, .lockLoss 7, .rfcRelock 7, .calDc 7, .calIq 7, .calFc 7, .calPa 7,
  .calSuspendStart 7, .calComplete 7 false 0, .agcGainStep 7 false .loud, .retuneBackEnd 7, .applyGo 0x80000000,
  .profileSearchResume 7 63 15, .noiseWindowEnd 7 [] [], .phrReceived 191 [] 0, .deadSymbolTruncation 191 ⟨[], 0⟩ 0,
  .takeComplete 191 0, .decodeDone 191 { eof := 0, est := [], freq := 0, rateNum := 0, rateDen := 0 },
  .takeReady 191, .siblingResolution 191, .takeRelease 191, .scheduleArm 0x1, .scheduleCancel 0x2,
  .scheduleDispatch 4095, .dispatchSlackExpiry 4095, .txCounterReset 0x1, .enqueue 0x40000000, .withdraw 0x80000000,
  .budgetAccountEnable false 15 0x80000000, .presetLoad false 15 0x80000000, .sheetSubmit 5, .rangeSaveStart 511,
  .rangeLoaded 511 false, .rangeRelease 0x80000000, .generationSeed 0x1, .recordCapture 33554431, .cipSubmit 4 0,
  .keyLoad 4 0x80000000, .slotClear 0x80000000, .reelEnable 31 0x80000000, .reelDisable 31 0] : List Instr).all (fun i => i.wf) = true := by decide

theorem test_well_formed_at_the_bound_1 : ([
  .routeEnable 15 0x80000000, .packetOpen 0 31, .packetClose 0 31, .reelPush 0 31 0, .reelPop 4 31,
  .producerStall 31, .pointerFault 31, .cueFire 6 0, .intTrigger 146 0, .gpoSet 15 0, .gpoClr 15 0, .gpoPulseEnd 15,
  .gpioInputEdge 15 ⟨false, 0⟩, .gpioStuck 15, .sysWakeTrigger 15 0 0, .ethFlush 2 0, .tmrCountTrigger 15 0 0,
  .tmrCaptTrigger 15 0 0 0, .tmrCaptureCmd 15, .tmrMatch 15 3, .tmrOverflow 15, .tmrCtlWrite 15 0, .tmrCntWrite 15 0,
  .tmrCmpWrite 15 3 0, .tmrTopWrite 15 0, .interruptEntry 4, .msgSend 4, .msgSendStallEnd 4, .msgRecv 4,
  .msgRecvCipher 4, .msgRecvAny 4, .msgRecvStallEnd 4, .dwinWrite 4 0, .waitComplete 4, .add 4, .sub 4, .neg 4,
  .cmp 4, .and 4, .or 4, .xor 4, .not 4] : List Instr).all (fun i => i.wf) = true := by decide

theorem test_well_formed_at_the_bound_2 : ([
  .mov 4, .lsl 4, .lsr 4, .asr 4, .ror 4, .lsli 4, .lsri 4, .asri 4, .rori 4, .clz 4, .sextb 4, .sexth 4, .zextb 4,
  .zexth 4, .addi 4, .andi 4, .ori 4, .xori 4, .cmpi 4, .lih 4, .lil 4, .ld 4, .lds 4, .st 4, .bcc 4, .call 4,
  .jmp 4, .jr 4, .callr 4, .ret 4, .reti 4, .trap 4, .feat 4, .wait 4, .mul 4, .mulhs 4, .mulhu 4, .divs 4, .divu 4,
  .addsat 4, .subsat 4, .negsat 4] : List Instr).all (fun i => i.wf) = true := by decide

theorem test_well_formed_at_the_bound_3 : ([
  .addsatH 4, .subsatH 4, .clampH 4, .macL 4, .macU 4, .msbL 4, .msbU 4, .macf 4, .azero 4, .aload 4, .arnd 4,
  .agetl 4, .ageth 4, .aput 4, .cMov 4, .cAdd 4, .cSub 4, .cAddi 4, .cCmp 4, .cLdwsp 4, .cStwsp 4, .cLdw 4, .cStw 4,
  .cLsli 4, .cLsri 4, .cAsri 4, .cAnd 4, .cOr 4, .cB 4, .cBeq 4, .cBne 4, .cRet 4, .cJr 4, .cCallr 4,
  .scrubberVisit 14, .leakyBucketLeak 14, .notificationSample 63, .subscriptionLapse 63,
  .ethFrameReceive 2 [] false 0, .ethFrameTransmit 2 0, .ethLinkChange 2 false 0 false, .batchAgeExpiry 2 31] : List Instr).all (fun i => i.wf) = true := by decide

theorem test_well_formed_at_the_bound_4 : ([
  .batchSend 2, .ppsEdge ⟨false, 0, 7⟩, .stageBegin 0x84 [], .stageChunk 0x84 0 [], .stageFinish 0x84, .stageAbort 0x84,
  .unstage 4, .revokeKey 3, .chainPowerUpComplete 7, .synthesizerRetuneComplete 7, .femPinChange 7,
  .lateTakeCommit 191, .inputGlitch (.gpio 15 0), .inputGlitch .vbat, .registerWrite 0 0xFFFFFFFC 1,
  .detection { stamp := 0, chain := 7, ch := 63, prof := 15, onB := true, preamble := 0, bits := 0, powerA := 0, powerB := 0 },
  .bootSequence { bootSel := 3, flash := true, dramGib := 2, ranks := 1, rate := 1 }] : List Instr).all (fun i => i.wf) = true := by decide

/-! ### What the obligations assume: a state and operands for each clause, the bounds of its ranges among them -/

theorem meets_StepRunsTheFrontCommand : ({ State.reset with pending := [.saveAll] } : State).pending = .saveAll :: [] := rfl

theorem meets_CommandsGoOn :
    (Instr.coreResetCmd 4).wf = false ∧ (Instr.coreResetCmd 3).wf = true ∧ (Instr.registerWrite 0 0x50000000 0).wf = true ∧
    ({} : State).busOk 0x50000000 = false ∧ ({} : State).busOk Reg.SYS_MODE = true := by decide

theorem meets_EveryStepKeepsTheCanonicalForm :
    Memory.wf State.reset.mem = true ∧ State.reset.slate < 2 ^ 64 ∧
    (match step State.reset with | .next t => decide (t.slate = 1) | _ => false) = true := by decide

/-- A powered and an unpowered CUE, input 5 in HIBERNATE off and input 6 on, and a word of CUE.CNT146 unwritten, good, corrected
and uncorrectable, and in HIBERNATE without power. -/
theorem meets_CueFireAndIntTriggers :
    let s (k : EccMark) : State := { st [] with ecc := [(memKey 12 146, k)] }
    (st []).mainOn = true ∧ (inMode 1 []).mainOn = false ∧ (inMode 1 []).inputOn 5 = false ∧ (st []).inputOn 146 = true ∧
    (inMode 1 []).inputOn 6 = true ∧ (st []).memOn 12 = true ∧ (inMode 1 []).memOn 12 = false ∧
    ((st []).eccRead 12 146).cls = .unwritten ∧ ((s { v0 := 7 }).eccRead 12 146).cls = .good ∧
    ((s { syn := 7, v0 := 7 }).eccRead 12 146).cls = .corrected ∧
    ((s { syn := 3, v0 := 7 }).eccRead 12 146).cls = .uncorrectable := by decide

/-- A running pulse that ends now, an input about to change, a stuck input and a powered always-on domain, on pins 15 and 0. -/
theorem meets_PinsFollowTheirTriggersAndInputs :
    let p : State := { st [] with slate := 9, cue := { gpio := [(15, { latch := true, pulseEnd := some 9 })] } }
    let q : State := { st [(Reg.CUE_GPIO_STUCK 0, 1), (Reg.CUE_GPIO_CFG 0, 4 * 65536), (Reg.CUE_GPIO_CFG 15, 4 * 65536)] with
      slate := 32001, cue := { gpio := [(0, { since := some 0 })] } }
    (p.pin 15).pulseEnd = some 9 ∧ 9 ≤ p.slate ∧
    q.mainOn = true ∧ (inMode 1 []).mainOn = false ∧
    (∀ n ∈ [0, 15], q.pinOn n = true ∧ q.pinOut n = false ∧ (q.pin n).level ≠ true ∧
      q.rf (Reg.CUE_GPIO_CFG n) 23 16 ≤ 4 ∧ 3 < q.rf (Reg.CUE_GPIO_CFG n) 23 16) ∧
    q.gpioStuckDue 0 = true ∧ q.aonOn = true ∧
    ({ q with slate := 32000 } : State).gpioStuckDue 0 = false := by decide

/-- All three OMODEs, a set against a clear in one tick and a set alone. -/
theorem meets_PinsOutputModes :
    let s : State := { st [(Reg.CUE_GPIO_CFG 1, 2 ^ 27), (Reg.CUE_GPIO_CFG 2, 2 ^ 28), (Reg.CUE_GPIO_CFG 3, 3 * 2 ^ 27)] with
      slate := 4, cue := { gpio := [(2, { lastClr := some 4 })] } }
    s.rf (Reg.CUE_GPIO_CFG 0) 28 27 = 0 ∧ s.rf (Reg.CUE_GPIO_CFG 1) 28 27 = 1 ∧ s.rf (Reg.CUE_GPIO_CFG 2) 28 27 = 2 ∧
    s.rf (Reg.CUE_GPIO_CFG 3) 28 27 = 3 ∧ (s.pin 2).lastClr = some s.slate ∧ (s.pin 2).lastSet ≠ some s.slate := by decide

/-- A capture that waits; a step due in this tick that wraps into CMP3 = 0 of timer 15, one that moves into CMP3 = 7 without
a wrap, one that is not due; a COUNT timer at its TOP; a timer selected for a group start and one that is not. -/
theorem meets_TimerSteps :
    let s : State := { st [(Reg.TMRN_CTL 15, 1), (Reg.TMRN_TOP 15, 7), (Reg.TMRN_CNT 15, 7), (Reg.TMRN_CMP 15 3, 0), (Reg.TMR_GSEL, 0x8000)] with slate := 1 }
    let c := s.wr (Reg.TMRN_CTL 15) 9
    let m := (s.wr (Reg.TMRN_CNT 15) 6).wr (Reg.TMRN_CMP 15 3) 7
    s.mainOn = true ∧ s.tmrStepsNow 15 = true ∧ (s.rd (Reg.TMRN_TOP 15)).toNat ≤ (s.rd (Reg.TMRN_CNT 15)).toNat ∧
    0 = (s.rd (Reg.TMRN_CMP 15 3)).toNat ∧ m.tmrStepsNow 15 = true ∧
    ¬(m.rd (Reg.TMRN_TOP 15)).toNat ≤ (m.rd (Reg.TMRN_CNT 15)).toNat ∧
    (m.rd (Reg.TMRN_CNT 15)).toNat + 1 = (m.rd (Reg.TMRN_CMP 15 3)).toNat ∧ c.tmrStepsNow 15 = false ∧
    c.mainOn = true ∧ c.rb (Reg.TMRN_CTL 15) 0 = true ∧ c.rf (Reg.TMRN_CTL 15) 3 2 = 2 ∧
    c.rb (Reg.TMRN_CTL 15) 4 = false ∧ (c.rd (Reg.TMRN_CNT 15)).toNat ≤ (c.rd (Reg.TMRN_TOP 15)).toNat ∧
    (7 + 1) / (7 + 1) ≠ 0 ∧ s.rb Reg.TMR_GSEL 15 = true ∧ s.rb Reg.TMR_GSEL 0 = false ∧
    (({ s with tmr := [(15, { capWait := 1 })] } : State).tm 15).capWait = 1 ∧
    (let w : State := { s.wr (Reg.TMRN_FLAG 15) 32 with tmr := [(15, { capWait := 2, cueCap := some 1 })] }
     1 < (w.tm 15).capWait ∧ w.rb (Reg.TMRN_FLAG 15) 5 = true ∧ (w.tm 15).cueCap = some w.slate) := by decide

/-- A freeze at its limit of 64,000 ticks, one not in force, and one in force. -/
theorem meets_CalendarFreezes :
    let s : State := { st [(Reg.CAL_STAT, 0x81)] with slate := 64000, cal := { freezeAt := some 0 } }
    s.aonOn = true ∧ s.cal.freezeAt = some 0 ∧ 0 + 64000 ≤ s.slate ∧ s.rb Reg.CAL_STAT 7 = true ∧ ({} : State).rb Reg.CAL_STAT 7 = false := by decide

/-- A staged leap day, and a 29 February of a common year. -/
theorem meets_CommitTakesTheStagedTimeWhole :
    let s := st [(Reg.CAL_SYEAR, 2000), (Reg.CAL_SDATE, 2 * 256 + 29), (Reg.CAL_STIME, 23 * 65536 + 59 * 256 + 59)]
    let c := s.calStaged
    (c.sec ≤ 59 ∧ c.min ≤ 59 ∧ c.hour ≤ 23 ∧ 1 ≤ c.month ∧ c.month ≤ 12 ∧ 1 ≤ c.day ∧ c.day ≤ monthLength c.year c.month ∧
      2000 ≤ c.year ∧ c.year ≤ 2399) ∧
    let d := (s.wr Reg.CAL_SYEAR 2100).calStaged
    ¬d.day ≤ monthLength d.year d.month := by decide

/-- The last second of 2399 and the second before it. -/
theorem meets_CalendarSecondsAdvance :
    (⟨2399, 12, 31, 23, 59, 59⟩ : CalTime).valid = true ∧ (⟨2399, 12, 31, 23, 59, 58⟩ : CalTime).valid = true ∧
    (⟨2399, 12, 31, 23, 59, 58⟩ : CalTime) ≠ ⟨2399, 12, 31, 23, 59, 59⟩ ∧
    let t := ({} : State).setCal ⟨2399, 12, 31, 23, 59, 59⟩ 32767
    let s : State := { t with cal := { t.cal with phase := 31967232 } }
    let b := calWrites s
    s.edgeDue = true ∧ b.cal.set = false ∧ b.rf Reg.CAL_SUBSEC 14 0 = 32767 ∧ b.calNow = ⟨2399, 12, 31, 23, 59, 59⟩ := by decide

/-- 2000-01-01 00:17:03 at its last sub-second with a wake every second and an alarm on every second, at the crystal phase `p`. -/
def calendarAt (p : Nat) : State :=
  let s := (st [(Reg.CAL_WAKECFG, 2 ^ 31 + 1), (Reg.CAL_STAT, 0), (Reg.CAL_ALMTIME, 0xF0000000)]).setCal ⟨2000, 1, 1, 0, 17, 3⟩ 32767
  { s with cal := { s.cal with phase := p } }

/-- An edge that steps into a wake, an alarm and the start of a 1,024 s window; one that is not due. -/
theorem meets_CalendarEvents_edges :
    (∀ p ∈ [State.wakeQualifies, State.alarmQualifies, State.atTrimWindow], (calendarAt 31967232).edgeInto p = true) ∧
    (calendarAt 31967231).edgeDue = false ∧ (calendarAt 31967231).edgeInto State.wakeQualifies = false ∧
    (calWrites (calendarAt 31967232)).calSteps = 1 := by decide +kernel

/-- An edge that steps into the wrap, and one that steps twice. -/
theorem meets_CalendarEvents_steps :
    ((calendarAt 31967232).setCal ⟨2399, 12, 31, 23, 59, 59⟩ 32767).edgeInto
      (fun t => t.rf Reg.CAL_SUBSEC 14 0 == 0 && t.calNow == ⟨2000, 1, 1, 0, 0, 0⟩) = true ∧
    (calWrites (((calendarAt 31967232).wr Reg.CAL_TRIM (0x0FFF * 65536)).wr Reg.CAL_SUBSEC 16383)).calSteps = 2 := by decide +kernel

/-- A powered always-on domain, BACKUP, 1 ms without an edge and one tick less, and a measured window. -/
theorem meets_CalendarEvents :
    let s := calendarAt 0
    s.aonOn = true ∧ (inMode 0 []).mode = 0 ∧
    ({ s with cal := { idle := 32000 } } : State).oscStopDue = true ∧
    ({ s with cal := { idle := 31999 } } : State).oscStopDue = false ∧
    let w : State := { s with slate := 1000, cal := { winOk := true, winTick := 0, winEdges := 0 } }
    (calMove w).atTrimWindow = true ∧ w.cal.winOk = true ∧ 0 < w.slate - w.cal.winTick := by decide

/-- Each refusal of R40 in its order: an illegal code, BUSY, the present mode, an X of the table, causes 3, 5 and 4, and a
RELAY request without a parent. -/
theorem meets_ModeRequests :
    let s := inMode 3 []
    s.aonOn = true ∧ ¬(1 ≤ 0 ∧ 0 ≤ 7) ∧ ¬(1 ≤ 8 ∧ 8 ≤ 7) ∧ s.rb Reg.SYS_MODE 12 = false ∧
    (s.wb Reg.SYS_MODE 12 true).rb Reg.SYS_MODE 12 = true ∧ s.mode = 3 ∧ (inMode 7 []).mode = 7 ∧
    s.sys.microcode = false ∧ s.rf Reg.SYS_BOOTSTAT 23 16 ≠ 0x20 ∧
    (let m : State := { s with sys := { s.sys with microcode := true } }
     m.rb Reg.MEM_STAT 0 = false ∧
     let r := m.wb Reg.MEM_STAT 0 true
     r.rb Reg.MEM_STAT 0 = true ∧ r.mainOn = true ∧ (∀ j, j < 4 → r.rb (Reg.LNK_PCH j) 31 = false) ∧
     let d := r.wr Reg.SYS_ROLE 0x22222220
     ∀ n, n < 8 → d.rf Reg.SYS_ROLE (4 * n + 3) (4 * n) ≠ 1 ∧ d.rf Reg.SYS_ROLE (4 * n + 3) (4 * n) ≠ 3) := by decide

/-- Direct moves (2 to 6, 7 to 2), a drain (4 to 2), a move through STANDBY (6 to 1) and a wake (1 to 2), each accepted. -/
theorem meets_AcceptedModeRequests :
    ∀ e ∈ [(2, 6), (7, 2), (4, 2), (6, 1), (1, 2)],
      let s := inMode e.1 []
      s.mode = e.1 ∧ e.1 ≠ e.2 ∧ s.rb Reg.SYS_MODE 12 = false ∧ s.targetCause e.2 = 0 ∧ s.sys.wakeGen = none := by decide

/-- A drain at its limit and one of 64 idle ticks, to STANDBY, SURVEY and INITIALIZE; a second step in the next tick, one of them
to HIBERNATE; a running self-test in its first and in its last test, with a boot target behind it and with none. -/
theorem meets_DrainsSecondSteps :
    (∀ m ∈ [2, 3, 6],
      let s : State := { inMode 4 [(Reg.SYS_DRAIN, 32000)] with slate := 32000, sys := { trans := some { target := m, since := 0, drain := true } } }
      1 ≤ s.mode ∧ s.mode = 4 ∧ m ≠ 4 ∧ m ≠ 5 ∧ 0 + (s.rd Reg.SYS_DRAIN).toNat ≤ s.slate ∧ s.drained = true ∧ 0 + 64 ≤ s.slate) ∧
    (∀ m ∈ [7, 1],
      let t : State := { inMode 2 [] with slate := 1, sys := { trans := some { target := m, since := 0, second := true } } }
      1 ≤ t.mode ∧ (0 : Nat) < t.slate ∧ t.sys.wakeDue = false) ∧
    (∀ k ∈ [0, 3],
      let v : State := { inMode 7 [] with sys := { testing := true, tested := k, testToBoot := true, bootTarget := 6 } }
      v.mode = 7 ∧ v.sys.testing = true ∧ v.sys.testToBoot = true ∧ v.sys.bootTarget ≠ 2 ∧ v.targetCause v.sys.bootTarget = 0 ∧
      ({ v with sys := { v.sys with testToBoot := false } } : State).sys.testToBoot = false) := by decide

/-- The ECC test of a memory and the reel tests of the first and the last reel pass after reset. -/
theorem meets_SelfTestsPass :
    eccPasses State.reset 13 = true ∧ reelPasses State.reset 0 = true ∧ reelPasses State.reset 31 = true := by decide +kernel

/-- HIBERNATE with an enabled source, with none, and a wake in progress; a mode with the main domain on. -/
theorem meets_WakeTriggers :
    let s := inMode 1 []
    s.aonOn = true ∧
    let enabled (x : State) (k : Nat) := (List.range 4).filter fun i => k.testBit i && x.rb Reg.SYS_HIBCTL (8 + i)
    s.mode = 1 ∧ enabled s 1 ≠ [] ∧ enabled (s.wr Reg.SYS_HIBCTL 0x21) 15 = [] ∧ s.sys.wakeAt = none ∧
    (2 ≤ (inMode 2 []).mode ∧ (inMode 2 []).sys.trans = none) ∧
    let w : State := { s with sys := { wakeAt := some 0 } }
    let r : State := { s with sys := { wakeAt := some 0, wakeTo := 4, wakeReq := true } }
    let n : State := { s with sys := { wakeAt := some 0, wakeTo := 4 } }
    w.sys.wakeAt ≠ none ∧ w.sys.wakeTo = 2 ∧ r.sys.wakeTo ≠ 2 ∧ r.sys.wakeReq = true ∧ n.sys.wakeReq = false ∧
    after .wakeComplete n (fun t => t.targetCause 4 != 0) = true ∧
    after .wakeComplete { s with sys := { wakeAt := some 0, wakeTo := 6 } } (fun t => t.targetCause 6 == 0) = true := by decide

/-- A powered always-on domain, a watchdog at its limit, and BACKUP with the backup domain kept. -/
theorem meets_ResetsReachTheirDomains :
    let s : State := { inMode 3 [] with slate := 64000000 }
    s.aonOn = true ∧ s.rf Reg.CPR_WDOG 15 0 ≠ 0 ∧ s.sys.wdogAt + s.rf Reg.CPR_WDOG 15 0 * 32000 ≤ s.slate ∧
    (inMode 0 []).aonOn = false ∧ (inMode 0 []).cal.lost = false ∧
    ({ inMode 0 [] with cal := { lost := true } } : State).cal.lost = true := by decide

/-- TCXO held and running, hot and cool, a keyed and an unkeyed write of WDOG. -/
theorem meets_MainAndCoreResets :
    let s := inMode 3 []
    s.aonOn = true ∧ s.mainOn = true ∧ ({ s with sup := { held := true } } : State).sup.held = true ∧ s.sup.held = false ∧
    s.sup.hot = false ∧ ({ s with sup := { hot := true } } : State).sup.hot = true ∧
    fld (0x64800000 : Word) 31 16 = 0x6480 ∧ fld (0x64810000 : Word) 31 16 ≠ 0x6480 := by decide

/-- CONCENTRATE and a write that leaves no receiver; one that leaves one. -/
theorem meets_RoleWrites :
    let s := inMode 4 []
    let role (v : Word) (n : Nat) : Nat :=
      if fld v (4 * n + 3) (4 * n) ≤ 4 then fld v (4 * n + 3) (4 * n) else s.rf Reg.SYS_ROLE (4 * n + 3) (4 * n)
    s.aonOn = true ∧ s.mode = 4 ∧ (∀ n, n < 8 → role 0x22240002 n ≠ 1 ∧ role 0x22240002 n ≠ 3) ∧
    ¬(∀ n, n < 8 → role 0x22249002 n ≠ 1 ∧ role 0x22249002 n ≠ 3) := by decide

/-- Each boot step of the statement: 1 to 5, with a DRAM that fits and one that does not, and step 6 with no image. -/
theorem meets_BootStepsAreRecorded :
    let x : BootInput := { bootSel := 3, flash := true, dramGib := 8, ranks := 1, rate := 3 }
    let s : State := { inMode 3 [] with sup := { started := true }, sys := { boot := 6 } }
    ({ s with sys := { s.sys with testPin := true } } : State).sys.testPin = true ∧ s.sys.testPin = false ∧
    (s.core 4).lockup = false ∧ (({ s with cores := [(4, { lockup := true })] } : State).core 4).lockup = true ∧
    x.bootSel < 4 ∧ s.aonOn = true ∧ s.sup.started = true ∧ x.dramGib ∈ [2, 3, 4, 6, 8] ∧ 1 ≤ x.rate ∧ x.rate ≤ 3 ∧
    ¬(5 ∈ [2, 3, 4, 6, 8]) ∧ (inMode 0 []).aonOn = false ∧ (inMode 3 []).sup.started = false ∧
    (∀ k, k < 14 → ({ s with sys := { s.sys with boot := k } } : State).sys.boot = k) ∧ s.rb Reg.CAL_STAT 0 = true ∧ (s.wr Reg.CAL_STAT 0).rb Reg.CAL_STAT 0 = false ∧
    (bootStep s x).2.2 = true := by decide

/-- A run that a window end starts, with a margin that rises, falls and ends it, and a START run; a window in which a waiting run
decides below TARGET, above HIGH and between them, at both ends of the voltage, and one tick before such a window ends. -/
theorem meets_MarginPlan :
    let r : PlanRun := { cause := 1, raised := false, v := 900, conf := 700, phase := .window 32000, retry := false }
    let s : State := { st [(Reg.SUP_PLANLIM, 160 * 65536 + 140 * 2 ^ 24 + 10 * 256), (Reg.SUP_VOUT, 700)] with
      slate := 96000, sup := { run := some r, started := true, winTick := some 96000 } }
    let n : State := { s with sup := { s.sup with run := none } }
    let at_ (m : Nat) := s.wr Reg.SUP_MARGIN (word m)
    s.aonOn = true ∧ s.sup.run = some r ∧ r.phase = .window 32000 ∧ (32000 / 32000 + 2) * 32000 ≤ 96000 ∧
    ¬(32000 / 32000 + 2) * 32000 ≤ 64000 ∧ (at_ 139).margin < s.rf Reg.SUP_PLANLIM 31 24 ∧ ¬r.v < 900 ∧ 899 < 900 ∧
    (s.rf Reg.SUP_PLANLIM 23 16 : Int) ≤ (at_ 160).margin ∧ 550 < r.v ∧ ¬(at_ 140).margin < s.rf Reg.SUP_PLANLIM 31 24 ∧
    ¬(s.rf Reg.SUP_PLANLIM 23 16 : Int) ≤ (at_ 159).margin ∧ 120 ≤ (at_ 150).margin ∧ (at_ 119).margin < 120 ∧
    n.sup.run = none ∧ n.sup.req ≠ 0 ∧ n.sup.winTick = some n.slate ∧ n.sup.started = true ∧ n.rf Reg.SUP_VOUT 15 0 ≠ 0 ∧
    ({ n with sup := { n.sup with started := false } } : State).sup.started = false ∧
    (n.wr Reg.SUP_VOUT 0).rf Reg.SUP_VOUT 15 0 = 0 := by decide

/-- A write and a read in progress, a first attempt and a retry, a read back 15 mV off and 16 mV off, before and after SETTLE, a
first reading, a STATUS_WORD read and its retry, and PEC on and off. -/
theorem meets_PmbusTransactions :
    let r : PlanRun := { cause := 1, raised := false, v := 700, conf := 700, phase := .read 5, retry := false }
    let s : State := { st [(Reg.SUP_PMB, 0x21400)] with slate := 5, sup := { run := some r, started := true, status := true } }
    s.aonOn = true ∧ s.sup.run = some r ∧ r.phase = .read 5 ∧ 5 ≤ s.slate ∧ ({ s with slate := 4 } : State).slate < 5 ∧
    s.sup.started = true ∧ s.sup.status = true ∧ s.sup.statusRetry = false ∧ r.base = false ∧ (st []).sup.run = none ∧
    s.rb Reg.SUP_PMB 17 = true ∧ (s.wr Reg.SUP_PMB 0).rb Reg.SUP_PMB 17 = false ∧
    (∃ raw ∈ List.range 4096, s.linear16 raw = r.v + 15) ∧ (∃ raw ∈ List.range 4096, s.linear16 raw = r.v + 16) ∧
    ({ r with phase := .write } : PlanRun).phase = .write ∧ ({ r with retry := true } : PlanRun).retry = true ∧
    ({ r with base := true } : PlanRun).base = true := by decide

/-- A window that ends at a multiple of 32,000 with every margin in range, one whose end has come, slate 0, and an hour's end
with a mean to take, without one, and one whose end has come. -/
theorem meets_SentinelWindows :
    let s : State := { st [] with slate := 115200000000, sup := { hourOk := true, hourN := 2 } }
    s.aonOn = true ∧ s.windowDue = true ∧
    ({ s with sup := { s.sup with winTick := some 115200000000 } } : State).windowDue = false ∧ (st []).windowDue = false ∧
    (∀ k, k < s.sentinels → -32768 ≤ s.marginOf k (212800 % 2 ^ 24) ∧ s.marginOf k (212800 % 2 ^ 24) ≤ 32767) ∧
    s.sup.hourAt < s.slate / 115200000000 ∧ s.sup.hourOk = true ∧ 0 < s.sup.hourN ∧
    ({ s with slate := 115199999999 } : State).slate / 115200000000 ≤ s.sup.hourAt ∧ (st []).sup.hourOk = false := by decide

/-- A chain of the tests: on, with the given state of its tuning. -/
def chainOn : Chain := { on := true, locked := true }

/-- An ACK on chain 7 that radiates from tick 2,000 to 3,000. -/
def ackTx : Tx :=
  { id := 1, what := .ack false 5 false, chain := 7, ch := 0, prof := 0, word := 0x1B226666, since := 48, t0 := 2000, t1 := 3000,
    ramp := 512, paLead := 64, paLag := 64, trLead := 64, trLag := 64, femcfg := 16, drive := 0, radEnd := 3512, counter := none,
    mhr := [], payload := [], key := [], long := 0, pre := 16 }

/-- Power-up, retune and relock ends due; a transmission alone on its chain; AGC branches held and not held. -/
theorem meets_ChainsPowerUp :
    let s : State := { inMode 4 [] with slate := 512000, rfs := {
      chains := [(0, { chainOn with upAt := some 512000, quietB := 1 }), (3, { chainOn with retuneAt := some 0 }),
        (7, { chainOn with relockAt := some 1 })]
      txs := [ackTx] } }
    (s.chain 0).upAt = some 512000 ∧ (s.chain 3).retuneAt = some 0 ∧ (s.chain 7).relockAt = some 1 ∧ s.rfs.txs = [ackTx] ∧
    ackTx.chain = 7 ∧ (s.chain 0).on = true ∧ s.rb (Reg.RFC_AGC 0) 0 = false ∧ s.rb (Reg.RFC_CTL 0) 8 = true ∧
    (s.chain 0).quietA + 32000 * s.rf (Reg.RFC_AGC 0) 23 16 ≤ s.slate ∧
    ¬(s.chain 0).quietB + 32000 * s.rf (Reg.RFC_AGC 0) 23 16 ≤ s.slate := by decide

/-- An unpowered chain, PA calibration in CONCENTRATE, an idle chain, one with a waiting run, one ready to suspend and one whose
calibration ends now. -/
theorem meets_CalibrationCommands :
    let r : CalRun := { since := 0, drain := true, todo := [1] }
    let s : State := { inMode 4 [] with slate := 9, rfs := { chains := [(0, chainOn), (1, { chainOn with cal := some r }),
      (7, { chainOn with cal := some { r with todo := 3 :: [1], till := some 9 } })] } }
    (s.chain 6).on = false ∧ ¬(s.mode = 3 ∨ s.mode = 7 ∨ (4 ≤ s.mode ∧ s.mode ≤ 6 ∧ 3 ≠ 3)) ∧ (s.chain 0).on = true ∧
    (4 ≤ s.mode ∧ s.mode ≤ 6 ∧ 2 ≠ 3) ∧ s.rb (Reg.RFC_CALSTAT 0) 2 = false ∧ (s.chain 0).cal = none ∧
    (s.chain 1).cal = some r ∧ r.till = none ∧ (s.chain 1).cal = some { r with todo := 1 :: [] } ∧ s.calReady 1 = true ∧
    s.takesOn 1 = false ∧ s.calLimit 1 = false ∧
    (let k : Take := { stamp := 0, chain := 1, ch := 0, prof := 0, pw := [], word := 0, epoch := 0 }
     let l : State := { s with slate := 2 ^ 32, lnk := { takes := [(0, k)] } }
     l.calLimit 1 = true ∧ l.calReady 1 = true) ∧
    (s.wb (Reg.RFC_CALSTAT 0) 2 true).rb (Reg.RFC_CALSTAT 0) 2 = true ∧ (s.chain 7).cal = some { r with todo := 3 :: [1], till := some 9 } ∧ 9 ≤ s.slate := by decide

/-- A transmission at its ramp-up, at its end (of an ACK, a schedule entry and a beacon), on a chain that loses lock before and
after its ramp, and one whose retune back ends. -/
theorem meets_TransmissionsRampUp :
    let s (x : Tx) (t : Nat) : State := { inMode 4 [(Reg.SYS_ROLE, 0x31111111)] with slate := t, sys := { boot := 0 }, rfs := {
      chains := (List.range 8).map fun n => (n, chainOn), txs := [x] } }
    let up := { ackTx with up := true }
    let down := { up with down := true }
    (s ackTx 1488).tx 1 = some ackTx ∧ ackTx.t0 - ackTx.ramp ≤ (s ackTx 1488).slate ∧ ackTx.up = false ∧
    (s up 3512).tx 1 = some up ∧ up.radEnd ≤ (s up 3512).slate ∧ up.what = .ack false 5 false ∧
    (let e := { up with what := .entry 4095 6 77 false true, verdict := 0x22 }
     (s e 3512).tx 1 = some e ∧ e.radEnd ≤ (s e 3512).slate ∧ e.what = .entry 4095 6 77 false true) ∧
    (let b := { up with what := .beacon 5 }
     (s b 3512).tx 1 = some b ∧ b.verdict = 0x20 ∧ (s b 3512).lnk.bcnMissed ≠ 5) ∧
    ((s ackTx 48).chain 7).on = true ∧ (s ackTx 48).rfs.txs = [ackTx] ∧ ackTx.since ≤ (s ackTx 48).slate ∧ ackTx.down = false ∧
    ((s up 48).chain 7).on = true ∧ (s up 48).rfs.txs = [up] ∧ up.since ≤ (s up 48).slate ∧
    (∀ j, j < 8 → (s down 9000).chainWanted j = ((s down 9000).chain j).on) ∧ down.back ≤ (s down 9000).slate := by decide

/-- Shadowing: a victim within reach that blanks and one that keeps. -/
theorem meets_TransmissionsShadow :
    let s : State := { inMode 4 [(Reg.SYS_ROLE, 0x31111111), (Reg.CHZ_PCENTRE_A 0, 868300000), (Reg.LNK_SHPOL 7, 1),
      (Reg.CHZ_PCENTRE_A 1, 868300000)] with
      slate := 1488, rfs := { chains := (List.range 8).map fun n => (n, chainOn), txs := [ackTx] } }
    s.shadowed 7 0 ackTx.word = true ∧ s.rb (Reg.LNK_SHPOL 7) 0 = true ∧ s.shadowed 7 1 ackTx.word = true ∧
    s.rb (Reg.LNK_SHPOL 7) 1 = false := by decide

/-- An apply that waits, an empty one, one refused for its chain, one at once and one whose instant has come. -/
theorem meets_AppliesAreRefusedOrWait :
    let p : PendApply := { chains := 128, prof := false, at_ := 5 }
    let x : Take := { stamp := 0, chain := 0, ch := 0, prof := 0, pw := [], word := 0, epoch := 0 }
    let s : State := { inMode 3 [(Reg.CHZ_PCENTRE 0, 0)] with slate := 5, lnk := { takes := [(0, x)] } }
    let w : State := { s with chz := { apply := some p } }
    bit 0x80000001 31 = true ∧ w.chz.apply.isSome = true ∧ s.chz.apply.isSome = false ∧ fld 0x80000000 7 0 = 0 ∧
    bit (0x80000000 : Word) 8 = false ∧ (s.applyFault 1 false).isSome = true ∧ fld 0x80000080 7 0 = 128 ∧
    s.applyFault 128 false = none ∧ s.rd64 (Reg.CHZ_APPLYAT 0) = 0 ∧
    (s.wr (Reg.CHZ_APPLYAT 0) 5).rd64 (Reg.CHZ_APPLYAT 0) = s.slate ∧ w.chz.apply = some p ∧ p.at_ ≤ w.slate ∧
    w.applyFault p.chains p.prof = none ∧ (w.applyFault 1 true).isSome = true ∧
    ({ s with chz := { apply := some { p with chains := 1 } } } : State).chz.apply = some { p with chains := 1 } ∧
    w.chz.dets = [] ∧ s.mainOn = true ∧ w.chz.epochs = [] ∧ (w.lnk.takes.any fun k => k.2.epoch == w.epoch) = true ∧
    p.chains.testBit 7 = true ∧ p.chains.testBit 6 = false := by decide

/-- A detection that stands, one that does not, the same frame on the other branch, and a parked search. -/
theorem meets_DetectionsStand :
    let d : Detected := { stamp := 4096, chain := 7, ch := 15, prof := 15, onB := false, preamble := 16, bits := 0x5555904E,
                          powerA := 0, powerB := 0 }
    let l := [(Reg.SYS_ROLE, 0x30000000), (Reg.CHZ_PCFG_A 7, 0x1012), (Reg.CHZ_PCENTRE_A 7, 868300000),
      (Reg.CHZ_PMASKLO_A 7, 0x8000), (Reg.CHZ_ASSIGN_A (64 * 7 + 15), 0x1000F), (Reg.CHZ_PROF_CFG_A 15, 0x81FF0000),
      (Reg.CHZ_PROF_RATE_A 15, 19200), (Reg.CHZ_PROF_SYNC0_A 15, 0x904E), (Reg.CHZ_PROF_SLEN_A 15, 16)]
    let s : State := { inMode 4 l with slate := 576, rfs := { chains := [(7, chainOn)] } }
    s.detectable d = true ∧ s.detectSync d = some false ∧ s.chz.last.find (16 * (64 * 7 + 15) + 15) = none ∧
    s.detectable { d with ch := 63 } = false ∧ sameFrame (pwRate (s.profWords active 15)) 4096 4096 = true ∧
    s.detectSync { d with preamble := 15 } = none ∧
    (let b : State := { s with chz := { last := [(16 * (64 * 7 + 15) + 15, 4096, true)] } }
     b.chz.last.find (16 * (64 * 7 + 15) + 15) = some (4096, true) ∧ d.stamp = 4096) ∧
    (let a : State := { s with chz := { last := [(16 * (64 * 7 + 15) + 15, 4095, true)] } }
     a.chz.last.find (16 * (64 * 7 + 15) + 15) = some (4095, true) ∧ sameFrame (pwRate (s.profWords active 15)) 4095 4096 = true) ∧
    575 < s.slate ∧
    ({ s with lnk := { parked := [(16 * (64 * 7 + 15) + 15, 575)] } } : State).lnk.parked.find (16 * (64 * 7 + 15) + 15) = some 575 := by
  decide

/-- A detection 64 ticks old, with demodulators 0 to 190 busy and 191 free, and with none free. -/
theorem meets_DemodAllocation :
    let x : Det := { stamp := 0, chain := 7, ch := 63, prof := 15, sync1 := false, onB := false, word := 0, rssiA := 0, rssiB := 0x80 }
    let k : Take := { stamp := 0, chain := 0, ch := 0, prof := 0, pw := [], word := 0, epoch := 0 }
    let s (n : Nat) : State := { inMode 4 [] with slate := 64, chz := { dets := [x] }, lnk := { takes := (List.range n).map fun d => (d, k) } }
    ({ x with cut := some 6 } : Det).cut = some 6 ∧ x.cut = none ∧
    (s 191).chz.dets.head? = some x ∧ x.stamp + 512 ≤ 8 * (s 191).slate ∧ (s 191).demodFree 191 0 = true ∧
    ((List.range 191).all fun j => !(s 191).demodFree j 0) = true ∧ ((List.range 192).all fun j => !(s 192).demodFree j 0) = true := by
  decide

/-- The end of the first window of a receiving chain with a fresh floor, and of a later one. -/
theorem meets_Floors :
    let s (c : Chain) : State := { inMode 4 [(Reg.SYS_ROLE, 0x30000000), (Reg.CHZ_PCFG_A 7, 0x1012)] with
      slate := 32000, rfs := { chains := [(7, c)] } }
    let a := s { chainOn with fresh := some 0 }
    a.passes 32000 = true ∧ 32000 ≤ a.slate ∧ a.receiving 7 = true ∧ a.outOverlaps 7 0 a.slate = false ∧ a.chz.occFrom = none ∧
    ({ a with chz := { occFrom := some 0 } } : State).chz.occFrom ≠ none ∧ a.scans 7 = false ∧ (inMode 6 [(Reg.SYS_ROLE, 0x30000000)]).scans 7 = true ∧ 15 < a.planN active 7 ∧
    (∀ j, j < 64 → a.takeOverlaps 7 j 0 32000 = false) ∧ (a.chain 7).fresh = some 0 ∧ 0 ≤ a.slate - 32000 ∧
    ((s chainOn).chain 7).fresh = none ∧ -32768 ≤ (-100 : Int) := by decide

/-- A survey interval that ends whole, and one in which counting starts, in SURVEY, CONCENTRATE and a loopback of SERVICE. -/
theorem meets_Surveys :
    let s : State := { inMode 6 [(Reg.CHZ_SURVINT, 1)] with slate := 32000, chz := { occFrom := some 0 } }
    (let l : State := { inMode 3 [(Reg.RFC_LOOP 6, 1)] with rfs := { chains := [(7, chainOn)] } }
     l.loopMode = true ∧ l.receiving 7 = true) ∧
    s.mainOn = true ∧ (inMode 4 []).operating = true ∧ s.survTicks ≠ 0 ∧ s.slate % s.survTicks = 0 ∧ s.survTicks ≤ s.slate ∧ s.mode = 6 ∧
    s.chz.occFrom = some (s.slate - s.survTicks) ∧ ({ s with chz := {} } : State).chz.occFrom = none := by decide

/-- A take of the tests, 2-GFSK at 19,200 sym/s with CRC-16 and whitening, on chain 7, channel 63. -/
def takeOf : Take :=
  { stamp := 8000, chain := 7, ch := 63, prof := 15, pw := [0x81FF0008, 19200, 9600, 0x55, 0, 0, 16, 0].map word, word := 0,
    epoch := 0 }

/-- A PHR whose CRC-8 passes and asks for a length within the profile, one that fails, the later stages of a take, eight dead
symbol periods (the power 1/16 dB short, or the estimate beyond 1.5 times DEV) and eight of which one is not dead. -/
theorem meets_DemodulatorOutcomes :
    let est := ([0x0E, 0x00, crc8 [0x0E, 0x00]].flatMap (bitsMsb 8)).map fun b => (if b then 9600 else -9600 : Int)
    let bits := (softAll (pwFsk4 takeOf.pw) (pwDev takeOf.pw) (est.take (phrSyms takeOf.pw))).map hardBit
    let h := natMsb (bits.take 16)
    crc8 [h / 256, h % 256] = natMsb ((bits.drop 16).take 8) ∧ h = 0x0E00 ∧ h % 16 = 0 ∧ allows (pwFec takeOf.pw) (h.testBit 6) = true ∧
    allows (pwWhiten takeOf.pw) (h.testBit 5) = true ∧ allows (pwCrc takeOf.pw) (h.testBit 4) = true ∧ h / 128 % 512 ≠ 0 ∧
    h / 128 % 512 ≤ pwMax takeOf.pw ∧ takeOf.phr = none ∧ takeOf.body = false ∧ takeOf.outcome = none ∧
    ({ takeOf with body := true, outcome := some 0 } : Take).decoded = false ∧
    ({ takeOf with outcome := some 8, endAt := 5 } : Take).endAt = 5 ∧ takeOf.decoded = false ∧
    State.reset.writable 8 (1024 * 191) 513 = true ∧
    (let floor := State.reset.floor (64 * 7 + 63) false
     let dead (y : SymbolSeen) : Bool := decide (16 * y.power < 100 * (floor + 48)) || decide (3 * pwDev takeOf.pw < 2 * y.freq.natAbs)
     let p : Int := (100 * (floor + 48) + 15) / 16
     dead ⟨p - 1, 0⟩ = true ∧ dead ⟨p, 14400⟩ = false ∧ dead ⟨p, -14401⟩ = true) := by decide

/-- The PSDU of an uplink of endpoint 77 in PMODE 0 with counter 7, and one of a source of its own. -/
def psduOf (counter : Nat) : List Nat := octs (ofOcts ([1, 0, 0x34, 0x12] ++ le 4 counter ++ le 4 77 ++ List.replicate 8 0 ++ [9, 9]))

/-- A state of the tests in CONCENTRATE with the PSDU in frame buffer 191, range 0 loaded with endpoint 77, and the take. -/
def filterState (p : List Nat) (x : Take) : State :=
  let s := (inMode 4 [(Reg.LNK_CTL, 0), (Reg.LNK_TYPEACC, 31), (Reg.LNK_NETID 0, 0x11234), (Reg.EPR_LIMIT, 0xFFFF)]).poke 8 (1024 * 191) (ofOcts p)
  let s := s.poke 14 (64 * 77) (ofOcts (recSeal 77 (recSet (recSet recZero 58 2 0x8000) 32 4 40)))
  { s with slate := 110000, epr := { s.epr with ranges := [(0, { st := 2 })] }, lnk := { takes := [(191, x)] } }

/-- A take due for the filter, of each kind: unreadable, failed in the demodulator, failing in stage 2, and one whose record is
fetched. -/
theorem meets_FilterStages :
    let p := psduOf 7
    let x : Take := { takeOf with outcome := some 0, body := true, decoded := true, len := p.length }
    let s := filterState p x
    let named := s.setRecAddr 191 (recordAddr p)
    x.decoded = true ∧ sheetApply s = s ∧ s.readable 12 (8 * demodWord 191) 8 = true ∧ s.readReport 6 12 (8 * demodWord 191) 8 = s ∧
    ({ s with ecc := s.ecc.put (memKey 12 (demodWord 191)) ⟨3, 7, 7⟩ } : State).readable 12 (8 * demodWord 191) 8 = false ∧
    s.lnk.takes = [(191, x)] ∧ x.ready = false ∧ x.readyAt ≤ s.slate ∧ s.psdu 191 x = some p ∧ s.readReport 6 8 (1024 * 191) x.len = s ∧
    ({ x with outcome := some 7 } : Take).outcome.getD 8 ≠ 0 ∧ s.stage2 p = 0 ∧ fcUplink (fcOf p) = true ∧ x.resolved = false ∧
    (stage34 named p).2 = .inl (recSeal 77 (recSet (recSet recZero 58 2 0x8000) 32 4 40)) ∧
    s.stage2 [1] = 9 ∧ s.stage2 (1 :: 0x70 :: p.drop 2) = 0x0D ∧
    ({ s with ecc := s.ecc.put (memKey 8 (1024 * 191 / eccOctets 8)) ⟨3, 7, 7⟩ } : State).psdu 191 x = none := by decide +kernel

/-- Takes that wait for their siblings: a counter that repeats, falls below the window, lies 2^31 ahead, is new, and is 32 below
with its bit set. -/
theorem meets_SiblingResolutions :
    let p (c : Nat) := psduOf c
    let x (c : Nat) : Take := { takeOf with outcome := some 0, body := true, decoded := true, len := 22, ready := true, reach5 := true,
                                            record := recSet (recSet recZero 32 4 40) 36 4 (2 ^ 31), psdu := some (p c) }
    let s (c : Nat) := filterState (p c) (x c)
    (∀ c ∈ [7, 8, 40, 41, 2 ^ 31 + 41], (s c).lnk.takes = [(191, x c)] ∧ (s c).psdu 191 (x c) = some (p c) ∧ (x c).resolved = false ∧
      fcUplink (fcOf (p c)) = true ∧ fcAckReq (fcOf (p c)) = false ∧ frameCounter (p c) = c ∧ (x c).reack = false) ∧
    (recH (x 7).record = 40 ∧ recW (x 7).record = 2 ^ 31) ∧ (7 < 40 ∧ 32 < 40 - 7) ∧
    (8 < 40 ∧ 40 - 8 ≤ 32 ∧ (2 ^ 31).testBit (40 - 8 - 1) = true) ∧ (40 < 2 ^ 31 + 41 ∧ 2 ^ 31 < 2 ^ 31 + 41 - 40) ∧
    fcSec (fcOf (p 41)) = 0 ∧ (s 41).rf Reg.LNK_CTL 5 4 = 0 ∧ (s 41).chz.epochs = [] ∧ (x 41).verdict = 0 ∧ (x 41).stage = 0 := by
  decide +kernel

/-- A resolved take at its release instant, a late one, an ACK request at its commit, a beacon that is due and one that is not. -/
theorem meets_Releases :
    let x : Take := { takeOf with outcome := some 0, decoded := true, ready := true, resolved := true, laned := true }
    let b : AckReq := { id := 3, eof := 0, stamp := 8000, demod := 191, chain := 7, ch := 63, prof := 15, pw := [], word := 0, t0 := 9,
                        setup := 1, reack := false, addr := 1, net := 0, counter := 0, sec := 0, long := 0, record := [], key := [], tc := none }
    let s (x : Take) : State := { inMode 4 [] with slate := 100000, sup := { held := true }, lnk := { takes := [(191, x)], acks := [b] } }
    let n : State := { inMode 4 [(Reg.LNK_BCNCFG, 0x80000000), (Reg.LNK_BCNTIM, 0x10000)] with slate := 160000000 }
    (s x).aonOn = true ∧ (s x).lnk.takes = [(191, x)] ∧ x.releaseAt ≤ (s x).slate ∧ x.late = false ∧ x.outcome.isSome = true ∧
    x.desensed = false ∧ x.ready = true ∧ x.resolved = true ∧ x.laned = true ∧ ({ x with late := true } : Take).late = true ∧
    (∀ k, k < 16 → (s x).routeTakes k 7 15 0 false = false ∧ (s x).routeTakes k 7 15 0x0B false = false) ∧ x.reach5 = false ∧
    (s x).chz.epochs = [] ∧ (∀ n, n < 8 → (s x).chainWanted n = ((s x).chain n).on) ∧
    sheetApply (s x) = s x ∧ x.outcome ≠ some 8 ∧
    (let y := { ackTx with what := .beacon 5, up := true }
     let b : State := { n with rfs := { txs := [y] } }
     b.pathMissed (.beacon 5) = true ∧ y.down = false) ∧
    ({ s x with lnk := { takes := [(191, x)] } } : State).lnk.acks = [] ∧
    (s x).lnk.acks = [b] ∧ b.id = 3 ∧ b.demod = 191 ∧ b.stamp = x.stamp ∧ b.commitAt ≤ (s x).slate ∧
    n.pathMissed (.beacon 5) = true ∧ n.rfs.txs = [] ∧ n.pathMissed (.beacon 6) = false ∧ n.pathMissed (.ackBuild 3) = false := by decide

/-- CONCENTRATE with every chain on, one profile that may be sent, record 77 and downlink slot 6 for it, and the schedule table
selected at its last entry. -/
@[irreducible] def txState : State :=
  let s := inMode 4 ((List.range 8).flatMap (fun n => [(Reg.CHZ_PCENTRE_A n, 868000000), (Reg.CHZ_PCFG_A n, 0x13)]) ++
    [(Reg.CHZ_PROF_CFG_A 0, 0x01FF0100), (Reg.CHZ_PROF_RATE_A 0, 50000), (Reg.CHZ_PROF_DEV_A 0, 25000),
      (Reg.CHZ_PROF_PRE_A 0, 0x2000), (Reg.CHZ_PROF_SYNC0_A 0, 0x1234), (Reg.CHZ_PROF_SLEN_A 0, 16), (Reg.EPR_LIMIT, 0xFFFF),
      (Reg.MEM_DCFG, 2), (Reg.DCB_CTL, 0), (Reg.LNK_SIDX, 4095), (Reg.LNK_SLACK, 10000)])
  let s := s.poke 14 (64 * 77) (ofOcts (recSeal 77 (recSet (recSet (recSet recZero 58 2 0x8000) 0 8 123) 56 2 1)))
  let s := s.poke 14 (s.slotAt 6) (ofOcts (le 4 77 ++ [32, 0] ++ le 2 12 ++ List.range 12))
  { s with slate := 100000, sys := { boot := 0 }, epr := { s.epr with ranges := [(0, { st := 2 })] }
           rfs := { chains := (List.range 8).map fun n => (n, { chainOn with fresh := none }) }
           lnk := { s.lnk with queue := [{ slot := 6, dest := 77, relay := false }], seq := 44 } }

/-- A schedule entry for slot 6 on chain 0 with a time, a state and a preamble mode. -/
@[irreducible] def entryOf (time state pmode nrep prelen : Nat) : Entry := le 8 time ++ le 4 6 ++ le 4 (state * 2 ^ 20 + pmode * 2 ^ 18 + nrep * 2 ^ 12 + prelen)

/-- Each refusal of an ARM, an entry that cannot be read, one that is late, one that is accepted, and an armed entry to cancel or that has expired. -/
theorem meets_ScheduleEntries :
    let s := txState
    let a : ArmInfo := { setup := s.setup 0, pmode := 0, nrep := 0 }
    let e (x : Entry) : State := s.setEntry 4095 x
    let armed : State := { e (entryOf 50000 1 0 0 0) with lnk := { s.lnk with arms := [(4095, a)] } }
    let bad (s : State) : State := { s with ecc := s.ecc.put (memKey 11 (16 * 4095 / eccOctets 11)) ⟨3, 7, 7⟩ }
    (bad s).entryBad 4095 = true ∧ (bad s).lnk.arms.find 4095 = none ∧ s.entryBad 4095 = false ∧
    (bad armed).entryBad 4095 = true ∧ (bad armed).inAir 4095 = false ∧ ((bad armed).entry 4095).dispatchAt a ≤ (bad armed).slate ∧
    armed.entryBad 4095 = false ∧ s.mainOn = true ∧ 4095 = s.rf Reg.LNK_SIDX 11 0 ∧ armed.slotHeld 6 = true ∧ armed.lnk.arms.find 4095 = some a ∧ s.lnk.arms.find 4095 = none ∧
    s.queued 6 = some { slot := 6, dest := 77, relay := false } ∧ s.queued 7 = none ∧ s.slotHeld 6 = false ∧
    ((e (entryOf 0 0 1 0 31)).entry 4095).pmode = 1 ∧ ((e (entryOf 0 0 1 0 31)).entry 4095).prelen < pwPmin (s.profWords active 0) ∧
    ((e (entryOf 0 0 3 1 0)).entry 4095).pmode = 3 ∧ ((e (entryOf 0 0 3 1 0)).entry 4095).nrep = 1 ∧
    (s.rf Reg.LNK_SLACK 15 0 : Int) < (s.slate + 1 + s.setup 0 : Nat) - (50000 : Int) ∧
    ((s.slate + 1 + s.setup 0 : Nat) : Int) - 200000 ≤ s.rf Reg.LNK_SLACK 15 0 ∧ (armed.entry 4095).state = 1 ∧
    (armed.entry 4095).dispatchAt a + (s.rf Reg.LNK_SLACK 15 0 : Int) < armed.slate ∧
    (∀ i, i < 16 → armed.routeSelects i 0 0 = false) := by decide +kernel

/-- An entry due now that is dispatched, with what its dispatch reads: its record, slot, budget and setup. -/
theorem meets_ScheduleDispatch :
    let a : ArmInfo := { setup := txState.setup 0, pmode := 0, nrep := 0 }
    let s : State := { txState.setEntry 4095 (entryOf (100000 + a.setup) 1 0 0 0) with lnk := { txState.lnk with arms := [(4095, a)] } }
    let x := s.entry 4095
    let timed := s.setEntry 4095 (x.setTime (s.slate + a.setup))
    let u := (recFetch timed 77).1
    let h : SlotHead := { dest := 77, type := 1, sec := 0, ack := false, plen := 12 }
    x.dispatchAt a = (s.slate : Int) ∧ h.len ≤ 511 ∧ s.readReport 6 11 (16 * 4095) 16 = s ∧ u.readReport 6 14 (u.slotAt 6) 512 = u ∧ s.operating = true ∧ s.draining = none ∧ s.readable 11 (16 * 4095) 16 = true ∧
    s.queued x.slot = some { slot := 6, dest := 77, relay := false } ∧ 77 ≤ s.eprLimit ∧ s.rangeLoaded 77 = true ∧
    (match (recFetch timed 77).2 with | .got r => !recSusp r | _ => false) = true ∧ u.chainRefuses 0 = false ∧
    u.txPlanOk 0 x.ch x.prof = true ∧ s.holdExpiry = none ∧ u.counterLeft = true ∧ u.slotHead 6 = some h ∧
    (budgetCheck { u with lnk := { u.lnk with seq := 45 } } 44 0 1 x.kind).2 = .approved ∧
    (u.slotRead 6).isSome = true ∧ u.setup 0 ≤ a.setup ∧ s.lnk.latchAt ≠ s.slate ∧ s.rfs.txs = [] ∧
    (let c := txState.wr Reg.SYS_ROLE 0x11111111; c.chainRefuses 0 = true) := by decide +kernel

/-- An ACK at its commit point, on a chain that may send it, on one that may not, and outside CONCENTRATE and RELAY. -/
theorem meets_AcksCommit :
    let a : AckReq := { id := 9, eof := 0, stamp := 8, demod := 191, chain := 7, ch := 2, prof := 0, pw := txState.profWords active 0,
                        word := 0x1B226666, t0 := 101300, setup := 1300, reack := true, addr := 77, net := 3, counter := 9, sec := 0,
                        long := 4, record := [], key := [], tc := none }
    let s : State := { txState with lnk := { txState.lnk with acks := [a] } }
    let w := (ackPending s a).1
    let u : State := { w with lnk := { w.lnk with acks := [] } }
    let x := u.ackTx a (ackPending s a).2
    a.deleted = false ∧ ({ a with deleted := true } : AckReq).deleted = true ∧
    s.lnk.acks = [a] ∧ s.lnk.takes.find a.demod = none ∧ a.commitAt ≤ s.slate ∧ bit (0x64800001 : Word) 0 = true ∧
    s.operating = true ∧ (s.wf Reg.SYS_MODE 3 0 2).operating = false ∧ s.chainRefuses 7 = false ∧
    u.txConflict 7 x.since (u.backOf 7 x.t1) true = false ∧ (budgetCheck u 9 a.word x.us .ack).2 = .approved ∧
    (budgetCheck (u.wb Reg.DCB_CTL 0 true) 9 a.word x.us .ack).2 = .refused ∧ s.rfs.txs = [] ∧
    (s.wr Reg.SYS_ROLE 0x11111111).chainRefuses 7 = true ∧ fld (0x64800001 : Word) 31 16 = 0x6480 ∧
    fld (0x64810001 : Word) 31 16 ≠ 0x6480 ∧ (s.wf Reg.SYS_MODE 3 0 3).mode = 3 := by decide +kernel

/-- Each refusal of ENQUEUE and WITHDRAW in its order, and each accepted. -/
theorem meets_QueueCommands :
    let s : State := { txState with lnk := { txState.lnk with queue := [] } }
    let enq : Word := 0x40000006
    let s1 := s.plainWrite Reg.LNK_DLQ enq
    let h : SlotHead := { dest := 77, type := 1, sec := 0, ack := false, plen := 12 }
    let full : State := { s with lnk := { s.lnk with queue := (List.range 64).map fun k => { slot := 100 + k, dest := 77, relay := false } } }
    let q : State := txState
    let left : State := { q.plainWrite Reg.LNK_DLQ 0x80000006 with lnk := { q.lnk with queue := [] } }
    let held : State := { q.setEntry 4095 (entryOf 50000 1 0 0 0) with
      lnk := { q.lnk with arms := [(4095, { setup := 0, pmode := 0, nrep := 0 })] } }
    s.mainOn = true ∧ bit enq 30 = true ∧ bit enq 31 = false ∧ bit (0xC0000006 : Word) 31 = true ∧ bit (0xC0000006 : Word) 30 = true ∧
    (q.queued 6).isSome = true ∧ s.queued 6 = none ∧ s1.readReport 6 14 (s.slotAt 6) 8 = s1 ∧ chainCheck s1 77 = s1 ∧
    s.slotHead 6 = some h ∧ s.headOk h = true ∧ s.headOk { h with plen := 511 } = false ∧
    (h.dest ≠ 0 ∧ h.dest ≤ s.eprLimit ∧ s.rangeLoaded h.dest = true) ∧ (s.wr Reg.EPR_LIMIT 76).eprLimit < 77 ∧
    (match (recFetch s1 77).2 with | .got r => !recSusp r && decide (recPending r < 65535) | _ => false) = true ∧
    (s.lnk.queue.filter fun q => q.dest % 2 ^ 18 == 77).length < 64 ∧ (full.lnk.queue.filter fun q => q.dest % 2 ^ 18 == 77).length = 64 ∧
    bit (0x80000006 : Word) 30 = false ∧ chainCheck (q.plainWrite Reg.LNK_DLQ 0x80000006) 77 = q.plainWrite Reg.LNK_DLQ 0x80000006 ∧
    (match (recFetch (left.storeDir (bucketOf 77) 6) 77).2 with | .got _ => true | _ => false) = true ∧
    q.slotHeld 6 = false ∧ held.slotHeld 6 = true := by decide +kernel

/-- A beacon at its commit instant with a key, one whose chain is refused, a due boundary, a missed beacon, an expired holdover. -/
theorem meets_Beacons :
    let s : State := { ((txState.wr Reg.LNK_BCNCFG (word (2 ^ 31 + 40))).wr Reg.LNK_BCNTIM 0x10000) with
      slate := 32000000 * 7 - txState.setup 0, cip := { slots := [(40, { st := 1, key := List.range 16, usage := 16 })] } }
    let u : State := { s with lnk := { s.lnk with bcnDone := 7, seq := 45 } }
    s.beaconDue 7 = true ∧ s.operating = true ∧ s.draining = none ∧ s.lnk.bcnDone ≠ 7 ∧ s.lnk.bcnMissed ≠ 7 ∧
    s.slate + s.setup 0 = 32000000 * 7 ∧ s.chainRefuses 0 = false ∧ s.txPlanOk 0 0 0 = true ∧ (s.slot 40).st ≠ 0 ∧
    s.counterLeft = true ∧ s.rb Reg.LNK_BCNPL 31 = false ∧ (budgetCheck u 44 0 1 .beacon).2 = .approved ∧
    (hostKey u 40 4).2 = .key (List.range 16) ∧ s.lnk.latchAt ≠ s.slate ∧ (s.wr Reg.SYS_ROLE 0x11111111).chainRefuses 0 = true ∧
    s.lnk.bcnSec < 7 ∧ s.beaconDue 0x10000 = true ∧
    (let p := (s.wr Reg.LNK_PSTAT (word (2 * 2 ^ 30 + 2 * 65536))); p.pstate = 2 ∧ p.decisionAt ≤ p.slate) ∧
    (let p := (s.wr Reg.LNK_PSTAT (word (3 * 2 ^ 30))).wr Reg.LNK_HOLD 0
     p.scanDue = false ∧ ((p.wr Reg.LNK_SCAN 3).scanDue = true) ∧ p.pstate = 3 ∧ p.rd64 (Reg.LNK_HSTART 0) + p.rf Reg.LNK_HOLD 31 16 * 32000000 ≤ p.slate ∧ p.rb Reg.LNK_PSTAT 27 = false) := by
  decide +kernel

/-- Account 15 off with valid bounds and a window at each of its bounds, with invalid ones, and on; a dwell account and its preset. -/
theorem meets_BudgetAccounts :
    let l (k : Nat) := [(acctBase k + 4, 863000000), (acctBase k + 8, 868000000), (acctBase k + 12, 1000), (acctBase k + 16, 1000)]
    let s := st (l 15)
    bit (0x80000001 : Word) 31 = true ∧ s.acctOn 15 = false ∧ s.acctValid 15 1 = true ∧ s.acctValid 15 3600 = true ∧
    s.acctValid 15 0 = false ∧ s.acctValid 15 3601 = false ∧ s.mainOn = true ∧ s.dcb.kept.contains 15 = false ∧
    ({ s with dcb := { kept := [3, 15] } } : State).dcb.kept.contains 15 = true ∧ (s.wb (acctBase 15) 31 true).acctOn 15 = true ∧
    (st (l 31)).acctOn 31 = false ∧ (preset 8).isSome = true ∧ (preset 1).isSome = true ∧ preset 15 = none := by decide

/-- A call sheet of one entry that writes record 100, with the given magic and generation. -/
@[irreducible] def sheetOf (m gen : Nat) : List Nat :=
  [0x4C, 0x44, 0x43, m] ++ le 2 1 ++ le 2 1 ++ le 8 gen ++ le 8 0 ++ le 8 0 ++
    (le 4 (2 ^ 28 + 100) ++ le 2 31 ++ le 2 0 ++ List.replicate 40 1 ++ le 4 100 ++ List.replicate 12 0) ++ List.replicate 16 0

/-- A state of the tests with the sheet in the sheet buffer, range 0 loaded and a verified tag. -/
def sheetState (b : List Nat) : State :=
  let s : State := { inMode 3 [(Reg.EPR_STAT, 1), (Reg.EPR_LIMIT, 0x3FFFF), (Reg.EPR_GEN 0, 7), (Reg.EPR_CSKEY, 40), (Reg.MEM_STAT, 1),
    (Reg.MEM_DCFG, 2)] with slate := 100, epr := { ranges := [(0, { st := 2, gen := 1 })] }
                            cip := { slots := [(40, { st := 1 })], done := [{ job := 1, code := 0, tick := 45 }] } }
  s.poke 14 s.sheetBuffer (ofOcts b)

/-- The sheet buffer unreadable, in its header and in its body only; a sheet pending and none; a header that fails, generations
that are too low and too high and the next one, a registry that is ready and one that is not, and a full queue. -/
theorem meets_SheetSubmissions :
    let s (b : List Nat) := sheetState b
    let g := sheetOf 0x53 8
    let o := (s g).sheetBuffer
    let bad (k : Nat) : State := { s g with ecc := (s g).ecc.put (memKey 14 ((o + k) / 16)) ⟨3, 7, 7⟩ }
    let u (k : Nat) := (sheetOctets (bad k) o 32).1
    let x : Sheet := { octets := some g, sub := 0, at_ := 50, gen := 8, count := 1 }
    let pend (s : State) : State := { s with epr := { s.epr with sheet := some x } }
    (s g).mainOn = true ∧ sheetOctets (bad 8) o 32 = (u 8, none) ∧ (pend (u 8)).epr.sheet.isSome = true ∧ (u 8).epr.sheet = none ∧
    ((u 8).eprReady && (u 8).mode != 7) = true ∧ (((u 8).wb Reg.EPR_STAT 0 false).eprReady && (u 8).mode != 7) = false ∧
    (∀ b ∈ [g, sheetOf 0x52 8, sheetOf 0x53 7, sheetOf 0x53 9], sheetOctets (s b) o 32 = (s b, some (b.take 32))) ∧
    sheetHeaderOk ((sheetOf 0x52 8).take 32) = false ∧ sheetHeaderOk (g.take 32) = true ∧
    sheetOctets (s g) o (sheetLen (sheetCount (g.take 32))) = (s g, some g) ∧
    sheetOctets (bad 72) o 32 = (bad 72, some (g.take 32)) ∧ (sheetOctets (bad 72) o (sheetLen 1)).2 = none ∧
    sheetGen ((sheetOf 0x53 7).take 32) ≤ (s g).eprGen ∧ (s g).eprGen + 1 < sheetGen ((sheetOf 0x53 9).take 32) ∧
    sheetGen (g.take 32) = (s g).eprGen + 1 ∧ (s g).queueFull 6 = false := by decide +kernel

/-- A sheet without its octets and one verified, whose apply tick has come; the same with a key that is none, with a failed tag and
with an entry that is refused; a registry that is empty and one that is not. -/
theorem meets_Sheets :
    let g := sheetOf 0x53 8
    let x : Sheet := { octets := some g, sub := 0, at_ := 50, gen := 8, count := 1 }
    let p : State := { sheetState g with epr := { (sheetState g).epr with sheet := some x } }
    let e := sheetEntry g 0
    let failed : State := { p with cip := { p.cip with done := [{ job := 1, code := 5, tick := 45 }] } }
    let empty : State := { sheetState g with epr := { ranges := (List.range 4).map fun k => (k, { st := 2 }) } }
    p.epr.sheet = some x ∧ x.at_ ≤ p.slate ∧ ({ x with octets := none } : Sheet).octets = none ∧
    p.cipDone sheetJob = some { job := 1, code := 0, tick := 45 } ∧ 45 ≤ x.at_ ∧ slotClass (p.rf Reg.EPR_CSKEY 11 0) = 1 ∧
    (p.slot 40).st ≠ 0 ∧ slotClass ((p.wr Reg.EPR_CSKEY 3).rf Reg.EPR_CSKEY 11 0) ≠ 1 ∧
    failed.cipDone sheetJob = some { job := 1, code := 5, tick := 45 } ∧
    ((sheetGone p).entriesRefusal [{ e with op := 3 }]).isSome = true ∧ (sheetGone p).entriesRefusal [e] = none ∧ e.op = 1 ∧ e.mask = 31 ∧
    e.flags.testBit 14 = false ∧ (p.range (rangeOf e.addr)).gen < x.gen ∧ bit (0x64800001 : Word) 0 = true ∧
    fld (0x64800001 : Word) 31 16 = 0x6480 ∧ empty.registryEmpty = true ∧ (∀ k, k < empty.rangesPresent → 2 ≤ (empty.range k).st) ∧
    empty.epr.sheet = none := by decide +kernel

/-- A range to save that fits, one that does not and one with an unreadable record; one being saved, with a directory that is
older, with no block that fails and with one or two; and ranges being loaded at the last and an earlier place, with no unit, a unit of one record and a bad one. -/
theorem meets_Ranges :
    let v : RangeSave := { range := 1, seg := { seq := 5, gen := 3, locs := [1, 2] }, dirty := some 3, sheet := none }
    let s : State := { inMode 3 [(Reg.EPR_STAT, 1), (Reg.EPR_LIMIT, 0x2FFFF), (Reg.MEM_DCFG, 2), (Reg.MEM_STAT, 1)] with
      slate := 10 ^ 11, epr := { saveAll := [2], ranges := [(0, { st := 1 }), (2, { st := 1, dirty := some 5 })] } }
    let t : State := { s with epr := { s.epr with save := some v } }
    let none_ (s : State) : State := { s with epr := { s.epr with units := 1 } }
    let kept (s : State) (bad : List Nat) : State :=
      let failed := bad.eraseDups.filter fun l => !s.epr.retired.contains l
      { s with epr := { s.epr with save := none, units := s.epr.units - failed.length, retired := s.epr.retired ++ failed } }
    let a := 64 * (2 * 65536 + 100)
    let rec_ : State := s.poke 14 a (ofOcts (recSeal (2 * 65536 + 100) (recSet recZero 58 2 0x8000)))
    let bad : State := { rec_ with ecc := rec_.ecc.put (memKey 14 (a / 16)) ⟨3, 7, 7⟩ }
    let clean (s : State) := s.setRange 2 { s.range 2 with dirty := none, sheet := none }
    let unit := snapUnit 2 0 9 1 [snapRecord 77 recZero]
    let loads (u : List Nat) : State := { s with epr := { s.epr with nand := [(7, u)], dirA := { st := 1, seq := 1, segs := [(2, { seq := 1, gen := 9, locs := [7] })] } } }
    s.saveNext = some 2 ∧ s.saveNext ≠ some 1 ∧ (clean s).rangeUe 2 = false ∧ (clean bad).rangeUe 2 = true ∧
    (clean s).snapFits 2 { seq := 1, gen := 7, locs := [0] } = true ∧ (none_ (clean s)).snapFits 2 { seq := 1, gen := 7, locs := [0] } = false ∧
    s.epr.save = none ∧ t.epr.save = some v ∧ t.epr.dir.seq < v.seg.seq ∧
    (∀ bad ∈ [[], [1], [1, 1, 2]], (rewriteUnits (kept t bad) v.seg).1.snapFits 1 (rewriteUnits (kept t bad) v.seg).2 = true) ∧
    (∀ bad ∈ [[], [1]], (rewriteUnits (kept (none_ t) bad) v.seg).1.snapFits 1 (rewriteUnits (kept (none_ t) bad) v.seg).2 = false) ∧ (loads unit).epr.dirIsB = false ∧ (loads unit).epr.dirA.valid = true ∧
    ({ (loads unit).epr with dirB := { st := 1, seq := 2 } } : EprState).dirIsB = true ∧
    (s.range 2).st = 1 ∧ (s.range 1).st ≠ 1 ∧ s.rangeUnits 2 = some [] ∧
    (loads unit).rangeUnits 2 = some [unit] ∧ [unit].flatMap unitRecords = [snapRecord 77 recZero] ∧ (loads [1]).rangeUnits 2 = none ∧
    2 + 1 = s.rangesPresent ∧ (s.range 0).st = 1 ∧ 0 + 1 < s.rangesPresent ∧ (s.range 1).st = 0 ∧ bit (0xC0000000 : Word) 31 = true ∧
    ({ s.range 2 with st := 3 } : EprRange).st = 3 := by decide +kernel

/-- A submission that is good, one that is not aligned, a full queue, a waiting clear and key load, and a run at its finish. -/
theorem meets_CipherRequests :
    let c : CipReq := { q := 8, sub := 0, origin := .clear 40 }
    let k : CipReq := { q := 5, sub := 0, origin := .kload (List.replicate 24 0), d := { mode := 8 } }
    let r : CipRun := { req := k, start := 0, finish := 100, code := 0, slot := some (40, { st := 1 }) }
    let s (w : List CipReq) : State := { inMode 4 [] with slate := 100, cip := { wait := w, staged := List.replicate 10 0 } }
    let d : State := { s [] with cip := { run := some r } }
    0x101FFFC0 % 64 = 0 ∧ 0x101FFFC0 < 0x10200000 ∧ ¬(0x10000020 % 64 = 0) ∧ (s []).queueFull 5 = false ∧
    (s (List.replicate 32 { k with origin := .desc 0 })).queueFull 5 = true ∧ (s [c]).cip.run = none ∧ (s [c]).cip.wait = c :: [] ∧
    c.sub < (s [c]).slate ∧ (∀ p, p < 16 → ((s [c]).rf (Reg.ODX_P_CFG p) 11 0 == 40) = false) ∧ 8 ≤ k.d.mode ∧
    (s [c]).mainOn = true ∧ (s [c]).cipStartDue = true ∧ (s []).cipStartDue = false ∧ (s []).cipPublishDue = false ∧ d.cipPublishDue = true ∧
    (s [{ k with origin := .desc 0 }]).cip.wait = { k with origin := .desc 0 } :: [] ∧ ((s []).peek 5 0 64).isSome = true ∧
    (octs ((s [k]).cip.staged.flatMap fun w => bytesLE 4 w.toNat)).take 24 = List.replicate 24 0 ∧
    d.cip.run = some r ∧ r.finish ≤ d.slate ∧ r.req.q = 5 ∧ r.out = none ∧ (d.chan 4 5).length < 32 ∧ d.aonOn = true := by decide

/-- Reel 31 in each state that a clause asks for. -/
theorem meets_Reels :
    let cfg := 2 ^ 31 + 512 * 2 + 100
    let o : OpenPacket := { words := 7, last := 50 }
    let p : ReelPtrs := { drainB := false, rd := 0, wr := 2, vis := 3, fill := 5 }
    let s : State := { inMode 4 [(Reg.REL_RCFG 31, cfg + 2 ^ 24), (Reg.REL_RMAX 31, 200), (Reg.REL_RCFG 0, cfg), (Reg.REL_PTO, 50)] with
      slate := 100, reels := [(31, { p := p, q := p, pkts := 2, opened := some o })] }
    bit (word cfg) 31 = true ∧ ({} : State).reelOn 31 = false ∧ ({} : State).reelRefusal 31 (word (2 ^ 31 + 512)) = 0 ∧
    s.reelRefusal 1 (word (2 ^ 31 + 512 + 100)) ≠ 0 ∧ s.reelOn 31 = true ∧ s.reelProd 0 = 0 ∧ fld (word (2 ^ 31)) 29 28 ≠ 3 ∧
    (s.reelBy 31 0 = true ∨ s.reelBy 31 1 = true) ∧ (s.reel 31).opened = some o ∧ (s.reel 0).opened = none ∧
    (s.reel 31).p.fill + 2 ≤ s.reelCap 31 ∧ o.words + 1 ≤ s.rf (Reg.REL_RMAX 31) 13 0 ∧ s.canSwap 31 = false ∧
    s.reelMark 31 = false ∧ (s.reel 31).p.rd ≠ (s.reel 31).p.wr ∧ o.last + (s.rd Reg.REL_PTO).toNat ≤ s.slate ∧
    s.mainOn = true ∧ s.stallDue 31 = true ∧ s.stallDue 0 = false ∧ ({} : State).reelOn 31 = false ∧
    s.reelOn 0 = true ∧ s.reelCons 0 = 0 ∧
    (let u := s
     let w := (u.poolStore (u.poolWord 31 false 0) 7 true)
     u.reelOn 31 = true ∧ u.reelCons 31 = 0 ∧ ((reelSwap u 31).reel 31).p.rd ≠ ((reelSwap u 31).reel 31).p.wr ∧
     ((reelSwap u 0).reel 0).p.rd = ((reelSwap u 0).reel 0).p.wr ∧ (reelSwap w 31).poolLoad (w.poolWord 31 false 0) = some (7, true) ∧
     ({ w with ecc := w.ecc.put (memKey 7 (w.poolWord 31 false 0)) ⟨3, 7, 7⟩ } : State).poolLoad (w.poolWord 31 false 0) = none) ∧
    s.reelCons 31 = 0 ∧ ((s.poolStore (s.poolWord 31 false 0) 7 true).poolLoad (s.poolWord 31 false 0)) = some (7, true) ∧
    (s.reel 0).p.rd = (s.reel 0).p.wr := by decide

/-- A word of SRAM and one of DRAM that may be tested, in SERVICE, with the check bits of the data and of the data with one and two
bits changed; a mode in which the tests are refused. -/
theorem meets_TheCode :
    let l := [(Reg.MEM_TSELH, 5 * 2 ^ 28), (Reg.MEM_TSEL, 0x100), (Reg.MEM_TDATA 0, 3)]
    let s := inMode 3 l
    s.testOk = true ∧ (inMode 2 l).testOk = false ∧ (inMode 2 l).mainOn = true ∧ 0 < eccK 5 ∧
    ((s.wr Reg.MEM_TCHK 0xE0C).rd Reg.MEM_TCHK).toNat = eccCheck (eccR 5) (eccK 5) (testIn 5 s.tdata) + 0xE00 ∧
    eccCheck (eccR 5) (eccK 5) (3 ^^^ 2 ^ 0) = 0x0B ∧ eccCheck (eccR 5) (eccK 5) (3 ^^^ 2 ^ 0 ^^^ 2 ^ 1) = 0 ∧
    eccCheck (eccR 14) (eccK 14) 0 = 0 := by decide

/-- A scrubber at an unwritten word, a good one, one with one bit wrong and one with two; an unpowered memory. -/
theorem meets_Scrubbers :
    let s (k : EccMark) : State := { inMode 3 [(Reg.MEM_SCRUB 5, 2 ^ 31 + 8)] with ecc := [(memKey 5 0, k)] }
    let c := s { syn := 7, v0 := 7 }
    c.rb (Reg.MEM_SCRUB 5) 31 = true ∧ c.memOn 5 = true ∧ 0 < c.eccWords 5 ∧ c.eccWords 5 < 2 ^ 32 ∧
    (c.rd (Reg.MEM_SCRPOS 5)).toNat < c.eccWords 5 ∧ (c.eccRead 5 0).cls = .corrected ∧ majority (c.eccMark 5 0).v0 = true ∧
    ((s { syn := 0, v0 := 7 }).eccRead 5 0).cls = .good ∧ (State.reset.eccRead 5 0).cls = .unwritten ∧
    ((s { syn := 3, v0 := 7 }).eccRead 5 0).cls = .uncorrectable ∧ c.ueAt = none ∧ (inMode 1 []).memOn 5 = false ∧
    c.slate % (32 * 2 ^ c.rf (Reg.MEM_SCRUB 5) 4 0) ≤ c.syn.skip ∧ 5 ∉ c.memDone ∧ 0 < c.rf Reg.MEM_LEAK 15 0 ∧
    c.slate % (c.rf Reg.MEM_LEAK 15 0 * 32000) ≤ c.syn.skip ∧ 21 ∉ c.memDone ∧
    (let b := (c.wr (Reg.MEM_LEVEL 5) 0x103).wr Reg.MEM_LEAK 0x20001
     b.rb (Reg.MEM_LEVEL 5) 8 = true ∧ b.rf Reg.MEM_LEAK 23 16 < b.rf (Reg.MEM_LEVEL 5) 7 0 ∧ 0 < b.rf Reg.MEM_LEAK 15 0) ∧
    ((c.wr (Reg.MEM_LEVEL 5) 0x102).wr Reg.MEM_LEAK 0x20001).rf (Reg.MEM_LEVEL 5) 7 0 = 2 ∧
    (c.wr Reg.MEM_LEAK 0).rf Reg.MEM_LEAK 15 0 = 0 := by decide

/-- Addresses served and not, an address without a register, a bit that was set in this tick, ramps of 1, 2, 64 and 65 µs, an ACK
time at each end of its range and outside it, and the domains powered. -/
theorem meets_RegisterWrites :
    let s := inMode 3 []
    s.busOk 0x50000000 = false ∧ s.busOk 0x4000FFFC = true ∧ (regRow 0x4000FFFC).isNone = true ∧ s.busOk Reg.CUE_STAT = true ∧
    (let r := s.wb Reg.CUE_STAT 1 true
     r.rb Reg.CUE_STAT 1 = true ∧ bit (r.raised.get Reg.CUE_STAT 0) 1 = true ∧ (regW1C Reg.CUE_STAT).testBit 1 = true) ∧
    fld 12800 19 0 = 12800 ∧ fld 640000 19 0 = 640000 ∧ ¬640001 ≤ 640000 ∧ ¬12800 ≤ 12799 ∧
    s.rfOn = true ∧ ¬(2 ≤ fld 1 6 0) ∧ 2 ≤ fld 2 6 0 ∧ fld 64 6 0 ≤ 64 ∧ ¬(fld 65 6 0 ≤ 64) ∧ s.mainOn = true ∧
    s.busOk (Reg.CUE_GPIO_CFG 7) = true := by decide

/-- Core `n` about to execute the word `w` at 0x100, with registers and other core state given. -/
def atWord (n w : Nat) (ks : List (Nat × Nat)) (l : List (Nat × Nat)) (f : Core → Core) : State :=
  let s := inMode 4 l
  let c := f { on := true, pc := 0x100, k := ks.map fun e => (e.1, word e.2) }
  { s with slate := 100, sup := { s.sup with started := true }, cores := [(n, c)] }.poke n 0x100 (ofOcts (le 4 w))

/-- The same for an instruction. -/
def at_ (n : Nat) (i : KIns) (ks : List (Nat × Nat)) : State := atWord n (encodeKs i).toNat ks [] id

/-- Core `n` executes `op` in `s`. -/
def runs (n : Nat) (s : State) (op : KOp) : Bool :=
  decide (n < 5) && s.coreReady n && (match s.insAt n with
    | some (_, i) => i.op == op
    | none => false)

/-- An R word of the given operation. -/
def rIns (op : KOp) (rd a b : Nat) : KIns := { name := op, op := op, rd := rd, rs1 := a, rs2 := b }

/-- A word of another format of the given operation. -/
def iIns (op : KOp) (rd a : Nat) (imm : Int) : KIns := { name := op, op := op, rd := rd, rs1 := a, imm := imm }

/-- A load or store: register, base, addressing mode, size and the mode's field. -/
def mIns (op : KOp) (rd a am sz x : Nat) : KIns := { name := op, op := op, rd := rd, rs1 := a, am := am, sz := sz, x := x }

/-- The access completes. -/
def isDone : Access → Bool
  | .done _ _ => true
  | _ => false

/-- The access aborts with the cause. -/
def isAbort (c : Nat) : Access → Bool
  | .abort _ d => c == d
  | _ => false

/-- The access completes with a value that is even. -/
def isEven : Access → Bool
  | .done _ v => v % 2 == 0
  | _ => false

/-- The access completes and leaves the core as it is. -/
def keeps (s : State) (n : Nat) : Access → Bool
  | .done t _ => t.core n == s.core n
  | _ => false

/-- Every operation of the statement on arithmetic and logic is executed by core 0 or by KSS. -/
theorem meets_ArithmeticAndLogic :
    ([rIns .add 1 2 3, rIns .sub 31 2 3, rIns .neg 1 2 0, rIns .cmp 0 2 3, rIns .and 1 2 3, rIns .or 1 2 3, rIns .xor 1 2 3,
      rIns .not 1 2 0, rIns .mov 0 2 0, rIns .clz 1 2 0, rIns .sextb 1 2 0, rIns .sexth 1 2 0, rIns .zextb 1 2 0, rIns .zexth 1 2 0,
      iIns .addi 1 2 (-16384), iIns .cmpi 0 2 16383, iIns .andi 1 2 32767, iIns .ori 1 2 0, iIns .xori 1 2 1, iIns .lih 1 0 65535,
      iIns .lil 1 0 1].all fun i => runs 0 (at_ 0 i []) i.op && runs 4 (at_ 4 i []) i.op) = true ∧
    (List.all [0, 1, 0xFFFFFFFF] fun v => (at_ 0 (rIns .clz 1 2 0) [(2, v)]).k 0 2 == word v) = true := by decide +kernel

/-- Every shift and product, and a register with each shift amount at which the rule changes. -/
theorem meets_ShiftsAndProducts :
    ([KOp.lsl, .lsr, .asr, .ror, .lsli, .lsri, .asri, .rori, .mul, .mulhs, .mulhu].all fun op =>
      runs 0 (at_ 0 (rIns op 1 2 31) []) op && runs 4 (at_ 4 (rIns op 1 2 0) []) op) = true ∧
    ([0, 1, 31, 32, 33, 0xFFFFFFFF].all fun v => (at_ 0 (rIns .lsl 1 2 3) [(3, v)]).k 0 3 == word v) = true := by decide +kernel

/-- Every divide and operation of the DSP extension is executed by a core that has it, at its last destination and shift; the
operands at which a divide's rule changes. -/
theorem meets_DividesAndDsp :
    ([rIns .divu 30 2 3, rIns .divs 0 2 3, rIns .addsat 1 2 3, rIns .subsat 1 2 3, rIns .negsat 1 2 0, rIns .addsatH 1 2 3,
      rIns .subsatH 1 2 3, rIns .clampH 1 2 0, rIns .macL 1 2 3, rIns .macU 0 2 3, rIns .msbL 1 2 3, rIns .msbU 1 2 3, rIns .macf 1 2 3,
      rIns .azero 1 0 0, rIns .aload 1 2 0, rIns .arnd 1 1 31, rIns .agetl 31 1 0, rIns .ageth 1 0 0, rIns .aput 1 2 3].all fun i =>
        runs 0 (at_ 0 i []) i.op && runs 3 (at_ 3 i []) i.op) = true ∧ runs 4 (at_ 4 (rIns .divs 4 2 3) []) .divs = true ∧
    ([(0x80000000, 0xFFFFFFFF), (0x80000000, 0), (0x80000000, 1), (0, 0xFFFFFFFF)].all fun e =>
      let s := at_ 0 (rIns .divs 4 2 3) [(2, e.1), (3, e.2)]
      s.k 0 2 == word e.1 && s.k 0 3 == word e.2 && runs 0 s .divs) = true := by decide +kernel

/-- Each control transfer, with the even and the odd target, the stack at its limit, below it and unaligned, and a wait with a line
asserted and without. -/
theorem meets_ControlTransfers :
    let j (op : KOp) (a : Nat) := at_ 0 (rIns op 0 2 0) [(2, a), (31, 0x1F000)]
    let call (sp lim : Nat) := atWord 0 (encodeKs (iIns .call 0 0 8)).toNat [(31, sp)] [(Reg.CPR_SPLIM 0, lim)] id
    let back (w : Nat) : State := (at_ 0 (rIns .ret 0 0 0) [(31, 0x1F000)]).poke 0 0x1F000 (ofOcts (le 4 w))
    let resumes (w : Nat) : State := (atWord 0 (encodeKs (rIns .reti 0 0 0)).toNat [(31, 0x1F000)] [(Reg.CPR_STATUS 0, 2)] id).poke 0 0x1F000
      (ofOcts (le 4 5 ++ le 4 (2 ^ 16 + 2 ^ 17 * 3) ++ le 4 w))
    let reti := resumes 0x200
    let wait (l : List (Nat × Nat)) := atWord 0 (encodeKs (rIns .wait 0 0 0)).toNat [] l id
    let line := wait [(Reg.CUE_IPEND 4, 1), (Reg.CUE_IMASK 0 4, 1)]
    runs 0 (at_ 0 { name := .bcc, op := .bcc, cond := 14, imm := -4 } []) .bcc = true ∧ runs 0 (at_ 0 (iIns .jmp 0 0 4) []) .jmp = true ∧
    runs 0 (j .jr 0x200) .jr = true ∧ runs 0 (j .jr 0x201) .jr = true ∧ runs 0 (j .callr 0x200) .callr = true ∧
    ((j .jr 0x200).k 0 2).toNat % 2 = 0 ∧ ((j .jr 0x201).k 0 2).toNat % 2 = 1 ∧
    runs 0 (call 0x1F000 0x1EFFC) .call = true ∧ keeps (call 0x1F000 0x1EFFC) 0 (coreStore (call 0x1F000 0x1EFFC) 0 0x1EFFC 2 0x104) = true ∧
    ((call 0x1F000 0x1EFFC).rd (Reg.CPR_SPLIM 0)).toNat ≤ ((call 0x1F000 0).k 0 31 - 4).toNat ∧
    ((call 0x1F000 0x1EFFC).k 0 31 - 8).toNat < ((call 0x1F000 0x1EFFC).rd (Reg.CPR_SPLIM 0)).toNat ∧
    ((call 0x1EFFE 0).k 0 31 - 4).toNat % 4 ≠ 0 ∧ runs 0 (back 0x300) .ret = true ∧
    isEven (coreLoad (back 0x300) 0 ((back 0x300).k 0 31).toNat 2) = true ∧
    runs 0 reti .reti = true ∧ reti.rb (Reg.CPR_STATUS 0) 1 = true ∧ isDone (coreLoad reti 0 0x1F000 2) = true ∧
    isDone (coreLoad reti 0 0x1F004 2) = true ∧ isEven (coreLoad reti 0 0x1F008 2) = true ∧
    runs 0 (back 0x301) .ret = true ∧ isEven (coreLoad (back 0x301) 0 0x1F000 2) = false ∧ isDone (coreLoad (back 0x301) 0 0x1F000 2) = true ∧
    runs 0 (resumes 0x201) .reti = true ∧ isDone (coreLoad (resumes 0x201) 0 0x1F008 2) = true ∧
    isEven (coreLoad (resumes 0x201) 0 0x1F008 2) = false ∧ isDone (coreLoad (resumes 0x201) 0 0x1F000 2) = true ∧
    isDone (coreLoad (resumes 0x201) 0 0x1F004 2) = true ∧
    runs 0 (at_ 0 (rIns .trap 0 0 0) []) .trap = true ∧ runs 4 (at_ 4 (rIns .feat 1 0 3) []) .feat = true ∧
    runs 0 (wait []) .wait = true ∧ (wait []).cueLine 0 = false ∧ (wait []).msgLine 0 = false ∧
    runs 0 line .wait = true ∧ line.cueLine 0 = true := by decide +kernel

/-- A load and a store in each addressing mode and size, completing, unaligned, and to addresses that nothing holds; a circular
mode inside its buffer, outside it and off; a load of POP before its pop, after it with a word, and after one that failed. -/
theorem meets_LoadsAndStores :
    let ks := [(2, 0x10100), (3, 1), (4, 0x1F0000), (5, 0x20000), (6, 0xF0010000), (7, 0x10102)]
    let s (op : KOp) (a am sz x : Nat) := at_ 0 (mIns op 8 a am sz x) ks
    let circ := atWord 0 (encodeKs (mIns .ld 8 2 5 2 (256 + 4))).toNat ks [(Reg.CPR_MBASE 0 1, 0x100FC), (Reg.CPR_MLEN 0 1, 5)] id
    ([KOp.ld, .lds, .st].all fun op => runs 0 (s op 2 0 2 1) op && runs 0 (s op 2 1 0 1023) op && runs 0 (s op 2 2 1 511) op &&
      runs 0 (s op 2 3 2 96) op && runs 0 (s op 2 4 1 10) op && runs 0 (s op 2 5 2 4) op) = true ∧
    (let l := s .ld 2 0 2 1; isDone (coreLoad l 0 (memAddr l 0 (mIns .ld 8 2 0 2 1)).1 2)) = true ∧
    (let l := s .st 2 0 2 1; keeps l 0 (coreStore l 0 (memAddr l 0 (mIns .st 8 2 0 2 1)).1 2 0)) = true ∧
    (let l := s .ld 5 0 2 0; isAbort 2 (coreLoad l 0 (memAddr l 0 (mIns .ld 8 5 0 2 0)).1 2)) = true ∧
    (let l := s .st 6 0 2 0; isAbort 2 (coreStore l 0 (memAddr l 0 (mIns .st 8 6 0 2 0)).1 2 0)) = true ∧
    (let l := s .ld 7 0 2 0; (memAddr l 0 (mIns .ld 8 7 0 2 0)).1 % 2 ^ 2) ≠ 0 ∧
    (let l := at_ 0 (mIns .st 8 2 0 2 0) [(2, Reg.SYS_RST), (8, 0x64800100)]
     runs 0 l .st = true ∧ (match coreStore l 0 (memAddr l 0 (mIns .st 8 2 0 2 0)).1 2 0x64800100 with
       | .done x _ => coreGone l x 0
       | _ => false) = true) ∧
    ((s .ld 2 0 2 1).coreMem 0 0x10104).isSome = true ∧ ((s .ld 2 0 2 1).peek 0 0x10104 4).isSome = true ∧
    (∀ w ∈ [none, some (31, none), some (31, some (5 : Word))],
      let l := atWord 0 (encodeKs (mIns .ld 8 2 0 2 0)).toNat [(2, Reg.REL_RPOP 31)] [] fun c => { c with popped := w }
      runs 0 l .ld = true ∧ (memAddr l 0 (mIns .ld 8 2 0 2 0)).1 = Reg.REL_RPOP 31 ∧ Reg.REL_RPOP 31 % 4 = 0 ∧ l.mainOn = true ∧
      (l.core 0).popped = w) ∧
    runs 0 circ .ld = true ∧ (circ.rd (Reg.CPR_MLEN 0 1)).toNat = 5 ∧
    (circ.k 0 2 - circ.rd (Reg.CPR_MBASE 0 1)).toNat < 5 ∧ 5 ≤ (circ.k 0 7 - circ.rd (Reg.CPR_MBASE 0 1)).toNat := by decide +kernel

/-- An interrupt due at a boundary, a fetch that aborts, an undefined word, an entry whose pushes complete and one whose first push
aborts, a core that is off, and another instruction than the one commanded. -/
theorem meets_Exceptions :
    let irq (st : Option Stall) := atWord 0 1 [(31, 0x1F000)] [(Reg.CPR_STATUS 0, 1), (Reg.CUE_IPEND 4, 1), (Reg.CUE_IMASK 0 4, 1)]
      fun c => { c with stall := st }
    let far := atWord 0 1 [(31, 0x1F000)] [] fun c => { c with pc := 0x20000 }
    let undef := atWord 0 0xFFFFFFFF [(31, 0x1F000)] [] fun c => { c with pend := some (31, 7) }
    let low := atWord 0 1 [(31, 0x20004)] [] id
    let add := at_ 0 (rIns .add 1 2 3) [(31, 0x1F000)]
    (∀ t, t ∈ [none, some Stall.send, some .recv] → (irq t).coreRuns 0 = true ∧ (irq t).rb (Reg.CPR_STATUS 0) 0 = true ∧
      ((irq t).core 0).stall = t ∧ ((irq t).core 0).pend = none ∧ (irq t).cueLine 0 = true) ∧
    far.coreReady 0 = true ∧ (match fetchKs far 0 with | .abort _ 2 0x20000 => true | _ => false) = true ∧
    undef.coreReady 0 = true ∧ (match fetchKs undef 0 with | .word _ w => (decodeKs 0 w).isNone | _ => false) = true ∧
    (match coreStore undef 0 0x1EFFC 2 5 with
      | .done a _ => (match coreStore a 0 0x1EFF8 2 5 with
        | .done b _ => (match coreStore b 0 0x1EFF4 2 7 with
          | .done c _ => c.core 0 == undef.core 0 && c.rd (Reg.CPR_STATUS 0) == undef.rd (Reg.CPR_STATUS 0)
              && c.rd (Reg.CPR_VBASE 0) == undef.rd (Reg.CPR_VBASE 0)
          | _ => false)
        | _ => false)
      | _ => false) = true ∧
    isAbort 2 (coreStore low 0 ((low.k 0 31) - 4).toNat 2 5) = true ∧ State.reset.coreRuns 0 = false ∧
    add.coreReady 0 = true ∧ (match add.insAt 0 with | some (_, i) => i.name != .sub | none => false) = true := by decide +kernel

/-- A send to a channel with room, to a full one, to a core that is off and to itself; a receive with and without a message, from the
cipher channel and from any; the stalled core of each. -/
theorem meets_Channels :
    let m (t : Nat) : Msg := { w0 := 1, w1 := 2, tick := t }
    let s (op : KOp) (x : Nat) (st : Option Stall) (other : Bool) (q : List Msg) (own : SMap (List Msg)) : State :=
      let s := atWord 0 (encodeKs (mIns op 8 2 0 2 x)).toNat [(2, 0xF0000044)] [] fun c => { c with stall := st, chans := own }
      { s with cores := s.cores ++ [(3, { on := other, chans := [(0, q)] })] }
    let send (st : Option Stall) (on : Bool) (q : List Msg) := s .st 3 st on q []
    let recv (st : Option Stall) (x : Nat) (own : SMap (List Msg)) := s .ld x st true [] own
    let wait := atWord 0 (encodeKs (rIns .wait 0 0 0)).toNat [] [(Reg.CUE_IPEND 4, 1), (Reg.CUE_IMASK 0 4, 1)]
      fun c => { c with stall := some .wait }
    let goes (s : State) (op : KOp) (a : Nat) : Bool := runs 0 s op && (match s.insAt 0 with
      | some (u, i) => i.sz == 2 && (memAddr u 0 i).1 == a
      | none => false)
    goes (send none true []) .st (0xF0000044 + 12) = true ∧ (send none true []).coreOn 3 = true ∧ ((send none true []).chan 3 0).length < 16 ∧
    16 ≤ ((send none true (List.replicate 16 (m 5))).chan 3 0).length ∧ goes (send none true (List.replicate 16 (m 5))) .st 0xF0000050 = true ∧
    (send none false []).coreOn 3 = false ∧ goes (s .st 0 none true [] []) .st 0xF0000044 = true ∧
    goes (recv none 10 [(3, [m 99])]) .ld (0xF0000060 + 12) = true ∧ (recv none 10 [(3, [m 99])]).chan 0 3 = m 99 :: [] ∧ (99 : Nat) < 100 ∧
    (recv none 10 [(3, [m 100])]).visibleMsgs 0 3 = [] ∧ goes (recv none 7 []) .ld 0xF0000060 = true ∧
    goes (recv none 12 [(5, [m 100])]) .ld (0xF0000060 + 0x14) = true ∧ (recv none 12 [(5, [m 100])]).chan 0 5 = m 100 :: [] ∧
    (recv none 12 []).chan 0 5 = [] ∧ goes (recv none 13 [(3, [m 99]), (4, [m 99])]) .ld (0xF0000060 + 0x18) = true ∧
    (∀ k, k < 5 → ∀ e ∈ (recv none 13 [(3, [m 99]), (4, [m 99])]).visibleMsgs 0 k, (99 : Nat) < e.tick ∨ (99 = e.tick ∧ 3 ≤ k)) ∧
    (∀ k, k < 5 → (recv none 13 [(3, [m 100])]).visibleMsgs 0 k = []) ∧
    (send (some .send) true []).coreRuns 0 = true ∧ ((send (some .send) true []).core 0).stall = some .send ∧
    ((recv (some .recv) 10 [(3, [m 99])]).core 0).stall = some .recv ∧ (wait.core 0).stall = some .wait ∧ wait.cueLine 0 = true ∧
    wait.coreRuns 0 = true ∧ (wait.wr (Reg.CUE_IPEND 4) 0).cueLine 0 = false := by decide +kernel

/-- A request of operation `op` by principal `p` in `role`. -/
@[irreducible] def odpMsg (op p role flags ctr index sub count ofs maxr : Nat) (pay : List Nat) : List Nat :=
  [1, op, p * 16 + role, flags] ++ le 4 ctr ++ le 2 index ++ [sub, count] ++ le 4 ofs ++ le 2 maxr ++ le 2 pay.length ++ [0, 0, 0, 0] ++
    pay ++ List.replicate 8 0

/-- The verified request waiting in `s`. -/
def asked (s : State) (m : List Nat) (open_ : Option Nat) : State :=
  { s with odx := { s.odx with reqs := [{ job := 100, peer := { port := 0 }, msg := m, open_ := open_ }] }
           cip := { s.cip with done := if open_ = none then [{ job := 100, code := 0, tick := 7 }] else [] } }

/-- CONCENTRATE with principal 1 a Controller at counter 20, and firmware entries 0x5000 and 0x5001 of 4 octets. -/
@[irreducible] def odxState : State :=
  let fd (ix ty size rights a : Nat) : List Nat :=
    le 2 ix ++ [0, ty] ++ le 2 size ++ [rights, 0] ++ le 8 0 ++ le 8 0xFFFF ++ le 8 0 ++ le 8 0 ++ le 4 (0x10002000 + a) ++ le 4 0
  let s := inMode 4 [(Reg.ODX_P_CFG 1, 0xA0000011), (Reg.ODX_P_H 1, 20), (Reg.ODX_P_W 1, 0), (Reg.ODX_CTL, 0xFF), (Reg.MEM_STAT, 1),
    (Reg.ODX_FWTAB, 0x10001000), (Reg.ODX_FWCNT, 0x80000001), (Reg.ODX_PSTORE, 10)]
  { s with slate := 400000000 }.poke 5 0x1000 (ofOcts (fd 0x5000 16 4 0x3C 0))

/-- A principal that may write, with a reply of every status: what each clause asks of the message and of the state. -/
theorem meets_DictionaryRequests :
    let s := odxState
    let r (m : List Nat) : OdpReq := { job := 100, peer := { port := 0 }, msg := m }
    let get := odpMsg 1 1 1 0 21 0x1000 1 0 0 0 []
    let sub (mode period lease : Nat) := odpMsg 5 1 1 0 21 0x1000 1 0 0 0 ([mode, 0] ++ le 2 0 ++ le 4 period ++ le 4 lease)
    let p1 : OdpSub := { prin := 1, role := 1, peer := { port := 0 }, index := 0x1000, sub := 1, mode := 1, minint := 0, period := 1, lapse := 9 }
    let cap : OdpCapture := { index := 0x1000, sub := 1, count := 2, tick := 90000000, len := 5 }
    (asked s get none).odxWait = none ∧ (asked s get none).odxHead = some (r get, 0) ∧
    (asked s get (some 5)).odxHead = some ({ r get with open_ := some 5 }, 0) ∧
    classify 20 0 21 = none ∧ classify 20 0 20 ≠ none ∧ classify 20 0 (2 ^ 32 - 1) ≠ none ∧
    s.rf (Reg.ODX_P_CFG 1) 29 28 = 2 ∧ get.getD 1 0 = 1 ∧ get.getD 2 0 % 4 = 1 ∧ field get 8 2 = 0x1000 ∧ get.getD 11 0 = 0 ∧
    (odpMsg 7 1 1 0 21 0x1000 1 0 0 0 []).getD 1 0 = 7 ∧ (dictFind 0x1000 1).isSome = true ∧ (dictFind 0x1000 9).isNone = true ∧
    (dictIndex 0x1000).isEmpty = false ∧ (dictIndex 0x4FFF).isEmpty = true ∧
    ((dictFind 0x1100 7).map fun e => e.row.rights.testBit 2 && (dictRead s e).status == 0) = some true ∧
    ((dictFind 0x1120 2).map fun e => e.row.rights.testBit 2) = some false ∧
    ((dictFind 0x1202 2).map fun e => e.row.rights.testBit 3) = some false ∧
    ((dictFind 0x1202 2).map fun e => e.row.rights.testBit 5 && e.row.ty.size == 4 && e.row.ty != .action) = some true ∧
    ((sub 1 1 1).drop 24).take 12 = [1, 0, 0, 0] ++ le 4 1 ++ le 4 1 ∧ field (sub 1 1 1) 18 2 = 12 ∧
    field ((sub 3 86400000 86400).drop 24) 4 4 = 86400000 ∧ field ((sub 3 86400000 86400).drop 24) 8 4 = 86400 ∧
    ((sub 4 1 1).drop 24).getD 0 0 = 4 ∧ lowest 64 (fun k => (s.odx.subs.find k).isNone) = some 0 ∧
    (let t : State := { s with odx := { s.odx with subs := (List.range 64).map fun k => (k, p1) } }
     lowest 64 (fun k => (t.odx.subs.find k).isNone) = none) ∧
    ((dictFind 0x1800 3).map fun e => e.row.ty == .action) = some true ∧
    (match blockTargets s 0x1100 1 [7, 8] with
      | .ok ts => (match (captureAll s ts).2 with
        | .ok b => b.length == 8
        | .error _ => false)
      | .error _ => false) = true ∧
    s.memOn 14 = true ∧ s.odx.caps.find 1 = none ∧ cap.len = 5 ∧
    (let t : State := { s with odx := { s.odx with caps := [(1, cap)] } }
     (s.write 10 14 (s.odxBuffer 2) (ofOcts [1, 2, 3, 4, 5])).2 = true ∧ t.odx.caps.find 1 = some cap ∧ (t.peek 14 (t.odxBuffer 2 + 4) 1).isSome = true) ∧ s.slate ≤ cap.tick + 320000000 ∧
    s.fwTableBad = false ∧ ((s.fwFind 0x5000 0).map fun d => d.rights.testBit 3 && d.ty == .action && d.size == 4) = some true ∧
    s.odx.fw = none ∧ (s.write 10 5 0x2000 (ofOcts [1, 2, 3, 4])).2 = true ∧
    (let t : State := { s with odx := { s.odx with waits := [{ job := 9, peer := { port := 0 }, msg := get, tick := 5 }] },
                               cip := { s.cip with done := [{ job := 9, code := 5, tick := 3 }] } }
     t.odxWait = some ({ job := 9, peer := { port := 0 }, msg := get, tick := 5 }, 5)) := by decide +kernel

/-- A block write that continues an open one, at its size and beyond it; a SUBSCRIBE payload whose octet 1 is not zero; DRAM that is
not powered. -/
theorem meets_DictionaryRequests_blocks :
    let s := odxState
    let sub := odpMsg 5 1 1 0 21 0x1000 1 0 0 0 ([1, 1] ++ le 2 0 ++ le 4 1 ++ le 4 1)
    let w : OdpWrite := { index := 0x1202, sub := 2, tick := 90000000, len := 2 }
    let t : State := { s with odx := { s.odx with writes := [(1, w)] } }
    let x := t.target 0x1202 2
    let k := t.write 10 14 (t.blockBuffer x 1 + 2) (ofOcts [1, 2])
    t.odx.writes.find 1 = some w ∧ s.odx.writes.find 1 = none ∧ t.slate ≤ w.tick + 320000000 ∧ x.size = 4 ∧ 2 + 2 ≤ x.size ∧
    x.size < 2 + 3 ∧ k.2 = true ∧ (k.1.peek 14 (k.1.blockBuffer x 1) 4).isSome = true ∧
    sub.getD 1 0 = 5 ∧ (sub.drop 24).getD 1 0 ≠ 0 ∧ s.odx.late = [] ∧ (inMode 1 []).memOn 14 = false := by decide +kernel

/-- Answers due with and without a tag, on each port; subscriptions that are due, changed and neither; saves at their delay, by
command and completing; a firmware action answered and timed out. -/
theorem meets_AnswersAndSaves :
    let s := odxState
    let o (port : Nat) (job : Option Nat) : OdpOut := { job := job, peer := { port := port }, msg := [1, 2] }
    let due (port : Nat) (job : Option Nat) (code : Nat) : State :=
      { (s.wb (Reg.ETH_CTL 2) 31 true).wb (Reg.ETH_STAT 2) 0 true with
        odx := { s.odx with outs := [o port job] }, cip := { s.cip with done := [{ job := 100, code := code, tick := 3, give := List.range 12 }] } }
    let x (mode period : Nat) (last : Option (List Nat)) : OdpSub := {
      prin := 1, role := 1, peer := { port := 0 }, index := 0x1100, sub := 1
      mode := mode, minint := 0, period := period, lapse := 400000000, last := last, lastAt := 5 }
    let w : OdpWait := { job := 0, peer := { port := 0 }, msg := [], tick := 4, value := [0x10002000, 4], desc := 0, till := 400000000 }
    let f : State := { s with odx := { s.odx with fw := some w, dirtyAt := some (400000000 - 320000), saveReq := true } }
    let full : State := { s with cip := { s.cip with wait := List.replicate 32 { q := 6, sub := 3, origin := .inline 3 [] [] [] } } }
    let sv (v : Option (List StoreRec)) : State := { s with upd := { s.upd with ops := [.save] }, odx := { s.odx with saving := some v } }
    s.queueFull 6 = false ∧ full.queueFull 6 = true ∧ (due 0 none 0).odpOutDue = some (o 0 none) ∧
    (due 3 (some 100) 0).odpOutDue = some (o 3 (some 100)) ∧ ((due 3 (some 100) 0).cipDone 100).isSome = true ∧
    (due 3 (some 100) 5).odpOutDue = some (o 3 (some 100)) ∧ (due 3 none 0).portUp 2 = true ∧ (due 3 none 0).portUp 1 = false ∧
    ((s.odx.subs.put 63 (x 1 1 none)).find 63) = some (x 1 1 none) ∧ s.slate % (1 * 32000) = 0 ∧ s.slate % (86400000 * 32000) ≠ 0 ∧
    (targetGet s (s.target 0x1100 1)).status = 0 ∧ (targetGet s (s.target 0x1100 1)).value = [4] ∧
    (targetGet s (s.target 0x1000 9)).status ≠ 0 ∧ (targetGet s (s.target 0x1100 1)).state = s ∧
    (s.rd (Reg.ODX_P_NCTR 1)).toNat + 1 < 2 ^ 32 - 1 ∧ s.passes (1 * 32000) = true ∧ s.passes (86400000 * 32000) = false ∧
    ((s.wr (Reg.ODX_P_NCTR 1) 0xFFFFFFFF).rd (Reg.ODX_P_NCTR 1)).toNat + 1 = 2 ^ 32 ∧ s.openObs 1 = false ∧ (x 1 1 none).lapse ≤ s.slate ∧ s.mainOn = true ∧ s.odx.saving = none ∧
    f.odx.dirtyAt = some (400000000 - 320000) ∧ 400000000 - 320000 + f.rf Reg.ODX_PSTORE 15 0 * 32000 ≤ f.slate ∧ f.odx.saveReq = true ∧
    (sv none).upd.ops.head? = some .save ∧ (sv none).odx.saving = some none ∧ (sv (some [])).odx.saving = some (some []) ∧
    (sv none).storeCopy = none ∧ f.odx.fw = some w ∧ w.till ≤ f.slate ∧ bit (0x80000004 : Word) 31 = true ∧
    ((f.plainWrite Reg.ODX_FWDONE 0x80000004).peek 5 0x2000 4).isSome = true := by decide +kernel

/-- A store of one record that its area can not hold, and one that it can. -/
theorem meets_AStoreTooLong (seq : Nat) :
    (∃ v : List Nat, v.length = 524288 ∧
      524288 < (StoreCopy.image { seq := seq, recs := [{ index := 0, sub := 0, comp := 0, fmt := 0, value := v }] }).length) ∧
    (StoreCopy.image { seq := seq, recs := [] }).length ≤ 524288 := by
  have h : ∀ n v, (le n v).length = n := by intro n v; simp [le, bytesLE, octs]
  have l : ∀ v : List Nat, v.length <
      (StoreCopy.image { seq := seq, recs := [{ index := 0, sub := 0, comp := 0, fmt := 0, value := v }] }).length := by
    intro v
    simp only [StoreCopy.image, StoreRec.octets, List.flatMap_cons, List.flatMap_nil, List.length_append, h]
    omega
  constructor
  · obtain ⟨v, hv⟩ : ∃ v : List Nat, v.length = 524288 := ⟨List.replicate 524288 0, List.length_replicate⟩
    exact ⟨v, hv, by rw [← hv]; exact l v⟩
  · simp [StoreCopy.image, h]

/-- Port 2 up with its addresses, rings of one descriptor each and a reel whose batches it sends. -/
@[irreducible] def ethState : State :=
  let mac := [2, 17, 34, 51, 68, 85]
  let s := inMode 4 [(Reg.ETH_CTL 2, 0x80000000), (Reg.ETH_STAT 2, 1), (Reg.ETH_MACLO 2, field mac 0 4), (Reg.ETH_MACHI 2, field mac 4 2),
    (Reg.ETH_IP4 2, 0x0A000005), (Reg.ETH_RXRING 2, 0x10000100), (Reg.ETH_TXRING 2, 0x10000200), (Reg.ETH_RINGLEN 2, 0x10001),
    (Reg.ETH_BCFG 2, 2 ^ 31 + 20 * 2 ^ 16 + 1), (Reg.ODX_CTL, 0xF), (Reg.ODX_P_CFG 0, 0xA0000010)]
  let desc (a len fl : Nat) : List Byte := ofOcts (le 4 a ++ le 2 len ++ le 2 fl ++ le 8 77)
  let s := ((s.poke 5 0x100 (desc 0x10000400 2000 1)).poke 5 0x200 (desc 0x10001000 60 1)).poke 5 0x1000 (ofOcts (List.range 60))
  { s with slate := 32000, host := { s.host with eth := [(2, { open_ := [(31, { seq := 7, words := [1, 2], pkts := 1, since := 0 })] })] } }

/-- Frames that a port drops, passes over, answers and stores; a ring with a descriptor and without; a transmit; batches at their age
and waiting to leave with and without a tag. -/
theorem meets_EthernetAndBatches :
    let s := ethState
    let mac := [2, 17, 34, 51, 68, 85]
    let src := [4, 2, 3, 4, 5, 6]
    let peer := 0x20 :: List.range 15
    let arp := mkFrame (List.replicate 6 255) src none 0x0806
      ([0, 1, 8, 0, 6, 4, 0, 1] ++ src ++ [10, 0, 0, 9] ++ [0, 0, 0, 0, 0, 0] ++ [10, 0, 0, 5] ++ List.replicate 18 0)
    let ns (tgt : List Nat) : List Nat :=
      let dst := [0xFF, 2, 0, 0, 0, 0, 0, 0, 0, 0, 0, 1, 0xFF] ++ tgt.drop 13
      let body := [0, 0, 0, 0] ++ tgt ++ [1, 1] ++ src
      ipPacket peer dst 58 255 ([135, 0] ++ octsBE 2 (inetSum (pseudoHeader peer dst 58 (4 + body.length) ++ [135, 0, 0, 0] ++ body)) ++ body)
    let nd := mkFrame (solicitedMac (linkLocal mac)) src none 0x86DD (ns (linkLocal mac))
    let odp := mkFrame mac src none 0x0800 (udpPacket [10, 0, 0, 9] [10, 0, 0, 5] 1000 47650 (List.range 32))
    let plain := mkFrame mac src none 0x1234 (List.range 100)
    let pause := mkFrame [1, 0x80, 0xC2, 0, 0, 1] src none 0x8808 (List.range 46)
    let b : ClosedBatch := { reel := 3, close := 6, octets := [1], job := none }
    let down := s.wb (Reg.ETH_STAT 2) 0 false
    let closed (c : List ClosedBatch) : State := s.setPort 2 { s.port 2 with closed := c }
    let t : State := { closed [{ b with job := some 100 }] with cip := { s.cip with done := [{ job := 100, code := 0, tick := 3, give := List.range 16 }] } }
    s.portUp 2 = true ∧ down.portUp 2 = false ∧ arp.length = 60 ∧ frameVid plain = none ∧ frameType pause = 0x8808 ∧
    s.frameOurs 2 arp = true ∧ (s.arpReply 2 arp).isSome = true ∧ s.frameOurs 2 nd = true ∧ (s.ndReply 2 nd).isSome = true ∧
    s.arpReply 2 nd = none ∧ s.frameOurs 2 odp = true ∧ (s.odpDatagram 2 odp).isSome = true ∧ s.arpReply 2 odp = none ∧
    s.ndReply 2 odp = none ∧ s.odpDatagram 2 plain = none ∧ s.frameOurs 2 plain = true ∧
    s.frameOurs 2 (mkFrame [3, 3, 3, 3, 3, 3] src none 0x1234 (List.range 100)) = false ∧
    (s.ringDesc (s.rd (Reg.ETH_RXRING 2)).toNat (s.port 2).rxAt).isSome = true ∧
    (s.ringDesc (s.rd (Reg.ETH_RXRING 2)).toNat 1).isNone = true ∧ s.writable 5 0x400 114 = true ∧
    (s.ringDesc (s.rd (Reg.ETH_TXRING 2)).toNat (s.port 2).txAt).isSome = true ∧ (s.peek 5 0x1000 60).isSome = true ∧
    s.mainOn = true ∧ s.rb (Reg.ETH_CTL 2) 31 = true ∧ (s.port 2).open_.find 31 = some { seq := 7, words := [1, 2], pkts := 1, since := 0 } ∧
    (s.port 2).open_.find 0 = none ∧ 0 + s.rf (Reg.ETH_BCFG 2) 15 0 * 32000 ≤ s.slate ∧ s.rb (Reg.ETH_STAT 2) 0 = true ∧
    down.rb (Reg.ETH_STAT 2) 0 = false ∧ s.rb (Reg.ETH_BCFG 2) 30 = false ∧ s.queueFull 6 = false ∧
    s.frameLong 2 (s.tagged 2 (List.range 60)) = false ∧ s.frameLong 2 (s.tagged 2 (List.range 1515)) = true ∧
    s.rf (Reg.ETH_CTL 2) 1 0 = 0 ∧ (s.wr (Reg.ETH_CTL 2) 0x80000002).rf (Reg.ETH_CTL 2) 1 0 = 2 ∧
    (let r := (s.wr (Reg.REL_RCFG 30) (word (2 ^ 31 + 3 * 2 ^ 20 + 512))).wr (Reg.ETH_BDST 2) 41
     let r := reelFinish (reelAppend r 30 0x55 false) 30 (trailer false 0 1)
     (r.port 2).open_.find 30 = none ∧
     ((takePacket r 30).map fun p => decide (0 < p.2.length) && decide (24 + 4 * p.2.length + 8 ≤ r.rf (Reg.ETH_BDST 2) 13 0)) = some true) ∧
    SMap.risingFrom 0 (s.port 2).open_ = true ∧ (s.port 2).closed = [] ∧
    (closed [{ b with reel := 4 }, b]).batchNext 2 = some b ∧ t.batchNext 2 = some { b with job := some 100 } ∧
    t.cipDone 100 = some { job := 100, code := 0, tick := 3, give := List.range 16 } := by decide +kernel

/-- A reel that SPI reads, with a packet that fits and one that does not; frames of the length stated and not; the console's FIFOs
at their ends. -/
theorem meets_SpiAndConsole :
    let s := inMode 4 [(Reg.UAT_CTL, 2 ^ 31), (Reg.REL_RCFG 31, 2 ^ 31 + 4 * 2 ^ 20 + 512)]
    let r := reelFinish (reelAppend s 31 0x55 false) 31 (trailer false 0 1)
    (let h : State := { s with host := { s.host with sphAt := 100 } }
     h.slate < h.host.sphAt + (h.rd Reg.SPH_TOUT).toNat ∧
     ({ h with slate := 100 + (h.rd Reg.SPH_TOUT).toNat } : State).host.sphAt + (h.rd Reg.SPH_TOUT).toNat ≤
       ({ h with slate := 100 + (h.rd Reg.SPH_TOUT).toNat } : State).slate) ∧
    let m : State := { s with host := { s.host with sph := [[1, 2, 3]], uatRx := List.range 64, uatTx := [7] } }
    r.reelOn 30 = false ∧ s.aonOn = true ∧ s.mainOn = true ∧ s.rb Reg.UAT_CTL 31 = true ∧ r.reelOn 31 = true ∧ r.reelCons 31 = 4 ∧
    ((takePacket r 31).map fun p => decide (0 < p.2.length)) = some true ∧ (sphPackets 31 (r.reel 31).pkts r 10 []).2 ≠ [] ∧
    (sphPackets 31 (r.reel 31).pkts r 0 []).2 = [] ∧ m.host.sph.head? = some [1, 2, 3] ∧ s.host.sph = [] ∧
    (List.range 30).length = 30 ∧ (List.range 30).length ≠ 31 ∧ m.host.uatTx.head? = some 7 ∧ s.host.uatTx = [] ∧
    64 ≤ m.host.uatRx.length ∧ s.host.uatRx.length < 64 ∧ m.host.uatRx.head? = some 0 := by decide +kernel

/-- A sample inside and outside the lock window, the third bad one of a locked slate, one that steps; a level of SYNC_PPS that is
taken and one that is not, active and inactive, accepted at each bound and not; an input stuck and one that is not; the timeout at
its tick; a step whose tick has passed; a second that has come. -/
theorem meets_TheSlateIsDisciplined :
    let l := [(Reg.SYN_CFG, 100 * 65536 + 2 * 4096 + 2 * 256 + 4 + 2), (Reg.SYN_LOCK, 2 ^ 24 + 100), (Reg.SYN_STEPTH, 1000),
      (Reg.SYN_STAT, 1), (Reg.SYN_PPSCFG, 65536)]
    let stamp := 8 * 64000000
    let s (m : Nat) : State := { inMode m l with
      slate := 64000000
      syn := { good := 8, bad := 2, sampleAt := 32000000, second := 1, edge := some (stamp - 256000000),
               step := some (7, 63999999), stuck := false, ppsOut := some 64000000 } }
    (s 4).aonOn = true ∧ (s 4).rf Reg.SYN_CFG 1 0 = 2 ∧ (s 4).rb Reg.SYN_STAT 0 = true ∧ 3 ≤ (s 4).syn.bad + 1 ∧
    (s 4).rf Reg.SYN_LOCK 23 0 = 100 ∧ (s 3).rf Reg.SYN_CFG 2 2 = 1 ∧ ((s 3).mode = 2 ∨ (s 3).mode = 3) ∧
    (-8001 : Int) < -(8 * ((s 3).rd Reg.SYN_STEPTH).toNat : Int) ∧ ¬((-8000 : Int) < -(8 * ((s 3).rd Reg.SYN_STEPTH).toNat : Int)) ∧
    (s 4).syn.level ≠ true ∧ (s 4).rf Reg.SYN_PPSCFG 7 0 ≤ 1 ∧ true ≠ (s 4).rb Reg.SYN_PPSCFG 8 ∧ 8 * ((s 4).slate + 1 - 1) + 0 = stamp ∧
    ((s 4).wr Reg.SYN_PPSCFG 4).rf Reg.SYN_PPSCFG 7 0 = 4 ∧ ¬(true ≠ ((s 4).wr Reg.SYN_PPSCFG 0x100).rb Reg.SYN_PPSCFG 8) ∧
    (∀ e ∈ [stamp - 255744000, stamp - 256256000],
      ((some e).map fun p => decide (p + 255744000 ≤ stamp) && decide (stamp ≤ p + 256256000)) = some true) ∧
    ((some (stamp - 255743999)).map fun p => decide (p + 255744000 ≤ stamp) && decide (stamp ≤ p + 256256000)) = some false ∧
    (s 4).syn.edge = some (stamp - 256000000) ∧
    (let t : State := { s 4 with syn := { (s 4).syn with level := true, since := some 63967999 } }
     t.syn.level ≠ t.rb Reg.SYN_PPSCFG 8 ∧ t.rf Reg.SYN_PPSCFG 31 16 ≠ 0 ∧ t.syn.stuck = false ∧
     63967999 + t.rf Reg.SYN_PPSCFG 31 16 * 32000 < t.slate ∧ ¬63968000 + t.rf Reg.SYN_PPSCFG 31 16 * 32000 < t.slate) ∧
    (s 4).syn.sampleAt + (s 4).rf Reg.SYN_LOCK 31 24 * 32000000 ≤ (s 4).slate ∧ (s 4).syn.step = some (7, 63999999) ∧
    63999999 < (s 4).slate ∧ (2 : Nat) = (s 4).syn.second + 1 ∧ 2 * 32000000 ≤ (s 4).slate ∧ (s 4).syn.ppsOut = some 64000000 ∧
    ({ s 4 with slate := 63999999 } : State).slate ≤ 63999999 ∧ ((s 4).wb Reg.SYN_PPSOUT 31 true).rb Reg.SYN_PPSOUT 31 = true ∧
    (s 4).sup.hourAt = (s 4).slate / 115200000000 ∧ (s 4).syn.step ≠ none ∧ ((inMode 4 []).syn.step = none) := by decide +kernel

/-- Sources at their bounds; sessions open, foreign and none; headers refused by their magic and component; chunks refused by
place, length, length of the session and room, and one taken; finishes and verifications; flash operations of this session and of
another. No header that BEGIN accepts can be written down: the keys it is verified with are values the spec leaves open. -/
theorem meets_StagingSessions :
    let h (magic comp len : Nat) (sha : List Nat) : List Nat := [magic, 0x44, 0x36, 0x34] ++ le 2 1 ++ [comp, 0] ++ le 4 0x6480 ++
      [0xB0, 0, 0, 0] ++ le 4 5 ++ le 4 len ++ List.replicate 64 0 ++ sha ++ List.replicate 136 0
    let body := List.range 40
    let good := h 0x4C 4 40 (sha256 body)
    let s (mode st src rx : Nat) (ops : List FlashOp) : State :=
      let s := inMode mode [(Reg.UPD_STAT, src * 2 ^ 24 + st), (Reg.UPD_RXOFS, rx), (Reg.UPD_LEN, 8001), (Reg.UPD_TOUT, 1)]
      { s with slate := 64000000, upd := { s.upd with ops := ops, ses := 5, hdr := good, rx := body, last := 32000000, imgs := [(14, { hdr := good, body := body })] } }
    (s 4 1 3 0 []).mainOn = true ∧ (s 4 1 3 0 []).upd.ops.head? = none ∧ (15 < 16 ∨ (0x80 ≤ 15 ∧ 15 < 0x85)) ∧ (0x84 < 16 ∨ (0x80 ≤ 0x84 ∧ 0x84 < 0x85)) ∧
    (s 4 1 3 0 []).rf Reg.UPD_STAT 2 0 = 1 ∧ (s 4 1 3 0 []).rf Reg.UPD_STAT 31 24 = 3 ∧ (s 7 0 0 0 []).mode = 7 ∧ (s 4 0 0 0 []).mode ≠ 7 ∧
    (s 4 0 0 0 []).hdrCause (h 0x4D 4 40 []) = 2 ∧ (s 4 0 0 0 []).hdrCause (h 0x4C 5 40 (sha256 body)) = 3 ∧
    8000 < ((s 4 1 3 0 []).rd Reg.UPD_LEN).toNat ∧ hdrLen (s 4 1 3 0 []).upd.hdr = 40 ∧ ¬(hdrLen good < 39 + 1) ∧ hdrLen good < 40 + 1 ∧
    (s 4 1 3 0 []).chunkOctets + 8000 ≤ 32768 ∧
    ¬((s 4 1 3 0 (List.replicate 4 (.chunk 5 4 (List.replicate 8000 0)))).chunkOctets + 8000 ≤ 32768) ∧
    ((s 4 1 3 40 []).rd Reg.UPD_RXOFS).toNat = hdrLen good ∧
    (∀ o ∈ [FlashOp.verify 5, .verify 4, .unstage 4, .save], (s 4 2 3 40 [o]).upd.ops.head? = some o) ∧ (s 7 1 3 40 []).mode = 7 ∧
    (s 4 2 3 40 []).rf Reg.UPD_STAT 2 0 = 2 ∧ ((s 4 2 3 40 []).bootRec.map (·.seq)).getD 0 + 1 < 2 ^ 32 ∧ hdrComp good ≤ 4 ∧
    hdrComp good = 4 ∧ (((s 4 2 3 40 []).image 4 2).map fun e => e.hdr == good && e.body.length == 40 && sha256 e.body == (e.hdr.drop 88).take 32) = some true ∧
    (s 4 1 3 40 []).upd.last + (s 4 1 3 40 []).rf Reg.UPD_TOUT 15 0 * 32000000 ≤ (s 4 1 3 40 []).slate ∧
    (s 4 1 3 40 [.chunk 5 4 [1]]).upd.ops.head? = some (.chunk 5 4 [1]) ∧ (s 4 1 3 40 [.erase 4 4 good]).upd.ops.head? = some (.erase 4 4 good) ∧
    ((s 4 1 3 40 []).image 4 2).isSome = true := by decide +kernel

/-- A canonical state of which the step answers a next state. -/
theorem meets_EveryStep : Memory.wf State.reset.mem = true ∧ State.reset.slate < 2 ^ 64 ∧
    (match step { State.reset with pending := [.uartRxPop] } with
      | .next t => t.pending == []
      | _ => false) = true := by decide +kernel

end Sys2Proof.Tests
end

/-! PROOFS. The scope of the commands: which are refused, which go on, and what a register write does by its access codes
(R3-R7). -/

namespace Sys2Proof.Machine

/-! ### The outcome of a command -/

/-- Every command but REGISTER_WRITE goes to a next state where it is well-formed, and is refused as ill-formed elsewhere: its
meaning is `ok` of the very bound on its operands that `Instr.wf` states, or a next state where `Instr.wf` states none. -/
theorem exec_eq_ok (i : Instr) (s : State) (h : ∀ req a v, i ≠ .registerWrite req a v) :
    ∃ t, exec i s = ok i.wf t := by
  cases i with
  | registerWrite req a v => exact absurd rfl (h req a v)
  | _ => exact ⟨_, rfl⟩

theorem exec_registerWrite_of_not_wf {req a : Nat} {v : Word} {s : State}
    (h : (Instr.registerWrite req a v).wf = false) : exec (.registerWrite req a v) s = .refused .illFormed := by
  have hbad : a % 4 ≠ 0 ∨ 2 ^ 32 ≤ a := by
    simp only [Instr.wf, Bool.and_eq_false_iff, beq_eq_false_iff_ne, decide_eq_false_iff_not] at h
    omega
  simp only [exec, execRegisterWrite, if_pos hbad]

/-- A write to an aligned address: it has its effect where a powered block serves the address, and else faults (R7). -/
theorem exec_registerWrite {req a : Nat} {v : Word} {s : State} (ha : a % 4 = 0) (h32 : a < 2 ^ 32) :
    exec (.registerWrite req a v) s = if s.busOk a then .next (s.busWrite req a v) else .fault (.busError a) := by
  have hgood : ¬(a % 4 ≠ 0 ∨ 2 ^ 32 ≤ a) := by omega
  simp only [exec, execRegisterWrite, if_neg hgood]

/-- A write that a powered block serves completes with its effect on the block. -/
theorem completes_registerWrite {req a : Nat} {v : Word} {s t : State} {P : State → Prop} (ha : a % 4 = 0) (h32 : a < 2 ^ 32)
    (hbus : s.busOk a = true) (ht : s.busWrite req a v = t) (hP : P t) : Completes (.registerWrite req a v) s P :=
  ⟨t, by rw [exec_registerWrite ha h32, if_pos hbus, ht], hP⟩

/-- Settles O2: REGISTER_WRITE apart, a command's outcome is that of `ok` on its well-formedness. -/
theorem commandsGoOnExactlyWhenTheyNameSomething : Obligations.CommandsGoOnExactlyWhenTheyNameSomething := by
  intro i s
  by_cases hi : ∃ req a v, i = .registerWrite req a v
  · obtain ⟨req, a, v, rfl⟩ := hi
    refine ⟨exec_registerWrite_of_not_wf, fun hwf => ?_⟩
    obtain ⟨ha, h32⟩ : a % 4 = 0 ∧ a < 2 ^ 32 := by simpa [Instr.wf] using hwf
    rw [exec_registerWrite ha h32]
    cases hbus : s.busOk a with
    | true => exact .inl ⟨_, rfl⟩
    | false => exact .inr ⟨req, a, v, rfl, hbus, rfl⟩
  · obtain ⟨t, ht⟩ := exec_eq_ok i s fun req a v e => hi ⟨req, a, v, e⟩
    rw [ht]
    exact ⟨fun hwf => by rw [hwf]; rfl, fun hwf => .inl ⟨t, by rw [hwf]; rfl⟩⟩

/-! ### Plain writes (R3-R5) -/

/-- The truth table of a plain write: `r` and `c` say whether the bit is RW or W1C, `x` is the written, `k` the kept and `o` the
old bit. -/
theorem plainBit (r c x k o : Bool) :
    (x && r || o && !r && !(x && c && !k)) = if r then x else if c && x && !k then false else o := by decide +revert

/-- A plain write, bit by bit: a RW bit takes the written bit, a W1C bit written 1 clears unless it is kept, every other bit
stays. -/
theorem bit_plainValue (rw w1c : Nat) (keep old v : Word) {b : Nat} (hb : b < 32) :
    bit (plainValue rw w1c keep old v) b =
      if rw.testBit b then bit v b else if w1c.testBit b && bit v b && !bit keep b then false else bit old b := by
  rw [← plainBit]
  simp only [plainValue, bit, word, BitVec.testBit_toNat, BitVec.getLsbD_or, BitVec.getLsbD_and, BitVec.getLsbD_not,
    BitVec.getLsbD_ofNat, hb, decide_true, Bool.true_and]

theorem rb_plainWrite_self (s : State) (a : Nat) (v : Word) {b : Nat} (hb : b < 32) :
    (s.plainWrite a v).rb a b = if (regRW a).testBit b then bit v b
      else if (regW1C a).testBit b && bit v b && !bit (s.raised.get a 0) b then false else s.rb a b := by
  simp only [State.rb, State.plainWrite, State.rd_wr_self, bit_plainValue _ _ _ _ _ hb]

/-- Words that agree in the bits of a field agree in the field. -/
theorem fld_congr {w w' : Word} {hi lo : Nat} (h : ∀ b, lo ≤ b → b ≤ hi → bit w b = bit w' b) : fld w hi lo = fld w' hi lo := by
  refine Nat.eq_of_testBit_eq fun i => ?_
  rw [fld_testBit, fld_testBit]
  by_cases hi' : i < hi + 1 - lo
  · rw [show w.toNat.testBit (lo + i) = w'.toNat.testBit (lo + i) from h (lo + i) (by omega) (by omega)]
  · simp [hi']

/-- A field of RW bits takes the written field. -/
theorem rf_plainWrite_self (s : State) (a : Nat) (v : Word) {hi lo : Nat} (h32 : hi < 32)
    (hrw : ∀ b, lo ≤ b → b ≤ hi → (regRW a).testBit b = true) : (s.plainWrite a v).rf a hi lo = fld v hi lo :=
  fld_congr fun b hl hh => (rb_plainWrite_self s a v (by omega)).trans (if_pos (hrw b hl hh))

theorem KeepsRegs.plainWrite {rs : List Nat} {s t : State} (h : KeepsRegs rs s t) {a : Nat} (v : Word) (ha : a ∈ rs) :
    KeepsRegs rs s (t.plainWrite a v) := h.wr _ ha

/-- Nothing but the register at `r`, and the record of its bits that hardware set in the present tick, differs between `s` and
`t`. -/
def WritesOnly (r : Nat) (s t : State) : Prop := t = { s with regs := t.regs, raised := t.raised } ∧ KeepsRegs [r] s t

theorem WritesOnly.refl (r : Nat) (s : State) : WritesOnly r s s := ⟨rfl, .refl _ _⟩

theorem WritesOnly.plainWrite (s : State) (a : Nat) (v : Word) : WritesOnly a s (s.plainWrite a v) :=
  ⟨rfl, (KeepsRegs.refl _ s).plainWrite v (List.mem_singleton_self a)⟩

theorem WritesOnly.wf (s : State) (a hi lo v : Nat) : WritesOnly a s (s.wf a hi lo v) :=
  ⟨rfl, (KeepsRegs.refl _ s).wf hi lo v (List.mem_singleton_self a)⟩

theorem WritesOnly.wb (s : State) (a b : Nat) (v : Bool) : WritesOnly a s (s.wb a b v) :=
  ⟨rfl, (KeepsRegs.refl _ s).wb b v (List.mem_singleton_self a)⟩

/-! ### Which addresses are served -/

/-- `a` is the aligned address of a word in a block of domain `d` (R10). -/
def wordIn (d : Domain) (a : Nat) : Bool :=
  decide (a % 4 = 0) && decide (a < 2 ^ 32) && blockPages.contains (a / 0x10000) && decide (regDomain a = d)

theorem wordIn_iff {d : Domain} {a : Nat} :
    wordIn d a = true ↔ a % 4 = 0 ∧ a < 2 ^ 32 ∧ blockPages.contains (a / 0x10000) = true ∧ regDomain a = d := by
  simp only [wordIn, Bool.and_eq_true, decide_eq_true_eq, and_assoc]

/-- A write to a block of the main domain completes while that domain is powered. -/
theorem completes_of_mainOn {req a : Nat} {v : Word} {s t : State} {P : State → Prop} (hword : wordIn .main a = true)
    (hon : s.mainOn = true) (ht : s.busWrite req a v = t) (hP : P t) : Completes (.registerWrite req a v) s P := by
  obtain ⟨ha, h32, hpage, hdom⟩ := wordIn_iff.mp hword
  have hbus : s.busOk a = true := by simp only [State.busOk, hpage, hdom, hon, Bool.true_or, Bool.and_true]
  exact completes_registerWrite ha h32 hbus ht hP

/-- A write to a block of the RF domain completes while that domain is powered. -/
theorem completes_of_rfOn {req a : Nat} {v : Word} {s t : State} {P : State → Prop} (hword : wordIn .rf a = true)
    (hon : s.rfOn = true) (ht : s.busWrite req a v = t) (hP : P t) : Completes (.registerWrite req a v) s P := by
  obtain ⟨ha, h32, hpage, hdom⟩ := wordIn_iff.mp hword
  have hbus : s.busOk a = true := by simp only [State.busOk, hpage, hdom, hon, Bool.and_true]
  exact completes_registerWrite ha h32 hbus ht hP

/-- A write of LNK.DLQ waits for its place in the tick (R264). -/
theorem State.busWrite_dlq (s : State) (req : Nat) (v : Word) :
    s.busWrite req Reg.LNK_DLQ v = { s with late := s.late ++ [.queue v] } := rfl

theorem State.busWrite_of_row {s : State} {req a : Nat} {v : Word} (hrow : (regRow a).isSome = true) (hdlq : a ≠ Reg.LNK_DLQ) :
    s.busWrite req a v = Machine.busWrite s req a v := by
  simp only [State.busWrite, if_neg hdlq, regWrite, if_pos hrow]

/-- A write to an offset that holds no register is ignored (R7). -/
theorem State.busWrite_of_no_row {s : State} {req a : Nat} {v : Word} (h : (regRow a).isNone = true) : s.busWrite req a v = s := by
  have hdlq : a ≠ Reg.LNK_DLQ := by rintro rfl; exact absurd h (by decide)
  simp only [State.busWrite, if_neg hdlq, regWrite, Option.isNone_iff_eq_none.mp h, Option.isSome_none, Bool.false_eq_true, if_false]

/-! ### Registers without an effect of their own -/

/-- The cue enables and masks, and the flags of CUE. -/
def plainCueRegs : List Nat := (List.range 7).map Reg.CUE_EN ++ (List.range 5).map (Reg.CUE_IMASK 0) ++ [Reg.CUE_STAT]

/-- Link control and flags, and the network identifiers. -/
def plainLnkRegs : List Nat :=
  [Reg.LNK_CTL, Reg.LNK_STAT, Reg.LNK_NETID 0, Reg.LNK_NETID 1, Reg.LNK_NETID 2, Reg.LNK_NETID 3]

theorem busWrite_plainCueRegs (s : State) (req : Nat) (v : Word) {a : Nat} (ha : a ∈ plainCueRegs) :
    s.busWrite req a v = s.plainWrite a v := by
  obtain ⟨hrow, hdlq, hpage, hfire, hpend, hcfg⟩ : (regRow a).isSome = true ∧ a ≠ Reg.LNK_DLQ ∧ a / 0x10000 = 0x4002 ∧
      ¬(Reg.CUE_FIRE 0 ≤ a ∧ a ≤ Reg.CUE_FIRE 6) ∧ a ≠ Reg.CUE_IPEND 4 ∧ ¬Reg.CUE_GPIO_CFG 0 ≤ a := by
    revert a; decide
  rw [State.busWrite_of_row hrow hdlq]
  simp only [busWrite, hpage, cueBusWrite, if_neg hfire, if_neg hpend, hcfg, false_and, if_false]

theorem busWrite_plainLnkRegs (s : State) (req : Nat) (v : Word) {a : Nat} (ha : a ∈ plainLnkRegs) :
    s.busWrite req a v = s.plainWrite a v := by
  simp only [plainLnkRegs, List.mem_cons, List.not_mem_nil, or_false] at ha
  rcases ha with rfl | rfl | rfl | rfl | rfl | rfl <;> rfl

/-- The registers without an effect of their own. -/
def plainRegs : List Nat := plainCueRegs ++ plainLnkRegs ++ [Reg.EPR_CSKEY, Reg.SYS_WAKESRC]

theorem busWrite_plainRegs (s : State) (req : Nat) (v : Word) {a : Nat} (ha : a ∈ plainRegs) :
    s.busWrite req a v = s.plainWrite a v := by
  simp only [plainRegs, List.mem_append, List.mem_cons, List.not_mem_nil, or_false] at ha
  rcases ha with (hcue | hlnk) | rfl | rfl
  · exact busWrite_plainCueRegs s req v hcue
  · exact busWrite_plainLnkRegs s req v hlnk
  · rfl
  · rfl

/-! ### Registers with an effect or a range of their own -/

/-- A write of EPR.KEKG takes the four KEK numbers (R303). -/
theorem rf_kekgWrite (s : State) (v : Word) : (kekgWrite s v).rf Reg.EPR_KEKG 15 0 = fld v 15 0 :=
  rf_plainWrite_self s Reg.EPR_KEKG v (by decide) fun b _ hb => (by decide : ∀ b ≤ 15, (regRW Reg.EPR_KEKG).testBit b = true) b hb

/-- A write of EPR.KEKG loses the TRANSIENT keys of the generations whose KEK it changes, and no others (R303). -/
theorem cache_kekgWrite (s : State) (v : Word) :
    (kekgWrite s v).cip.cache = s.cip.cache.filter fun c => s.kekOf c.gen == (kekgWrite s v).kekOf c.gen := by
  have hcache : (kekgWrite s v).cip.cache =
      s.cip.cache.filter fun c => !(s.kekOf c.gen != (kekgWrite s v).kekOf c.gen) := rfl
  simpa only [bne, Bool.not_not] using hcache

theorem frame_kekgWrite (s : State) (v : Word) :
    let t := kekgWrite s v
    t = { s with regs := t.regs, raised := t.raised, cip := { s.cip with cache := t.cip.cache } } ∧ KeepsRegs [Reg.EPR_KEKG] s t :=
  ⟨rfl, (WritesOnly.plainWrite s Reg.EPR_KEKG v).2⟩

theorem rfcBusWrite_of_ramp (s : State) (v : Word) {a n : Nat} (hchain : (a - Reg.RFC_CTL 0) / 0x2000 = n)
    (hofs : (a - Reg.RFC_CTL 0) % 0x2000 = 0x28) :
    rfcBusWrite s a v = if 2 ≤ fld v 6 0 ∧ fld v 6 0 ≤ 64 then s.plainWrite a v else s.rangeRefused n := by
  unfold rfcBusWrite
  simp only [hchain, hofs, decide_eq_true_eq]

/-- A write of RFCn.RAMP is plain in range, and refused out of it. -/
theorem busWrite_ramp (s : State) (req : Nat) (v : Word) {n : Nat} (hn : n < 8) :
    s.busWrite req (Reg.RFC_RAMP n) v =
      if 2 ≤ fld v 6 0 ∧ fld v 6 0 ≤ 64 then s.plainWrite (Reg.RFC_RAMP n) v else s.rangeRefused n := by
  obtain ⟨hrow, hdlq, hpage, hchain, hofs⟩ : (regRow (Reg.RFC_RAMP n)).isSome = true ∧ Reg.RFC_RAMP n ≠ Reg.LNK_DLQ ∧
      Reg.RFC_RAMP n / 0x10000 = 0x4010 ∧ (Reg.RFC_RAMP n - Reg.RFC_CTL 0) / 0x2000 = n ∧
      (Reg.RFC_RAMP n - Reg.RFC_CTL 0) % 0x2000 = 0x28 := by revert n; decide
  rw [State.busWrite_of_row hrow hdlq]
  simp only [busWrite, hpage]
  exact rfcBusWrite_of_ramp s v hchain hofs

theorem rf_ramp_plainWrite (s : State) (v : Word) {n : Nat} (hn : n < 8) :
    (s.plainWrite (Reg.RFC_RAMP n) v).rf (Reg.RFC_RAMP n) 6 0 = fld v 6 0 :=
  rf_plainWrite_self s _ v (by decide) fun b _ hb =>
    (by decide : ∀ n < 8, ∀ b ≤ 6, (regRW (Reg.RFC_RAMP n)).testBit b = true) n hn b hb

/-- A write of LNK.TACKp is plain in range, and ignored out of it. -/
theorem busWrite_tack (s : State) (req : Nat) (v : Word) {n : Nat} (hn : n < 8) :
    s.busWrite req (Reg.LNK_TACK n) v =
      if 12800 ≤ fld v 19 0 ∧ fld v 19 0 ≤ 640000 then s.plainWrite (Reg.LNK_TACK n) v else s := by
  obtain ⟨hrow, hdlq, hpage, hslack, hsame, htack⟩ : (regRow (Reg.LNK_TACK n)).isSome = true ∧ Reg.LNK_TACK n ≠ Reg.LNK_DLQ ∧
      Reg.LNK_TACK n / 0x10000 = 0x4040 ∧ Reg.LNK_TACK n ≠ Reg.LNK_SLACK ∧ Reg.LNK_TACK n ≠ Reg.LNK_SAMEWIN ∧
      ((List.range 16).any fun i => Reg.LNK_TACK i == Reg.LNK_TACK n) = true := by revert n; decide
  rw [State.busWrite_of_row hrow hdlq]
  simp only [busWrite, hpage, lnkBusWrite, if_neg hslack, if_neg hsame, htack, if_true]

theorem tackWrite_takes (s : State) (v : Word) {n : Nat} (hn : n < 8) :
    let t := if 12800 ≤ fld v 19 0 ∧ fld v 19 0 ≤ 640000 then s.plainWrite (Reg.LNK_TACK n) v else s
    WritesOnly (Reg.LNK_TACK n) s t ∧ t.rf (Reg.LNK_TACK n) 19 0 =
      if 12800 ≤ fld v 19 0 ∧ fld v 19 0 ≤ 640000 then fld v 19 0 else s.rf (Reg.LNK_TACK n) 19 0 := by
  split
  · exact ⟨.plainWrite .., rf_plainWrite_self s _ v (by decide) fun b _ hb =>
      (by decide : ∀ n < 8, ∀ b ≤ 19, (regRW (Reg.LNK_TACK n)).testBit b = true) n hn b hb⟩
  · exact ⟨.refl .., rfl⟩

/-- A write of LNK.SLACK is clamped to 32,000. -/
theorem busWrite_slack (s : State) (req : Nat) (v : Word) :
    s.busWrite req Reg.LNK_SLACK v = s.plainWrite Reg.LNK_SLACK (word (min 32000 (fld v 15 0))) := rfl

theorem rf_slackWrite (s : State) (v : Word) :
    (s.plainWrite Reg.LNK_SLACK (word (min 32000 (fld v 15 0)))).rf Reg.LNK_SLACK 15 0 = min 32000 (fld v 15 0) := by
  rw [rf_plainWrite_self s _ _ (by decide) fun b _ hb => (by decide : ∀ b ≤ 15, (regRW Reg.LNK_SLACK).testBit b = true) b hb]
  have hsmall : min 32000 (fld v 15 0) < 2 ^ 16 := by omega
  simp only [fld, nfld, word_toNat, Nat.shiftRight_zero] at hsmall ⊢
  omega

/-- A write of CUE.GPIOn.CFG acts on its pin. -/
theorem busWrite_gpioCfg (s : State) (req : Nat) (v : Word) {n : Nat} (hn : n < 8) :
    s.busWrite req (Reg.CUE_GPIO_CFG n) v = gpioCfgWrite s n v := by
  obtain ⟨hrow, hdlq, hpage, hfire, hpend, hcfg, hpin⟩ : (regRow (Reg.CUE_GPIO_CFG n)).isSome = true ∧
      Reg.CUE_GPIO_CFG n ≠ Reg.LNK_DLQ ∧ Reg.CUE_GPIO_CFG n / 0x10000 = 0x4002 ∧
      ¬(Reg.CUE_FIRE 0 ≤ Reg.CUE_GPIO_CFG n ∧ Reg.CUE_GPIO_CFG n ≤ Reg.CUE_FIRE 6) ∧ Reg.CUE_GPIO_CFG n ≠ Reg.CUE_IPEND 4 ∧
      (Reg.CUE_GPIO_CFG 0 ≤ Reg.CUE_GPIO_CFG n ∧ Reg.CUE_GPIO_CFG n ≤ Reg.CUE_GPIO_CFG 15 ∧ Reg.CUE_GPIO_CFG n % 16 = 0) ∧
      (Reg.CUE_GPIO_CFG n - Reg.CUE_GPIO_CFG 0) / 16 = n := by revert n; decide
  rw [State.busWrite_of_row hrow hdlq]
  simp only [busWrite, hpage, cueBusWrite, if_neg hfire, if_neg hpend, if_pos hcfg, hpin]

/-- The word that a write of CUE.GPIOn.CFG stores: FILT 0 stands for 1. -/
def gpioCfgWord (v : Word) : Word := if fld v 23 16 = 0 then setFld v 23 16 1 else v

theorem gpioCfgWrite_eq (s : State) (n : Nat) (v : Word) :
    gpioCfgWrite s n v = (s.plainWrite (Reg.CUE_GPIO_CFG n) (gpioCfgWord v)).wb (Reg.CUE_GPIO_STATE n) 0
      ((s.plainWrite (Reg.CUE_GPIO_CFG n) (gpioCfgWord v)).pinLevel n) := rfl

theorem fld_gpioCfgWord (v : Word) : fld (gpioCfgWord v) 23 16 = if fld v 23 16 = 0 then 1 else fld v 23 16 := by
  unfold gpioCfgWord
  split
  · exact fld_setFld_self v 1 (by decide) (by decide)
  · rfl

theorem gpioCfg_ne_gpioState (n : Nat) : Reg.CUE_GPIO_CFG n ≠ Reg.CUE_GPIO_STATE n := by
  simp only [Reg.CUE_GPIO_CFG, Reg.CUE_GPIO_STATE]; omega

/-- What a pin shows rests on its CFG register and its latch and input, and not on STATE. -/
theorem pinLevel_wb_state (s : State) (n b : Nat) (v : Bool) : (s.wb (Reg.CUE_GPIO_STATE n) b v).pinLevel n = s.pinLevel n := by
  have hcfg := State.rd_wb_of_ne s b v (gpioCfg_ne_gpioState n)
  unfold State.pinLevel State.pinOut State.rb
  rw [hcfg]
  rfl

theorem frame_gpioCfgWrite (s : State) (n : Nat) (v : Word) :
    let t := gpioCfgWrite s n v
    t = { s with regs := t.regs, raised := t.raised } ∧ KeepsRegs [Reg.CUE_GPIO_CFG n, Reg.CUE_GPIO_STATE n] s t :=
  ⟨rfl, ((KeepsRegs.refl _ s).plainWrite _ (by simp)).wb _ _ (by simp)⟩

theorem rf_gpioCfgWrite (s : State) (v : Word) {n : Nat} (hn : n < 8) :
    (gpioCfgWrite s n v).rf (Reg.CUE_GPIO_CFG n) 23 16 = if fld v 23 16 = 0 then 1 else fld v 23 16 := by
  rw [gpioCfgWrite_eq, State.rf, State.rd_wb_of_ne _ _ _ (gpioCfg_ne_gpioState n), ← fld_gpioCfgWord]
  exact rf_plainWrite_self s _ _ (by decide) fun b _ hb =>
    (by decide : ∀ n < 8, ∀ b ≤ 23, (regRW (Reg.CUE_GPIO_CFG n)).testBit b = true) n hn b hb

theorem level_gpioCfgWrite (s : State) (n : Nat) (v : Word) :
    (gpioCfgWrite s n v).rb (Reg.CUE_GPIO_STATE n) 0 = (gpioCfgWrite s n v).pinLevel n := by
  rw [gpioCfgWrite_eq, State.rb_wb_self _ _ _ (by decide), pinLevel_wb_state]

/-- A core's write of MEM.DWIN takes its own field where that is in range, and leaves every other bit (R417). -/
theorem dwinWrite_givesField (s : State) (v : Word) {req : Nat} (hreq : req < 5) :
    GivesField Reg.MEM_DWIN (4 * req + 3) (4 * req)
      (if fld v (4 * req + 3) (4 * req) ≤ 6 then fld v (4 * req + 3) (4 * req) else s.rf Reg.MEM_DWIN (4 * req + 3) (4 * req))
      s (dwinWrite s req v) := by
  unfold dwinWrite
  simp only [hreq, true_and]
  split
  · exact GivesField.wf s (by omega) (by omega) (Nat.mod_lt _ (by positivity))
  · exact ⟨rfl, fun _ _ _ => rfl⟩

/-- Nothing but MEM.DWIN changes. -/
theorem dwinWrite_writesOnly (s : State) (req : Nat) (v : Word) : WritesOnly Reg.MEM_DWIN s (dwinWrite s req v) := by
  unfold dwinWrite
  split
  · exact .wf ..
  · exact .refl ..

theorem exec_dwinWrite {s : State} {req : Nat} {v : Word} (hreq : req < 5) (hon : s.mainOn = true) :
    exec (.dwinWrite req v) s = .next (dwinWrite s req v) := by
  simp only [exec, execDwinWrite, ok, hreq, decide_true, if_true, State.onMain, hon]

/-- Settles O44: each clause follows from what the write of its register does, said above. -/
theorem registerWritesActByTheirAccessCodes : Obligations.RegisterWritesActByTheirAccessCodes := by
  intro req a b n v s ha h32 hb hn hreq plain wrote
  have hramp : wordIn .rf (Reg.RFC_RAMP n) = true := (by decide : ∀ n < 8, wordIn .rf (Reg.RFC_RAMP n) = true) n hn
  have htack : wordIn .main (Reg.LNK_TACK n) = true := (by decide : ∀ n < 8, wordIn .main (Reg.LNK_TACK n) = true) n hn
  refine ⟨fun hbus => ?_, fun hbus hrow => ?_, fun hon => ?_, fun hbus hplain => ?_, fun hon => ?_, fun hon hlo hhi => ?_,
    fun hon hout => ?_, fun hon => ?_, fun hon => ?_, fun hbus => ?_, fun hon => ?_⟩
  · rw [exec_registerWrite ha h32, hbus]
    rfl
  · exact completes_registerWrite ha h32 hbus (State.busWrite_of_no_row hrow) rfl
  · exact completes_of_mainOn (by decide) hon (s.busWrite_dlq req v) rfl
  · exact completes_registerWrite ha h32 hbus (busWrite_plainRegs s req v hplain)
      ⟨WritesOnly.plainWrite s a v, rb_plainWrite_self s a v hb⟩
  · obtain ⟨hframe, hkeeps⟩ := frame_kekgWrite s v
    exact completes_of_mainOn (by decide) hon rfl ⟨hframe, hkeeps, rf_kekgWrite s v, cache_kekgWrite s v⟩
  · exact completes_of_rfOn hramp hon ((busWrite_ramp s req v hn).trans (if_pos ⟨hlo, hhi⟩))
      ⟨WritesOnly.plainWrite .., rf_ramp_plainWrite s v hn⟩
  · exact completes_of_rfOn hramp hon ((busWrite_ramp s req v hn).trans (if_neg hout))
      ⟨WritesOnly.wb .., GivesBits.wb s true (by decide)⟩
  · exact completes_of_mainOn htack hon (busWrite_tack s req v hn) (tackWrite_takes s v hn)
  · exact completes_of_mainOn (by decide) hon (busWrite_slack s req v) ⟨WritesOnly.plainWrite .., rf_slackWrite s v⟩
  · obtain ⟨hframe, hkeeps⟩ := frame_gpioCfgWrite s n v
    have hword : Reg.CUE_GPIO_CFG n % 4 = 0 ∧ Reg.CUE_GPIO_CFG n < 2 ^ 32 := by simp only [Reg.CUE_GPIO_CFG]; omega
    exact completes_registerWrite hword.1 hword.2 hbus (busWrite_gpioCfg s req v hn)
      ⟨hframe, hkeeps, rf_gpioCfgWrite s v hn, level_gpioCfgWrite s n v⟩
  · exact ⟨dwinWrite s req v, exec_dwinWrite hreq hon, dwinWrite_writesOnly s req v, dwinWrite_givesField s v hreq⟩

end Sys2Proof.Machine

/-! PROOFS. Modes, resets and boot (spec/02_modes_reset_boot.md). -/

namespace Sys2Proof.Machine

/-! ### Refusals of mode requests (R39, R40) -/

/-- What a refusal gives: REFUSED and CAUSE, the cue SYS.MODE_REFUSED, and nothing else. -/
def Refuses (cause : Nat) (s t : State) : Prop :=
  t = { s with regs := t.regs, raised := t.raised, cue := t.cue } ∧ Fires [1] 1 s t ∧ KeepsRegs [Reg.SYS_MODE] s t ∧
  t.rb Reg.SYS_MODE 16 = true ∧ t.rf Reg.SYS_MODE 27 24 = cause ∧
  ∀ b, b < 32 → b ≠ 16 → ¬(24 ≤ b ∧ b ≤ 27) → t.rb Reg.SYS_MODE b = s.rb Reg.SYS_MODE b

@[simp] theorem State.rb_emit (s : State) (l : List Nat) (n a b : Nat) : (s.emit l n).rb a b = s.rb a b := rfl

@[simp] theorem State.rf_emit (s : State) (l : List Nat) (n a hi lo : Nat) : (s.emit l n).rf a hi lo = s.rf a hi lo := rfl

/-- Setting a field leaves every other bit of its register. -/
theorem rb_wf_of_outside (s : State) (a v : Nat) {hi lo b : Nat} (h : lo ≤ hi) (h32 : hi < 32)
    (hout : ¬(lo ≤ b ∧ b ≤ hi)) : (s.wf a hi lo v).rb a b = s.rb a b := by
  simp only [State.rb, State.rd_wf_self]
  rcases Nat.lt_or_ge b lo with hl | hl
  · exact bit_setFld_of_lt _ _ h h32 hl
  · exact bit_setFld_of_gt _ _ h h32 (by omega)

/-- Setting a bit leaves every other bit of its register. -/
theorem rb_wb_of_ne (s : State) (a : Nat) {i b : Nat} (v : Bool) (hi : i < 32) (hb : b < 32) (h : b ≠ i) :
    (s.wb a i v).rb a b = s.rb a b := by
  rw [GivesBits.wb s v hi b hb, if_neg (by simpa using h)]

theorem WritesOnly.trans {r : Nat} {s t u : State} (h : WritesOnly r s t) (g : WritesOnly r t u) : WritesOnly r s u :=
  ⟨by rw [g.1, h.1], h.2.trans g.2⟩

theorem WritesOnly.cue {r : Nat} {s t : State} (h : WritesOnly r s t) : t.cue = s.cue := by rw [h.1]

theorem WritesOnly.slate {r : Nat} {s t : State} (h : WritesOnly r s t) : t.slate = s.slate := by rw [h.1]

/-- An emission after writes of one register changes the cues beside it. -/
theorem WritesOnly.frame_emit {r : Nat} {s t : State} (h : WritesOnly r s t) (l : List Nat) (n : Nat) :
    t.emit l n = { s with regs := (t.emit l n).regs, raised := (t.emit l n).raised, cue := (t.emit l n).cue } := by
  obtain ⟨regs, raised, rfl⟩ : ∃ regs raised, t = { s with regs := regs, raised := raised } := ⟨_, _, h.1⟩
  rfl

theorem modeRefused_refuses (s : State) {cause : Nat} (hc : cause < 16) : Refuses cause s (modeRefused s cause).1 := by
  have hwrites : WritesOnly Reg.SYS_MODE s ((s.wb Reg.SYS_MODE 16 true).wf Reg.SYS_MODE 27 24 cause) :=
    (WritesOnly.wb ..).trans (WritesOnly.wf ..)
  unfold modeRefused
  refine ⟨hwrites.frame_emit .., Fires.emit_after 1 hwrites.cue hwrites.slate, hwrites.2.emit _ _, ?_,
    ?_, fun b hb h16 hout => ?_⟩
  · rw [State.rb_emit, rb_wf_of_outside _ _ _ (by decide) (by decide) (by decide),
      State.rb_wb_self _ _ _ (by decide)]
  · rw [State.rf_emit, State.rf_wf_self _ _ _ (by decide) (by decide), Nat.mod_eq_of_lt (by omega)]
  · rw [State.rb_emit, rb_wf_of_outside _ _ _ (by decide) (by decide) hout,
      rb_wb_of_ne _ _ _ (by decide) hb h16]

theorem exec_modeRequest {m : Nat} {s : State} (hm : m < 16) (hon : s.aonOn = true) :
    exec (.modeRequest m) s = .next (modeRequest s m).1 := by
  simp only [exec, execModeRequest, ok, hm, hon, decide_true, if_true]

theorem completes_refused {m cause : Nat} {s : State} (hm : m < 16) (hon : s.aonOn = true) (hc : cause < 16)
    (h : modeRequest s m = modeRefused s cause) : Completes (.modeRequest m) s (Refuses cause s) :=
  ⟨_, exec_modeRequest hm hon, h ▸ modeRefused_refuses s hc⟩

/-! ### The checks of R40 in their order -/

theorem modeRequest_of_no_mode {s : State} {m : Nat} (h : ¬(1 ≤ m ∧ m ≤ 7)) : modeRequest s m = modeRefused s 6 :=
  if_pos (by omega)

theorem modeRequest_of_busy {s : State} {m : Nat} (h : 1 ≤ m ∧ m ≤ 7) (hb : s.rb Reg.SYS_MODE 12 = true) :
    modeRequest s m = modeRefused s 2 := by
  rw [modeRequest, if_neg (by omega), if_pos hb]

theorem move_self (m : Nat) : move m m = .same := if_pos rfl

theorem move_ne_same {cur m : Nat} (h : cur ≠ m) : move cur m ≠ .same := by
  unfold move
  rw [if_neg h]
  split
  case h_2 => decide
  all_goals split_ifs <;> decide

/-- From VERIFY the table has a step to STANDBY alone (R42). -/
theorem move_from_verify {m : Nat} (h7 : m ≠ 7) (h2 : m ≠ 2) : move 7 m = .x := by
  simp only [move, if_neg h7.symm, if_neg h2]

/-- Up to SURVEY the table marks no move X (R42). -/
theorem move_ne_x {cur m : Nat} (h0 : 1 ≤ cur) (h6 : cur ≤ 6) : move cur m ≠ .x := by
  unfold move
  split
  · decide
  · obtain rfl | rfl | rfl | rfl | rfl | rfl : cur = 1 ∨ cur = 2 ∨ cur = 3 ∨ cur = 4 ∨ cur = 5 ∨ cur = 6 := by omega
    all_goals split_ifs <;> decide

theorem modeRequest_same {s : State} {m : Nat} (h : 1 ≤ m ∧ m ≤ 7) (hb : s.rb Reg.SYS_MODE 12 = false) (hm : m = s.mode) :
    modeRequest s m = (s, 0) := by
  rw [modeRequest, if_neg (by omega), hb, hm, if_pos (move_self _), if_neg (by decide)]

theorem modeRequest_of_x {s : State} {m : Nat} (h : 1 ≤ m ∧ m ≤ 7) (hb : s.rb Reg.SYS_MODE 12 = false)
    (hx : move s.mode m = .x) : modeRequest s m = modeRefused s 1 := by
  rw [modeRequest, if_neg (by omega), hb, hx, if_neg (by decide), if_neg (by decide), if_pos rfl]

/-- A request that the table allows is refused with the cause that R43 gives. -/
theorem modeRequest_of_targetCause {s : State} {m c : Nat} (h : 1 ≤ m ∧ m ≤ 7) (hb : s.rb Reg.SYS_MODE 12 = false)
    (hs : move s.mode m ≠ .same) (hx : move s.mode m ≠ .x) (hc : s.targetCause m = c) (h0 : c ≠ 0) :
    modeRequest s m = modeRefused s c := by
  rw [modeRequest, if_neg (by omega), hb, if_neg (by decide), if_neg hs, if_neg hx, hc]
  exact if_pos h0


/-! ### The conditions of R43 -/

theorem receives_false_iff {w : Word} :
    receives w = false ↔ ∀ n, n < 8 → fld w (4 * n + 3) (4 * n) ≠ 1 ∧ fld w (4 * n + 3) (4 * n) ≠ 3 := by
  simp [receives]

section
variable {s : State} {m : Nat} (hm : m = 4 ∨ m = 5)
include hm

theorem targetCause_of_no_microcode (hu : s.sys.microcode = false) (he : s.rf Reg.SYS_BOOTSTAT 23 16 ≠ 0x20) :
    s.targetCause m = 3 := by
  rw [State.targetCause, if_neg (by omega), if_pos ⟨by rw [hu]; rfl, he⟩]

theorem targetCause_of_no_dram (hu : s.sys.microcode = true) (hd : s.rb Reg.MEM_STAT 0 = false) : s.targetCause m = 5 := by
  simp only [State.targetCause, hu, hd]
  rw [if_neg (by omega)]
  rfl

theorem targetCause_of_deaf (hu : s.sys.microcode = true) (hd : s.rb Reg.MEM_STAT 0 = true)
    (hr : receives (s.rd Reg.SYS_ROLE) = false) : s.targetCause m = 4 := by
  simp only [State.targetCause, hu, hd, hr]
  rw [if_neg (by omega)]
  rfl

end

/-- RELAY without a parent channel is refused with cause 4, as it is where no chain receives. -/
theorem targetCause_of_no_parent {s : State} (hu : s.sys.microcode = true) (hd : s.rb Reg.MEM_STAT 0 = true)
    (hp : s.hasParent = false) : s.targetCause 5 = 4 := by
  simp only [State.targetCause, hu, hd, hp]
  cases receives (s.rd Reg.SYS_ROLE) <;> rfl

theorem hasParent_false_of_mainOn {s : State} (hon : s.mainOn = true) (h : ∀ j, j < 4 → s.rb (Reg.LNK_PCH j) 31 = false) :
    s.hasParent = false := by
  simpa [State.hasParent, hon] using h

/-- Settles O13: each clause is the first check of R40 that fails, and every refusal is `modeRefused`. -/
theorem modeRequestsAreRefusedInTheOrderOfR40 : Obligations.ModeRequestsAreRefusedInTheOrderOfR40 := by
  intro m s hm hon refused legal idle onward
  have hmode : 1 ≤ s.mode := by simpa [State.aonOn] using hon
  have onwardRefused : ∀ c, c < 16 → c ≠ 0 → onward → s.targetCause m = c → refused c := by
    rintro c hc h0 ⟨hlegal, hidle, hne, h6, -⟩ htarget
    exact completes_refused hm hon hc
      (modeRequest_of_targetCause hlegal hidle (move_ne_same (Ne.symm hne)) (move_ne_x hmode h6) htarget h0)
  refine ⟨fun h => ?_, fun h hb => ?_, fun h hi heq => ?_, fun h hi h7 hn7 hn2 => ?_, fun h hu he => ?_, fun h hu hd => ?_,
    fun h hu hd hr => ?_, fun h h5 hmain hu hd hp => ?_⟩
  · exact completes_refused hm hon (by decide) (modeRequest_of_no_mode h)
  · exact completes_refused hm hon (by decide) (modeRequest_of_busy h (by simpa [idle] using hb))
  · exact ⟨s, by rw [exec_modeRequest hm hon, modeRequest_same h hi heq], rfl⟩
  · exact completes_refused hm hon (by decide) (modeRequest_of_x h hi (h7 ▸ move_from_verify hn7 hn2))
  · exact onwardRefused 3 (by decide) (by decide) h (targetCause_of_no_microcode h.2.2.2.2 hu he)
  · exact onwardRefused 5 (by decide) (by decide) h (targetCause_of_no_dram h.2.2.2.2 hu hd)
  · exact onwardRefused 4 (by decide) (by decide) h (targetCause_of_deaf h.2.2.2.2 hu hd (receives_false_iff.mpr hr))
  · subst h5
    exact onwardRefused 4 (by decide) (by decide) h (targetCause_of_no_parent hu hd (hasParent_false_of_mainOn hmain hp))

end Sys2Proof.Machine

namespace Sys2Proof.Machine

/-! ### The power of the chains leaves everything but the radio alone (R49, R50) -/

/-- From `s` to `t` nothing changes but the RF chains, the takes and detections that they receive, and registers from RFC's block
on. -/
def RadioOnly (s t : State) : Prop :=
  t = { s with regs := t.regs, raised := t.raised, rfs := t.rfs, lnk := t.lnk, chz := t.chz } ∧
  ∀ a, a < 0x40100000 → t.rd a = s.rd a

theorem RadioOnly.refl (s : State) : RadioOnly s s := ⟨rfl, fun _ _ => rfl⟩

theorem RadioOnly.trans {s t u : State} (h : RadioOnly s t) (g : RadioOnly t u) : RadioOnly s u :=
  ⟨by rw [g.1, h.1], fun a ha => (g.2 a ha).trans (h.2 a ha)⟩

theorem RadioOnly.wr (s : State) {a : Nat} (v : Word) (ha : 0x40100000 ≤ a) : RadioOnly s (s.wr a v) :=
  ⟨rfl, fun b hb => State.rd_wr_of_ne _ _ (by omega)⟩

theorem RadioOnly.wf (s : State) {a : Nat} (hi lo v : Nat) (ha : 0x40100000 ≤ a) : RadioOnly s (s.wf a hi lo v) := .wr _ _ ha

theorem RadioOnly.setChain (s : State) (n : Nat) (c : Chain) : RadioOnly s (s.setChain n c) := ⟨rfl, fun _ _ => rfl⟩

theorem RadioOnly.addOut (s : State) (n : Nat) (k : OutKind) (till : Option Nat) : RadioOnly s (s.addOut n k till) :=
  ⟨rfl, fun _ _ => rfl⟩

theorem RadioOnly.truncateChain (s : State) (n : Nat) : RadioOnly s (truncateChain s n) := ⟨rfl, fun _ _ => rfl⟩

/-- An operation folded over a list keeps what one use of it keeps. -/
theorem RadioOnly.foldl {α : Type} {f : State → α → State} (hf : ∀ s a, RadioOnly s (f s a)) (l : List α) (s : State) :
    RadioOnly s (l.foldl f s) :=
  foldl_keeps (P := RadioOnly s) (fun t a h => h.trans (hf t a)) l s (.refl s)

theorem rfcReg_ge (n : Nat) :
    0x40100000 ≤ Reg.RFC_RXLO n ∧ 0x40100000 ≤ Reg.RFC_GAIN n ∧ 0x40100000 ≤ Reg.RFC_CALSTAT n := by
  simp only [Reg.RFC_RXLO, Reg.RFC_GAIN, Reg.RFC_CALSTAT]; omega

theorem RadioOnly.gainReset (s : State) (n : Nat) : RadioOnly s (gainReset s n) :=
  (RadioOnly.setChain ..).trans (.wr _ _ (rfcReg_ge n).2.1)

theorem RadioOnly.chainUp (s : State) (n : Nat) : RadioOnly s (chainUp s n) :=
  (((RadioOnly.wr _ _ (rfcReg_ge n).1).trans (.setChain ..)).trans (.addOut ..)).trans (.gainReset ..)

theorem RadioOnly.chainDown (s : State) (n : Nat) : RadioOnly s (chainDown s n) := by
  have hdrop : RadioOnly s { Machine.truncateChain s n with
      rfs := { (Machine.truncateChain s n).rfs with outs := (Machine.truncateChain s n).rfs.outs.filter fun o => o.chain != n } } :=
    ⟨rfl, fun _ _ => rfl⟩
  exact (hdrop.trans (.setChain ..)).trans (.wf _ _ _ _ (rfcReg_ge n).2.2)

theorem RadioOnly.powerChains (s : State) : RadioOnly s (powerChains s) := by
  refine RadioOnly.foldl (fun t n => ?_) _ _
  dsimp only
  split_ifs
  · exact .chainUp ..
  · exact .chainDown ..
  · exact .refl _

/-! ### Role writes (R49, R52) -/

/-- The role that a write leaves one chain: the written one where it is a role, else the old one. -/
def newRole (old v : Word) (n : Nat) : Nat :=
  if fld v (4 * n + 3) (4 * n) ≤ 4 then fld v (4 * n + 3) (4 * n) else fld old (4 * n + 3) (4 * n)

/-- A field outside the one that was set. -/
theorem fld_setFld_of_disjoint (w : Word) {hi lo hi' lo' : Nat} (v : Nat) (h : lo ≤ hi) (h32 : hi < 32)
    (hd : hi' < lo ∨ hi < lo') : fld (setFld w hi lo v) hi' lo' = fld w hi' lo' := by
  refine fld_congr fun b hl hh => ?_
  rcases hd with hd | hd
  · exact bit_setFld_of_lt _ _ h h32 (by omega)
  · exact bit_setFld_of_gt _ _ h h32 (by omega)

/-- One step of `rolesWritten`. -/
def roleStep (v w : Word) (n : Nat) : Word :=
  if fld v (4 * n + 3) (4 * n) ≤ 4 then setFld w (4 * n + 3) (4 * n) (fld v (4 * n + 3) (4 * n)) else w

theorem fld_roleStep_self (v w : Word) {n : Nat} (hn : n < 8) :
    fld (roleStep v w n) (4 * n + 3) (4 * n) = newRole w v n := by
  unfold roleStep newRole
  split
  · rw [fld_setFld_self _ _ (by omega) (by omega), Nat.mod_eq_of_lt]
    exact Nat.lt_of_lt_of_le (Nat.mod_lt _ (by positivity)) (by rfl)
  · rfl

theorem fld_roleStep_of_ne (v w : Word) {n k : Nat} (hn : n < 8) (hk : k ≠ n) :
    fld (roleStep v w n) (4 * k + 3) (4 * k) = fld w (4 * k + 3) (4 * k) := by
  unfold roleStep
  split
  · exact fld_setFld_of_disjoint _ _ (by omega) (by omega) (by omega)
  · rfl

/-- The roles after a write: each field of its own. -/
theorem fld_foldl_roleStep (v w : Word) {l : List Nat} (hl : ∀ n ∈ l, n < 8) (hnd : l.Nodup) {k : Nat} (hk : k < 8) :
    fld (l.foldl (roleStep v) w) (4 * k + 3) (4 * k) = if k ∈ l then newRole w v k else fld w (4 * k + 3) (4 * k) := by
  induction l generalizing w with
  | nil => rfl
  | cons n l ih =>
    obtain ⟨hn, hnl⟩ := List.nodup_cons.mp hnd
    have hn8 : n < 8 := hl n List.mem_cons_self
    rw [List.foldl_cons, ih _ (fun m hm => hl m (List.mem_cons_of_mem _ hm)) hnl]
    by_cases hkn : k = n
    · subst hkn
      rw [if_neg hn, if_pos List.mem_cons_self, fld_roleStep_self _ _ hk]
    · simp only [newRole, fld_roleStep_of_ne v w hn8 hkn, List.mem_cons, hkn, false_or]

theorem fld_rolesWritten (old v : Word) {n : Nat} (hn : n < 8) : fld (rolesWritten old v) (4 * n + 3) (4 * n) = newRole old v n := by
  have h := fld_foldl_roleStep v old (l := List.range 8) (fun _ => List.mem_range.mp) List.nodup_range hn
  rwa [if_pos (List.mem_range.mpr hn)] at h

/-- No chain receives under the roles that a write of `v` leaves. -/
theorem receives_rolesWritten_false_iff {old v : Word} :
    receives (rolesWritten old v) = false ↔ ∀ n, n < 8 → newRole old v n ≠ 1 ∧ newRole old v n ≠ 3 := by
  rw [receives_false_iff]
  exact forall₂_congr fun n hn => by rw [fld_rolesWritten _ _ hn]

theorem operating_iff (s : State) : s.operating = true ↔ s.mode = 4 ∨ s.mode = 5 := decide_eq_true_iff

theorem mode_of_rd {s t : State} (h : t.rd Reg.SYS_MODE = s.rd Reg.SYS_MODE) : t.mode = s.mode := by
  simp only [State.mode, State.rf, h]

theorem exec_roleWrite {v : Word} {s : State} (hon : s.aonOn = true) : exec (.roleWrite v) s = .next (roleWrite s v).1 := by
  simp only [exec, execRoleWrite, hon, if_true]

theorem roleWrite_of_deaf {s : State} {v : Word} (hop : s.operating = true)
    (hdeaf : receives (rolesWritten (s.rd Reg.SYS_ROLE) v) = false) : (roleWrite s v).1 = (modeRefused s 4).1 := by
  simp only [roleWrite, hop, hdeaf, Bool.not_false, and_self, if_true]

theorem roleWrite_of_accepted {s : State} {v : Word}
    (h : ¬(s.operating = true ∧ receives (rolesWritten (s.rd Reg.SYS_ROLE) v) = false)) :
    (roleWrite s v).1 = powerChains (s.wr Reg.SYS_ROLE (rolesWritten (s.rd Reg.SYS_ROLE) v)) := by
  rw [roleWrite, if_neg (by simpa using h)]

/-- A refusal leaves the mode. -/
theorem Refuses.mode {cause : Nat} {s t : State} (h : Refuses cause s t) : t.mode = s.mode := by
  obtain ⟨-, -, -, -, -, hbits⟩ := h
  exact fld_congr fun b _ hb => hbits b (by omega) (by omega) (by omega)

/-- Settles O19: a refused write is `modeRefused`; any other stores the new roles, and powering the chains leaves SYS. -/
theorem roleWritesChangeRolesOrAreRefused : Obligations.RoleWritesChangeRolesOrAreRefused := by
  intro v s hon role deaf
  have hdeaf : receives (rolesWritten (s.rd Reg.SYS_ROLE) v) = false ↔ deaf := receives_rolesWritten_false_iff
  refine ⟨fun hop hd => ?_, fun hnot => ?_⟩
  · have hrefuses := modeRefused_refuses s (cause := 4) (by decide)
    have hmode := hrefuses.mode
    obtain ⟨hframe, hfires, hkeeps, hbit, hcause, -⟩ := hrefuses
    exact ⟨_, by rw [exec_roleWrite hon, roleWrite_of_deaf ((operating_iff s).mpr hop) (hdeaf.mpr hd)],
      hframe, hfires, hkeeps, hbit, hcause, hmode⟩
  · obtain ⟨hframe, hlow⟩ := RadioOnly.powerChains (s.wr Reg.SYS_ROLE (rolesWritten (s.rd Reg.SYS_ROLE) v))
    rw [← operating_iff, ← hdeaf] at hnot
    refine ⟨_, by rw [exec_roleWrite hon, roleWrite_of_accepted hnot], fun n hn => ?_, ?_, ?_, ?_, ?_⟩
    · rw [State.rf, hlow _ (by decide), State.rd_wr_self]
      exact fld_rolesWritten _ _ hn
    · rw [hlow _ (by decide), State.rd_wr_of_ne _ _ (by decide)]
    · rw [hframe]; rfl
    · rw [hframe]; rfl
    · rw [hframe]; rfl

end Sys2Proof.Machine

namespace Sys2Proof.Machine

/-! ### What a reset keeps of the register file and of the backup SRAM (R56, R394, R537, R543) -/

/-- A map filtered by its indices. -/
theorem SMap.find_filter {α : Type} (p : Nat → Bool) (m : SMap α) (k : Nat) :
    SMap.find (List.filter (fun e => p e.1) m) k = if p k then SMap.find m k else none := by
  induction m with
  | nil => simp [SMap.find]
  | cons e m ih =>
    obtain ⟨i, v⟩ := e
    by_cases hik : i = k
    · subst hik
      by_cases hp : p i = true <;> simp [hp, SMap.find, ih]
    · by_cases hp : p i = true <;> simp [hp, SMap.find, hik, ih]

theorem SMap.get_filter {α : Type} (p : Nat → Bool) (m : SMap α) (k : Nat) (d : α) :
    SMap.get (List.filter (fun e => p e.1) m) k d = if p k then SMap.get m k d else d := by
  simp only [SMap.get, SMap.find_filter]
  split <;> rfl

/-- A register after a reset that reaches the always-on domain. -/
theorem rd_aonReset (s : State) (cause a : Nat) :
    (aonReset s cause).rd a = if a = Reg.SYS_RSTCAUSE then word (2 ^ cause)
      else if keptReg (decide (2 ≤ cause)) a then s.rd a else regReset a := by
  simp only [aonReset, State.rd]
  split
  · next h => rw [h, SMap.get_store_self]
  · next h => rw [SMap.get_store_of_ne _ _ _ _ h, SMap.get_filter (keptReg (decide (2 ≤ cause)))]

/-- A register after the backup domain was reset. -/
theorem rd_calReset (s : State) (a : Nat) : (calReset s).rd a = if regDomain a = .backup then regReset a else s.rd a := by
  simp only [calReset, State.rd, SMap.get_filter (fun a => regDomain a != .backup)]
  cases regDomain a <;> rfl

/-- What a byte read of memory `m` rests on. -/
theorem readByte_congr {s t : State} {m o : Nat} (hundef : t.undefAt m o = s.undefAt m o)
    (hdata : t.eccData m (o / eccOctets m) = s.eccData m (o / eccOctets m))
    (hmark : t.eccMark m (o / eccOctets m) = s.eccMark m (o / eccOctets m)) : t.readByte m o = s.readByte m o := by
  simp only [State.readByte, State.eccRead, hundef, hdata, hmark]

/-- The octets and marks of memory 13 that the backup SRAM's 256 octets take lie under memory 13's keys. -/
theorem memKey_backup {o j : Nat} (ho : o < 256) (hj : j < eccOctets 13) :
    memKey 13 (o / eccOctets 13 * eccOctets 13 + j) / 2 ^ 40 = 13 ∧ memKey 13 (o / eccOctets 13) / 2 ^ 40 = 13 := by
  simp only [memKey, show eccOctets 13 = 8 from rfl] at hj ⊢; omega

/-- An octet of the backup SRAM reads the same where memory 13 alone was kept. -/
theorem readByte_keep_backup {s t : State} (hmem : t.mem = s.mem.filter fun e => e.1 / 2 ^ 40 == 13)
    (hecc : t.ecc = s.ecc.filter fun e => e.1 / 2 ^ 40 == 13) (hundef : t.undef = s.undef.filter fun u => u.m == 13)
    {o : Nat} (ho : o < 256) : t.readByte 13 o = s.readByte 13 o := by
  refine readByte_congr ?_ ?_ ?_
  · simp only [State.undefAt, hundef, List.find?_filter]
    congr 1
    funext u
    cases u.m == 13 <;> simp
  · simp only [State.eccData, State.memByte, hmem, SMap.get_filter (fun a => a / 2 ^ 40 == 13)]
    congr 1
    refine List.map_congr_left fun j hj => ?_
    rw [(memKey_backup ho (List.mem_range.mp hj)).1]
    rfl
  · simp only [State.eccMark, hecc, SMap.get_filter (fun a => a / 2 ^ 40 == 13)]
    rw [(memKey_backup (j := 0) ho (by decide)).2]
    rfl

/-- An octet of a memory that was cleared reads 0, as long as its keys are the memory's. -/
theorem readByte_clearMem (s : State) {m o : Nat} (hm : m ≠ 14) (ho : o < 2 ^ 40) : (s.clearMem m).readByte m o = 0 := by
  have hundef : (s.clearMem m).undefAt m o = none := by
    simp only [State.undefAt, State.clearMem, List.find?_eq_none, List.mem_filter]
    intro u hu
    simp_all
  have hmark : (s.clearMem m).eccMark m (o / eccOctets m) = {} := by
    have hkey : memKey m (o / eccOctets m) / 2 ^ 40 = m := by
      simp only [memKey, eccOctets, if_neg hm]; omega
    simp only [State.eccMark, State.clearMem, SMap.get_filter (fun a => a / 2 ^ 40 != m), hkey]
    simp
  simp only [State.readByte, hundef, State.eccRead, hmark]
  simp [eccDecode, majority, disagree, popCount, byteOf]


/-! ### The resets (R56-R59, R394) -/

/-- Every engine stands at its reset state, with `y` the state of SYS, and what no reset reaches is that of `s`. -/
def Fresh (s : State) (y : SysState) (t : State) : Prop :=
  t.slate = 0 ∧ t.pending = s.pending ∧ t.cue = {} ∧ t.tmr = [] ∧ t.reels = [] ∧ t.rfs = {} ∧ t.chz = {} ∧
  t.lnk = {} ∧ t.dcb = {} ∧ t.cores = [] ∧ t.syn = {} ∧ t.host = {} ∧ t.sys = y ∧
  t.cip = { rootOk := s.cip.rootOk } ∧
  t.epr = { dirA := s.epr.dirA, dirB := s.epr.dirB, units := s.epr.units, retired := s.epr.retired, nand := s.epr.nand } ∧
  t.upd.imgs = s.upd.imgs ∧ t.upd.revoked = s.upd.revoked ∧ t.odx = { copyA := s.odx.copyA, copyB := s.odx.copyB }

/-- The state of SYS after a reset but POR: the levels that POR sensed stay. -/
def sensed (s : State) : SysState := { volt33 := s.sys.volt33, testPin := s.sys.testPin }

theorem fresh_aonReset (s : State) (cause : Nat) : Fresh s (sensed s) (aonReset s cause) :=
  ⟨rfl, rfl, rfl, rfl, rfl, rfl, rfl, rfl, rfl, rfl, rfl, rfl, rfl, rfl, rfl, rfl, rfl, rfl⟩

theorem readByte_aonReset (s : State) (cause : Nat) {o : Nat} (ho : o < 256) :
    (aonReset s cause).readByte 13 o = s.readByte 13 o := readByte_keep_backup rfl rfl rfl ho

theorem regDomain_rstCause : regDomain Reg.SYS_RSTCAUSE ≠ .backup := by decide

theorem keptReg_iff {crash : Bool} {a : Nat} :
    keptReg crash a = true ↔ regDomain a = .backup ∨ a = Reg.SUP_AGE ∨ (crash = true ∧ crashReg a = true) := by
  simp only [keptReg, Bool.or_eq_true, Bool.and_eq_true, beq_iff_eq, or_assoc]

/-- A reset with a cause of 2 or more gives every register outside the backup domain its reset value but the ageing index, the
violation counters and the crash records (R537, R543). -/
theorem rd_aonReset_warm (s : State) {cause : Nat} (hc : 2 ≤ cause) :
    (∀ a, a ≠ Reg.SYS_RSTCAUSE ∧ ¬(regDomain a = .backup ∨ a = Reg.SUP_AGE ∨ crashReg a = true) →
      (aonReset s cause).rd a = regReset a) ∧
    ∀ a, (regDomain a = .backup ∨ a = Reg.SUP_AGE ∨ crashReg a = true) → a ≠ Reg.SYS_RSTCAUSE → (aonReset s cause).rd a = s.rd a := by
  have hkept (a : Nat) : keptReg (decide (2 ≤ cause)) a = true ↔ regDomain a = .backup ∨ a = Reg.SUP_AGE ∨ crashReg a = true := by
    simp only [keptReg_iff, hc, decide_true, true_and]
  refine ⟨fun a ⟨hne, hnot⟩ => ?_, fun a hk hne => ?_⟩
  · rw [rd_aonReset, if_neg hne, if_neg (by rwa [hkept])]
  · rw [rd_aonReset, if_neg hne, if_pos (by rwa [hkept])]

/-- A reset with cause POR or BKUP keeps the backup domain and the ageing index alone. -/
theorem rd_aonReset_cold (s : State) {cause : Nat} (hc : cause < 2) :
    (∀ a, a ≠ Reg.SYS_RSTCAUSE ∧ regDomain a ≠ .backup ∧ a ≠ Reg.SUP_AGE → (aonReset s cause).rd a = regReset a) ∧
    ∀ a, (regDomain a = .backup ∨ a = Reg.SUP_AGE) → (aonReset s cause).rd a = s.rd a := by
  have hkept (a : Nat) : keptReg (decide (2 ≤ cause)) a = true ↔ regDomain a = .backup ∨ a = Reg.SUP_AGE := by
    simp only [keptReg_iff, show ¬2 ≤ cause by omega, decide_false, Bool.false_eq_true, false_and, or_false]
  refine ⟨fun a ⟨hne, hb, hage⟩ => ?_, fun a hk => ?_⟩
  · rw [rd_aonReset, if_neg hne, if_neg (by rw [hkept]; exact fun h => h.elim hb hage)]
  · have hne : a ≠ Reg.SYS_RSTCAUSE := by
      rintro rfl
      exact hk.elim regDomain_rstCause (by decide)
    rw [rd_aonReset, if_neg hne, if_pos (by rwa [hkept])]

/-- The outcome of a reset that keeps the violation counters and the crash records: `pc` is what SUP.WDPC shows. -/
def Warm (s : State) (cause pc : Nat) (t : State) : Prop :=
  Fresh s { sensed s with pinLow := decide (cause = 2) } t ∧ t.rd Reg.SYS_RSTCAUSE = word (2 ^ cause) ∧ t.rd Reg.SUP_WDPC = word pc ∧
  (∀ a, a ≠ Reg.SYS_RSTCAUSE ∧ ¬(regDomain a = .backup ∨ a = Reg.SUP_AGE ∨ crashReg a = true) → t.rd a = regReset a) ∧
  (∀ a, (regDomain a = .backup ∨ a = Reg.SUP_AGE ∨ crashReg a = true) ∧ a ≠ Reg.SYS_RSTCAUSE ∧ a ≠ Reg.SUP_WDPC →
    t.rd a = s.rd a) ∧
  ∀ o, o < 256 → t.readByte 13 o = s.readByte 13 o

theorem wdpc_kept (s : State) {cause : Nat} (hc : 2 ≤ cause) : (aonReset s cause).rd Reg.SUP_WDPC = s.rd Reg.SUP_WDPC :=
  (rd_aonReset_warm s hc).2 _ (.inr (.inr (by decide))) (by decide)

theorem warm_aonReset (s : State) {cause : Nat} (hc : 2 < cause) : Warm s cause (s.rd Reg.SUP_WDPC).toNat (aonReset s cause) := by
  obtain ⟨hreset, hkept⟩ := rd_aonReset_warm s (cause := cause) (by omega)
  refine ⟨?_, by rw [rd_aonReset, if_pos rfl], by rw [wdpc_kept s (by omega), word_toNat_self], hreset,
    fun a ⟨hk, hne, _⟩ => hkept a hk hne, fun _ ho => readByte_aonReset s cause ho⟩
  rw [show decide (cause = 2) = false from decide_eq_false (by omega)]
  exact fresh_aonReset s cause

theorem warm_pinReset (s : State) : Warm s 2 (s.rd Reg.SUP_WDPC).toNat (pinReset s) := by
  obtain ⟨hreset, hkept⟩ := rd_aonReset_warm s (cause := 2) (by omega)
  have hwdpc : (pinReset s).rd Reg.SUP_WDPC = s.rd Reg.SUP_WDPC := wdpc_kept s (cause := 2) (by omega)
  exact ⟨⟨rfl, rfl, rfl, rfl, rfl, rfl, rfl, rfl, rfl, rfl, rfl, rfl, rfl, rfl, rfl, rfl, rfl, rfl⟩,
    (rd_aonReset s 2 _).trans (if_pos rfl), hwdpc.trans (word_toNat_self _).symm, hreset,
    fun a ⟨hk, hne, _⟩ => hkept a hk hne, fun _ ho => readByte_keep_backup rfl rfl rfl ho⟩

/-- The watchdog records KSS's PC before its reset (R543). -/
theorem warm_watchdog (s : State) (pc : Nat) : Warm s 4 pc (aonReset (s.wr Reg.SUP_WDPC (word pc)) 4) := by
  obtain ⟨hfresh, hcause, -, hreset, hkept, hbytes⟩ := warm_aonReset (s.wr Reg.SUP_WDPC (word pc)) (cause := 4) (by omega)
  refine ⟨hfresh, hcause, ?_, hreset, fun a ha => ?_, hbytes⟩
  · rw [wdpc_kept _ (by omega), State.rd_wr_self]
  · rw [hkept a ha, State.rd_wr_of_ne _ _ ha.2.2]

/-- The outcome of a POR. -/
def Por (s t : State) : Prop :=
  Fresh s { volt33 := Config.bankSupply s.free % 32, testPin := Config.testPin s.free } t ∧ t.rd Reg.SYS_RSTCAUSE = 1 ∧
  (∀ a, a ≠ Reg.SYS_RSTCAUSE ∧ a ≠ Reg.SUP_AGE → t.rd a = regReset a) ∧ t.rd Reg.SUP_AGE = s.rd Reg.SUP_AGE ∧ t.mem = [] ∧ t.ecc = []

theorem rd_porReset (s : State) (a : Nat) :
    (porReset s).rd a = if regDomain a = .backup then regReset a else (aonReset s 0).rd a :=
  rd_calReset ((aonReset s 0).clearMem 13) a

/-- What lies under the keys of one memory is gone when that memory is cleared too. -/
theorem filter_filter_key {α : Type} (l : List (Nat × α)) :
    (l.filter fun e => e.1 / 2 ^ 40 == 13).filter (fun e => e.1 / 2 ^ 40 != 13) = [] := by
  simp [List.filter_filter]

theorem por_porReset (s : State) : Por s (porReset s) := by
  obtain ⟨hreset, hkept⟩ := rd_aonReset_cold s (cause := 0) (by decide)
  refine ⟨⟨rfl, rfl, rfl, rfl, rfl, rfl, rfl, rfl, rfl, rfl, rfl, rfl, rfl, rfl, rfl, rfl, rfl, rfl⟩, ?_, fun a ⟨hne, hage⟩ => ?_, ?_,
    filter_filter_key s.mem, filter_filter_key s.ecc⟩
  · rw [rd_porReset, if_neg regDomain_rstCause, rd_aonReset, if_pos rfl]
    rfl
  · rw [rd_porReset]
    split
    · rfl
    · next hb => exact hreset a ⟨hne, hb, hage⟩
  · rw [rd_porReset, if_neg (by decide), hkept _ (.inr rfl)]

/-! ### The commands -/

/-- The state in BACKUP after the main supplies are lost. -/
def backupState (s : State) : State := (aonReset s 1).wf Reg.SYS_MODE 3 0 0

theorem rd_backupState {s : State} {a : Nat} (ha : regDomain a = .backup) : (backupState s).rd a = s.rd a := by
  have hne : a ≠ Reg.SYS_MODE := by rintro rfl; exact absurd ha (by decide)
  rw [backupState, State.rd_wf_of_ne _ _ _ _ hne, (rd_aonReset_cold s (by decide)).2 a (.inl ha)]

theorem mode_backupState (s : State) : (backupState s).mode = 0 := State.rf_wf_self _ _ _ (by decide) (by decide)

theorem fresh_backupState (s : State) : Fresh s (sensed s) (backupState s) := fresh_aonReset s 1

theorem readByte_backupState (s : State) {o : Nat} (ho : o < 256) : (backupState s).readByte 13 o = s.readByte 13 o :=
  readByte_keep_backup rfl rfl rfl ho

theorem execMainSupplyLoss_of_on {s : State} (hon : s.aonOn = true) (vbatOk : Bool) :
    execMainSupplyLoss vbatOk s = .next (if vbatOk then backupState s
      else { (calReset (backupState s)).clearMem 13 with cal := { lost := true } }) := by
  simp only [execMainSupplyLoss, hon, backupState]
  rfl

theorem wdogDue_of_passed {s : State} (hon : s.aonOn = true) (hp : s.rf Reg.CPR_WDOG 15 0 ≠ 0)
    (hw : s.sys.wdogAt + s.rf Reg.CPR_WDOG 15 0 * 32000 ≤ s.slate) : s.wdogDue = true := by
  simp [State.wdogDue, hon, hp, hw]

/-- Settles O17: every reset is `aonReset` with its cause, and a POR resets the backup domain beside it. -/
theorem resetsReachTheirDomains : Obligations.ResetsReachTheirDomains := by
  intro s fresh kept sys warm wdpc por
  refine ⟨⟨_, rfl, por_porReset s⟩, fun hon => ⟨?_, ?_, ?_, ?_, ?_, fun hp hw => ?_⟩, fun hoff hlost => ?_, fun hoff hlost => ?_⟩
  · exact ⟨pinReset s, congrArg Host.Outcome.next (if_pos hon), warm_pinReset s⟩
  · exact ⟨aonReset s 5, congrArg Host.Outcome.next (if_pos hon), warm_aonReset s (by decide)⟩
  · exact ⟨aonReset s 3, congrArg Host.Outcome.next (if_pos hon), warm_aonReset s (by decide)⟩
  · exact ⟨backupState s, execMainSupplyLoss_of_on hon true, fresh_backupState s, mode_backupState s,
      fun a ha => rd_backupState ha, fun o ho => readByte_backupState s ho⟩
  · refine ⟨_, execMainSupplyLoss_of_on hon false, fresh_backupState s, ?_, fun a ha => ?_, rfl, fun o ho => ?_⟩
    · exact (congrArg (fun w => fld w 3 0) (rd_calReset (backupState s) Reg.SYS_MODE)).trans (mode_backupState s)
    · exact (rd_calReset (backupState s) a).trans (if_pos ha)
    · exact readByte_clearMem (calReset (backupState s)) (by decide) (by omega)
  · exact ⟨_, congrArg Host.Outcome.next (if_pos (wdogDue_of_passed hon hp hw)), warm_watchdog s _⟩
  · obtain ⟨hreset, hkept⟩ := rd_aonReset_cold s (cause := 1) (by decide)
    refine ⟨aonReset s 1, ?_, fresh_aonReset s 1, ?_, (rd_aonReset s 1 _).trans (if_pos rfl), hkept, hreset⟩
    · simp only [exec, execMainSupplyReturn, hoff, hlost, Bool.false_eq_true, if_false]
    · rw [State.mode, State.rf, hreset _ (by decide)]
      decide
  · refine ⟨porReset s, ?_, por_porReset s⟩
    simp only [exec, execMainSupplyReturn, hoff, hlost, Bool.false_eq_true, if_false, if_true]

/-! ### The state after a POR (R38, R56) -/

/-- Settles O59: the register file is empty, so that every register reads its reset value, which the tables give. -/
theorem resetGivesTheTablesValues : Obligations.ResetGivesTheTablesValues := by
  rintro s rfl
  have hrd : ∀ a, State.reset.rd a = regReset a := fun _ => rfl
  refine ⟨rfl, rfl, ⟨reset_mem_wf, by decide⟩, fun _ _ => rfl, hrd, ?_⟩
  simp only [State.mode, State.rf, hrd]
  decide

end Sys2Proof.Machine

namespace Sys2Proof.Machine

/-- What a command is said to give holds of the state that it gives. -/
theorem Completes.of_exec {i : Instr} {s t : State} {P : State → Prop} (h : Completes i s P) (he : exec i s = .next t) : P t := by
  obtain ⟨u, hu, hP⟩ := h
  cases he.symm.trans hu
  exact hP

/-! ### A step out of RELAY writes the queue's directory (R222, R239) -/

/-- A device in RELAY that keeps `queue` as its queued slots, with DRAM ready and the microcode loaded. -/
def relaying (queue : List QSlot) : State :=
  { State.reset with
    regs := [(Reg.SYS_MODE, 0x0505), (Reg.MEM_STAT, 1)], sys := { boot := 0, microcode := true }, lnk := { queue := queue } }

/-- That device with one relay uplink in its queue, and the queue's directory as LNK writes it. -/
def relayQueued : State := (relaying [{ slot := 0, dest := 1, relay := true }]).storeDir 1 0

/-- The request for CONCENTRATE is accepted, and the uplink leaves the directory with RELAY. -/
theorem mem_modeRequest_relayQueued : (modeRequest relayQueued 4).1.mem ≠ relayQueued.mem := by decide +kernel

/-- Refutes O14: where RELAY is left for CONCENTRATE, the relay uplinks that are withdrawn (R239) leave the queue's directory
in DRAM, so a direct move changes memory. -/
theorem not_acceptedModeRequestsMoveByTheTableOfR42 : ¬ Obligations.AcceptedModeRequestsMoveByTheTableOfR42 := by
  unfold Obligations.AcceptedModeRequestsMoveByTheTableOfR42
  intro h
  have hmode : relayQueued.mode = 5 := by decide +kernel
  obtain ⟨hdirect, -⟩ := h 4 relayQueued (by decide) (by decide) (by omega) (by omega) (by omega) (by decide +kernel) (by decide +kernel)
  obtain ⟨⟨-, -, hmem, -⟩, -⟩ := (hdirect (.inr (.inr (.inr (.inl ⟨hmode, rfl⟩))))).of_exec
    (exec_modeRequest (by decide) (by decide +kernel))
  exact mem_modeRequest_relayQueued (hmem (by decide))

/-! ### The RF domain's end is charged (R248, R541) -/

/-- A device in CONCENTRATE whose chain 0 radiates an ACK, for which band account 0 holds a reservation. -/
def radiating : State :=
  { State.reset with
    slate := 1000000
    regs := [(Reg.SYS_MODE, 0x0404), (acctBase 0, 0xA0000E10), (acctBase 0 + 4, 868000000), (acctBase 0 + 8, 868600000)]
    sys := { boot := 0, microcode := true }
    dcb := { reserved := [{ id := 1, acc := 0, bin := 0, us := 20310 }] }
    rfs := { txs := [{ id := 1, what := .ack false 1 false, chain := 0, ch := 0, prof := 0, word := 455239424, since := 900000,
                       t0 := 950000, t1 := 1600000, ramp := 320, paLead := 0, paLag := 0, trLead := 0, trLag := 0, femcfg := 0,
                       drive := 0, up := true, radEnd := 1600320, counter := none, mhr := [], payload := [], key := [], long := 0,
                       pre := 8 }] } }

/-- The account that reserved covers the ACK's channel. -/
theorem covering_radiating : radiating.covering 455239424 = [(0, 0)] := by decide +kernel

/-- The airtime radiated until TCXO_LOSS goes into the account's bucket, which DRAM holds (R253). -/
theorem mem_tcxoLoss_radiating : (tcxoLoss radiating).mem ≠ radiating.mem := by decide +kernel

/-- Refutes O18: TCXO_LOSS ends the radiated intervals that run, whose charge changes the buckets that DRAM holds. -/
theorem not_mainAndCoreResetsAndTheWatchdogWrite : ¬ Obligations.MainAndCoreResetsAndTheWatchdogWrite := by
  unfold Obligations.MainAndCoreResetsAndTheWatchdogWrite
  intro h
  obtain ⟨-, -, -, hloss, -⟩ := h 0 0 0 radiating (by decide +kernel)
  obtain ⟨-, -, -, -, hmem, -⟩ := (hloss rfl).of_exec rfl
  exact mem_tcxoLoss_radiating hmem

/-! ### The end of a drain stores the takes of its ACKs again (R46) -/

/-- The take of demodulator `d`, still in flight. -/
def flightOf (d : Nat) : Take := { stamp := d, chain := 0, ch := 0, prof := 0, pw := [], word := 0, epoch := 0 }

/-- The ACK request of that take. -/
def ackOf (d : Nat) : AckReq :=
  { id := 0, eof := 0, stamp := d, demod := d, chain := 0, ch := 0, prof := 0, pw := [], word := 0, t0 := 0, setup := 0,
    reack := false, addr := 0, net := 0, counter := 0, sec := 0, long := 0, record := [], key := [], tc := none }

/-- A drain in CONCENTRATE past its limit. The map of takes is not in the ascending order that the model's own steps keep. -/
def draining : State :=
  { State.reset with
    slate := 300000000
    regs := [(Reg.SYS_MODE, 0x0404)], sys := { boot := 0, trans := some { target := 2, since := 0, drain := true } }
    lnk := { takes := [(5, flightOf 5), (3, flightOf 3)], acks := [ackOf 3] } }

/-- The dropped ACK's take is put in front of the map, where its old entry stays behind. -/
theorem takes_drainEnd_draining :
    (drainEnd draining).lnk.takes.map (fun e => (e.1, e.2.outcome)) = [(3, some 8), (5, some 8), (3, some 8)] := by
  decide +kernel

/-- Refutes O15: DRAIN_END keeps the map of takes entry for entry only where its indices ascend, which the statement, made of
every state, does not ask. -/
theorem not_drainsSecondStepsAndSelfTestsComplete : ¬ Obligations.DrainsSecondStepsAndSelfTestsComplete := by
  unfold Obligations.DrainsSecondStepsAndSelfTestsComplete
  intro h
  have hmode : draining.mode = 4 := by decide +kernel
  obtain ⟨hdrain, -⟩ := h 0 false false false draining (by omega)
  have hends := hdrain { target := 2, since := 0, drain := true } rfl rfl (.inl hmode) (by decide) (.inr (by decide +kernel))
  obtain ⟨-, -, -, -, -, htakes, -⟩ := hends.of_exec rfl
  exact absurd (htakes.symm.trans takes_drainEnd_draining) (by decide +kernel)

/-! ### An octet beyond the backup SRAM's end (R444, R452) -/

/-- A boot that is to size DRAM, whose first octet shows an inverted bit. -/
def sizingDram : State :=
  { State.reset with
    regs := [(Reg.SYS_MODE, 0x0303)], sys := { boot := 5 }, sup := { started := true }
    mem := [(memKey 14 0, 1)], ecc := [(memKey 14 0, { syn := 7, v0 := 7, v1 := 7 })] }

/-- What that boot meets: 2 GiB of DRAM. -/
def dramFound : BootInput := { bootSel := 0, flash := true, dramGib := 2, ranks := 1, rate := 1 }

/-- Octet 2^43 of memory 13, far beyond its 256 octets, has the mark of DRAM's first word for its own. -/
theorem readByte_sizingDram : sizingDram.readByte 13 (2 ^ 43) = 1 := by decide +kernel

/-- Once DRAM is cleared that mark is gone. -/
theorem readByte_bootNext_sizingDram : (bootNext sizingDram dramFound).readByte 13 (2 ^ 43) = 0 := by decide +kernel

/-- Refutes O20: boot step 5 keeps the octets that the memories below DRAM have, but the statement, made of every offset, also
names octets that lie beyond a memory's end under DRAM's keys. -/
theorem not_bootStepsAreRecorded : ¬ Obligations.BootStepsAreRecorded := by
  unfold Obligations.BootStepsAreRecorded
  intro h
  obtain ⟨-, hboot⟩ := h dramFound 13 (2 ^ 43) sizingDram (by decide)
  obtain ⟨-, -, -, -, hdram, -⟩ := hboot (by decide +kernel)
  obtain ⟨-, -, -, -, hkept⟩ := (hdram rfl (by decide) (by decide) (by decide)).of_exec (t := bootNext sizingDram dramFound) rfl
  rw [readByte_sizingDram, readByte_bootNext_sizingDram] at hkept
  exact absurd (hkept (by decide)) (by decide)

end Sys2Proof.Machine

namespace Sys2Proof.Machine

/-! ### What leaves the slate and the state of the modes alone -/

/-- The slate, and the transitions and wakes in progress. -/
def State.modes (s : State) : Nat × SysState := (s.slate, s.sys)

@[simp] theorem State.modes_mk (pending slate regs cue tmr tmrGroup cal mem ecc undef free ueAt reels sup cip epr dcb sys syn rfs chz lnk
    cores upd odx host rdata raised late memDone) :
    (State.mk pending slate regs cue tmr tmrGroup cal mem ecc undef free ueAt reels sup cip epr dcb sys syn rfs chz lnk cores upd odx
      host rdata raised late memDone).modes = (slate, sys) := rfl

@[simp] theorem State.modes_eta (s : State) : (s.slate, s.sys) = s.modes := rfl

@[simp] theorem State.modes_ite (c : Prop) [Decidable c] (s t : State) :
    (if c then s else t).modes = if c then s.modes else t.modes := apply_ite _ _ _ _

@[simp] theorem modes_fst_ite {α : Type} (c : Prop) [Decidable c] (s t : State × α) :
    (if c then s else t).1.modes = if c then s.1.modes else t.1.modes := apply_ite (fun x : State × α => x.1.modes) _ _ _

@[simp] theorem modes_state_ite (c : Prop) [Decidable c] (s t : DRes) :
    (if c then s else t).state.modes = if c then s.state.modes else t.state.modes := apply_ite (fun x : DRes => x.state.modes) _ _ _

@[simp] theorem modes_foldl {α : Type} {f : State → α → State} (h : ∀ s x, (f s x).modes = s.modes) (l : List α) (s : State) :
    (l.foldl f s).modes = s.modes := by
  induction l generalizing s with
  | nil => rfl
  | cons x l ih => rw [List.foldl_cons, ih, h]

theorem modes_of_eq {α : Type} {s t : State} {x : State × α} {r : α} (h : x = (t, r)) (hx : x.1.modes = s.modes) :
    t.modes = s.modes := by
  rw [← hx, h]

/-! #### Registers, cues and memories -/

@[simp] theorem State.wr_modes (s : State) (a : Nat) (v : Word) : (State.wr s a v).modes = s.modes := by simp [State.wr]

@[simp] theorem State.wf_modes (s : State) (a hi lo v : Nat) : (State.wf s a hi lo v).modes = s.modes := by simp [State.wf]

@[simp] theorem State.raise_modes (s : State) (a mask : Nat) : (State.raise s a mask).modes = s.modes := by simp [State.raise]

@[simp] theorem State.wb_modes (s : State) (a b : Nat) (v : Bool) : (State.wb s a b v).modes = s.modes := by simp [State.wb]

@[simp] theorem mainRegsReset_modes (s : State) : (mainRegsReset s).modes = s.modes := by simp [mainRegsReset]

@[simp] theorem dictRefuse_modes (s : State) : (dictRefuse s).state.modes = s.modes := by simp [dictRefuse]

@[simp] theorem DRes.ofCause_modes (r : State × Nat) : (DRes.ofCause r).state.modes = r.1.modes := by simp [DRes.ofCause]

@[simp] theorem State.inc_modes (s : State) (a n : Nat) : (State.inc s a n).modes = s.modes := by simp [State.inc]

@[simp] theorem State.correction_modes (s : State) (m : Nat) :
    (State.correction s m).modes = s.modes := by simp [State.correction]

@[simp] theorem State.wr64_modes (s : State) (a v : Nat) : (State.wr64 s a v).modes = s.modes := by simp [State.wr64]

@[simp] theorem State.emitAt_modes (s : State) (routes : List (Nat × Nat)) (g e : Nat) (fired : Bool) :
    (State.emitAt s routes g e fired).modes = s.modes := by simp [State.emitAt]

@[simp] theorem State.emit_modes (s : State) (routes : List Nat) (count : Nat) :
    (State.emit s routes count).modes = s.modes := by simp [State.emit]

@[simp] theorem State.uncorrectable_modes (s : State) (req m o : Nat) :
    (State.uncorrectable s req m o).modes = s.modes := by simp [State.uncorrectable]

@[simp] theorem State.reportWord_modes (s : State) (req m i : Nat) : (State.reportWord s req m i).modes = s.modes := by
  unfold State.reportWord
  split <;> simp

@[simp] theorem State.setByte_modes (s : State) (m o : Nat) (b : Byte) :
    (State.setByte s m o b).modes = s.modes := by simp [State.setByte]

@[simp] theorem State.setBytes_modes (s : State) (m o : Nat) (bs : List Byte) :
    (State.setBytes s m o bs).modes = s.modes := by simp [State.setBytes]

@[simp] theorem State.setEccData_modes (s : State) (m i d : Nat) :
    (State.setEccData s m i d).modes = s.modes := by simp [State.setEccData]

@[simp] theorem State.setMark_modes (s : State) (m i : Nat) (k : EccMark) :
    (State.setMark s m i k).modes = s.modes := by simp [State.setMark]

@[simp] theorem State.settle_modes (s : State) (m o n : Nat) : (State.settle s m o n).modes = s.modes := by simp [State.settle]

@[simp] theorem State.poke_modes (s : State) (m o : Nat) (bs : List Byte) :
    (State.poke s m o bs).modes = s.modes := by simp [State.poke]

@[simp] theorem State.write_modes (s : State) (req m o : Nat) (bs : List Byte) :
    (State.write s req m o bs).1.modes = s.modes := by simp [State.write]

/-! #### Firing, and the schedule table -/

@[simp] theorem cueFire_modes (s : State) (w : Nat) (v : Word) : (cueFire s w v).modes = s.modes := by simp [cueFire]

@[simp] theorem State.setEntry_modes (s : State) (e : Nat) (x : Entry) :
    (State.setEntry s e x).modes = s.modes := by simp [State.setEntry]

@[simp] theorem schedRefused_modes (s : State) (cause : Nat) : (schedRefused s cause).1.modes = s.modes := by simp [schedRefused]

@[simp] theorem State.countVerdict_modes (s : State) (v : Nat) :
    (State.countVerdict s v).modes = s.modes := by simp [State.countVerdict]

@[simp] theorem State.countTx_modes (s : State) (v : Nat) : (State.countTx s v).modes = s.modes := by simp [State.countTx]

@[simp] theorem freeEntry_modes (s : State) (e v : Nat) : (freeEntry s e v).modes = s.modes := by simp [freeEntry]

@[simp] theorem State.readReport_modes (s : State) (req m o n : Nat) :
    (State.readReport s req m o n).modes = s.modes := by simp [State.readReport]

@[simp] theorem placeEntry_modes (s : State) (e : Nat) (x : Entry) (a : ArmInfo) :
    (placeEntry s e x a).modes = s.modes := by simp [placeEntry]

@[simp] theorem armPlace_modes (s : State) (e : Nat) (x : Entry) (a : ArmInfo) :
    (armPlace s e x a).1.modes = s.modes := by simp [armPlace]

/-! #### The hot cache and the records of the registry -/

@[simp] theorem State.setCacheSet_modes (s : State) (k : Nat) (l : List CacheLine) :
    (State.setCacheSet s k l).modes = s.modes := by simp [State.setCacheSet]

@[simp] theorem State.dropLine_modes (s : State) (l : CacheLine) :
    (State.dropLine s l).modes = s.modes := by simp [State.dropLine]

@[simp] theorem State.setRange_modes (s : State) (r : Nat) (v : EprRange) :
    (State.setRange s r v).modes = s.modes := by simp [State.setRange]

@[simp] theorem State.touchRange_modes (s : State) (a : Nat) :
    (State.touchRange s a).modes = s.modes := by simp [State.touchRange]

@[simp] theorem lineLost_modes (s : State) (l : CacheLine) : (lineLost s l).modes = s.modes := by
  simp only [lineLost]
  split <;> simp

@[simp] theorem State.evict_modes (s : State) (l : CacheLine) : (State.evict s l).modes = s.modes := by
  unfold State.evict
  split
  · split <;> simp
  · simp

@[simp] theorem State.fill_modes (s : State) (a : Nat) (b : List Byte) (dirty : Bool) :
    (State.fill s a b dirty).modes = s.modes := by
  simp only [State.fill]
  split
  · simp
  · split <;> simp

@[simp] theorem State.recordUe_modes (s : State) (a : Nat) : (State.recordUe s a).modes = s.modes := by simp [State.recordUe]

@[simp] theorem recAccess_modes (s : State) (a : Nat) : (recAccess s a).1.modes = s.modes := by
  simp only [recAccess]
  split
  · split
    · simp
    · split
      · simp
      · split <;> simp
  · split <;> simp

@[simp] theorem recStore_modes (s : State) (a : Nat) (r : Rec) : (recStore s a r).modes = s.modes := by
  unfold recStore
  split <;> simp

@[simp] theorem recFetch_modes (s : State) (a : Nat) : (recFetch s a).1.modes = s.modes := by
  unfold recFetch
  split
  · next h => simpa [h] using recAccess_modes s a
  · next h => simpa [h] using recAccess_modes s a

/-! #### Arming, cancelling and the downlink queue -/

@[simp] theorem sizeWake_modes (s : State) (q : QSlot) (prof pm nrep earliest setup : Nat) :
    (sizeWake s q prof pm nrep earliest setup).1.modes = s.modes := by
  fun_cases sizeWake s q prof pm nrep earliest setup
  case case1 => rfl
  all_goals exact modes_of_eq (by assumption) (recFetch_modes s q.dest)

@[simp] theorem armEntry_modes (s : State) (e : Nat) : (armEntry s e).1.modes = s.modes := by
  fun_cases armEntry s e <;> simp +zetaDelta <;> exact modes_of_eq (by assumption) (sizeWake_modes ..)

@[simp] theorem cancelEntry_modes (s : State) (e : Nat) : (cancelEntry s e).1.modes = s.modes := by simp [cancelEntry]

@[simp] theorem schedWrite_modes (s : State) (n : Nat) (v : List Nat) :
    (schedWrite s n v).state.modes = s.modes := by simp [schedWrite]

@[simp] theorem dlRefused_modes (s : State) (cause : Nat) : (dlRefused s cause).modes = s.modes := by simp [dlRefused]

@[simp] theorem pendingStep_modes (s : State) (a : Nat) (up : Bool) : (pendingStep s a up).modes = s.modes := by
  unfold pendingStep
  split <;>
  · next h => simpa [h] using recFetch_modes s a

@[simp] theorem State.storeDir_modes (s : State) (b n : Nat) : (State.storeDir s b n).modes = s.modes := by simp [State.storeDir]

@[simp] theorem unqueue_modes (s : State) (n : Nat) : (unqueue s n).modes = s.modes := by
  unfold unqueue
  split <;> simp

@[simp] theorem chainCheck_modes (s : State) (a : Nat) : (chainCheck s a).modes = s.modes := by simp [chainCheck]

/-- The observation and what the branches ask of memory stay opaque, so that the kernel compares the branches without evaluating them. -/
@[simp] theorem enqueue_modes (s : State) (n : Nat) : (enqueue s n).1.modes = s.modes := by
  have hfetch := recFetch_modes
  obtain ⟨g, hg⟩ : ∃ g : State × Nat → Nat × SysState, ∀ x, g x = x.1.modes := ⟨_, fun _ => rfl⟩
  rw [← hg]
  generalize hf : enqueue = f
  delta enqueue at hf
  subst hf
  generalize State.slotHead = head, recFetch = fetch at hfetch ⊢
  beta_reduce
  extract_lets +onlyGivenNames refuse
  have hr : ∀ t c, g (refuse t c) = t.modes := fun t c => by simp [hg, refuse]
  clear_value refuse
  split
  · exact hr s 2
  · extract_lets +onlyGivenNames u
    have hu : u.modes = s.modes := by simp [u]
    clear_value u
    rw [← hu]
    split
    · exact hr u 3
    · split
      · exact hr u 3
      · split
        · exact hr u 4
        · split
          · next h =>
            have ht : _ = u.modes := modes_of_eq h ((hfetch ..).trans (chainCheck_modes ..))
            split
            · rw [hr, ht]
            · split
              · rw [hr, ht]
              · simp [hg, ht]
          · next h => rw [hr, modes_of_eq h ((hfetch ..).trans (chainCheck_modes ..))]

@[simp] theorem withdraw_modes (s : State) (n : Nat) : (withdraw s n).1.modes = s.modes := by
  unfold withdraw
  split <;> simp

/-! #### Applies, presets and call sheets -/

@[simp] theorem applyRefused_modes (s : State) (f : Nat × Nat × Nat) :
    (applyRefused s f).modes = s.modes := by simp [applyRefused]

@[simp] theorem applyGo_modes (s : State) : (applyGo s).modes = s.modes := by
  unfold applyGo
  dsimp only
  split <;> simp

@[simp] theorem State.cfgRef_modes (s : State) : (State.cfgRef s).modes = s.modes := by simp [State.cfgRef]

@[simp] theorem presetWrite_modes (s : State) (k : Nat) (v : Word) : (presetWrite s k v).modes = s.modes := by
  unfold presetWrite
  split
  · rfl
  · dsimp only
    split
    · simp
    · split <;> simp

@[simp] theorem sheetOctets_modes (s : State) (o n : Nat) : (sheetOctets s o n).1.modes = s.modes := by simp [sheetOctets]

@[simp] theorem sheetRefused_modes (s : State) (cause entry : Nat) :
    (sheetRefused s cause entry).modes = s.modes := by simp [sheetRefused]

@[simp] theorem State.cipFull_modes (s : State) (q : Nat) : (State.cipFull s q).modes = s.modes := by simp [State.cipFull]

@[simp] theorem State.queueHigh_modes (s : State) (q : Nat) : (State.queueHigh s q).modes = s.modes := by simp [State.queueHigh]

@[simp] theorem State.cipEnqueue_modes (s : State) (r : CipReq) :
    (State.cipEnqueue s r).modes = s.modes := by simp [State.cipEnqueue]

@[simp] theorem State.cipInline_modes (s : State) (q job : Nat) (d : CipDesc) (src label context : List Nat) :
    (State.cipInline s q job d src label context).modes = s.modes := by simp [State.cipInline]

@[simp] theorem State.cipCollect_modes (s : State) (job : Nat) :
    (State.cipCollect s job).modes = s.modes := by simp [State.cipCollect]

@[simp] theorem sheetSubmit_modes (s : State) (q : Nat) (h b : Option (List Nat)) : (sheetSubmit s q h b).1.modes = s.modes := by
  unfold sheetSubmit
  repeat' split
  all_goals simp

@[simp] theorem sheetFrom_modes (s : State) (q o : Nat) : (sheetFrom s q o).1.modes = s.modes := by
  unfold sheetFrom
  split
  · next h => simpa [h] using sheetOctets_modes s o 32
  · next h => split <;> simpa [h] using sheetOctets_modes s o 32

@[simp] theorem odxSheet_modes (s : State) : (odxSheet s).1.modes = s.modes := by simp [odxSheet]

@[simp] theorem State.plainWrite_modes (s : State) (a : Nat) (v : Word) :
    (State.plainWrite s a v).modes = s.modes := by simp [State.plainWrite]

@[simp] theorem rangeRelease_modes (s : State) (v : Word) : (rangeRelease s v).modes = s.modes := by simp [rangeRelease]

@[simp] theorem generationSeed_modes (s : State) (v : Word) : (generationSeed s v).1.modes = s.modes := by simp [generationSeed]

@[simp] theorem dictHwError_modes (s : State) (m : Nat) : (dictHwError s m).state.modes = s.modes := by simp [dictHwError]

/-! #### Writes to CUE and TMR -/

@[simp] theorem gpioCfgWrite_modes (s : State) (n : Nat) (v : Word) :
    (gpioCfgWrite s n v).modes = s.modes := by simp [gpioCfgWrite]

@[simp] theorem cueBusWrite_modes (s : State) (a : Nat) (v : Word) : (cueBusWrite s a v).modes = s.modes := by simp [cueBusWrite]

@[simp] theorem State.setTm_modes (s : State) (n : Nat) (t : TmrState) :
    (State.setTm s n t).modes = s.modes := by simp [State.setTm]

@[simp] theorem tmrCtlWrite_modes (s : State) (n : Nat) (v : Word) : (tmrCtlWrite s n v).modes = s.modes := by simp [tmrCtlWrite]

@[simp] theorem tmrCntWrite_modes (s : State) (n : Nat) (v : Word) : (tmrCntWrite s n v).modes = s.modes := by simp [tmrCntWrite]

@[simp] theorem tmrCapRequest_modes (s : State) (n : Nat) : (tmrCapRequest s n).modes = s.modes := by simp [tmrCapRequest]

@[simp] theorem tmrBusWrite_modes (s : State) (a : Nat) (v : Word) : (tmrBusWrite s a v).modes = s.modes := by
  unfold tmrBusWrite
  repeat' split
  all_goals simp

/-! #### Writes to MEM -/

@[simp] theorem dwinWrite_modes (s : State) (core : Nat) (v : Word) : (dwinWrite s core v).modes = s.modes := by simp [dwinWrite]

@[simp] theorem State.test_modes (s : State) {act : Nat → Nat → State} (h : ∀ m i, (act m i).modes = s.modes) :
    (s.test act).modes = s.modes := by simp [State.test, h]

@[simp] theorem slotReload_modes (s : State) (n : Nat) : (slotReload s n).modes = s.modes := by
  unfold slotReload
  split <;> simp

@[simp] theorem cacheReload_modes (s : State) (t : Nat) : (cacheReload s t).modes = s.modes := by
  unfold cacheReload
  split <;> simp

@[simp] theorem counterReload_modes (s : State) (i : Nat) : (counterReload s i).modes = s.modes := by
  unfold counterReload
  split <;> simp

@[simp] theorem bucketReload_modes (s : State) (o : Nat) : (bucketReload s o).modes = s.modes := by
  unfold bucketReload
  repeat' split
  all_goals simp

/-- The definition is opened before it is applied, so that the kernel does not evaluate the walk. -/
@[simp] theorem bucketOfDir_modes (s : State) (b : Nat) : (bucketOfDir s b).modes = s.modes := by
  generalize h : bucketOfDir = f
  delta bucketOfDir at h
  subst h
  beta_reduce
  split
  · rfl
  · split <;> rfl

@[simp] theorem chainReload_modes (s : State) (o : Nat) : (chainReload s o).modes = s.modes := by
  unfold chainReload
  dsimp only
  repeat' split
  all_goals simp

@[simp] theorem reload_modes (s : State) (m i : Nat) : (reload s m i).modes = s.modes := by simp [reload]

@[simp] theorem rawWrite_modes (s : State) (m i : Nat) : (rawWrite s m i).modes = s.modes := by simp [rawWrite]

@[simp] theorem testRawWrite_modes (s : State) : (testRawWrite s).modes = s.modes := by simp [testRawWrite]

@[simp] theorem State.setTdata_modes (s : State) (d : Nat) : (State.setTdata s d).modes = s.modes := by simp [State.setTdata]

@[simp] theorem testRawRead_modes (s : State) : (testRawRead s).modes = s.modes := by simp [testRawRead]

@[simp] theorem testDecodedRead_modes (s : State) : (testDecodedRead s).modes = s.modes := by simp [testDecodedRead]

@[simp] theorem memBusWrite_modes (s : State) (a : Nat) (v : Word) : (memBusWrite s a v).modes = s.modes := by simp [memBusWrite]

/-! #### Writes to ETH and UPD -/

@[simp] theorem ethBusWrite_modes (s : State) (a : Nat) (v : Word) : (ethBusWrite s a v).modes = s.modes := by simp [ethBusWrite]

@[simp] theorem updFetch_modes (s : State) (o n : Nat) : (updFetch s o n).1.modes = s.modes := by simp [updFetch]

@[simp] theorem updRefused_modes (s : State) (cause : Nat) : (updRefused s cause).1.modes = s.modes := by simp [updRefused]

@[simp] theorem updFailed_modes (s : State) (cause : Nat) : (updFailed s cause).modes = s.modes := by simp [updFailed]

@[simp] theorem State.updTouch_modes (s : State) : (State.updTouch s).modes = s.modes := by simp [State.updTouch]

@[simp] theorem stageBegin_modes (s : State) (src : Nat) (hdr : List Nat) :
    (stageBegin s src hdr).1.modes = s.modes := by simp [stageBegin]

@[simp] theorem coreBegin_modes (s : State) (n : Nat) : (coreBegin s n).1.modes = s.modes := by simp [coreBegin]

@[simp] theorem stageChunk_modes (s : State) (src ofs : Nat) (data : List Nat) :
    (stageChunk s src ofs data).1.modes = s.modes := by simp [stageChunk]

@[simp] theorem coreChunk_modes (s : State) (n : Nat) : (coreChunk s n).1.modes = s.modes := by simp [coreChunk]

@[simp] theorem stageFinish_modes (s : State) (src : Nat) : (stageFinish s src).1.modes = s.modes := by simp [stageFinish]

@[simp] theorem stageAbort_modes (s : State) (src : Nat) : (stageAbort s src).1.modes = s.modes := by simp [stageAbort]

@[simp] theorem unstage_modes (s : State) (c : Nat) : (unstage s c).1.modes = s.modes := by simp [unstage]

@[simp] theorem updCmd_modes (s : State) (n : Nat) (v : Word) : (updCmd s n v).modes = s.modes := by simp [updCmd]

@[simp] theorem updBusWrite_modes (s : State) (req a : Nat) (v : Word) :
    (updBusWrite s req a v).modes = s.modes := by simp [updBusWrite]

/-! #### Writes to RFC, CHZ and DMD -/

@[simp] theorem State.rangeRefused_modes (s : State) (n : Nat) :
    (State.rangeRefused s n).modes = s.modes := by simp [State.rangeRefused]

@[simp] theorem State.setChain_modes (s : State) (n : Nat) (c : Chain) :
    (State.setChain s n c).modes = s.modes := by simp [State.setChain]

@[simp] theorem calCmd_modes (s : State) (n k : Nat) : (calCmd s n k).modes = s.modes := by
  unfold calCmd
  dsimp only
  repeat' split
  all_goals simp

@[simp] theorem State.pruneOuts_modes (s : State) : (State.pruneOuts s).modes = s.modes := by simp [State.pruneOuts]

@[simp] theorem State.addOut_modes (s : State) (n : Nat) (k : OutKind) (till : Option Nat) (id : Nat) :
    (State.addOut s n k till id).modes = s.modes := by simp [State.addOut]

@[simp] theorem truncateChain_modes (s : State) (n : Nat) : (truncateChain s n).modes = s.modes := by simp [truncateChain]

@[simp] theorem State.endOut_modes (s : State) (n : Nat) (k : OutKind) :
    (State.endOut s n k).modes = s.modes := by simp [State.endOut]

@[simp] theorem loopUpdate_modes (s : State) (n : Nat) : (loopUpdate s n).modes = s.modes := by simp [loopUpdate]

@[simp] theorem rfcBusWrite_modes (s : State) (a : Nat) (v : Word) : (rfcBusWrite s a v).modes = s.modes := by
  generalize h : rfcBusWrite = f
  delta rfcBusWrite at h
  subst h
  beta_reduce
  extract_lets +onlyGivenNames n o guarded
  have hg : ∀ c, (guarded c).modes = s.modes := by intro c; simp only [guarded]; split <;> simp
  clear_value guarded o n
  split
  case h_1 => exact hg _
  case h_2 => exact hg _
  case h_3 => exact hg _
  all_goals simp

@[simp] theorem chzBusWrite_modes (s : State) (a : Nat) (v : Word) : (chzBusWrite s a v).modes = s.modes := by simp [chzBusWrite]

@[simp] theorem clearHighWater_modes (s : State) : (clearHighWater s).modes = s.modes := by simp [clearHighWater]

@[simp] theorem dmdBusWrite_modes (s : State) (a : Nat) (v : Word) : (dmdBusWrite s a v).modes = s.modes := by simp [dmdBusWrite]

/-! #### Writes to LNK -/

@[simp] theorem txCounterReset_modes (s : State) (v : Word) : (txCounterReset s v).modes = s.modes := by simp [txCounterReset]

@[simp] theorem windowWrite_modes (s : State) (o : Nat) (f : Word → Word) :
    (windowWrite s o f).modes = s.modes := by simp [windowWrite]

@[simp] theorem scmdWrite_modes (s : State) (v : Word) : (scmdWrite s v).modes = s.modes := by simp [scmdWrite]

@[simp] theorem dlqWrite_modes (s : State) (v : Word) : (dlqWrite s v).1.modes = s.modes := by
  unfold dlqWrite
  split <;> simp

@[simp] theorem lnkBusWrite_modes (s : State) (a : Nat) (v : Word) : (lnkBusWrite s a v).modes = s.modes := by simp [lnkBusWrite]

/-! #### Writes to DCB -/

@[simp] theorem State.storeWord_modes (s : State) (k bin i : Nat) :
    (State.storeWord s k bin i).modes = s.modes := by simp [State.storeWord]

@[simp] theorem State.storeBin_modes (s old : State) (k bin : Nat) :
    (State.storeBin s old k bin).modes = s.modes := by simp [State.storeBin]

@[simp] theorem State.storeBins_modes (s old : State) (l : List (Nat × Nat)) :
    (State.storeBins s old l).modes = s.modes := by simp [State.storeBins]

@[simp] theorem acctDiscard_modes (s : State) (k : Nat) : (acctDiscard s k).modes = s.modes := by simp [acctDiscard]

@[simp] theorem acctStart_modes (s : State) (k : Nat) : (acctStart s k).modes = s.modes := by simp [acctStart]

@[simp] theorem acctCfgWrite_modes (s : State) (k : Nat) (v : Word) :
    (acctCfgWrite s k v).modes = s.modes := by simp [acctCfgWrite]

@[simp] theorem dcbBusWrite_modes (s : State) (a : Nat) (v : Word) : (dcbBusWrite s a v).modes = s.modes := by
  unfold dcbBusWrite
  dsimp only
  repeat' split
  all_goals simp

/-! #### Writes to EPR and CIP -/

@[simp] theorem State.dropCached_modes (s : State) (p : CachedKey → Bool) :
    (State.dropCached s p).modes = s.modes := by simp [State.dropCached]

@[simp] theorem kekgWrite_modes (s : State) (v : Word) : (kekgWrite s v).modes = s.modes := by simp [kekgWrite]

@[simp] theorem coreSheet_modes (s : State) (core : Nat) : (coreSheet s core).1.modes = s.modes := by simp [coreSheet]

@[simp] theorem saveAll_modes (s : State) : (saveAll s).modes = s.modes := by simp [saveAll]

@[simp] theorem recReport_modes (s : State) (a : Nat) : (recReport s a).modes = s.modes := by
  unfold recReport
  split <;> simp

@[simp] theorem recordCapture_modes (s : State) (a : Nat) : (recordCapture s a).modes = s.modes := by simp [recordCapture]

@[simp] theorem eprBusWrite_modes (s : State) (req a : Nat) (v : Word) :
    (eprBusWrite s req a v).modes = s.modes := by simp [eprBusWrite]

@[simp] theorem cipSubmit_modes (s : State) (core : Nat) (v : Word) : (cipSubmit s core v).modes = s.modes := by simp [cipSubmit]

@[simp] theorem keyLoad_modes (s : State) (core : Nat) (v : Word) : (keyLoad s core v).modes = s.modes := by simp [keyLoad]

@[simp] theorem slotCmd_modes (s : State) (v : Word) : (slotCmd s v).modes = s.modes := by simp [slotCmd]

@[simp] theorem cipBusWrite_modes (s : State) (req a : Nat) (v : Word) :
    (cipBusWrite s req a v).modes = s.modes := by simp [cipBusWrite]

/-! #### Writes to REL -/

@[simp] theorem State.setReel_modes (s : State) (n : Nat) (r : Reel) :
    (State.setReel s n r).modes = s.modes := by simp [State.setReel]

@[simp] theorem State.setBits_modes (s : State) (a mask : Nat) :
    (State.setBits s a mask).modes = s.modes := by simp [State.setBits]

@[simp] theorem reelEnable_modes (s : State) (n : Nat) (v : Word) : (reelEnable s n v).modes = s.modes := by simp [reelEnable]

@[simp] theorem reelOff_modes (s : State) (n : Nat) (v : Word) : (reelOff s n v).modes = s.modes := by simp [reelOff]

@[simp] theorem State.poolStore_modes (s : State) (i : Nat) (w : Word) (e : Bool) :
    (State.poolStore s i w e).modes = s.modes := by simp [State.poolStore]

@[simp] theorem reelAppend_modes (s : State) (n : Nat) (w : Word) (e : Bool) :
    (reelAppend s n w e).modes = s.modes := by simp [reelAppend]

@[simp] theorem reelSwap_modes (s : State) (n : Nat) : (reelSwap s n).modes = s.modes := by simp [reelSwap]

@[simp] theorem reelFinish_modes (s : State) (n : Nat) (t : Word) : (reelFinish s n t).modes = s.modes := by simp [reelFinish]

@[simp] theorem reelEnd_modes (s : State) (n : Nat) : (reelEnd s n).modes = s.modes := by
  unfold reelEnd
  split <;> simp

@[simp] theorem reelBad_modes (s : State) (n cause : Nat) : (reelBad s n cause).modes = s.modes := by
  unfold reelBad
  dsimp only
  repeat' split
  all_goals simp

@[simp] theorem reelSop_modes (s : State) (n : Nat) : (reelSop s n).modes = s.modes := by simp [reelSop]

@[simp] theorem reelOverflow_modes (s : State) (n : Nat) : (reelOverflow s n).modes = s.modes := by simp [reelOverflow]

@[simp] theorem reelPush_modes (s : State) (n : Nat) (v : Word) : (reelPush s n v).modes = s.modes := by
  unfold reelPush
  split <;> simp

@[simp] theorem routeEnable_modes (s : State) (i : Nat) (v : Word) : (routeEnable s i v).modes = s.modes := by simp [routeEnable]

@[simp] theorem relBusWrite_modes (s : State) (req a : Nat) (v : Word) : (relBusWrite s req a v).modes = s.modes := by
  unfold relBusWrite
  repeat' split
  all_goals simp

/-! #### The dictionary, the microcode and the images -/

@[simp] theorem listReset_modes (s : State) (index sub comp : Nat) :
    (listReset s index sub comp).modes = s.modes := by simp [listReset]

@[simp] theorem copyWords_modes (s : State) (a b n : Nat) : (copyWords s a b n).modes = s.modes := by simp [copyWords]

@[simp] theorem gainReset_modes (s : State) (n : Nat) : (gainReset s n).modes = s.modes := by simp [gainReset]

@[simp] theorem loadRxlo_modes (s : State) (n : Nat) : (loadRxlo s n).modes = s.modes := by
  unfold loadRxlo
  generalize word (tuneWord (s.planC active n)) = w
  generalize hu : s.wr (Reg.RFC_RXLO n) w = u
  have hs : u.modes = s.modes := by simp [← hu]
  dsimp only
  split <;> simp [hs]

@[simp] theorem applyChain_modes (s : State) (n : Nat) : (applyChain s n).modes = s.modes := by simp [applyChain]

@[simp] theorem markShadows_modes (s : State) (chains : Nat) : (markShadows s chains).modes = s.modes := by simp [markShadows]

@[simp] theorem drainEpochs_modes (s : State) : (drainEpochs s).modes = s.modes := by
  unfold drainEpochs
  dsimp only
  split <;> simp

@[simp] theorem State.dropOcc_modes (s : State) : (State.dropOcc s).modes = s.modes := by simp [State.dropOcc]

@[simp] theorem applyCommit_modes (s : State) (p : PendApply) : (applyCommit s p).modes = s.modes := by simp [applyCommit]

@[simp] theorem bootApply_modes (s : State) : (bootApply s).modes = s.modes := by
  unfold bootApply
  dsimp only
  split <;> simp

@[simp] theorem loadSections_modes (s : State) (comp : Nat) (body : List Nat) : (loadSections s comp body).modes = s.modes := by
  refine modes_foldl (fun s x => ?_) _ _
  dsimp only
  split <;> simp

@[simp] theorem loadImage_modes (s : State) (c : Nat) : (loadImage s c).1.modes = s.modes := by
  unfold loadImage
  split <;> simp

@[simp] theorem State.setCore_modes (s : State) (n : Nat) (c : Core) :
    (State.setCore s n c).modes = s.modes := by simp [State.setCore]

@[simp] theorem startApps_modes (s : State) (entry : Nat) : (startApps s entry).modes = s.modes := by simp [startApps]

@[simp] theorem loadApps_modes (s : State) : (loadApps s).1.modes = s.modes := by
  unfold loadApps
  split <;>
  · next h => simpa [h] using loadImage_modes s 3

/-! #### A waiting event -/

@[simp] theorem State.loopTrip_modes (s : State) (routes : List Nat) :
    (State.loopTrip s routes).modes = s.modes := by simp [State.loopTrip]

@[simp] theorem State.materialise_modes (s : State) (ev : CueEvent) : (State.materialise s ev).modes = s.modes := by
  unfold State.materialise
  repeat' split
  all_goals simp

/-! ### The dictionary's entries of the main and the RF domain -/

/-- The registers that an entry of the dictionary writes. -/
def Entity.addrs (e : Entity) : List Nat :=
  match e.row.src with
  | .fld a _ _ => [a e.i e.j]
  | .words l => (l e.i e.j).map (·.1)
  | .wordsBE l => l e.i e.j
  | .cmd a _ => [a e.i]
  | _ => []

/-- A domain that a wake restarts holds the register. -/
def mainAddr (a : Nat) : Bool := restarted (regDomain a)

/-- The entries that serve the always-on domain's own state, and the key slots. -/
def DSpec.aon : DSpec → Bool
  | .modeReq | .bootTarget | .roles | .resetCore | .calSet | .kek | .host | .principal => true
  | _ => false

/-- The entry writes registers of the domains that a wake restarts only, and no state of the always-on domain. -/
def Entity.mainOnly (e : Entity) : Bool :=
  e.addrs.all mainAddr && match e.row.src with | .special k => !k.aon | _ => true

theorem dictRows_mainOnly :
    (dictRows.all fun r => (List.range r.icnt).all fun i => (List.range (r.hi + 1 - r.lo)).all fun j =>
      let e : Entity := { row := r, i := i, j := j }
      !restarted e.dom || e.mainOnly) = true := by decide +kernel

theorem mem_splitWords {l : List (Nat × Nat)} {v : List Nat} {w : Nat × Nat × Nat} (h : w ∈ splitWords l v) :
    w.1 ∈ l.map (·.1) := by
  induction l generalizing v with
  | nil => simp [splitWords] at h
  | cons x l ih =>
    rcases List.mem_cons.mp h with rfl | h
    · simp
    · exact List.mem_cons_of_mem _ (ih h)

theorem Entity.mem_writes {s : State} {e : Entity} {v : List Nat} {w : RegWrite} (h : w ∈ Entity.writes s e v) : w.a ∈ e.addrs := by
  rcases hsrc : e.row.src with _ | ⟨a, hi, lo⟩ | l | l | ⟨a, x⟩ | _ <;> simp only [Entity.writes, hsrc] at h <;>
    simp only [Entity.addrs, hsrc]
  case const | special => exact absurd h (by simp)
  case fld | cmd => simpa using congrArg RegWrite.a (List.mem_singleton.mp h)
  case words =>
    obtain ⟨x, hx, rfl⟩ := List.mem_map.mp (List.mem_reverse.mp h)
    exact mem_splitWords hx
  case wordsBE =>
    obtain ⟨x, hx, rfl⟩ := List.mem_map.mp h
    exact List.fst_mem_of_mem_zipIdx hx

theorem mainOnly_of_dictFind {idx sub : Nat} {e : Entity} (h : dictFind idx sub = some e) (hd : restarted e.dom = true) :
    e.mainOnly = true := by
  unfold dictFind at h
  split at h
  · next r hr =>
    cases h
    have hsub := List.find?_some hr
    obtain ⟨hrow, hidx⟩ := List.mem_filter.mp (List.mem_of_find?_eq_some hr)
    simp only [DRow.hasIndex, Bool.and_eq_true, decide_eq_true_eq] at hidx hsub
    have hall := dictRows_mainOnly
    simp only [List.all_eq_true, List.mem_range] at hall
    have := hall r hrow ((idx - r.idx) / r.istep) hidx.2 (sub - r.lo) (by omega)
    simpa [hd] using this
  · split at h
    · cases h
      rfl
    · cases h

theorem mainAddr_iff {a : Nat} : mainAddr a = true ↔ regDomain a = .main ∨ regDomain a = .rf := by
  simp only [mainAddr, restarted, Bool.or_eq_true, beq_iff_eq]

/-- The pages of the blocks of the always-on and the backup domain. -/
def aonPages : List Nat := [0x4000, 0x4001, 0x4004, 0x4006, 0x400A, 0x400C, 0x400D]

theorem page_of_mainAddr {a : Nat} (h : mainAddr a = true) : a / 0x10000 ∉ aonPages := by
  intro hp
  have hlt : a < 0x40100000 := by
    simp only [aonPages, List.mem_cons, List.not_mem_nil, or_false] at hp
    omega
  rw [mainAddr_iff, regDomain, if_neg (by omega), if_neg (by omega), if_pos hlt] at h
  simp only [aonPages, List.mem_cons, List.not_mem_nil, or_false] at hp
  rcases hp with hp | hp | hp | hp | hp | hp | hp <;> simp [hp] at h

/-- A write to a register of the main or the RF domain. -/
theorem busWrite_modes (s : State) (req : Nat) {a : Nat} (v : Word) (h : mainAddr a = true) : (busWrite s req a v).modes = s.modes := by
  have hpage := page_of_mainAddr h
  unfold busWrite
  split
  case h_1 | h_2 | h_5 | h_7 | h_11 | h_12 | h_13 => next hp => exact absurd (by rw [hp]; decide) hpage
  all_goals simp

theorem regWrite_modes (s : State) (req : Nat) {a : Nat} (v : Word) (h : mainAddr a = true) : (regWrite s req a v).modes = s.modes := by
  unfold regWrite
  split
  · exact busWrite_modes s req v h
  · rfl

theorem modes_foldl_mem {α : Type} {f : State → α → State} {l : List α} (h : ∀ s, ∀ x ∈ l, (f s x).modes = s.modes)
    (s : State) : (l.foldl f s).modes = s.modes := by
  induction l generalizing s with
  | nil => rfl
  | cons x l ih =>
    rw [List.foldl_cons, ih fun s y hy => h s y (List.mem_cons_of_mem x hy), h s x List.mem_cons_self]

theorem regWrites_modes {s t : State} {e : Entity} {v : List Nat} (he : e.mainOnly = true) :
    ((Entity.writes s e v).foldl (fun (t : State) w => regWrite t 10 w.a w.v) t).modes = t.modes := by
  simp only [Entity.mainOnly, Bool.and_eq_true, List.all_eq_true] at he
  exact modes_foldl_mem (fun t w hw => regWrite_modes t 10 w.v (he.1 w.a (Entity.mem_writes hw))) t

/-- What the main domain's own entries do, beside those that give registers. -/
theorem dictPut_special_modes (s : State) (e : Entity) (v : List Nat) {k : DSpec} (hk : e.row.src = .special k) (ha : k.aon = false) :
    (dictPut s e v).state.modes = s.modes := by
  unfold dictPut
  simp only [hk]
  cases k
  case modeReq | bootTarget | roles | resetCore | calSet | kek | host | principal => exact absurd ha (by decide)
  all_goals simp

/-! ### What a wake applies (R54) -/

theorem applyStored_modes (s : State) {e : Entity} (v : List Nat) (he : e.mainOnly = true) : (applyStored s e v).modes = s.modes := by
  have hspecial : ∀ k, e.row.src = .special k → k.aon = false := fun k hk => by simpa [Entity.mainOnly, Entity.addrs, hk] using he
  unfold applyStored
  split
  case h_1 | h_2 | h_3 => rfl
  case h_4 | h_5 => next hk => exact absurd (hspecial _ hk) (by decide)
  case h_6 => next k _ _ _ _ hk => exact dictPut_special_modes s e v hk (hspecial k hk)
  case h_7 =>
    split
    · simp
    · exact regWrites_modes he
  case h_8 => exact regWrites_modes he

theorem insertBy_perm {α : Type} (le : α → α → Bool) (x : α) (l : List α) : (insertBy le x l).Perm (x :: l) := by
  induction l with
  | nil => exact .refl _
  | cons y l ih =>
    unfold insertBy
    split
    · exact (ih.cons y).trans (.swap x y l)
    · exact .refl _

theorem foldl_insertBy_perm {α : Type} (le : α → α → Bool) (l acc : List α) :
    (l.foldl (fun acc x => insertBy le x acc) acc).Perm (l ++ acc) := by
  induction l generalizing acc with
  | nil => exact .refl _
  | cons x l ih => exact (ih _).trans (((insertBy_perm le x acc).append_left l).trans List.perm_middle)

theorem mem_sortBy {α : Type} {le : α → α → Bool} {l : List α} {x : α} : x ∈ sortBy le l ↔ x ∈ l := by
  simpa [sortBy] using (foldl_insertBy_perm le l []).mem_iff (a := x)

theorem applyStore_modes (s : State) (list : Bool) : (applyStore s restarted list).modes = s.modes := by
  have hlist (t : State) (l : List StoreRec) :
      (l.foldl (fun (s : State) r => (listReset s r.index r.sub (compOf r.index)).wb Reg.SYS_BOOTSTAT 2 true) t).modes = t.modes := by simp
  unfold applyStore
  refine (modes_foldl_mem (fun t r hr => ?_) _).trans ?_
  · split
    · next e he =>
      obtain ⟨hf, hp⟩ := Option.filter_eq_some_iff.mp he
      simp only [Bool.and_eq_true] at hp
      exact applyStored_modes t _ (mainOnly_of_dictFind hf hp.1.2)
    · rfl
  · split
    · exact hlist ..
    · rfl

theorem applyHeld_modes (s : State) : (applyHeld s restarted).modes = s.modes := by
  unfold applyHeld
  rw [State.modes_mk, State.modes_eta]
  refine modes_foldl_mem (fun t r hr => ?_) _
  split
  · next e he =>
    obtain ⟨x, hx, rfl⟩ := List.mem_map.mp (mem_sortBy.mp hr)
    have hp := (List.mem_filter.mp hx).2
    rw [heldDomain, he] at hp
    exact applyStored_modes t _ (mainOnly_of_dictFind he (by simpa using hp))
  · rfl

theorem applyAll_modes (s : State) (list : Bool) : (applyAll s restarted list).modes = s.modes := by
  unfold applyAll
  dsimp only
  split <;> simp [applyHeld_modes, applyStore_modes]

/-! ### The last step of the wake (R54) -/

/-- The wake has ended. -/
def wakeOver (t : State) : State := { t with sys := { t.sys with wakeAt := none, wakeReq := false } }

/-- The condition of R43 that the mode to go on to fails, 0 for none and for a wake that a mode request started. -/
def wakeCause (t : State) : Nat := if t.sys.wakeReq then 0 else (wakeOver t).targetCause t.sys.wakeTo

/-- The second step to the mode that the wake is for follows. -/
def wakeOn (t : State) : State :=
  let v := (wakeOver t).setTrans (some { target := t.sys.wakeTo, since := t.slate, second := true })
  { v with sys := { v.sys with wakeGen := t.sys.wakeGen } }

/-- What follows the step into STANDBY: BUSY is 0 again, or the second step follows, or it is refused. -/
def wakeGoesOn (t : State) : State :=
  if t.sys.wakeTo = 2 then transDone (wakeOver t)
  else if wakeCause t ≠ 0 then (modeRefused (transDone (wakeOver t)) (wakeCause t)).1
  else wakeOn t

/-- The conditions of R43 do not read SYS.MODE but for the mode. -/
theorem targetCause_congr {s t : State} (m : Nat) (hrd : ∀ a, a ≠ Reg.SYS_MODE → t.rd a = s.rd a) (hmode : t.mode = s.mode)
    (hcode : t.sys.microcode = s.sys.microcode) (hodx : t.odx = s.odx) : t.targetCause m = s.targetCause m := by
  have hpch (j : Nat) : t.rd (Reg.LNK_PCH j) = s.rd (Reg.LNK_PCH j) := hrd _ (by unfold Reg.LNK_PCH Reg.SYS_MODE; omega)
  have hmain : t.mainOn = s.mainOn := by rw [State.mainOn, State.mainOn, hmode]
  have hstore : t.storeValue 0x2A10 4 = s.storeValue 0x2A10 4 := by
    rw [State.storeValue, State.storeValue, State.storeCopy, State.storeCopy, hodx]
  have hparent : t.hasParent = s.hasParent := by
    rw [State.hasParent, State.hasParent, hmain, hstore, hodx]
    simp only [State.rb, hpch]
  have hboot : t.rf Reg.SYS_BOOTSTAT 23 16 = s.rf Reg.SYS_BOOTSTAT 23 16 := by rw [State.rf, State.rf, hrd _ (by decide)]
  have hdram : t.rb Reg.MEM_STAT 0 = s.rb Reg.MEM_STAT 0 := by rw [State.rb, State.rb, hrd _ (by decide)]
  rw [State.targetCause, State.targetCause, hcode, hboot, hdram, hrd Reg.SYS_ROLE (by decide), hparent]

theorem targetCause_lt (s : State) (m : Nat) : s.targetCause m < 16 := by
  unfold State.targetCause
  split_ifs <;> decide

/-- In `t` only the bits from BUSY on of SYS.MODE, the cues and the state of the modes differ from `s`. -/
def BusyOnly (s t : State) : Prop :=
  (∀ a, a ≠ Reg.SYS_MODE → t.rd a = s.rd a) ∧ (∀ b, b < 12 → t.rb Reg.SYS_MODE b = s.rb Reg.SYS_MODE b) ∧
  t.slate = s.slate ∧ t.odx = s.odx ∧ t.sys.microcode = s.sys.microcode

theorem BusyOnly.rf {s t : State} (h : BusyOnly s t) {hi lo : Nat} (hhi : hi < 12) : t.rf Reg.SYS_MODE hi lo = s.rf Reg.SYS_MODE hi lo :=
  fld_congr fun b _ hb => h.2.1 b (by omega)

theorem BusyOnly.targetCause {s t : State} (h : BusyOnly s t) (m : Nat) : t.targetCause m = s.targetCause m :=
  targetCause_congr m h.1 (h.rf (by decide)) h.2.2.2.2 h.2.2.2.1

theorem BusyOnly.trans {s t u : State} (h : BusyOnly s t) (g : BusyOnly t u) : BusyOnly s u := by
  obtain ⟨h1, h2, h3, h4, h5⟩ := h
  obtain ⟨g1, g2, g3, g4, g5⟩ := g
  exact ⟨fun a ha => (g1 a ha).trans (h1 a ha), fun b hb => (g2 b hb).trans (h2 b hb), g3.trans h3, g4.trans h4, g5.trans h5⟩

theorem BusyOnly.sys (s : State) (y : SysState) (h : y.microcode = s.sys.microcode) : BusyOnly s { s with sys := y } :=
  ⟨fun _ _ => rfl, fun _ _ => rfl, rfl, rfl, h⟩

theorem rd_setTrans (s : State) (t : Option Transition) (a : Nat) : (s.setTrans t).rd a = (s.wb Reg.SYS_MODE 12 t.isSome).rd a := by
  simp only [State.rd, State.setTrans]

theorem rb_setTrans (s : State) (t : Option Transition) (b : Nat) :
    (s.setTrans t).rb Reg.SYS_MODE b = (s.wb Reg.SYS_MODE 12 t.isSome).rb Reg.SYS_MODE b := by
  rw [State.rb, State.rb, rd_setTrans]

theorem BusyOnly.setTrans (s : State) (t : Option Transition) : BusyOnly s (s.setTrans t) := by
  refine ⟨fun a ha => ?_, fun b hb => ?_, by simp [State.setTrans], by simp [State.setTrans], by simp [State.setTrans]⟩
  · rw [rd_setTrans, State.rd_wb_of_ne _ _ _ ha]
  · rw [rb_setTrans, rb_wb_of_ne _ _ _ (by decide) (by omega) (by omega)]

theorem busy_setTrans (s : State) (t : Option Transition) : (s.setTrans t).rb Reg.SYS_MODE 12 = t.isSome := by
  rw [rb_setTrans, State.rb_wb_self _ _ _ (by decide)]

theorem busy_transDone (s : State) : (transDone s).rb Reg.SYS_MODE 12 = false := by
  have h := busy_setTrans s none
  simpa only [transDone, State.rb, State.rd, Option.isSome_none] using h

theorem BusyOnly.transDone (s : State) : BusyOnly s (transDone s) := by
  unfold Machine.transDone
  exact (BusyOnly.setTrans s none).trans (.sys _ _ rfl)

theorem busyOnly_wakeOver (t : State) : BusyOnly t (wakeOver t) := .sys t _ rfl

theorem busy_wakeOn (t : State) : (wakeOn t).rb Reg.SYS_MODE 12 = true := by
  have h := busy_setTrans (wakeOver t) (some { target := t.sys.wakeTo, since := t.slate, second := true })
  simpa only [wakeOn, State.rb, State.rd, Option.isSome_some] using h

theorem busyOnly_wakeOn (t : State) : BusyOnly t (wakeOn t) := by
  unfold wakeOn
  exact ((busyOnly_wakeOver t).trans (.setTrans _ _)).trans (.sys _ _ rfl)

theorem BusyOnly.of_refuses {c : Nat} {s t : State} (h : Refuses c s t) : BusyOnly s t := by
  obtain ⟨hframe, -, hkeeps, -, -, hbits⟩ := h
  exact ⟨fun a ha => (hkeeps a (by simpa using ha)).1, fun b hb => hbits b (by omega) (by omega) (by omega),
    by rw [hframe], by rw [hframe], by rw [hframe]⟩

/-- How a wake to `m` ends: `t` is the state after the step into STANDBY and `r` the last one. -/
def WakeEnds (m : Nat) (req : Bool) (t r : State) : Prop :=
  BusyOnly t r ∧ r.sys.wakeAt = none ∧
  (m = 2 → r.rb Reg.SYS_MODE 12 = false ∧ r.sys.trans = none) ∧
  (m ≠ 2 → req = true ∨ r.targetCause m = 0 →
    r.rb Reg.SYS_MODE 12 = true ∧ r.sys.trans = some { target := m, since := t.slate, second := true }) ∧
  (m ≠ 2 → req = false → r.targetCause m ≠ 0 →
    r.rb Reg.SYS_MODE 12 = false ∧ r.sys.trans = none ∧ r.rb Reg.SYS_MODE 16 = true ∧ r.rf Reg.SYS_MODE 27 24 = r.targetCause m)

theorem wakeEnds_transDone {m : Nat} {req : Bool} {t : State} (h2 : m = 2) : WakeEnds m req t (transDone (wakeOver t)) :=
  ⟨(busyOnly_wakeOver t).trans (.transDone _), by simp [transDone, State.setTrans, wakeOver],
    fun _ => ⟨busy_transDone _, by simp [transDone, State.setTrans]⟩, fun h => absurd h2 h, fun h => absurd h2 h⟩

theorem wakeEnds_refused {t : State} (h2 : t.sys.wakeTo ≠ 2) (hc : wakeCause t ≠ 0) :
    WakeEnds t.sys.wakeTo t.sys.wakeReq t (modeRefused (transDone (wakeOver t)) (wakeCause t)).1 := by
  have hreq : ¬t.sys.wakeReq = true := fun h => hc (if_pos h)
  have hcause : wakeCause t = (wakeOver t).targetCause t.sys.wakeTo := if_neg hreq
  have href := modeRefused_refuses (transDone (wakeOver t)) (cause := wakeCause t) (hcause ▸ targetCause_lt _ _)
  have hends := ((busyOnly_wakeOver t).trans (.transDone _)).trans (.of_refuses href)
  have hend : (modeRefused (transDone (wakeOver t)) (wakeCause t)).1.targetCause t.sys.wakeTo = wakeCause t := by
    rw [hends.targetCause, hcause, (busyOnly_wakeOver t).targetCause]
  obtain ⟨hframe, -, -, h16, h24, hbits⟩ := href
  refine ⟨hends, ?_, fun h => absurd h h2, fun _ h => ?_, fun _ _ _ => ⟨?_, ?_, h16, ?_⟩⟩
  · rw [hframe]; simp [transDone, State.setTrans, wakeOver]
  · exact (h.elim hreq fun h => hc (hend.symm.trans h)).elim
  · rw [hbits 12 (by decide) (by decide) (by decide)]
    exact busy_transDone _
  · rw [hframe]; simp [transDone, State.setTrans]
  · rw [h24, hend]

theorem wakeEnds_wakeOn {t : State} (h2 : t.sys.wakeTo ≠ 2) (hc : wakeCause t = 0) :
    WakeEnds t.sys.wakeTo t.sys.wakeReq t (wakeOn t) := by
  refine ⟨busyOnly_wakeOn t, by simp [wakeOn, State.setTrans, wakeOver], fun h => absurd h h2,
    fun _ _ => ⟨busy_wakeOn t, by simp [wakeOn, State.setTrans]⟩, fun _ hreq h => ?_⟩
  rw [(busyOnly_wakeOn t).targetCause, ← (busyOnly_wakeOver t).targetCause] at h
  rw [wakeCause, if_neg (by simp [hreq])] at hc
  exact absurd hc h

theorem wakeEnds_wakeGoesOn (t : State) : WakeEnds t.sys.wakeTo t.sys.wakeReq t (wakeGoesOn t) := by
  unfold wakeGoesOn
  split_ifs with h2 hc
  · exact wakeEnds_transDone h2
  · exact wakeEnds_refused h2 hc
  · exact wakeEnds_wakeOn h2 (not_not.mp hc)

/-! ### The wake up to STANDBY (R54) -/

/-- The main domain has power again, its registers at their reset values. -/
def wakePowered (s : State) : State :=
  let on := ((mainRegsReset s).wb Reg.MEM_DCFG 16 false).wf Reg.SYS_MODE 3 0 2
  { on with cue := { on.cue with mainAt := on.slate }, sys := { on.sys with microcode := false } }

/-- Wake steps 2-4: the microcode, the persistent store, and the application cores. -/
def wakeLoaded (s : State) : State :=
  let on := wakePowered s
  let held := on.odx.stored.filter fun x => heldDomain x == some .rf
  let on := applyAll (if s.sys.microcode then (loadMicrocode on).1 else on) restarted false
  let on := bootApply { on with dcb := { on.dcb with kept := [] }, odx := { on.odx with stored := held } }
  (loadApps on).1

theorem wakeEnd_eq (s : State) : wakeEnd s = wakeGoesOn (stepTo ((wakeLoaded s).wf Reg.SYS_MODE 3 0 1) 2) := by
  unfold wakeEnd wakeGoesOn wakeOn wakeCause wakeOver wakeLoaded wakePowered
  dsimp only

theorem imageOk_congr {s t : State} (h : t.upd = s.upd) (c w : Nat) : t.imageOk c w = s.imageOk c w := by
  have hcause (h' : List Nat) : t.hdrCause h' = s.hdrCause h' := by
    have hkey : t.keyRevoked (hdrKey h') = s.keyRevoked (hdrKey h') := by rw [State.keyRevoked, State.keyRevoked, h]
    rw [State.hdrCause, State.hdrCause, hkey]
  simp only [State.imageOk, State.image, h, hcause]

theorem comp_congr {s t : State} (h : t.upd = s.upd) (c : Nat) : t.comp c = s.comp c := by
  simp only [State.comp, State.bootRec, h]

/-- The images that the microcode needs verify. -/
def State.linkImagesOk (s : State) : Bool := s.imageOk 1 (s.comp 1).active && s.imageOk 4 (s.comp 4).active

theorem linkImagesOk_congr {s t : State} (h : t.upd = s.upd) : t.linkImagesOk = s.linkImagesOk := by
  simp only [State.linkImagesOk, imageOk_congr h, comp_congr h]

theorem loadMicrocode_modes (s : State) :
    (loadMicrocode s).1.modes = (s.slate, { s.sys with microcode := s.sys.microcode || s.linkImagesOk }) := by
  have hok : (s.wb Reg.MEM_DCFG 16 false).linkImagesOk = s.linkImagesOk := linkImagesOk_congr (State.wb_upd ..)
  unfold State.linkImagesOk at hok
  simp only [loadMicrocode, hok]
  by_cases h : s.linkImagesOk = true
  · unfold State.linkImagesOk at h
    simp [h, State.linkImagesOk, loadTables]
  · have hf : s.linkImagesOk = false := by simpa using h
    unfold State.linkImagesOk at h
    rw [if_neg h, hf, Bool.or_false]
    exact State.wb_modes ..

theorem wakePowered_modes (s : State) : (wakePowered s).modes = (s.slate, { s.sys with microcode := false }) := by
  have h : (((mainRegsReset s).wb Reg.MEM_DCFG 16 false).wf Reg.SYS_MODE 3 0 2).modes = s.modes := by simp
  simp only [State.modes, Prod.mk.injEq] at h
  simp only [wakePowered, State.modes_mk, h]

theorem mainRegsReset_upd (s : State) : (mainRegsReset s).upd = s.upd := by
  unfold mainRegsReset
  refine List.foldlRecOn (motive := fun t : State => t.upd = s.upd) keptBits _ rfl fun t ht e _ => ?_
  rw [State.wr_upd, ht]

theorem wakePowered_upd (s : State) : (wakePowered s).upd = s.upd := by
  simp only [wakePowered, State.wf_upd, State.wb_upd, mainRegsReset_upd]

/-- The slate and the state of the modes before the step into STANDBY. -/
theorem wakeLoaded_modes (s : State) :
    (wakeLoaded s).modes = (s.slate, { s.sys with microcode := s.sys.microcode && s.linkImagesOk }) := by
  have hloaded : (if s.sys.microcode then (loadMicrocode (wakePowered s)).1 else wakePowered s).modes =
      (s.slate, { s.sys with microcode := s.sys.microcode && s.linkImagesOk }) := by
    have hp := wakePowered_modes s
    split
    · next h =>
      rw [loadMicrocode_modes, linkImagesOk_congr (wakePowered_upd s)]
      simp only [State.modes, Prod.mk.injEq] at hp
      simp [hp, h]
    · next h => rw [hp]; simp [h]
  rw [← hloaded]
  simp [wakeLoaded, applyAll_modes]

/-- SYS.MODE in the step from HIBERNATE into STANDBY. -/
def standbyShown (u : State) : State := ((u.wf Reg.SYS_MODE 7 4 1).wf Reg.SYS_MODE 3 0 2).dropOcc

/-- The step from HIBERNATE into STANDBY, before its cue and the chains. -/
def enterStandby (u : State) : State :=
  { standbyShown u with sys := { (standbyShown u).sys with testing := false, testToBoot := (standbyShown u).sys.testToBoot && 1 != 7 } }

theorem rd_modeChanged (s : State) : (modeChanged s).rd Reg.SYS_MODE = s.rd Reg.SYS_MODE := by
  unfold modeChanged
  split
  · unfold State.materialise
    split
    · rw [State.rd_emitAt]
    · split
      · rfl
      · unfold State.loopTrip
        rw [State.rd_emit, State.rd_inc_of_ne _ _ (by decide), State.rd_wf_of_ne _ _ _ _ (by decide),
          State.rd_wb_of_ne _ _ _ (by decide)]
        refine List.foldlRecOn (motive := fun t : State => t.rd Reg.SYS_MODE = s.rd Reg.SYS_MODE) _ _ rfl fun t ht r _ => ?_
        rw [State.rd_wb_of_ne _ _ _ (by unfold Reg.SYS_MODE Reg.CUE_LOOP; omega), ht]
  · rw [State.rd_emit]

theorem rd_enterStandby (u : State) :
    (enterStandby u).rd Reg.SYS_MODE = ((u.wf Reg.SYS_MODE 7 4 1).wf Reg.SYS_MODE 3 0 2).rd Reg.SYS_MODE := by
  simp only [enterStandby, standbyShown, State.dropOcc, State.rd]

theorem rd_powerChains_modeChanged (u : State) :
    (powerChains (modeChanged u)).rd Reg.SYS_MODE = u.rd Reg.SYS_MODE := by
  rw [(RadioOnly.powerChains _).2 _ (by decide), rd_modeChanged]

theorem mode_enterStandby (u : State) : (enterStandby u).mode = 2 := by
  rw [State.mode, State.rf, rd_enterStandby]
  exact State.rf_wf_self _ _ _ (by decide) (by decide)

theorem stepTo_standby {u : State} (hu : u.mode = 1) : stepTo u 2 = powerChains (modeChanged (enterStandby u)) := by
  have hmode : (powerChains (modeChanged (enterStandby u))).mode = 2 :=
    (mode_of_rd (rd_powerChains_modeChanged _)).trans (mode_enterStandby u)
  have hloop : (powerChains (modeChanged (enterStandby u))).loopMode = false := by
    rw [State.loopMode, hmode]
    rfl
  simp only [stepTo, hu, OfNat.one_ne_ofNat, OfNat.ofNat_ne_one, Nat.reduceEqDiff, or_self, if_false]
  exact if_neg fun h => absurd (hloop.symm.trans h) (by decide)

/-- The device in STANDBY at the end of the wake. -/
def wakeStandby (s : State) : State := stepTo ((wakeLoaded s).wf Reg.SYS_MODE 3 0 1) 2

theorem wakeStandby_eq (s : State) :
    wakeStandby s = powerChains (modeChanged (enterStandby ((wakeLoaded s).wf Reg.SYS_MODE 3 0 1))) :=
  stepTo_standby (State.rf_wf_self _ _ _ (by decide) (by decide))

theorem rd_wakeStandby (s : State) :
    (wakeStandby s).rd Reg.SYS_MODE =
      ((((wakeLoaded s).wf Reg.SYS_MODE 3 0 1).wf Reg.SYS_MODE 7 4 1).wf Reg.SYS_MODE 3 0 2).rd Reg.SYS_MODE := by
  rw [wakeStandby_eq, rd_powerChains_modeChanged, rd_enterStandby]

theorem mode_wakeStandby (s : State) : (wakeStandby s).mode = 2 := by
  rw [State.mode, State.rf, rd_wakeStandby]
  exact State.rf_wf_self _ _ _ (by decide) (by decide)

theorem prev_wakeStandby (s : State) : (wakeStandby s).rf Reg.SYS_MODE 7 4 = 1 := by
  rw [State.rf, rd_wakeStandby, fld_congr (fun b _ _ => rb_wf_of_outside _ _ _ (by decide) (by decide) (by omega))]
  exact State.rf_wf_self _ _ _ (by decide) (by decide)

theorem RadioOnly.modes {s t : State} (h : RadioOnly s t) : t.modes = s.modes := by
  rw [h.1, State.modes_mk, State.modes_eta]

theorem modeChanged_modes (s : State) : (modeChanged s).modes = s.modes := by
  unfold modeChanged
  split <;> simp

/-- The step into STANDBY keeps the slate and what the wake is for. -/
theorem modes_wakeStandby (s : State) :
    (wakeStandby s).slate = s.slate ∧ (wakeStandby s).sys.wakeTo = s.sys.wakeTo ∧ (wakeStandby s).sys.wakeReq = s.sys.wakeReq ∧
    (wakeStandby s).sys.microcode = (s.sys.microcode && s.linkImagesOk) := by
  have hloaded := wakeLoaded_modes s
  have hentered : (wakeStandby s).modes = (enterStandby ((wakeLoaded s).wf Reg.SYS_MODE 3 0 1)).modes := by
    rw [wakeStandby_eq, (RadioOnly.powerChains _).modes, modeChanged_modes]
  simp only [State.modes, Prod.mk.injEq] at hloaded hentered
  obtain ⟨hslate, hsys⟩ := hentered
  simp [hslate, hsys, enterStandby, standbyShown, State.dropOcc, hloaded]

theorem exec_wakeComplete {s : State} (hm : s.mode = 1) (hw : s.sys.wakeAt ≠ none) :
    exec .wakeComplete s = .next (wakeGoesOn (wakeStandby s)) := by
  rw [wakeStandby, ← wakeEnd_eq]
  simp only [exec, execWakeComplete, hm, Option.isSome_iff_ne_none.mpr hw, and_self, if_true]

/-! ### One word of engine state is written whole (R444, R447) -/

theorem SMap.find_store_of_ne {α : Type} [DecidableEq α] (d : α) (m : SMap α) {k j : Nat} (v : α) (h : j ≠ k) :
    (m.store d k v).find j = m.find j := by
  unfold SMap.store
  split
  · exact SMap.find_del_of_ne m h
  · exact SMap.find_put_of_ne m v h

/-- The octets `bs`, of which the first is number `k`, are stored from octet `o` on. -/
def State.putBytes (s : State) (m o k : Nat) (bs : List Byte) : State :=
  (bs.zipIdx k).foldl (fun s b => s.setByte m (o + b.2) b.1) s

theorem State.setBytes_eq (s : State) (m o : Nat) (bs : List Byte) : s.setBytes m o bs = s.putBytes m o 0 bs := rfl

theorem State.putBytes_cons (s : State) (m o k : Nat) (b : Byte) (bs : List Byte) :
    s.putBytes m o k (b :: bs) = (s.setByte m (o + k) b).putBytes m o (k + 1) bs := rfl

theorem State.putBytes_frame (s : State) (m o k : Nat) (bs : List Byte) :
    s.putBytes m o k bs = { s with mem := (s.putBytes m o k bs).mem } := by
  induction bs generalizing s k with
  | nil => rfl
  | cons b bs ih => rw [State.putBytes_cons, ih]; rfl

theorem State.find_putBytes (s : State) (m o k : Nat) (bs : List Byte) {i : Nat}
    (h : ¬(memKey m (o + k) ≤ i ∧ i < memKey m (o + k) + bs.length)) :
    SMap.find (s.putBytes m o k bs).mem i = SMap.find s.mem i := by
  induction bs generalizing s k with
  | nil => rfl
  | cons b bs ih =>
    simp only [memKey, List.length_cons] at h
    rw [State.putBytes_cons, ih _ _ (by simp only [memKey]; omega)]
    exact SMap.find_store_of_ne _ _ _ (by simp only [memKey]; omega)

theorem State.memByte_putBytes (s : State) (m o k : Nat) (bs : List Byte) {j : Nat} (hj : j < bs.length) :
    (s.putBytes m o k bs).memByte m (o + (k + j)) = bs[j] := by
  induction bs generalizing s k j with
  | nil => simp at hj
  | cons b bs ih =>
    rw [State.putBytes_cons]
    cases j with
    | zero =>
      rw [State.memByte, SMap.get, State.find_putBytes _ _ _ _ _ (by simp only [memKey]; omega)]
      exact State.memByte_setByte_self s m (o + k) b
    | succ j =>
      rw [show k + (j + 1) = k + 1 + j by omega]
      exact ih _ _ (by simpa using hj)

theorem natLE_bytesLE (k n : Nat) : natLE (bytesLE k n) = n % 2 ^ (8 * k) := by
  induction k generalizing n with
  | zero => simp [bytesLE, natLE, Nat.mod_one]
  | succ k ih =>
    have htail : (List.range k).map (fun i => byteOf n (i + 1)) = bytesLE k (n / 2 ^ 8) := by
      refine List.map_congr_left fun i _ => ?_
      rw [byteOf, byteOf, ← Nat.shiftRight_eq_div_pow, ← Nat.shiftRight_add, Nat.mul_add, Nat.add_comm]
    have hcons : bytesLE (k + 1) n = byteOf n 0 :: bytesLE k (n / 2 ^ 8) := by
      rw [bytesLE, List.range_succ_eq_map, List.map_cons, List.map_map, ← htail]
      rfl
    rw [hcons, natLE, ih, byteOf, BitVec.toNat_ofNat, show 8 * (k + 1) = 8 + 8 * k by omega, Nat.pow_add, Nat.mod_mul]
    rfl

theorem State.putWord_frame (s : State) (m i d : Nat) :
    s.putWord m i d = { s with mem := (s.putWord m i d).mem, ecc := (s.putWord m i d).ecc } := by
  unfold State.putWord State.setEccData
  rw [State.setBytes_eq, State.putBytes_frame]
  rfl

theorem State.eccData_putWord (s : State) (m i d : Nat) : (s.putWord m i d).eccData m i = d % 2 ^ (8 * eccOctets m) := by
  rw [← natLE_bytesLE]
  unfold State.eccData bytesLE
  refine congrArg natLE (List.map_congr_left fun j hj => ?_)
  have hj' : j < (bytesLE (eccOctets m) d).length := by simpa [bytesLE] using hj
  have h := State.memByte_putBytes s m (i * eccOctets m) 0 (bytesLE (eccOctets m) d) hj'
  rw [Nat.zero_add] at h
  refine h.trans ?_
  simp [bytesLE]

/-- A word of a memory but DRAM. -/
theorem wordPut_putWord (s : State) {m : Nat} (hm : m ≠ 14) (i : Nat) {d : Nat} (hd : d < 2 ^ 64) :
    WordPut m i d s (s.putWord m i d) := by
  have hk : eccOctets m = 8 := if_neg hm
  refine ⟨?_, fun j hj => ?_, fun j hj => ?_⟩
  · have hmark : (s.putWord m i d).eccMark m i = { syn := 0, v0 := 7, v1 := 0 } := by
      rw [State.eccMark, State.putWord, State.setMark, SMap.get_store_self, if_neg hm]
    rw [State.eccRead, State.eccData_putWord, hmark, hk, Nat.mod_eq_of_lt hd]
    have hgood : majority 7 = true ∧ disagree 7 = false ∧ disagree 0 = false := by decide
    simp [eccDecode, eccKept, hm, hgood]
  · exact State.find_putBytes s m (i * eccOctets m) 0 _ (by simpa [bytesLE] using hj)
  · rw [State.putWord, State.setMark, SMap.find_store_of_ne _ _ _ hj, State.setEccData, State.setBytes_eq, State.putBytes_frame]

/-! ### A trigger counts at its input (R350) -/

theorem rd_reportWord (s : State) (req m i : Nat) {a : Nat} (ha : a < 0x40050000) : (s.reportWord req m i).rd a = s.rd a := by
  have hcount (n : Nat) : a ≠ Reg.MEM_CECNT n := by unfold Reg.MEM_CECNT; omega
  have hlevel (n : Nat) : a ≠ Reg.MEM_LEVEL n := by unfold Reg.MEM_LEVEL; omega
  have huecnt (n : Nat) : a ≠ Reg.MEM_UECNTM n := by unfold Reg.MEM_UECNTM; omega
  have hueaddr : a ≠ Reg.MEM_UEADDR 0 ∧ a ≠ Reg.MEM_UEADDR 0 + 4 := by unfold Reg.MEM_UEADDR; omega
  have hothers : a ≠ Reg.MEM_UESRC ∧ a ≠ Reg.MEM_STAT ∧ a ≠ Reg.MEM_UECNT := by
    unfold Reg.MEM_UESRC Reg.MEM_STAT Reg.MEM_UECNT; omega
  obtain ⟨hsrc, hstat, hcnt⟩ := hothers
  unfold State.reportWord
  split
  · rfl
  · rfl
  · rw [State.correction, State.rd_wf_of_ne _ _ _ _ (hlevel m), State.rd_inc_of_ne _ _ (hcount m)]
  · unfold State.uncorrectable
    rw [State.rd_emit, State.rd_inc_of_ne _ _ (huecnt m), State.rd_inc_of_ne _ _ hcnt, State.rd_wb_of_ne _ _ _ hstat]
    split
    · exact (State.rd_wr_of_ne _ _ hsrc).trans ((State.rd_wr_of_ne _ _ hueaddr.2).trans (State.rd_wr_of_ne _ _ hueaddr.1))
    · rfl

theorem rd_putWord (s : State) (m i d a : Nat) : (s.putWord m i d).rd a = s.rd a := by
  rw [State.putWord_frame]; rfl

theorem cueCnt_ge (i : Nat) : 0x40020000 ≤ Reg.CUE_CNT i := by unfold Reg.CUE_CNT; omega

theorem rd_cueRead (s : State) (i : Nat) {a : Nat} (ha : a < 0x40020000) : (s.cueRead i).rd a = s.rd a := by
  have hne : a ≠ Reg.CUE_CNT i := by have := cueCnt_ge i; omega
  unfold State.cueRead
  split
  · rfl
  · dsimp only
    split
    · exact rd_reportWord _ _ _ _ (by omega)
    · rw [rd_putWord, State.rd_wr_of_ne _ _ hne, rd_reportWord _ _ _ _ (by omega)]

theorem State.memOn_twelve (s : State) : s.memOn 12 = s.mainOn := by simp [State.memOn]

theorem mainOn_cueRead (s : State) (i : Nat) : (s.cueRead i).mainOn = s.mainOn := by
  rw [State.mainOn, State.mainOn, mode_of_rd (rd_cueRead s i (by decide))]

/-- The state after the count of a trigger: `u` is that after the read of the word that keeps it. -/
def countTo (u : State) (i c : Nat) : State :=
  let t := u.inc (Reg.CUE_CNT i) c
  if u.mainOn then t.putWord 12 i (t.rd (Reg.CUE_CNT i)).toNat else t

theorem countCue_eq (s : State) (i c : Nat) : s.countCue i c = countTo (s.cueRead i) i c := by
  rw [State.countCue, State.memOn_twelve, countTo, mainOn_cueRead]

theorem rd_countTo (u : State) (i c a : Nat) : (countTo u i c).rd a = (u.inc (Reg.CUE_CNT i) c).rd a := by
  unfold countTo
  dsimp only
  split
  · rw [rd_putWord]
  · rfl

theorem countTo_frame (u : State) (i c : Nat) :
    countTo u i c = { u with regs := (countTo u i c).regs, mem := (countTo u i c).mem, ecc := (countTo u i c).ecc } := by
  unfold countTo
  dsimp only
  split
  · rw [State.putWord_frame]; rfl
  · rfl

theorem counted_countTo (u : State) (i c : Nat) : Counted i c u (countTo u i c) := by
  have hcnt : (countTo u i c).rd (Reg.CUE_CNT i) = u.rd (Reg.CUE_CNT i) + word c := by rw [rd_countTo, State.rd_inc_self]
  refine ⟨hcnt, fun h => ?_, fun h => ?_⟩
  · rw [State.memOn_twelve] at h
    rw [rd_countTo]
    unfold countTo
    rw [if_pos h]
    exact wordPut_putWord (u.inc (Reg.CUE_CNT i) c) (by decide) i (by omega)
  · rw [State.memOn_twelve] at h
    unfold countTo
    rw [if_neg (by simp [h])]
    exact ⟨rfl, rfl⟩

theorem Counted.congr {i c : Nat} {u s t : State} (h : Counted i c u s) (hrd : t.rd (Reg.CUE_CNT i) = s.rd (Reg.CUE_CNT i))
    (hmem : t.mem = s.mem) (hecc : t.ecc = s.ecc) : Counted i c u t := by
  obtain ⟨hcnt, hon, hoff⟩ := h
  refine ⟨hrd.trans hcnt, fun h => ?_, fun h => by rw [hmem, hecc]; exact hoff h⟩
  obtain ⟨hread, hout, hkeeps⟩ := hon h
  have hsame : t.eccRead 12 i = s.eccRead 12 i := by
    simp only [State.eccRead, State.eccData, State.memByte, State.eccMark, hmem, hecc]
  exact ⟨by rw [hsame, hread, hrd], by rwa [hmem], by rwa [hecc]⟩

/-! ### Wake sources (R55, R359) -/

/-- The sources that SYS.HIBCTL enables, as a list. -/
def State.enabledSources (s : State) (sources : Nat) : List Nat :=
  (List.range 4).filter fun i => sources.testBit i && s.rb Reg.SYS_HIBCTL (8 + i)

theorem sum_filter_range (f : Nat → Bool) :
    (((List.range 4).filter f).foldl (fun n i => n + 2 ^ i) 0 = 0 ↔ (List.range 4).filter f = []) ∧
    ∀ b, b < 32 → (((List.range 4).filter f).foldl (fun n i => n + 2 ^ i) 0).testBit b = decide (b ∈ (List.range 4).filter f) := by
  have hsame : (List.range 4).filter f = (List.range 4).filter fun i => [f 0, f 1, f 2, f 3].getD i false := by
    simp [List.range_succ, List.filter_cons]
  rw [hsame]
  generalize f 0 = a
  generalize f 1 = b
  generalize f 2 = c
  generalize f 3 = d
  revert a b c d
  decide

theorem wakeSources_eq_zero (s : State) (sources : Nat) : s.wakeSources sources = 0 ↔ s.enabledSources sources = [] :=
  (sum_filter_range _).1

theorem testBit_wakeSources (s : State) (sources : Nat) {b : Nat} (hb : b < 32) :
    (s.wakeSources sources).testBit b = decide (b ∈ s.enabledSources sources) := (sum_filter_range _).2 b hb

theorem enabledSources_congr {s t : State} (h : t.rd Reg.SYS_HIBCTL = s.rd Reg.SYS_HIBCTL) (sources : Nat) :
    t.enabledSources sources = s.enabledSources sources := by
  simp only [State.enabledSources, State.rb, h]

theorem rd_setBits (s : State) (a mask c : Nat) : (s.setBits a mask).rd c = (s.wr a (s.rd a ||| word mask)).rd c := rfl

theorem rb_setBits_wakeSources (s : State) (sources : Nat) {b : Nat} (hb : b < 32) :
    (s.setBits Reg.SYS_WAKESRC (s.wakeSources sources)).rb Reg.SYS_WAKESRC b =
      if b ∈ s.enabledSources sources then true else s.rb Reg.SYS_WAKESRC b := by
  have hbit : bit (word (s.wakeSources sources)) b = decide (b ∈ s.enabledSources sources) := by
    rw [← testBit_wakeSources s sources hb, bit, word_toNat, Nat.testBit_mod_two_pow, decide_eq_true hb, Bool.true_and]
  have hor : bit (s.rd Reg.SYS_WAKESRC ||| word (s.wakeSources sources)) b =
      (bit (s.rd Reg.SYS_WAKESRC) b || bit (word (s.wakeSources sources)) b) := by
    rw [bit, BitVec.toNat_or, Nat.testBit_or, bit, bit]
  rw [State.rb, rd_setBits, State.rd_wr_self, hor, hbit, State.rb]
  by_cases h : b ∈ s.enabledSources sources <;> simp [h]

theorem KeepsRegs.setBits {rs : List Nat} {s t : State} (h : KeepsRegs rs s t) {a : Nat} (mask : Nat) (ha : a ∈ rs) :
    KeepsRegs rs s (t.setBits a mask) := fun b hb => by
  have hn : b ≠ a := fun e => hb (by rw [e]; exact ha)
  obtain ⟨hrd, hraised⟩ := h b hb
  exact ⟨(State.rd_wr_of_ne _ _ hn).trans hrd, (SMap.get_put_of_ne _ _ _ hn).trans hraised⟩

theorem KeepsRegs.countTo (u : State) (i c : Nat) : KeepsRegs [Reg.CUE_CNT i] u (countTo u i c) := fun a ha => by
  rw [List.mem_singleton] at ha
  refine ⟨by rw [rd_countTo, State.rd_inc_of_ne _ _ ha], ?_⟩
  rw [countTo_frame]

theorem KeepsRegs.mono {rs rs' : List Nat} {s t : State} (h : KeepsRegs rs s t) (hsub : ∀ a ∈ rs, a ∈ rs') : KeepsRegs rs' s t :=
  fun a ha => h a fun hr => ha (hsub a hr)

/-- From `u` to `t` registers, memories and the state of the modes may change. -/
def WakeFrame (u t : State) : Prop :=
  t = { u with regs := t.regs, raised := t.raised, mem := t.mem, ecc := t.ecc, sys := t.sys }

theorem WakeFrame.trans {s t u : State} (h : WakeFrame s t) (g : WakeFrame t u) : WakeFrame s u := by
  unfold WakeFrame at *
  rw [g, h]

theorem WakeFrame.setBits (s : State) (a mask : Nat) : WakeFrame s (s.setBits a mask) := rfl

theorem WakeFrame.wb (s : State) (a b : Nat) (v : Bool) : WakeFrame s (s.wb a b v) := rfl

theorem WakeFrame.sys (s : State) (y : SysState) : WakeFrame s { s with sys := y } := rfl

theorem WakeFrame.countTo (u : State) (i c : Nat) : WakeFrame u (countTo u i c) := by
  unfold WakeFrame
  rw [countTo_frame]

theorem WakeFrame.setTrans (s : State) (x : Option Transition) : WakeFrame s (s.setTrans x) := (WakeFrame.wb ..).trans (.sys _ _)

theorem WakeFrame.wakeStart (s : State) (m : Nat) (g : Option Nat) : WakeFrame s (wakeStart s m g) :=
  (WakeFrame.setTrans s _).trans (.sys _ _)

/-- Where the state of the modes stays too. -/
theorem WakeFrame.keeps_sys {u t : State} (h : WakeFrame u t) (hsys : t.sys = u.sys) :
    t = { u with regs := t.regs, raised := t.raised, mem := t.mem, ecc := t.ecc } := by
  unfold WakeFrame at h
  rwa [hsys] at h

theorem rd_wakeStart (s : State) (m : Nat) (g : Option Nat) (a : Nat) : (wakeStart s m g).rd a = (s.wb Reg.SYS_MODE 12 true).rd a := by
  rw [← show (s.setTrans (some { target := m, since := s.slate })).rd a = (s.wb Reg.SYS_MODE 12 true).rd a from rd_setTrans ..]
  simp only [wakeStart, State.rd]

theorem State.cueRead_modes (s : State) (i : Nat) : (s.cueRead i).modes = s.modes := by
  unfold State.cueRead
  split
  · rfl
  · dsimp only
    split
    · simp
    · rw [State.putWord_frame]; simp

theorem sys_countTo (s : State) (i c : Nat) : (countTo (s.cueRead i) i c).sys = s.sys := by
  have h := State.cueRead_modes s i
  simp only [State.modes, Prod.mk.injEq] at h
  rw [countTo_frame]
  exact h.2

theorem slate_countTo (s : State) (i c : Nat) : (countTo (s.cueRead i) i c).slate = s.slate := by
  have h := State.cueRead_modes s i
  simp only [State.modes, Prod.mk.injEq] at h
  rw [countTo_frame]
  exact h.1

/-! ### SYS_WAKE_TRIGGER (R55, R359) -/

/-- The state after the trigger has counted at SYS.WAKE. -/
def wakeCounted (s : State) (c : Nat) : State := countTo (s.cueRead 213) 213 c

theorem exec_sysWakeTrigger {s : State} {sources : Nat} (count gen : Nat) (hs : sources < 16) (hon : s.aonOn = true) :
    exec (.sysWakeTrigger sources count gen) s = .next (wakeFired (wakeCounted s count) sources (some gen)) := by
  simp only [exec, execSysWakeTrigger, ok, hs, State.onAon, hon, countCue_eq, decide_true, if_true, wakeCounted]

/-- A register of SYS. -/
theorem rd_wakeCounted (s : State) (c : Nat) {a : Nat} (ha : a < 0x40020000) : (wakeCounted s c).rd a = s.rd a := by
  rw [wakeCounted, rd_countTo, State.rd_inc_of_ne _ _ (by have := cueCnt_ge 213; omega), rd_cueRead _ _ ha]

/-- The sources that fire have their bits in WAKESRC. -/
def wakeRecorded (s : State) (sources c : Nat) : State :=
  (wakeCounted s c).setBits Reg.SYS_WAKESRC ((wakeCounted s c).wakeSources sources)

theorem rd_wakeRecorded (s : State) (sources c : Nat) {a : Nat} (ha : a < 0x40020000) (hne : a ≠ Reg.SYS_WAKESRC) :
    (wakeRecorded s sources c).rd a = s.rd a := by
  rw [wakeRecorded, rd_setBits, State.rd_wr_of_ne _ _ hne, rd_wakeCounted s c ha]

theorem rb_wakeRecorded (s : State) (sources c : Nat) {b : Nat} (hb : b < 32) :
    (wakeRecorded s sources c).rb Reg.SYS_WAKESRC b =
      if b ∈ s.enabledSources sources then true else (s.cueRead 213).rb Reg.SYS_WAKESRC b := by
  rw [wakeRecorded, rb_setBits_wakeSources _ _ hb, enabledSources_congr (rd_wakeCounted s c (by decide)), State.rb,
    rd_wakeCounted s c (by decide), State.rb, rd_cueRead s 213 (by decide)]

theorem wakeRecorded_frame (s : State) (sources c : Nat) : WakeFrame (s.cueRead 213) (wakeRecorded s sources c) :=
  (WakeFrame.countTo ..).trans (.setBits ..)

theorem wakeRecorded_keeps (s : State) (sources c : Nat) :
    KeepsRegs [Reg.CUE_CNT 213, Reg.SYS_WAKESRC] (s.cueRead 213) (wakeRecorded s sources c) :=
  KeepsRegs.setBits (KeepsRegs.mono (KeepsRegs.countTo _ 213 c) (by simp)) _ (by simp)

theorem counted_wakeCounted (s : State) (c : Nat) : Counted 213 c (s.cueRead 213) (wakeCounted s c) := counted_countTo ..

theorem counted_wakeRecorded (s : State) (sources c : Nat) : Counted 213 c (s.cueRead 213) (wakeRecorded s sources c) :=
  (counted_wakeCounted s c).congr ((rd_setBits ..).trans (State.rd_wr_of_ne _ _ (by decide))) rfl rfl

theorem KeepsRegs.wakeStart {rs : List Nat} {s t : State} (h : KeepsRegs rs s t) (m : Nat) (g : Option Nat) (hr : Reg.SYS_MODE ∈ rs) :
    KeepsRegs rs s (wakeStart t m g) := fun a ha => by
  obtain ⟨hrd, hraised⟩ := KeepsRegs.wb h 12 true hr a ha
  exact ⟨(rd_wakeStart ..).trans hrd, hraised⟩

/-- In HIBERNATE, with a source that is enabled. -/
theorem wakeFired_of_hibernate {s : State} {sources c : Nat} (g : Option Nat) (hm : s.mode = 1) (hen : s.enabledSources sources ≠ []) :
    wakeFired (wakeCounted s c) sources g =
      if s.sys.wakeAt.isSome then wakeRecorded s sources c
      else wakeStart (wakeRecorded s sources c) (s.rf Reg.SYS_HIBCTL 7 4) g := by
  have hmode : (wakeCounted s c).mode = 1 := (mode_of_rd (rd_wakeCounted s c (by decide))).trans hm
  have hw : (wakeCounted s c).wakeSources sources ≠ 0 := by
    rw [Ne, wakeSources_eq_zero, enabledSources_congr (rd_wakeCounted s c (by decide))]
    exact hen
  have hctl : (wakeRecorded s sources c).rf Reg.SYS_HIBCTL 7 4 = s.rf Reg.SYS_HIBCTL 7 4 := by
    rw [State.rf, State.rf, rd_wakeRecorded _ _ _ (by decide) (by decide)]
  have hat : (wakeRecorded s sources c).sys.wakeAt = s.sys.wakeAt := by rw [← sys_countTo s 213 c]; rfl
  rw [← hctl, ← hat]
  unfold wakeFired
  dsimp only
  rw [if_neg hw, if_pos hmode]
  rfl

/-- No wake runs. -/
theorem wakeFired_starts {s : State} {sources c : Nat} (g : Option Nat) (hm : s.mode = 1) (hen : s.enabledSources sources ≠ [])
    (hat : s.sys.wakeAt = none) :
    wakeFired (wakeCounted s c) sources g = wakeStart (wakeRecorded s sources c) (s.rf Reg.SYS_HIBCTL 7 4) g := by
  rw [wakeFired_of_hibernate g hm hen, hat]
  rfl

/-- A wake runs. -/
theorem wakeFired_records {s : State} {sources c : Nat} (g : Option Nat) (hm : s.mode = 1) (hen : s.enabledSources sources ≠ [])
    (hat : s.sys.wakeAt ≠ none) : wakeFired (wakeCounted s c) sources g = wakeRecorded s sources c := by
  rw [wakeFired_of_hibernate g hm hen, if_pos (Option.isSome_iff_ne_none.mpr hat)]

theorem wakeFired_of_none {s : State} {sources c : Nat} (g : Option Nat) (hen : s.enabledSources sources = []) :
    wakeFired (wakeCounted s c) sources g = wakeCounted s c := by
  unfold wakeFired
  exact if_pos ((wakeSources_eq_zero ..).mpr ((enabledSources_congr (rd_wakeCounted s c (by decide)) sources).trans hen))

/-- Above HIBERNATE, while no transition is in progress. -/
theorem wakeFired_of_awake {s : State} {sources c : Nat} (g : Option Nat) (hm : 2 ≤ s.mode) (ht : s.sys.trans = none) :
    wakeFired (wakeCounted s c) sources g = wakeCounted s c := by
  have hmode : (wakeCounted s c).mode ≠ 1 := by rw [mode_of_rd (rd_wakeCounted s c (by decide))]; omega
  have htrans : (wakeCounted s c).sys.trans = none := by rw [wakeCounted, sys_countTo, ht]
  unfold wakeFired
  simp only [htrans, hmode, if_false, Bool.false_eq_true, ite_self]

/-- A trigger that starts a wake. -/
theorem wakeStart_ends (s : State) (sources c m : Nat) (g : Option Nat) :
    let u := s.cueRead 213
    let t := wakeStart (wakeRecorded s sources c) m g
    t = { u with regs := t.regs, raised := t.raised, mem := t.mem, ecc := t.ecc, sys := t.sys } ∧ Counted 213 c u t ∧
    GivesBits Reg.SYS_WAKESRC (s.enabledSources sources) true u t ∧ GivesBits Reg.SYS_MODE [12] true s t ∧
    KeepsRegs [Reg.CUE_CNT 213, Reg.SYS_WAKESRC, Reg.SYS_MODE] u t ∧ t.sys.wakeAt = some s.slate ∧ t.sys.wakeTo = m := by
  have hslate : (wakeRecorded s sources c).slate = s.slate := slate_countTo s 213 c
  refine ⟨(wakeRecorded_frame s sources c).trans (.wakeStart ..), ?_, fun b hb => ?_, fun b hb => ?_, ?_, ?_, ?_⟩
  · exact (counted_wakeRecorded s sources c).congr ((rd_wakeStart ..).trans (State.rd_wb_of_ne _ _ _ (by decide)))
      (by simp [wakeStart, State.setTrans]) (by simp [wakeStart, State.setTrans])
  · rw [State.rb, rd_wakeStart, State.rd_wb_of_ne _ _ _ (by decide)]
    exact rb_wakeRecorded s sources c hb
  · rw [State.rb, rd_wakeStart]
    refine (GivesBits.wb _ true (by decide) b hb).trans ?_
    rw [State.rb, rd_wakeRecorded _ _ _ (by decide) (by decide), State.rb]
  · have hkeeps : KeepsRegs [Reg.CUE_CNT 213, Reg.SYS_WAKESRC, Reg.SYS_MODE] (s.cueRead 213) (wakeRecorded s sources c) :=
      KeepsRegs.mono (wakeRecorded_keeps s sources c) (by simp)
    exact KeepsRegs.wakeStart hkeeps m g (by simp)
  · simp [wakeStart, State.setTrans, hslate]
  · simp [wakeStart, State.setTrans]

/-- Settles O16: a trigger counts, records the enabled sources and starts a wake where none runs; the wake's own writes, those of the
stored dictionary among them, leave the slate and what the wake is for until it goes on from STANDBY. -/
theorem wakeTriggersAndTheEndOfTheWake : Obligations.WakeTriggersAndTheEndOfTheWake := by
  intro sources count gen s hs hon enabled u counts
  have hexec := exec_sysWakeTrigger (s := s) count gen hs hon
  have hcounted : u.sys = s.sys ∧ (wakeCounted s count).sys = s.sys := by
    have h := State.cueRead_modes s 213
    simp only [State.modes, Prod.mk.injEq] at h
    exact ⟨h.2, sys_countTo s 213 count⟩
  obtain ⟨husys, hcsys⟩ := hcounted
  have hframe := WakeFrame.keeps_sys (WakeFrame.countTo u 213 count) (hcsys.trans husys.symm)
  refine ⟨fun hm hen hat => ?_, fun hm hat => ?_, fun h => ?_, fun hm hat => ?_⟩
  · rw [wakeFired_starts _ hm hen hat] at hexec
    exact ⟨_, hexec, wakeStart_ends s sources count _ _⟩
  · by_cases hen : enabled = []
    · rw [wakeFired_of_none _ hen] at hexec
      refine ⟨_, hexec, hframe, counted_wakeCounted s count, fun b _ => ?_, KeepsRegs.mono (KeepsRegs.countTo _ 213 count) (by simp)⟩
      rw [hen, if_neg (by simp), State.rb, State.rb, rd_wakeCounted s count (by decide), rd_cueRead s 213 (by decide)]
    · rw [wakeFired_records _ hm hen hat] at hexec
      exact ⟨_, hexec, WakeFrame.keeps_sys (wakeRecorded_frame ..) (hcsys.trans husys.symm), counted_wakeRecorded ..,
        fun b hb => rb_wakeRecorded s sources count hb, wakeRecorded_keeps s sources count⟩
  · have hnext : wakeFired (wakeCounted s count) sources (some gen) = wakeCounted s count := by
      rcases h with hen | ⟨hm, ht⟩
      · exact wakeFired_of_none _ hen
      · exact wakeFired_of_awake _ hm ht
    rw [hnext] at hexec
    exact ⟨_, hexec, hframe, counted_wakeCounted s count, KeepsRegs.countTo _ 213 count⟩
  · obtain ⟨hslate, hto, hreq, hcode⟩ := modes_wakeStandby s
    have hends := wakeEnds_wakeGoesOn (wakeStandby s)
    rw [hto, hreq] at hends
    obtain ⟨hbusy, hat', h2, hgo, hrefuse⟩ := hends
    have hlast := hbusy
    obtain ⟨-, -, hslate', -, hcode'⟩ := hlast
    rw [hslate] at hslate' hgo
    refine ⟨_, exec_wakeComplete hm hat, (hbusy.rf (by decide)).trans (mode_wakeStandby s),
      (hbusy.rf (by decide)).trans (prev_wakeStandby s), ?_, hat', hslate', h2, hgo, hrefuse⟩
    rw [hcode', hcode, State.linkImagesOk, Bool.and_assoc]

end Sys2Proof.Machine

/-! PROOFS. The RF chains (spec/03_rf_chains.md). -/

namespace Sys2Proof.Machine

/-! ### A chain's own data, and the outages of its receiver -/

/-- A command of chain n goes to the state that its meaning gives. -/
theorem Completes.of_ok {i : Instr} {s t u : State} {P : State → Prop} {n : Nat} (hn : n < 8) (he : exec i s = ok (n < 8) u) (hu : u = t)
    (hP : P t) : Completes i s P :=
  ⟨t, by rw [he, ok, if_pos (decide_eq_true hn), hu], hP⟩

theorem KeepsMap.put {α : Type} (m : SMap α) (k : Nat) (v : α) : KeepsMap k m (m.put k v) := fun _ hi => SMap.find_put_of_ne m v hi

@[simp] theorem State.chain_setChain_self (s : State) (n : Nat) (c : Chain) : (s.setChain n c).chain n = c := by
  simp [State.chain, State.setChain]

theorem State.keepsMap_setChain (s : State) (n : Nat) (c : Chain) : KeepsMap n s.rfs.chains (s.setChain n c).rfs.chains :=
  fun _ hi => SMap.find_store_of_ne _ _ _ hi

@[simp] theorem State.chain_truncateChain (s : State) (m n : Nat) : (truncateChain s m).chain n = s.chain n := rfl

@[simp] theorem State.chain_addOut (s : State) (m : Nat) (k : OutKind) (till : Option Nat) (id n : Nat) :
    (s.addOut m k till id).chain n = s.chain n := rfl

/-- The outage has not ended by tick `now`. -/
def Outage.runs (o : Outage) (now : Nat) : Bool := match o.till with | some t => decide (now < t) | none => true

/-- An outage of chain n of kind k that still runs ends now. -/
def Outage.endAt (now n : Nat) (k : OutKind) (o : Outage) : Outage :=
  if o.chain = n ∧ o.kind = k ∧ o.runs now = true then { o with till := some now } else o

theorem State.outs_endOut (s : State) (n : Nat) (k : OutKind) :
    (s.endOut n k).rfs.outs = s.rfs.outs.map (Outage.endAt s.slate n k) := rfl

theorem Outage.endAt_of_ne {now n : Nat} {k : OutKind} {o : Outage} (h : o.chain ≠ n ∨ o.kind ≠ k) : o.endAt now n k = o :=
  if_neg fun hc => h.elim (absurd hc.1) (absurd hc.2.1)

theorem Outage.has_of_not_runs {now : Nat} {o : Outage} (h : ¬o.runs now = true) : o.has (8 * now) = false := by
  cases htill : o.till with
  | none => exact absurd (by rw [Outage.runs, htill]) h
  | some t =>
    have hover : t ≤ now := by simpa [Outage.runs, htill] using h
    simp only [Outage.has, htill, Bool.and_eq_false_iff, decide_eq_false_iff_not]
    omega

/-- An outage of chain n of kind k, once it has been ended, does not have the present tick. -/
theorem Outage.has_endAt {now n : Nat} {k : OutKind} {o : Outage} (hn : (o.endAt now n k).chain = n) (hk : (o.endAt now n k).kind = k) :
    (o.endAt now n k).has (8 * now) = false := by
  by_cases h : o.chain = n ∧ o.kind = k ∧ o.runs now = true
  · rw [Outage.endAt, if_pos h]
    simp [Outage.has]
  · rw [Outage.endAt, if_neg h] at hn hk ⊢
    exact Outage.has_of_not_runs fun hr => h ⟨hn, hk, hr⟩

theorem State.endOut_ended {s : State} {n : Nat} {k : OutKind} {o : Outage} (h : o ∈ (s.endOut n k).rfs.outs) (hn : o.chain = n)
    (hk : o.kind = k) : o.has (8 * s.slate) = false := by
  rw [State.outs_endOut] at h
  obtain ⟨p, -, rfl⟩ := List.mem_map.mp h
  exact Outage.has_endAt hn hk

theorem State.mem_endOut_of_ne {s : State} {n : Nat} {k : OutKind} {o : Outage} (h : o ∈ s.rfs.outs) (hne : o.chain ≠ n ∨ o.kind ≠ k) :
    o ∈ (s.endOut n k).rfs.outs := by
  rw [State.outs_endOut]
  exact List.mem_map.mpr ⟨o, h, Outage.endAt_of_ne hne⟩

/-! ### Ends of a power-up, a retune and a relock (R69-R71) -/

theorem chainUpEnd_of_due {s : State} {n e : Nat} (hup : (s.chain n).upAt = some e) (he : e ≤ s.slate) :
    chainUpEnd s n = measureCal (s.setChain n { s.chain n with upAt := none, locked := true }) n 0 := by
  simp only [chainUpEnd, hup, if_pos he]

theorem retuneEnd_of_due {s : State} {n e : Nat} (hre : (s.chain n).retuneAt = some e) (he : e ≤ s.slate) :
    retuneEnd s n =
      s.setChain n { s.chain n with retuneAt := none, locked := (s.chain n).relockAt.isNone, dcTill := some (s.slate + 3200) } := by
  simp only [retuneEnd, hre, if_pos he]

theorem relock_of_lost {s : State} {n e : Nat} (hlost : (s.chain n).relockAt = some e) :
    relock s n = (s.setChain n { s.chain n with locked := true, relockAt := none }).endOut n .unlock := by
  simp only [relock, hlost, Option.isSome_some, if_true]

/-! ### The FEM pins (R80) -/

section
variable {s : State} {u : Tx} (htx : s.rfs.txs = [u])
include htx

theorem pa_femPins : ((femPins s u.chain).chain u.chain).pa = true ↔
    u.femcfg.testBit 4 = true ∧ u.t0 - u.ramp - u.paLead ≤ s.slate ∧ s.slate < u.radEnd + u.paLag := by
  simp [femPins, htx, and_assoc, and_comm]

theorem tr_femPins : ((femPins s u.chain).chain u.chain).tr = true ↔
    u.t0 - u.ramp - u.trLead ≤ s.slate ∧ s.slate < u.radEnd + u.trLag := by
  simp [femPins, htx]

end

/-! ### The gain of a branch (R82) -/

/-- The lowest bit of the gain step of branch A or B in RFCn.GAIN. -/
def gainBit (isB : Bool) : Nat := if isB then 8 else 0

/-- The gain step of a branch of chain n. -/
def State.gainStep (s : State) (n : Nat) (isB : Bool) : Nat := s.rf (Reg.RFC_GAIN n) (gainBit isB + 3) (gainBit isB)

/-- Chain c with the quiet time of a branch starting at tick `now`. -/
def Chain.quietFrom (c : Chain) (isB : Bool) (now : Nat) : Chain :=
  if isB then { c with quietB := now } else { c with quietA := now }

/-- A branch of chain n at gain step v, with its quiet time starting now. -/
def stepGain (s : State) (n : Nat) (isB : Bool) (v : Nat) : State :=
  (s.wf (Reg.RFC_GAIN n) (gainBit isB + 3) (gainBit isB) v).setChain n ((s.chain n).quietFrom isB s.slate)

/-- The branch is powered and sets its own gain. -/
def State.autoGain (s : State) (n : Nat) (isB : Bool) : Prop :=
  (s.chain n).on = true ∧ s.rb (Reg.RFC_AGC n) 0 = false ∧ (isB = true → s.rb (Reg.RFC_CTL n) 8 = true)

/-- The branch has been quiet for HOLD milliseconds. -/
def State.quietHeld (s : State) (n : Nat) (isB : Bool) : Prop :=
  (if isB then (s.chain n).quietB else (s.chain n).quietA) + 32000 * s.rf (Reg.RFC_AGC n) 23 16 ≤ s.slate

section
variable {s : State} {n : Nat} {isB : Bool} (hauto : s.autoGain n isB)
include hauto

theorem agcBlock_loud : agcBlock s n isB .loud = stepGain s n isB (s.gainStep n isB - 1) := by
  obtain ⟨hon, hman, hbrb⟩ := hauto
  cases isB <;> simp_all [agcBlock, stepGain, State.gainStep, gainBit, Chain.quietFrom]

theorem agcBlock_middle : agcBlock s n isB .middle = s.setChain n ((s.chain n).quietFrom isB s.slate) := by
  obtain ⟨hon, hman, hbrb⟩ := hauto
  cases isB <;> simp_all [agcBlock, Chain.quietFrom]

theorem agcBlock_quiet_of_held (hheld : s.quietHeld n isB) :
    agcBlock s n isB .quiet = stepGain s n isB (min 10 (s.gainStep n isB + 1)) := by
  obtain ⟨hon, hman, hbrb⟩ := hauto
  cases isB <;> simp_all [agcBlock, stepGain, State.quietHeld, State.gainStep, gainBit, Chain.quietFrom]

theorem agcBlock_quiet_of_not_held (hheld : ¬s.quietHeld n isB) : agcBlock s n isB .quiet = s := by
  obtain ⟨hon, hman, hbrb⟩ := hauto
  cases isB <;> simp_all [agcBlock, State.quietHeld]

end

/-- Only chain n and the gain step of one of its branches differ between `s` and `t`: the branch stands at step v, and its quiet time
starts now. -/
def Gained (n : Nat) (isB : Bool) (v : Nat) (s t : State) : Prop :=
  t = { s with regs := t.regs, raised := t.raised, rfs := { s.rfs with chains := t.rfs.chains } } ∧ KeepsMap n s.rfs.chains t.rfs.chains ∧
  t.chain n = (s.chain n).quietFrom isB s.slate ∧ GivesField (Reg.RFC_GAIN n) (gainBit isB + 3) (gainBit isB) v s t ∧
  KeepsRegs [Reg.RFC_GAIN n] s t

theorem gained_restart (s : State) (n : Nat) (isB : Bool) :
    Gained n isB (s.gainStep n isB) s (s.setChain n ((s.chain n).quietFrom isB s.slate)) :=
  ⟨rfl, s.keepsMap_setChain _ _, State.chain_setChain_self .., ⟨rfl, fun _ _ _ => rfl⟩, .of_regs rfl rfl⟩

theorem gained_stepGain (s : State) (n : Nat) (isB : Bool) {v : Nat} (hv : v < 16) : Gained n isB v s (stepGain s n isB v) := by
  refine ⟨rfl, State.keepsMap_setChain _ _ _, State.chain_setChain_self .., ?_, (KeepsRegs.refl _ s).wf _ _ _ (List.mem_singleton_self _)⟩
  cases isB <;> exact GivesField.wf s (by decide) (by decide) hv

theorem State.gainStep_lt (s : State) (n : Nat) (isB : Bool) : s.gainStep n isB < 16 := by
  cases isB <;> exact Nat.mod_lt _ (by decide)

/-- Settles O24: each end and each block is one update of the chain, as said above. -/
theorem chainsPowerUpRelockSwitchAndSetTheirGain : Obligations.ChainsPowerUpRelockSwitchAndSetTheirGain := by
  intro n e u isB s hn c lo g quiet held auto onlyChain gained
  have hg : g < 16 := s.gainStep_lt n isB
  have hgains {power : AgcPower} {t : State} {v : Nat} (ht : agcBlock s n isB power = t) (h : Gained n isB v s t) :
      Completes (.agcGainStep n isB power) s fun t => gained t v := .of_ok hn rfl ht h
  refine ⟨fun hup he => ?_, fun hre he => ?_, fun hlost => ?_, fun htx hu => ?_, fun ha => ?_, fun ha => ?_, fun ha hh => ?_,
    fun ha hh => ?_⟩
  · refine .of_ok hn rfl (chainUpEnd_of_due hup he) ⟨rfl, ?_, ?_, ?_⟩
    · exact s.keepsMap_setChain _ _
    · exact .put _ (4 * n) _
    · exact State.chain_setChain_self ..
  · refine .of_ok hn rfl (retuneEnd_of_due hre he) ⟨⟨rfl, ?_⟩, ?_⟩
    · exact s.keepsMap_setChain _ _
    · exact State.chain_setChain_self ..
  · refine .of_ok hn rfl (relock_of_lost hlost) ⟨rfl, ?_, ?_, ?_, ?_, ?_⟩
    · exact s.keepsMap_setChain _ _
    · exact State.chain_setChain_self ..
    · exact List.length_map _
    · exact fun o ho => State.endOut_ended ho
    · exact fun o ho => State.mem_endOut_of_ne (s := s.setChain n _) ho
  · subst hu
    exact .of_ok hn rfl rfl ⟨⟨rfl, s.keepsMap_setChain _ _⟩, pa_femPins htx, tr_femPins htx, by simp [femPins, c]⟩
  · exact hgains (agcBlock_loud ha) (gained_stepGain s n isB (by omega))
  · exact hgains (agcBlock_middle ha) (gained_restart s n isB)
  · exact hgains (agcBlock_quiet_of_held ha hh) (gained_stepGain s n isB (by omega))
  · exact .of_ok hn rfl (agcBlock_quiet_of_not_held ha hh) rfl

/-! ### The order in which calibrations wait (R90) -/

section
variable {α : Type} (f : α → Nat)

theorem pairwise_insertBy (x : α) {l : List α} (hl : l.Pairwise fun a b => f a ≤ f b) :
    (insertBy (fun a b => decide (f a ≤ f b)) x l).Pairwise fun a b => f a ≤ f b := by
  induction l with
  | nil => exact List.pairwise_singleton _ x
  | cons y l ih =>
    obtain ⟨hy, hl⟩ := List.pairwise_cons.mp hl
    unfold insertBy
    split
    case isTrue hle =>
      refine List.pairwise_cons.mpr ⟨fun b hb => ?_, ih hl⟩
      rcases List.mem_cons.mp ((insertBy_perm _ x l).mem_iff.mp hb) with rfl | hb
      · exact of_decide_eq_true hle
      · exact hy b hb
    case isFalse hlt =>
      have hxy : f x ≤ f y := by simp only [decide_eq_true_eq] at hlt; omega
      exact List.pairwise_cons.mpr ⟨List.forall_mem_cons.mpr ⟨hxy, fun b hb => hxy.trans (hy b hb)⟩, List.pairwise_cons.mpr ⟨hy, hl⟩⟩

theorem pairwise_sortBy (l : List α) : (sortBy (fun a b => decide (f a ≤ f b)) l).Pairwise fun a b => f a ≤ f b :=
  foldl_keeps (P := fun acc : List α => acc.Pairwise fun a b => f a ≤ f b) (fun _ x h => pairwise_insertBy f x h) l [] .nil

end

/-- The calibrations of a chain after command k: the one that runs, and behind it those that wait in the order of R90. -/
def CalRun.todoWith (r : CalRun) (k : Nat) : List Nat :=
  (if r.till.isSome then r.todo.take 1 else []) ++
    sortBy (fun a b => decide (calOrder a ≤ calOrder b)) ((if r.till.isSome then r.todo.tail else r.todo) ++ [k])

theorem CalRun.mem_todoWith {r : CalRun} {k j : Nat} : j ∈ r.todoWith k ↔ j = k ∨ j ∈ r.todo := by
  have htodo : j ∈ r.todo ↔ j ∈ r.todo.take 1 ∨ j ∈ r.todo.tail := by cases r.todo <;> simp
  cases hrun : r.till.isSome <;> simp [CalRun.todoWith, mem_sortBy, hrun, htodo] <;> tauto

/-- Behind the one that runs, the calibrations stand in the order of R90. -/
theorem CalRun.todoWith_ordered (r : CalRun) (k : Nat) :
    (if r.till = none then r.todoWith k else (r.todoWith k).drop 1).Pairwise fun a b => calOrder a ≤ calOrder b := by
  unfold CalRun.todoWith
  cases htill : r.till with
  | none => exact pairwise_sortBy calOrder _
  | some e =>
    cases htodo : r.todo with
    | nil => exact (pairwise_sortBy calOrder _).drop
    | cons i l => exact pairwise_sortBy calOrder _

theorem CalRun.todoWith_head {r : CalRun} (k : Nat) (hrun : r.till ≠ none) (htodo : r.todo ≠ []) :
    (r.todoWith k).head? = r.todo.head? := by
  obtain ⟨e, he⟩ := Option.ne_none_iff_exists'.mp hrun
  obtain ⟨i, l, hl⟩ := List.exists_cons_of_ne_nil htodo
  simp [CalRun.todoWith, he, hl]

/-! ### Calibration commands (R88, R89) -/

/-- The chain is powered and its mode accepts calibration k (R88). -/
def State.calAccepts (s : State) (n k : Nat) : Bool :=
  (s.chain n).on && (s.loopMode || (decide (4 ≤ s.mode ∧ s.mode ≤ 6) && k != 3))

theorem State.calAccepts_iff {s : State} {n k : Nat} :
    s.calAccepts n k = true ↔ (s.chain n).on = true ∧ (s.mode = 3 ∨ s.mode = 7 ∨ (4 ≤ s.mode ∧ s.mode ≤ 6 ∧ k ≠ 3)) := by
  simp only [State.calAccepts, State.loopMode, Bool.and_eq_true, Bool.or_eq_true, beq_iff_eq, decide_eq_true_eq, bne_iff_ne, or_assoc, and_assoc]

/-- The command of calibration k. -/
def calCommand (n k : Nat) : Instr := match k with | 0 => .calDc n | 1 => .calIq n | 2 => .calFc n | _ => .calPa n

theorem exec_calCommand (n : Nat) {k : Nat} (s : State) (hk : k < 4) : exec (calCommand n k) s = ok (n < 8) (calCmd s n k) := by
  interval_cases k <;> rfl

theorem calCmd_of_not_accepted {s : State} {n k : Nat} (h : ¬s.calAccepts n k = true) :
    calCmd s n k = s.wb (Reg.RFC_CALSTAT n) (12 + k) true := by
  rw [Bool.not_eq_true] at h
  exact if_pos (by rw [State.calAccepts] at h; rw [h]; rfl)

theorem mode_ne_calStat (n : Nat) : Reg.SYS_MODE ≠ Reg.RFC_CALSTAT n := by
  unfold Reg.SYS_MODE Reg.RFC_CALSTAT
  omega

section
variable {s : State} {n k : Nat} (haccepts : s.calAccepts n k = true)
include haccepts

theorem calCmd_of_busy (hbusy : s.rb (Reg.RFC_CALSTAT n) k = true) : calCmd s n k = s := by
  rw [State.calAccepts] at haccepts
  simp only [calCmd, haccepts, hbusy, Bool.not_true, Bool.false_eq_true, if_false, if_true]

theorem calCmd_first (hidle : s.rb (Reg.RFC_CALSTAT n) k = false) (hcal : (s.chain n).cal = none) :
    calCmd s n k = (s.wb (Reg.RFC_CALSTAT n) k true).setChain n
      { s.chain n with cal := some { since := s.slate, drain := !s.loopMode, todo := [k] } } := by
  rw [State.calAccepts] at haccepts
  have hmode : (s.wb (Reg.RFC_CALSTAT n) k true).loopMode = s.loopMode := by
    simp only [State.loopMode, mode_of_rd (State.rd_wb_of_ne s k true (mode_ne_calStat n))]
  simp only [calCmd, haccepts, hidle, hcal, hmode, Bool.not_true, Bool.false_eq_true, if_false]
  rfl

theorem calCmd_behind {r : CalRun} (hidle : s.rb (Reg.RFC_CALSTAT n) k = false) (hcal : (s.chain n).cal = some r) :
    calCmd s n k = (s.wb (Reg.RFC_CALSTAT n) k true).setChain n { s.chain n with cal := some { r with todo := r.todoWith k } } := by
  rw [State.calAccepts] at haccepts
  simp only [calCmd, haccepts, hidle, hcal, Bool.not_true, Bool.false_eq_true, if_false]
  rfl

end

/-- Chain n takes on calibration k: its busy bit is set, and only that bit and the chain change. -/
def Queued (n k : Nat) (s t : State) : Prop :=
  t = { s with regs := t.regs, raised := t.raised, rfs := { s.rfs with chains := t.rfs.chains } } ∧ KeepsMap n s.rfs.chains t.rfs.chains ∧
  GivesBits (Reg.RFC_CALSTAT n) [k] true s t ∧ KeepsRegs [Reg.RFC_CALSTAT n] s t

theorem queued_wb_setChain (s : State) (n : Nat) {k : Nat} (c : Chain) (hk : k < 4) :
    Queued n k s ((s.wb (Reg.RFC_CALSTAT n) k true).setChain n c) :=
  ⟨rfl, s.keepsMap_setChain n c, GivesBits.wb s true (by omega), (KeepsRegs.refl _ s).wb _ _ (List.mem_singleton_self _)⟩

/-! ### The suspension of a chain (R89) -/

/-- What a truncation leaves is neither a take in flight on the chain nor a detection that waits for one. -/
theorem takesOn_truncateChain (s : State) {n : Nat} (hn : n < 8) : (truncateChain s n).takesOn n = false := by
  have h8 : n ≠ 8 := by omega
  simp only [State.takesOn, truncateChain, Bool.or_eq_false_iff, List.any_eq_false, List.mem_map]
  constructor
  · rintro _ ⟨⟨d, x⟩, -, rfl⟩
    by_cases hx : x.chain = n <;> cases hout : x.outcome <;> simp [hx, hout, h8]
  · rintro _ ⟨x, -, rfl⟩
    by_cases hx : x.chain = n <;> cases hcut : x.cut <;> simp [hx, hcut, h8]

/-- A truncation does not keep a chain from suspending. -/
theorem calReady_truncateChain {s : State} {n : Nat} (hn : n < 8) (hready : s.calReady n = true) :
    (truncateChain s n).calReady n = true := by
  unfold State.calReady at hready ⊢
  rw [State.chain_truncateChain, takesOn_truncateChain s hn]
  split at hready
  · simp only [Bool.and_eq_true] at hready
    obtain ⟨⟨⟨htill, hup⟩, htx⟩, -⟩ := hready
    simp only [htill, hup, Bool.not_false, Bool.or_true, Bool.true_or, Bool.and_true, Bool.true_and]
    exact htx
  · exact absurd hready (by decide)

/-- The state in which chain n suspends: where its drain limit has come, its takes have been truncated. -/
def calDrained (s : State) (n : Nat) : State := if s.calLimit n then truncateChain s n else s

theorem calDrained_frame (s : State) (n : Nat) : calDrained s n =
    { s with lnk := { s.lnk with takes := (calDrained s n).lnk.takes }, chz := { s.chz with dets := (calDrained s n).chz.dets } } := by
  unfold calDrained
  split <;> rfl

theorem calDrained_of_no_limit {s : State} {n : Nat} (h : s.calLimit n = false) : calDrained s n = s := by
  rw [calDrained, h, if_neg Bool.false_ne_true]

theorem takesOn_calDrained_of_limit {s : State} {n : Nat} (hn : n < 8) (h : s.calLimit n = true) : (calDrained s n).takesOn n = false := by
  rw [calDrained, if_pos h]
  exact takesOn_truncateChain s hn

theorem calReady_calDrained {s : State} {n : Nat} (hn : n < 8) (hready : s.calReady n = true) : (calDrained s n).calReady n = true := by
  unfold calDrained
  split
  · exact calReady_truncateChain hn hready
  · exact hready

/-- The first calibration that waits starts as the chain suspends. -/
theorem calSuspend_of_ready {s : State} {n k : Nat} {r : CalRun} {l : List Nat} (hn : n < 8) (hcal : (s.chain n).cal = some r)
    (htodo : r.todo = k :: l) (hready : s.calReady n = true) :
    calSuspend s n = ((calDrained s n).addOut n .cal none).setChain n
      { s.chain n with cal := some { r with drain := false, till := some (s.slate + calTicks k) } } := by
  have hslate : (calDrained s n).slate = s.slate := by rw [calDrained_frame]
  have hchain : (calDrained s n).chain n = s.chain n := by rw [calDrained_frame]; rfl
  have hsuspend : calSuspend s n = calRunFirst ((calDrained s n).addOut n .cal none) n r := by
    unfold calSuspend
    exact (if_pos (calReady_calDrained hn hready)).trans (by rw [← calDrained, hchain, hcal])
  rw [hsuspend, calRunFirst, htodo, State.chain_addOut, hchain]
  simp only [State.addOut, State.pruneOuts, hslate]

@[simp] theorem State.takesOn_setChain (s : State) (m : Nat) (c : Chain) (n : Nat) : (s.setChain m c).takesOn n = s.takesOn n := rfl

@[simp] theorem State.takesOn_addOut (s : State) (m : Nat) (k : OutKind) (till : Option Nat) (id n : Nat) :
    (s.addOut m k till id).takesOn n = s.takesOn n := rfl

/-- Chain n has suspended in the present tick and runs calibration k, the first of those of r (R89). -/
def Suspended (n k : Nat) (r : CalRun) (s t : State) : Prop :=
  t = { s with rfs := { s.rfs with chains := t.rfs.chains, outs := t.rfs.outs }, lnk := { s.lnk with takes := t.lnk.takes },
               chz := { s.chz with dets := t.chz.dets } } ∧
  (s.calLimit n = false → t.lnk = s.lnk ∧ t.chz = s.chz) ∧ (s.calLimit n = true → t.takesOn n = false) ∧
  KeepsMap n s.rfs.chains t.rfs.chains ∧ { chain := n, kind := .cal, since := s.slate, till := none } ∈ t.rfs.outs ∧
  t.chain n = { s.chain n with cal := some { r with drain := false, till := some (s.slate + calTicks k) } }

theorem suspended_calSuspend {s : State} {n k : Nat} {r : CalRun} {l : List Nat} (hn : n < 8) (hcal : (s.chain n).cal = some r)
    (htodo : r.todo = k :: l) (hready : s.calReady n = true) : Suspended n k r s (calSuspend s n) := by
  rw [calSuspend_of_ready hn hcal htodo hready]
  refine ⟨?_, fun hlimit => ?_, fun hlimit => ?_, ?_, ?_, State.chain_setChain_self ..⟩
  · rw [calDrained_frame]; rfl
  · rw [calDrained_of_no_limit hlimit]; exact ⟨rfl, rfl⟩
  · rw [State.takesOn_setChain, State.takesOn_addOut, takesOn_calDrained_of_limit hn hlimit]
  · rw [calDrained_frame]; exact s.keepsMap_setChain _ _
  · rw [calDrained_frame]; exact List.mem_cons_self

/-! ### The end of a calibration (R90, R540) -/

/-- Calibration k of chain n has ended, converged or not. -/
def calMarked (s : State) (n k : Nat) (converged : Bool) : State :=
  let s := (s.wb (Reg.RFC_CALSTAT n) k false).wb (Reg.RFC_CALSTAT n) ((if converged then 4 else 8) + k) true
  let s := s.emit [(if converged then 85 else 86) + 4 * n]
  if converged then measureCal s n k else s

/-- What has been told of that calibration, a PA calibration's drift too, before the next one starts. -/
def calTold (s : State) (n k : Nat) (converged : Bool) (drift : Int) : State :=
  if k = 3 then paDrift (calMarked s n k converged) n drift else calMarked s n k converged

theorem calEnd_of_due {s : State} {n k e : Nat} {r : CalRun} (converged : Bool) (drift : Int)
    (hcal : (s.chain n).cal = some { r with todo := k :: r.todo, till := some e }) (he : e ≤ s.slate) :
    calEnd s n converged drift =
      calRunFirst (calTold s n k converged drift) n { r with till := none } := by
  simp only [calEnd, hcal, if_pos he]
  rfl

theorem paDrift_frame (s : State) (n : Nat) (drift : Int) :
    paDrift s n drift = { s with regs := (paDrift s n drift).regs, raised := (paDrift s n drift).raised } := by
  unfold paDrift
  dsimp only
  split <;> rfl

theorem keepsRegs_paDrift (s : State) (n : Nat) (drift : Int) : KeepsRegs [Reg.SUP_PADRIFT n, Reg.SUP_STAT] s (paDrift s n drift) := by
  have hwr : KeepsRegs [Reg.SUP_PADRIFT n, Reg.SUP_STAT] s (s.wr (Reg.SUP_PADRIFT n) (word (toU 16 drift))) :=
    (KeepsRegs.refl _ s).wr _ List.mem_cons_self
  unfold paDrift
  dsimp only
  split
  · exact hwr.wb _ _ (by simp)
  · exact hwr

theorem rd_paDrift_self (s : State) (n : Nat) (drift : Int) :
    (paDrift s n drift).rd (Reg.SUP_PADRIFT n) = word (toU 16 drift) := by
  have hne : Reg.SUP_PADRIFT n ≠ Reg.SUP_STAT := by unfold Reg.SUP_PADRIFT Reg.SUP_STAT; omega
  unfold paDrift
  dsimp only
  split
  · rw [State.rd_wb_of_ne _ _ _ hne, State.rd_wr_self]
  · rw [State.rd_wr_self]

theorem calMarked_frame (s : State) (n k : Nat) (converged : Bool) : calMarked s n k converged =
    { s with regs := (calMarked s n k converged).regs, raised := (calMarked s n k converged).raised,
             cue := { s.cue with pending := s.cue.pending ++ s.cuesOf [(if converged then 85 else 86) + 4 * n] 1 },
             free := (calMarked s n k converged).free, rfs := { s.rfs with live := (calMarked s n k converged).rfs.live } } := by
  cases converged <;> rfl

theorem keepsRegs_calMarked (s : State) (n k : Nat) (converged : Bool) :
    KeepsRegs [Reg.RFC_CALSTAT n] s (calMarked s n k converged) := by
  have hwb (b : Nat) : KeepsRegs [Reg.RFC_CALSTAT n] s ((s.wb (Reg.RFC_CALSTAT n) k false).wb (Reg.RFC_CALSTAT n) b true) :=
    ((KeepsRegs.refl _ s).wb _ _ (List.mem_singleton_self _)).wb _ _ (List.mem_singleton_self _)
  cases converged <;> exact hwb _

/-- The busy bit of the calibration is clear, and its DONE or FAIL bit set. -/
theorem rb_calMarked (s : State) (n : Nat) {k : Nat} (converged : Bool) (hk : k < 4) {b : Nat} (hb : b < 32) :
    (calMarked s n k converged).rb (Reg.RFC_CALSTAT n) b =
      if b = k then false else if b = (if converged then 4 else 8) + k then true else s.rb (Reg.RFC_CALSTAT n) b := by
  have hbits (d : Nat) (hd : 0 < d) (h32 : d + k < 32) :
      ((s.wb (Reg.RFC_CALSTAT n) k false).wb (Reg.RFC_CALSTAT n) (d + k) true).rb (Reg.RFC_CALSTAT n) b =
        if b = k then false else if b = d + k then true else s.rb (Reg.RFC_CALSTAT n) b := by
    by_cases hbd : b = d + k
    · rw [if_neg (by omega), if_pos hbd, hbd, State.rb_wb_self _ _ _ h32]
    · rw [rb_wb_of_ne _ _ _ h32 hb hbd, if_neg hbd]
      by_cases hbk : b = k
      · rw [if_pos hbk, hbk, State.rb_wb_self _ _ _ (by omega)]
      · rw [if_neg hbk, rb_wb_of_ne _ _ _ (by omega) hb hbk]
  cases converged
  · exact hbits 8 (by decide) (by omega)
  · exact hbits 4 (by decide) (by omega)

theorem calTold_frame (s : State) (n k : Nat) (converged : Bool) (drift : Int) : calTold s n k converged drift =
    { calMarked s n k converged with
      regs := (calTold s n k converged drift).regs, raised := (calTold s n k converged drift).raised } := by
  unfold calTold
  split
  · exact paDrift_frame ..
  · rfl

theorem rfs_calTold (s : State) (n k : Nat) (converged : Bool) (drift : Int) :
    (calTold s n k converged drift).rfs = { s.rfs with live := (calMarked s n k converged).rfs.live } := by
  rw [calTold_frame]
  exact congrArg State.rfs (calMarked_frame s n k converged)

theorem chain_calTold (s : State) (n k : Nat) (converged : Bool) (drift : Int) (m : Nat) :
    (calTold s n k converged drift).chain m = s.chain m := by
  rw [State.chain, rfs_calTold]
  rfl

theorem keepsMap_calMarked (s : State) (n k : Nat) (converged : Bool) :
    KeepsMap (4 * n + k) s.rfs.live (calMarked s n k converged).rfs.live := by
  cases converged
  · exact fun _ _ => rfl
  · exact .put _ _ _

/-- A drift is stored apart from what the chain's own registers hold. -/
theorem keepsRegs_calTold_calMarked (s : State) (n k : Nat) (converged : Bool) (drift : Int) :
    KeepsRegs (if k = 3 then [Reg.SUP_PADRIFT n, Reg.SUP_STAT] else []) (calMarked s n k converged)
      (calTold s n k converged drift) := by
  unfold calTold
  split
  · exact keepsRegs_paDrift _ n drift
  · exact .refl _ _

theorem keepsRegs_calTold (s : State) (n k : Nat) (converged : Bool) (drift : Int) :
    KeepsRegs ([Reg.RFC_CALSTAT n] ++ if k = 3 then [Reg.SUP_PADRIFT n, Reg.SUP_STAT] else []) s (calTold s n k converged drift) :=
  ((keepsRegs_calMarked s n k converged).mono fun _ => List.mem_append_left _).trans
    ((keepsRegs_calTold_calMarked s n k converged drift).mono fun _ => List.mem_append_right _)

theorem rd_calStat_calTold (s : State) {n : Nat} (k : Nat) (converged : Bool) (drift : Int) (hn : n < 8) :
    (calTold s n k converged drift).rd (Reg.RFC_CALSTAT n) = (calMarked s n k converged).rd (Reg.RFC_CALSTAT n) := by
  refine (keepsRegs_calTold_calMarked s n k converged drift _ ?_).1
  split
  · simp only [List.mem_cons, List.not_mem_nil, or_false, Reg.RFC_CALSTAT, Reg.SUP_PADRIFT, Reg.SUP_STAT]
    omega
  · exact List.not_mem_nil

/-! ### The next calibration of a chain (R89, R90) -/

theorem calRunFirst_nil (s : State) (n : Nat) {c : CalRun} (h : c.todo = []) :
    calRunFirst s n c = (s.setChain n { s.chain n with cal := none }).endOut n .cal := by
  rw [calRunFirst, h]

theorem calRunFirst_cons (s : State) (n : Nat) {c : CalRun} {j : Nat} {l : List Nat} (h : c.todo = j :: l) :
    calRunFirst s n c = s.setChain n { s.chain n with cal := some { c with drain := false, till := some (s.slate + calTicks j) } } := by
  rw [calRunFirst, h]

theorem calRunFirst_frame (s : State) (n : Nat) (c : CalRun) : calRunFirst s n c =
    { s with rfs := { s.rfs with chains := (calRunFirst s n c).rfs.chains, outs := (calRunFirst s n c).rfs.outs } } := by
  unfold calRunFirst
  split <;> rfl

theorem rd_calRunFirst (s : State) (n : Nat) (c : CalRun) (a : Nat) : (calRunFirst s n c).rd a = s.rd a := by
  rw [calRunFirst_frame]
  rfl

theorem raised_calRunFirst (s : State) (n : Nat) (c : CalRun) : (calRunFirst s n c).raised = s.raised := by
  rw [calRunFirst_frame]

theorem keepsMap_calRunFirst (s : State) (n : Nat) (c : CalRun) : KeepsMap n s.rfs.chains (calRunFirst s n c).rfs.chains := by
  unfold calRunFirst
  split <;> exact s.keepsMap_setChain _ _

/-- Calibration k of chain n has ended, and the first of those that `r` still waits to run starts, or the suspension ends (R90). -/
def CalEnded (n k : Nat) (conv : Bool) (drift : Int) (r : CalRun) (s t : State) : Prop :=
  t = { s with regs := t.regs, raised := t.raised, cue := t.cue, free := t.free,
               rfs := { s.rfs with chains := t.rfs.chains, outs := t.rfs.outs, live := t.rfs.live } } ∧
  (conv = false → t.rfs.live = s.rfs.live ∧ t.free = s.free) ∧ KeepsMap (4 * n + k) s.rfs.live t.rfs.live ∧
  KeepsMap n s.rfs.chains t.rfs.chains ∧ Fires [(if conv then 85 else 86) + 4 * n] 1 s t ∧
  (∀ b, b < 32 → t.rb (Reg.RFC_CALSTAT n) b =
    if b = k then false else if b = (if conv then 4 else 8) + k then true else s.rb (Reg.RFC_CALSTAT n) b) ∧
  KeepsRegs ([Reg.RFC_CALSTAT n] ++ if k = 3 then [Reg.SUP_PADRIFT n, Reg.SUP_STAT] else []) s t ∧
  (k = 3 → t.rd (Reg.SUP_PADRIFT n) = word (toU 16 drift)) ∧
  (r.todo = [] → t.chain n = { s.chain n with cal := none } ∧
    ∀ o ∈ t.rfs.outs, o.chain = n → o.kind = .cal → o.has (8 * s.slate) = false) ∧
  (∀ j, r.todo.head? = some j → t.rfs.outs = s.rfs.outs ∧
    t.chain n = { s.chain n with cal := some { r with drain := false, todo := r.todo, till := some (s.slate + calTicks j) } })

theorem calEnded_calEnd {s : State} {n k e : Nat} {r : CalRun} (conv : Bool) (drift : Int) (hn : n < 8) (hk : k < 4)
    (hcal : (s.chain n).cal = some { r with todo := k :: r.todo, till := some e }) (he : e ≤ s.slate) :
    CalEnded n k conv drift r s (calEnd s n conv drift) := by
  rw [calEnd_of_due conv drift hcal he]
  have hslate : (calTold s n k conv drift).slate = s.slate := by rw [calTold_frame, calMarked_frame]
  refine ⟨?_, fun hconv => ?_, ?_, ?_, ?_, fun b hb => ?_, fun a ha => ?_, fun hpa => ?_, fun hnil => ?_, fun j hj => ?_⟩
  · rw [calRunFirst_frame, calTold_frame, calMarked_frame]
  · subst hconv
    rw [calRunFirst_frame, calTold_frame]
    exact ⟨rfl, rfl⟩
  · rw [calRunFirst_frame, rfs_calTold]
    exact keepsMap_calMarked s n k conv
  · have hkeeps := keepsMap_calRunFirst (calTold s n k conv drift) n { r with till := none }
    rwa [rfs_calTold] at hkeeps
  · rw [calRunFirst_frame, calTold_frame, calMarked_frame]
    rfl
  · rw [State.rb, rd_calRunFirst, rd_calStat_calTold s k conv drift hn]
    exact rb_calMarked s n conv hk hb
  · rw [rd_calRunFirst, raised_calRunFirst]
    exact keepsRegs_calTold s n k conv drift a ha
  · rw [rd_calRunFirst, calTold, if_pos hpa]
    exact rd_paDrift_self ..
  · rw [calRunFirst_nil (c := { r with till := none }) _ _ hnil, ← hslate, ← chain_calTold s n k conv drift]
    exact ⟨State.chain_setChain_self .., fun o => State.endOut_ended⟩
  · obtain ⟨l, hl⟩ : ∃ l, r.todo = j :: l := List.head?_eq_some_iff.mp hj
    have houts : (calTold s n k conv drift).rfs.outs = s.rfs.outs := by rw [rfs_calTold]
    rw [calRunFirst_cons (c := { r with till := none }) _ _ hl, State.chain_setChain_self, chain_calTold, hslate]
    exact ⟨houts, rfl⟩

/-- Settles O25: a command is refused, ignored or put behind the one that runs, the suspension starts the first, and the end of one
is told before the next one starts. -/
theorem calibrationCommandsRunInTheirOrderOrAreRefused : Obligations.CalibrationCommandsRunInTheirOrderOrAreRefused := by
  intro n k e conv drift r s hn hk c accepts idle cmd queued out
  have hcmd : exec cmd s = ok (n < 8) (calCmd s n k) := exec_calCommand n s hk
  refine ⟨fun h => ?_, fun h hidle hcal => ?_, fun h hbusy => ?_, fun h hidle hcal => ?_,
    fun hcal hready => .of_ok hn rfl rfl (suspended_calSuspend hn hcal rfl hready),
    fun hcal he => .of_ok hn rfl rfl (calEnded_calEnd conv drift hn hk hcal he)⟩
  · refine .of_ok hn hcmd (calCmd_of_not_accepted fun ha => h (State.calAccepts_iff.mp ha)) ⟨rfl, ?_, ?_⟩
    · exact GivesBits.wb s true (by omega)
    · exact (KeepsRegs.refl _ s).wb _ _ (List.mem_singleton_self _)
  · exact .of_ok hn hcmd (calCmd_first (State.calAccepts_iff.mpr h) hidle hcal)
      ⟨queued_wb_setChain s n _ hk, State.chain_setChain_self ..⟩
  · exact .of_ok hn hcmd (calCmd_of_busy (State.calAccepts_iff.mpr h) (Bool.not_eq_false _ ▸ hbusy)) rfl
  · refine .of_ok hn hcmd (calCmd_behind (State.calAccepts_iff.mpr h) hidle hcal) ?_
    simp only [State.chain_setChain_self, Option.map_some, Option.getD_some]
    exact ⟨queued_wb_setChain s n _ hk, rfl, r.todoWith_ordered k, r.todoWith_head k, fun j _ => CalRun.mem_todoWith⟩

/-! ### A ramp-up that comes late (R80, R512) -/

/-- An ACK latched on chain 0, whose ramp-up is due at tick 950,000. -/
def latchedAck : Tx :=
  { id := 1, what := .ack false 1 false, chain := 0, ch := 0, prof := 0, word := 455239424, since := 900000, t0 := 950320, t1 := 1600000,
    ramp := 320, paLead := 0, paLag := 0, trLead := 0, trLag := 0, femcfg := 0, drive := 0, radEnd := 1600320, counter := none, mhr := [],
    payload := [], key := [], long := 0, pre := 8 }

/-- A device in CONCENTRATE whose chains 1 and 2 receive beside chain 0, under BLANK. A step of the slate has skipped the ACK's ramp-up,
its radiated interval and 64,000 ticks more. -/
def stepped : State :=
  { State.reset with
    slate := 1664320
    regs := [(Reg.SYS_MODE, 0x0404), (Reg.SYS_ROLE, 0x113), (Reg.LNK_SHPOL 0, 0x6)]
    sys := { boot := 0 }
    syn := { skip := 714320 }
    rfs := { chains := [(1, { on := true }), (2, { on := true })], txs := [latchedAck] } }

theorem exec_txRampUpStart_of_due {s : State} {id : Nat} {x : Tx} (htx : s.tx id = some x) (hup : x.up = false)
    (hdue : x.t0 - x.ramp ≤ s.slate) : exec (.txRampUpStart id) s = .next (rampUp s x) := by
  simp only [exec, execTxRampUpStart, htx, hup, hdue, Bool.not_false, and_self, if_true]

/-- The ACK shadows chain 1 under BLANK. -/
theorem blanks_stepped : (decide (1 < 8) && stepped.shadowed latchedAck.chain 1 latchedAck.word &&
    stepped.rb (Reg.LNK_SHPOL latchedAck.chain) 1) = true := by decide +kernel

/-- The shadow of chain 2 comes after that of chain 1, and drops it as an outage that is over for long. -/
theorem outs_rampUp_stepped : (rampUp stepped latchedAck).rfs.outs.map (·.chain) = [2] := by decide +kernel

/-- Refutes O26: where a step of the slate has put the ramp-up so late that the shadows are over for long, the outage of all but the
last chain is dropped again. -/
theorem not_transmissionsRampUpRadiateAndMayLoseLock : ¬ Obligations.TransmissionsRampUpRadiateAndMayLoseLock := by
  unfold Obligations.TransmissionsRampUpRadiateAndMayLoseLock
  intro h
  have hdue : latchedAck.t0 - latchedAck.ramp ≤ stepped.slate := by decide +kernel
  obtain ⟨hramp, -⟩ := h 1 0 1 latchedAck (flightOf 0) stepped rfl rfl
  obtain ⟨-, -, hout, -⟩ := (hramp rfl hdue).of_exec (exec_txRampUpStart_of_due rfl rfl hdue)
  have hchain := List.mem_map_of_mem (f := (·.chain)) (hout blanks_stepped)
  rw [outs_rampUp_stepped] at hchain
  exact absurd hchain (by decide)

end Sys2Proof.Machine

/-! PROOFS. The channelizer: floors and surveys, detections and their allocation, applies (spec/04_channelizer_detection.md). -/

namespace Sys2Proof.Machine

/-! ### Folds and register writes -/

/-- A fold over distinct elements comes to `j` from a state that is related to the first one, and what it gives is related to the
state after the step of `j`, where every other step relates the states before and after it. -/
theorem foldl_visits {α β : Type} {R : β → β → Prop} {f : β → α → β} {j : α} (hrefl : ∀ x, R x x)
    (htrans : ∀ {x y z}, R x y → R y z → R x z) {l : List α} (hnd : l.Nodup) (hj : j ∈ l)
    (hf : ∀ x, ∀ i ∈ l, i ≠ j → R x (f x i)) (s : β) : ∃ u, R s u ∧ R (f u j) (l.foldl f s) := by
  induction l generalizing s with
  | nil => exact absurd hj List.not_mem_nil
  | cons i l ih =>
    obtain ⟨hi, hl⟩ := List.nodup_cons.mp hnd
    rw [List.foldl_cons]
    by_cases hij : i = j
    · subst hij
      refine ⟨s, hrefl s, List.foldlRecOn l f (hrefl _) fun t ht k hk => htrans ht ?_⟩
      exact hf t k (List.mem_cons_of_mem _ hk) fun e => hi (e ▸ hk)
    · obtain ⟨u, hu, hend⟩ := ih hl ((List.mem_cons.mp hj).resolve_left (Ne.symm hij))
        (fun x k hk => hf x k (List.mem_cons_of_mem _ hk)) (f s i)
      exact ⟨u, htrans (hf s i List.mem_cons_self hij) hu, hend⟩

/-- From `s` to `t` nothing but registers changes, and only those at the addresses of `A`. -/
def WritesIn (A : Nat → Prop) (s t : State) : Prop :=
  t = { s with regs := t.regs, raised := t.raised } ∧ ∀ a, ¬A a → t.rd a = s.rd a ∧ t.raised.get a 0 = s.raised.get a 0

section
variable {A : Nat → Prop} {s t u : State}

theorem WritesIn.refl (A : Nat → Prop) (s : State) : WritesIn A s s := ⟨rfl, fun _ _ => ⟨rfl, rfl⟩⟩

theorem WritesIn.trans (h : WritesIn A s t) (g : WritesIn A t u) : WritesIn A s u :=
  ⟨by rw [g.1, h.1], fun a ha => ⟨(g.2 a ha).1.trans (h.2 a ha).1, (g.2 a ha).2.trans (h.2 a ha).2⟩⟩

theorem WritesIn.of_writesOnly {a : Nat} (h : WritesOnly a s t) (ha : A a) : WritesIn A s t :=
  ⟨h.1, fun b hb => h.2 b fun e => hb (List.mem_singleton.mp e ▸ ha)⟩

theorem WritesIn.wr (s : State) {a : Nat} (v : Word) (ha : A a) : WritesIn A s (s.wr a v) :=
  .of_writesOnly ⟨rfl, (KeepsRegs.refl _ s).wr v (List.mem_singleton_self a)⟩ ha

theorem WritesIn.wf (s : State) {a : Nat} (hi lo v : Nat) (ha : A a) : WritesIn A s (s.wf a hi lo v) := .wr s _ ha

theorem WritesIn.wb (s : State) {a : Nat} (b : Nat) (v : Bool) (ha : A a) : WritesIn A s (s.wb a b v) :=
  .of_writesOnly (.wb s a b v) ha

theorem WritesIn.mono {B : Nat → Prop} (h : WritesIn A s t) (hAB : ∀ a, A a → B a) : WritesIn B s t :=
  ⟨h.1, fun a ha => h.2 a fun hA => ha (hAB a hA)⟩

theorem WritesIn.rd (h : WritesIn A s t) {a : Nat} (ha : ¬A a) : t.rd a = s.rd a := (h.2 a ha).1

theorem WritesIn.foldl {α : Type} {l : List α} {f : State → α → State} (hf : ∀ s, ∀ x ∈ l, WritesIn A s (f s x)) (s : State) :
    WritesIn A s (l.foldl f s) :=
  List.foldlRecOn l f (.refl A s) fun t h x hx => h.trans (hf t x hx)

end

/-- The low bits of a number of 16 bits, read with their sign. -/
theorem sext_toU {i : Int} (hlo : -32768 ≤ i) (hhi : i ≤ 32767) : sext 16 (toU 16 i % 2 ^ 16) = i := by
  unfold sext toU
  dsimp only
  split <;> omega

/-- Only the low bits of a value go into a field. -/
theorem State.wf_mod (s : State) (a hi lo v : Nat) : s.wf a hi lo (v % 2 ^ (hi + 1 - lo)) = s.wf a hi lo v := by
  simp only [State.wf, setFld, Nat.mod_mod]

/-! ### The floors at the end of a window (R111-R113) -/

/-- The floor of a branch of chain n after the window that ends now, of power w on that branch. -/
def State.floorAfter (s : State) (n : Nat) (f w : Int) : Int :=
  floorNext (s.chain n).fresh.isSome ((s.slate - 32000) / 32000 % 16 == 0) f w

/-- The window that ends now counts as one in which channel k of chain n was occupied (R114). -/
def State.occupied (s : State) (n : Nat) (pa pb : List Int) (k : Nat) : Bool :=
  let th := 8 * s.rf Reg.CHZ_SURVINT 23 16
  s.chz.occFrom.isSome && (s.scans n || (s.planMask active n).testBit k)
    && (decide (s.floor (64 * n + k) false + th ≤ pa.getD k 0)
      || (s.rb (Reg.RFC_CTL n) 8 && decide (s.floor (64 * n + k) true + th ≤ pb.getD k 0)))

/-- One more occupied window of channel c. -/
def countOcc (t : State) (c : Nat) : State := { t with chz := { t.chz with occ := t.chz.occ.put c (t.chz.occ.get c 0 + 1) } }

/-- The floors of channel k of chain n take their values after the window that ends now. -/
def moveFloors (s : State) (n : Nat) (pa pb : List Int) (t : State) (k : Nat) : State :=
  let c := 64 * n + k
  let t := t.wf (Reg.CHZ_FLOOR c) 15 0 (toU 16 (s.floorAfter n (s.floor c false) (pa.getD k 0)))
  if s.rb (Reg.RFC_CTL n) 8 then t.wf (Reg.CHZ_FLOOR c) 31 16 (toU 16 (s.floorAfter n (s.floor c true) (pb.getD k 0))) else t

/-- What a window that no outage overlaps does for channel k of chain n. -/
def channelWindow (s : State) (n : Nat) (pa pb : List Int) (t : State) (k : Nat) : State :=
  let t := if s.occupied n pa pb k then countOcc t (64 * n + k) else t
  if s.takeOverlaps n k (s.slate - 32000) s.slate then t else moveFloors s n pa pb t k

/-- The window that ends now is a whole one in which chain n received, and which may be the first of a fresh chain. -/
def State.wholeWindow (s : State) (n : Nat) : Prop :=
  s.passes 32000 = true ∧ 32000 ≤ s.slate ∧ s.receiving n = true ∧ s.outOverlaps n (s.slate - 32000) s.slate = false ∧
  ((s.chain n).fresh.isSome = true → ∀ j, j < 64 → s.takeOverlaps n j (s.slate - 32000) s.slate = false) ∧
  ∀ u, (s.chain n).fresh = some u → u ≤ s.slate - 32000

theorem State.planN_le (s : State) (o n : Nat) : s.planN o n ≤ 64 := Nat.min_le_left _ _

theorem noiseWindow_of_due {s : State} {n : Nat} (pa pb : List Int) (hdue : s.wholeWindow n) :
    noiseWindow s n pa pb =
      let t := (List.range (s.planN active n)).foldl (channelWindow s n pa pb) s
      if (s.chain n).fresh.isSome then t.setChain n { t.chain n with fresh := none } else t := by
  obtain ⟨hpass, hlen, hrec, hout, hfree, hold⟩ := hdue
  have hgo : ¬((!s.passes 32000) = true ∨ s.slate < 32000 ∨ (!s.receiving n) = true) := by
    simp [hpass, hrec, Nat.not_lt.mpr hlen]
  rw [noiseWindow, if_neg hgo]
  cases hfresh : (s.chain n).fresh with
  | none =>
    simp only [hout, Option.isSome_none, Bool.not_false, Bool.true_and, Bool.false_and, Bool.false_or, Bool.or_false, Bool.false_eq_true,
      if_false]
    unfold channelWindow moveFloors State.floorAfter
    rw [hfresh]
    rfl
  | some u =>
    have hall : ((List.range (s.planN active n)).all fun k => !s.takeOverlaps n k (s.slate - 32000) s.slate) = true := by
      simp only [List.all_eq_true, List.mem_range, Bool.not_eq_true']
      exact fun k hk => hfree (by rw [hfresh]; rfl) k (hk.trans_le (s.planN_le active n))
    simp only [hout, hall, decide_eq_true (hold u hfresh), Option.isSome_some, Bool.not_false, Bool.not_true, Bool.and_true, Bool.true_and,
      Bool.false_or, Bool.or_false, if_true, Bool.and_false]
    unfold channelWindow moveFloors State.floorAfter
    rw [hfresh]
    rfl

/-- From `s` to `t` nothing but registers and the count of occupied windows changes. -/
def CountsOnly (s t : State) : Prop := t = { s with regs := t.regs, chz := { s.chz with occ := t.chz.occ } }

theorem CountsOnly.refl (s : State) : CountsOnly s s := rfl

theorem CountsOnly.trans {s t u : State} (h : CountsOnly s t) (g : CountsOnly t u) : CountsOnly s u := by
  unfold CountsOnly at *
  rw [g, h]

theorem CountsOnly.wf (s : State) (a hi lo v : Nat) : CountsOnly s (s.wf a hi lo v) := rfl

theorem CountsOnly.channelWindow (s : State) (n : Nat) (pa pb : List Int) (t : State) (k : Nat) :
    CountsOnly t (channelWindow s n pa pb t k) := by
  have hcount : CountsOnly t (if s.occupied n pa pb k then countOcc t (64 * n + k) else t) := by split <;> rfl
  unfold Machine.channelWindow moveFloors
  dsimp only
  split
  · exact hcount
  · split
    · exact (hcount.trans (.wf ..)).trans (.wf ..)
    · exact hcount.trans (.wf ..)

theorem keepsRegs_moveFloors (s : State) (n : Nat) (pa pb : List Int) (t : State) (k : Nat) :
    KeepsRegs [Reg.CHZ_FLOOR (64 * n + k)] t (moveFloors s n pa pb t k) := by
  have ha := (KeepsRegs.refl [Reg.CHZ_FLOOR (64 * n + k)] t).wf 15 0
    (toU 16 (s.floorAfter n (s.floor (64 * n + k) false) (pa.getD k 0))) (List.mem_singleton_self _)
  unfold moveFloors
  dsimp only
  split
  · exact ha.wf _ _ _ (List.mem_singleton_self _)
  · exact ha

theorem keepsRegs_channelWindow (s : State) (n : Nat) (pa pb : List Int) (t : State) (k : Nat) :
    KeepsRegs [Reg.CHZ_FLOOR (64 * n + k)] t (channelWindow s n pa pb t k) := by
  have hcount : KeepsRegs [Reg.CHZ_FLOOR (64 * n + k)] t (if s.occupied n pa pb k then countOcc t (64 * n + k) else t) := by
    split <;> exact .of_regs rfl rfl
  unfold channelWindow
  dsimp only
  split
  · exact hcount
  · exact hcount.trans (keepsRegs_moveFloors s n pa pb _ k)

theorem occ_channelWindow (s : State) (n : Nat) (pa pb : List Int) (t : State) (k : Nat) :
    (channelWindow s n pa pb t k).chz.occ =
      if s.occupied n pa pb k then t.chz.occ.put (64 * n + k) (t.chz.occ.get (64 * n + k) 0 + 1) else t.chz.occ := by
  unfold channelWindow moveFloors countOcc
  dsimp only
  split_ifs <;> rfl

/-- The floors that a channel which no take overlapped has after the window. -/
theorem floor_channelWindow {s t : State} {n k : Nat} (pa pb : List Int)
    (hfree : s.takeOverlaps n k (s.slate - 32000) s.slate = false)
    (hrd : t.rd (Reg.CHZ_FLOOR (64 * n + k)) = s.rd (Reg.CHZ_FLOOR (64 * n + k))) (isB : Bool) :
    (channelWindow s n pa pb t k).floor (64 * n + k) isB =
      if isB = true ∧ s.rb (Reg.RFC_CTL n) 8 = false then s.floor (64 * n + k) isB
      else sext 16 (toU 16 (s.floorAfter n (s.floor (64 * n + k) isB) ((if isB then pb else pa).getD k 0)) % 2 ^ 16) := by
  unfold channelWindow
  rw [hfree, if_neg Bool.false_ne_true]
  set u := if s.occupied n pa pb k then countOcc t (64 * n + k) else t with hu
  have hurd : u.rd (Reg.CHZ_FLOOR (64 * n + k)) = s.rd (Reg.CHZ_FLOOR (64 * n + k)) := by
    rw [hu, ← hrd]; split <;> rfl
  unfold moveFloors
  cases hbrb : s.rb (Reg.RFC_CTL n) 8 <;> cases isB
  · simp [State.floor, State.rf_wf_self]
  · simp [State.floor, State.rf, State.rd_wf_self, fld_setFld_of_disjoint, hurd]
  · simp [State.floor, State.rf, State.rd_wf_self, fld_setFld_of_disjoint, fld_setFld_self]
  · simp [State.floor, State.rf_wf_self]

theorem floor_congr {s t : State} {c : Nat} (h : t.rd (Reg.CHZ_FLOOR c) = s.rd (Reg.CHZ_FLOOR c)) (isB : Bool) :
    t.floor c isB = s.floor c isB := by
  simp only [State.floor, State.rf, h]

/-- Channel c has the same floors and the same count of occupied windows in `t` as in `s`. -/
def SameChannel (c : Nat) (s t : State) : Prop :=
  t.rd (Reg.CHZ_FLOOR c) = s.rd (Reg.CHZ_FLOOR c) ∧ t.chz.occ.get c 0 = s.chz.occ.get c 0

/-- The state after a window that no outage of chain n overlaps, its first one apart. -/
def windowed (s : State) (n : Nat) (pa pb : List Int) : State :=
  (List.range (s.planN active n)).foldl (channelWindow s n pa pb) s

section
variable (s : State) (n : Nat) (pa pb : List Int)

theorem CountsOnly.windowed : CountsOnly s (windowed s n pa pb) :=
  List.foldlRecOn _ _ (.refl s) fun t h k _ => h.trans (.channelWindow s n pa pb t k)

theorem keepsRegs_windowed :
    KeepsRegs ((List.range (s.planN active n)).map fun j => Reg.CHZ_FLOOR (64 * n + j)) s (windowed s n pa pb) := by
  refine List.foldlRecOn _ _ (.refl _ s) fun t h k hk => h.trans ((keepsRegs_channelWindow s n pa pb t k).mono fun a ha => ?_)
  rw [List.mem_singleton.mp ha]
  exact List.mem_map_of_mem hk

/-- The windows of the other channels leave channel k alone: its own window is that of a state in which it stands as in `s`. -/
theorem windowed_visits {k : Nat} (hk : k < s.planN active n) :
    ∃ u, SameChannel (64 * n + k) s u ∧ SameChannel (64 * n + k) (channelWindow s n pa pb u k) (windowed s n pa pb) := by
  refine foldl_visits (fun _ => ⟨rfl, rfl⟩) (fun h g => ⟨g.1.trans h.1, g.2.trans h.2⟩) List.nodup_range (List.mem_range.mpr hk)
    (fun t j _ hj => ⟨?_, ?_⟩) s
  · refine (keepsRegs_channelWindow s n pa pb t j _ ?_).1
    simp only [List.mem_singleton, Reg.CHZ_FLOOR]
    omega
  · rw [occ_channelWindow]
    split
    · exact SMap.get_put_of_ne _ _ _ (by omega)
    · rfl

theorem occ_windowed {k : Nat} (hk : k < s.planN active n) (hocc : s.occupied n pa pb k = true) :
    (windowed s n pa pb).chz.occ.get (64 * n + k) 0 = s.chz.occ.get (64 * n + k) 0 + 1 := by
  obtain ⟨u, ⟨-, hcount⟩, -, hend⟩ := windowed_visits s n pa pb hk
  rw [hend, occ_channelWindow, if_pos hocc, SMap.get_put_self, hcount]

theorem occ_windowed_of_no_count (h : s.chz.occFrom = none) : (windowed s n pa pb).chz.occ = s.chz.occ := by
  refine List.foldlRecOn (motive := fun t : State => t.chz.occ = s.chz.occ) _ _ rfl fun t ht k _ => ?_
  have hocc : s.occupied n pa pb k = false := by simp [State.occupied, h]
  rw [occ_channelWindow, hocc, if_neg Bool.false_ne_true, ht]

end

/-- The floor of a branch in use after the window (R112, R113). -/
theorem floor_windowed {s : State} {n k : Nat} (pa pb : List Int) (hk : k < s.planN active n)
    (hfree : s.takeOverlaps n k (s.slate - 32000) s.slate = false) {isB : Bool} {f : Int}
    (hf : f = s.floorAfter n (s.floor (64 * n + k) isB) ((if isB then pb else pa).getD k 0)) (hlo : -32768 ≤ f) (hhi : f ≤ 32767) :
    (windowed s n pa pb).floor (64 * n + k) isB =
      if isB = true ∧ s.rb (Reg.RFC_CTL n) 8 = false then s.floor (64 * n + k) isB else f := by
  obtain ⟨u, ⟨hrd, -⟩, hend, -⟩ := windowed_visits s n pa pb hk
  rw [floor_congr hend, floor_channelWindow pa pb hfree hrd, ← hf, sext_toU hlo hhi]

/-- The floor after a window, by R112. -/
theorem State.floorAfter_eq (s : State) (n : Nat) (f w : Int) :
    s.floorAfter n f w = if (s.chain n).fresh.isSome then w else if w ≤ f then f - (f - w) / 4
      else if (s.slate - 32000) / 32000 % 16 = 0 then f + 1 else f := by
  unfold State.floorAfter floorNext
  rw [Int.fdiv_eq_ediv_of_nonneg _ (by decide)]
  simp only [beq_iff_eq]

/-- What else the window leaves: a chain is fresh no more. -/
theorem noiseWindow_eq {s : State} {n : Nat} (pa pb : List Int) (hdue : s.wholeWindow n) :
    ∃ c : SMap Chain, KeepsMap n s.rfs.chains c ∧ (c.get n {}).fresh = none ∧
      noiseWindow s n pa pb = { windowed s n pa pb with rfs := { s.rfs with chains := c } } := by
  have hrfs : (windowed s n pa pb).rfs = s.rfs := by rw [CountsOnly.windowed]
  rw [noiseWindow_of_due pa pb hdue, ← windowed]
  dsimp only
  split
  case isTrue hfresh =>
    refine ⟨((windowed s n pa pb).setChain n { (windowed s n pa pb).chain n with fresh := none }).rfs.chains, ?_, ?_, ?_⟩
    · rw [← hrfs]; exact State.keepsMap_setChain _ _ _
    · exact congrArg Chain.fresh (State.chain_setChain_self ..)
    · rw [← hrfs]; rfl
  case isFalse hfresh =>
    refine ⟨s.rfs.chains, fun _ _ => rfl, by simpa [State.chain] using hfresh, ?_⟩
    rw [← hrfs]

/-! ### Survey intervals (R114) and the high-water mark (R164) -/

theorem State.surveys_of {s : State}
    (h : s.operating = true ∨ s.mode = 6 ∨ (s.loopMode = true ∧ ∃ j ∈ List.range 8, s.receiving j = true)) : s.surveys = true := by
  simpa only [State.surveys, Bool.or_eq_true, beq_iff_eq, Bool.and_eq_true, List.any_eq_true, or_assoc] using h

/-- The count of channel c is stored where the channel is searched or scanned (R114). -/
def storeOcc (s t : State) (c : Nat) : State :=
  let n := c / 64
  if s.receiving n ∧ c % 64 < s.planN active n ∧ (s.scans n ∨ (s.planMask active n).testBit (c % 64)) then
    t.wr (Reg.CHZ_OCC c) (word (s.chz.occ.get c 0)) else t

/-- The state with the counts of the channels `l` stored. -/
def occStored (s : State) (l : List Nat) : State := l.foldl (storeOcc s) s

/-- A new count starts at tick `now`. -/
def countFrom (now : Nat) (t : State) : State := { t with chz := { t.chz with occ := [], occFrom := some now } }

theorem CountsOnly.storeOcc (s t : State) (c : Nat) : CountsOnly t (storeOcc s t c) := by
  unfold Machine.storeOcc
  dsimp only
  split <;> rfl

theorem keepsRegs_storeOcc (s t : State) (c : Nat) : KeepsRegs [Reg.CHZ_OCC c] t (storeOcc s t c) := by
  unfold storeOcc
  dsimp only
  split
  · exact (KeepsRegs.refl _ t).wr _ (List.mem_singleton_self _)
  · exact .refl _ _

section
variable (s : State) (l : List Nat)

theorem CountsOnly.occStored : CountsOnly s (occStored s l) :=
  List.foldlRecOn _ _ (.refl s) fun t h c _ => h.trans (.storeOcc s t c)

theorem keepsRegs_occStored : KeepsRegs (l.map Reg.CHZ_OCC) s (occStored s l) := by
  refine List.foldlRecOn _ _ (.refl _ s) fun t h c hc => h.trans ((keepsRegs_storeOcc s t c).mono fun a ha => ?_)
  rw [List.mem_singleton.mp ha]
  exact List.mem_map_of_mem hc

theorem rd_occStored {l : List Nat} (hl : l.Nodup) {c : Nat} (hc : c ∈ l) :
    (occStored s l).rd (Reg.CHZ_OCC c) = (storeOcc s s c).rd (Reg.CHZ_OCC c) := by
  have hother (t : State) (i : Nat) (hi : i ≠ c) : (storeOcc s t i).rd (Reg.CHZ_OCC c) = t.rd (Reg.CHZ_OCC c) := by
    refine (keepsRegs_storeOcc s t i _ ?_).1
    simp only [List.mem_singleton, Reg.CHZ_OCC]
    omega
  obtain ⟨u, hu, hend⟩ := foldl_visits (R := fun x y : State => y.rd (Reg.CHZ_OCC c) = x.rd (Reg.CHZ_OCC c)) (fun _ => rfl)
    (fun h g => g.trans h) hl hc (fun t i _ => hother t i) s
  refine hend.trans ?_
  unfold storeOcc
  dsimp only
  split
  · rw [State.rd_wr_self, State.rd_wr_self]
  · exact hu

end

/-- A count that ends changes, beside the registers that store it, the cues and the count itself. -/
theorem CountsOnly.countFrom_emit {s u : State} (h : CountsOnly s u) (now : Nat) (l : List Nat) :
    let t := countFrom now (u.emit l)
    t = { s with regs := t.regs, raised := t.raised, cue := t.cue, chz := { s.chz with occ := [], occFrom := some now } } ∧
    Fires l 1 s t := by
  obtain ⟨regs, occ, rfl⟩ : ∃ regs occ, u = { s with regs := regs, chz := { s.chz with occ := occ } } := ⟨_, _, h⟩
  exact ⟨rfl, Fires.emit_after 1 rfl rfl⟩

theorem keepsRegs_countFrom_emit {rs : List Nat} {s u : State} (h : KeepsRegs rs s u) (now : Nat) (l : List Nat) :
    KeepsRegs rs s (countFrom now (u.emit l)) := h

theorem rd_countFrom_emit (now : Nat) (u : State) (l : List Nat) (a : Nat) : (countFrom now (u.emit l)).rd a = u.rd a := rfl

theorem exec_surveyIntervalEnd (s : State) : exec .surveyIntervalEnd s = .next (surveyEnd s) := rfl

section
variable {s : State} (hint : s.survTicks ≠ 0) (hmul : s.slate % s.survTicks = 0) (hsurv : s.surveys = true)
include hint hmul hsurv

theorem surveyEnd_of_whole (hle : s.survTicks ≤ s.slate) (hfrom : s.chz.occFrom = some (s.slate - s.survTicks)) :
    surveyEnd s = countFrom s.slate ((occStored s (List.range 512)).emit [18]) := by
  rw [surveyEnd, if_neg (by simp [hint, hmul, hsurv])]
  generalize List.range 512 = l
  simp only [hfrom, hle, BEq.rfl, decide_true, Bool.true_and, if_true]
  rfl

theorem surveyEnd_of_no_count (hfrom : s.chz.occFrom = none) : surveyEnd s = countFrom s.slate s := by
  rw [surveyEnd, if_neg (by simp [hint, hmul, hsurv])]
  simp only [hfrom]
  rfl

end

theorem clearHighWater_givesField (s : State) :
    GivesField Reg.DMD_STAT 23 16 (s.lnk.takes.length % 256) s (clearHighWater s) := by
  rw [clearHighWater, ← State.wf_mod]
  exact GivesField.wf s (by decide) (by decide) (Nat.mod_lt _ (by decide))

/-- Settles O29: the window is one step per channel of its own floors and count, and the interval's end one store per channel. -/
theorem floorsFollowR112AndSurveysStoreTheirCounts : Obligations.FloorsFollowR112AndSurveysStoreTheirCounts := by
  intro n k pa pb s hn hk c a fresh brb next na nb free int th wanted surveyed shown
  refine ⟨fun hpass hlen hrec hout hkn hfree hfresh hold hnalo hnahi hnblo hnbhi => ?_, fun hint hmul hle hsurv hfrom => ?_,
    fun hint hmul hsurv hfrom => ?_, fun hon => ?_⟩
  · have hdue : s.wholeWindow n := ⟨hpass, hlen, hrec, hout, hfresh, hold⟩
    have hnext (f w : Int) : next f w = s.floorAfter n f w := (s.floorAfter_eq n f w).symm
    obtain ⟨chains, hkeeps, hnone, heq⟩ := noiseWindow_eq pa pb hdue
    have hframe : CountsOnly s (windowed s n pa pb) := .windowed s n pa pb
    refine .of_ok hn rfl heq ⟨?_, ?_, ?_, hnone, fun hno => ?_, fun hcount hwant hpow => ?_, hkeeps, ?_⟩
    · unfold CountsOnly at hframe
      rw [hframe]
    · exact (floor_windowed pa pb hkn hfree (hnext _ _) hnalo hnahi).trans (if_neg fun h => Bool.false_ne_true h.1)
    · refine (floor_windowed pa pb hkn hfree (isB := true) (hnext _ _) hnblo hnbhi).trans ?_
      cases hb : s.rb (Reg.RFC_CTL n) 8 <;> simp [brb, hb, c, nb]
    · exact occ_windowed_of_no_count s n pa pb hno
    · have hocc : s.occupied n pa pb k = true := by
        have hsome : s.chz.occFrom.isSome = true := Option.isSome_iff_ne_none.mpr hcount
        have hreach : s.floor (64 * n + k) false + ((8 * s.rf Reg.CHZ_SURVINT 23 16 : Nat) : Int) ≤ pa.getD k 0 := by
          push_cast; exact hpow
        simp only [State.occupied, hsome, decide_eq_true hreach, Bool.true_and, Bool.true_or, Bool.and_true, Bool.or_eq_true]
        exact hwant
      exact occ_windowed s n pa pb hkn hocc
    · exact keepsRegs_windowed s n pa pb
  · obtain ⟨hframe, hfires⟩ := (CountsOnly.occStored s (List.range 512)).countFrom_emit s.slate [18]
    refine ⟨_, by rw [exec_surveyIntervalEnd, surveyEnd_of_whole hint hmul (State.surveys_of hsurv) hle hfrom], hframe, hfires, ?_,
      keepsRegs_countFrom_emit (keepsRegs_occStored s _) _ _⟩
    have hc : c / 64 = n ∧ c % 64 = k := by omega
    rw [rd_countFrom_emit, rd_occStored s List.nodup_range (c := c) (List.mem_range.mpr (by omega))]
    simp only [storeOcc, hc.1, hc.2, shown, wanted]
    split
    · rw [State.rd_wr_self]
    · rfl
  · exact ⟨_, by rw [exec_surveyIntervalEnd, surveyEnd_of_no_count hint hmul (State.surveys_of hsurv) hfrom]; rfl, rfl⟩
  · refine ⟨clearHighWater s, ?_, (WritesOnly.wf s _ 23 16 _).1, clearHighWater_givesField s,
      (KeepsRegs.refl _ s).wf _ _ _ (List.mem_singleton_self _)⟩
    simp only [exec, execClearHighWater, State.onMain, hon, if_true]

end Sys2Proof.Machine

namespace Sys2Proof.Machine

/-! ### Superseded epochs drain (R123) -/

/-- The superseded epochs that no take and no waiting detection holds. -/
def State.idleEpochs (s : State) : List OldEpoch := s.chz.epochs.filter fun e => !s.epochBusy e.num

/-- `left` are the epochs that stay, and CHZ.LASTDRN names `e`, unless it names a later one of this tick. -/
def drained (s : State) (left : List OldEpoch) (e : OldEpoch) (c : Nat) : State :=
  let later := s.chz.lastDrn.1 == s.slate && decide (e.at_ < s.chz.lastDrn.2)
  let s : State := { s with chz := { s.chz with epochs := left, lastDrn := if later then s.chz.lastDrn else (s.slate, e.at_) } }
  (if later then s else s.wr Reg.CHZ_LASTDRN (word (2 ^ 16 + e.num))).emit [17] c

theorem mem_idleEpochs {s : State} {e : OldEpoch} : e ∈ s.idleEpochs ↔ e ∈ s.chz.epochs ∧ s.epochBusy e.num = false := by
  simp [State.idleEpochs]

/-- The drain leaves the state, or drops the idle epochs. -/
theorem drainEpochs_cases (s : State) :
    (s.idleEpochs = [] ∧ drainEpochs s = s) ∨
    ∃ e c, drainEpochs s = drained s (s.chz.epochs.filter fun x => !s.idleEpochs.contains x) e c := by
  unfold drainEpochs
  dsimp only
  split
  case h_1 h => exact .inl ⟨List.getLast?_eq_none_iff.mp h, rfl⟩
  case h_2 e h => exact .inr ⟨e, _, rfl⟩

theorem drained_frame (s : State) (left : List OldEpoch) (e : OldEpoch) (c : Nat) :
    drained s left e c = { s with regs := (drained s left e c).regs, cue := (drained s left e c).cue,
                                  chz := { s.chz with epochs := left, lastDrn := (drained s left e c).chz.lastDrn } } := by
  unfold drained
  dsimp only
  split <;> rfl

theorem keepsRegs_drained (s : State) (left : List OldEpoch) (e : OldEpoch) (c : Nat) :
    KeepsRegs [Reg.CHZ_LASTDRN] s (drained s left e c) := by
  unfold drained
  dsimp only
  split
  · exact .of_regs rfl rfl
  · exact ((KeepsRegs.of_regs (t := { s with chz := _ }) rfl rfl).wr _ (List.mem_singleton_self _)).emit _ _

theorem pending_drained (s : State) (left : List OldEpoch) (e : OldEpoch) (c : Nat) :
    (drained s left e c).cue.pending = s.cue.pending ++ s.cuesOf [17] c := by
  unfold drained
  rw [State.emit_cue]
  dsimp only
  split <;> rfl

theorem drainEpochs_frame (s : State) :
    drainEpochs s = { s with regs := (drainEpochs s).regs, cue := (drainEpochs s).cue,
                             chz := { s.chz with epochs := (drainEpochs s).chz.epochs, lastDrn := (drainEpochs s).chz.lastDrn } } := by
  obtain ⟨-, h⟩ | ⟨e, c, h⟩ := drainEpochs_cases s
  · rw [h]
  · rw [h, drained_frame]

theorem keepsRegs_drainEpochs (s : State) : KeepsRegs [Reg.CHZ_LASTDRN] s (drainEpochs s) := by
  obtain ⟨-, h⟩ | ⟨e, c, h⟩ := drainEpochs_cases s
  · rw [h]; exact .refl _ s
  · rw [h]; exact keepsRegs_drained s _ e c

theorem mem_pending_drainEpochs {s : State} {c : PendingCue} (hc : c ∈ s.cue.pending) : c ∈ (drainEpochs s).cue.pending := by
  obtain ⟨-, h⟩ | ⟨e, k, h⟩ := drainEpochs_cases s
  · rwa [h]
  · rw [h, pending_drained]; exact List.mem_append_left _ hc

/-- The epochs that are left are those of which a take is in flight. -/
theorem mem_epochs_drainEpochs {s : State} {e : OldEpoch} :
    e ∈ (drainEpochs s).chz.epochs ↔ e ∈ s.chz.epochs ∧ s.epochBusy e.num = true := by
  obtain ⟨hidle, h⟩ | ⟨x, c, h⟩ := drainEpochs_cases s
  · have hbusy : e ∈ s.chz.epochs → s.epochBusy e.num = true := fun he =>
      (Bool.not_eq_false _).mp fun hn => by simpa [hidle] using mem_idleEpochs.mpr ⟨he, hn⟩
    rw [h]
    exact ⟨fun he => ⟨he, hbusy he⟩, And.left⟩
  · rw [h, drained_frame]
    simp only [List.mem_filter, Bool.not_eq_true', List.contains_eq_mem, decide_eq_false_iff_not, mem_idleEpochs, not_and,
      Bool.not_eq_false]
    exact ⟨fun ⟨he, hb⟩ => ⟨he, hb he⟩, fun ⟨he, hb⟩ => ⟨he, fun _ => hb⟩⟩

theorem drainEpochs_of_nil {s : State} (h : s.chz.epochs = []) : drainEpochs s = s := by
  obtain ⟨-, hs⟩ | ⟨e, c, hs⟩ := drainEpochs_cases s
  · exact hs
  · simp only [drainEpochs, h, List.filter_nil, List.getLast?_nil]

end Sys2Proof.Machine

namespace Sys2Proof.Machine

/-! ### Detections (R107-R110, R116) -/

/-- The profile of a channel that a detection names. -/
def detKey (d : Detected) : Nat := 16 * (64 * d.chain + d.ch) + d.prof

/-- What waits for its allocation after a detection that stands. -/
def State.detOf (s : State) (d : Detected) (sync1 : Bool) : Det :=
  { stamp := d.stamp, chain := d.chain, ch := d.ch, prof := d.prof, sync1 := sync1, onB := d.onB,
    word := tuneWord (s.chanHz active d.chain d.ch), rssiA := rssiRaw d.powerA,
    rssiB := if s.rb (Reg.RFC_CTL d.chain) 8 then rssiRaw d.powerB else 0x80 }

/-- The detection `e` is of the same channel and profile. -/
def sameSearch (d : Detected) (e : Det) : Bool := e.chain == d.chain && e.ch == d.ch && e.prof == d.prof

/-- The detection stands: it waits, in the place of one of its channel and profile that waits already. -/
def stood (s : State) (d : Detected) (sync1 : Bool) : State :=
  { s with chz := { s.chz with dets := insertBy detLe (s.detOf d sync1) (s.chz.dets.filter fun e => !sameSearch d e),
                               last := s.chz.last.put (detKey d) (d.stamp, d.onB) } }

/-- The detection is the later one of the two branch detections of the frame of which `y` is the last that stood (R116). -/
def laterOf (d : Detected) (rate : Nat) (y : Nat × Bool) : Prop :=
  y.2 ≠ d.onB ∧ sameFrame rate y.1 d.stamp = true ∧ ¬(d.stamp < y.1 ∨ (d.stamp = y.1 ∧ d.onB = false))

theorem sameSearch_iff {d : Detected} {e : Det} : sameSearch d e = true ↔ e.chain = d.chain ∧ e.ch = d.ch ∧ e.prof = d.prof := by
  simp [sameSearch, and_assoc]

theorem detect_of_not_matched {s : State} {d : Detected} (h : s.detectable d = false ∨ s.detectSync d = none) : detect s d = s := by
  unfold detect
  rcases h with h | h
  · simp [h]
  · cases s.detectable d <;> simp [h]

section
variable {s : State} {d : Detected} {sync1 : Bool} (hable : s.detectable d = true) (hsync : s.detectSync d = some sync1)
include hable hsync

theorem detect_of_later {y : Nat × Bool} (hy : s.chz.last.find (detKey d) = some y)
    (hlater : laterOf d (pwRate (s.profWords active d.prof)) y) : detect s d = s := by
  obtain ⟨t, b⟩ := y
  obtain ⟨hbranch, hframe, hnot⟩ := hlater
  rw [detKey] at hy
  simp only [detect, hable, hsync, hy, Bool.not_true, Bool.false_eq_true, if_false]
  rw [if_pos ⟨hbranch, hframe⟩, if_neg (by simpa using hnot)]

theorem detect_of_not_later
    (hnot : ∀ y, s.chz.last.find (detKey d) = some y → ¬laterOf d (pwRate (s.profWords active d.prof)) y) : detect s d = stood s d sync1 := by
  rw [detKey] at hnot
  simp only [detect, hable, hsync, Bool.not_true, Bool.false_eq_true, if_false]
  cases hy : s.chz.last.find (16 * (64 * d.chain + d.ch) + d.prof) with
  | none => rfl
  | some y =>
    have hn := hnot y hy
    simp only [laterOf, not_and, not_not] at hn
    dsimp only
    split
    case isTrue hframe => exact if_pos (by simpa using hn hframe.1 hframe.2)
    case isFalse => rfl

end

theorem mem_dets_stood {s : State} {d : Detected} {sync1 : Bool} {e : Det} :
    e ∈ (stood s d sync1).chz.dets ↔ e = s.detOf d sync1 ∨ (e ∈ s.chz.dets ∧ ¬sameSearch d e = true) := by
  refine (insertBy_perm ..).mem_iff.trans ?_
  simp

/-! ### A take record octet by octet (R155) -/

theorem ofOcts_octs (bs : List Byte) : ofOcts (octs bs) = bs := by
  simp [ofOcts, octs, Function.comp_def]

theorem natLE_append (l l' : List Byte) : natLE (l ++ l') = natLE l + 256 ^ l.length * natLE l' := by
  induction l with
  | nil => simp [natLE]
  | cons b l ih => rw [List.cons_append, natLE, natLE, ih, List.length_cons]; ring

section
variable {p r : List Nat} (hp : p <+: r) {o : Nat} (k v : Nat)
include hp

/-- Octets before those that are set stay. -/
theorem prefix_setOcts (ho : p.length ≤ o) : p <+: setOcts r o k v := by
  obtain ⟨l, rfl⟩ := hp
  rw [setOcts, List.append_assoc, List.take_append, List.take_of_length_le ho, List.append_assoc]
  exact List.prefix_append _ _

/-- The octets that are set follow those before them. -/
theorem append_prefix_setOcts (ho : p.length = o) : p ++ octs (bytesLE k v) <+: setOcts r o k v := by
  obtain ⟨l, rfl⟩ := hp
  rw [setOcts, ← ho, List.take_left]
  exact List.prefix_append _ _

end

/-- The take record at the allocation of detection x to demodulator d (R155). -/
def State.recordOf (s : State) (d : Nat) (x : Det) : List Nat :=
  let nob := x.rssiB == 0x80
  let onB := !nob && decide (sext 8 x.rssiA < sext 8 x.rssiB)
  let r := setOcts (s.trec d) 0 8 x.stamp
  let r := setOcts (setOcts (setOcts r 8 1 x.chain) 9 1 x.ch) 10 1 x.prof
  let r := setOcts r 11 1 (nfld (r.getD 11 0) 5 2 * 4 + b2n onB + 2 * b2n nob + 64 * b2n x.sync1)
  setOcts (setOcts (setOcts r 12 1 x.rssiA) 13 1 x.rssiB) 28 2 (s.epochOf x.stamp)

@[simp] theorem length_octs (bs : List Byte) : (octs bs).length = bs.length := List.length_map _

@[simp] theorem length_bytesLE (k v : Nat) : (bytesLE k v).length = k := by simp [bytesLE]

/-- The record begins with stamp, chain, channel and profile. -/
theorem prefix_recordOf (s : State) (d : Nat) (x : Det) :
    octs (bytesLE 8 x.stamp) ++ octs (bytesLE 1 x.chain) ++ octs (bytesLE 1 x.ch) ++ octs (bytesLE 1 x.prof) <+: s.recordOf d x := by
  have hstamp : octs (bytesLE 8 x.stamp) <+: setOcts (s.trec d) 0 8 x.stamp := append_prefix_setOcts List.nil_prefix 8 _ rfl
  have hchain := append_prefix_setOcts hstamp (o := 8) 1 x.chain (by simp)
  have hch := append_prefix_setOcts hchain (o := 9) 1 x.ch (by simp)
  have hprof := append_prefix_setOcts hch (o := 10) 1 x.prof (by simp)
  unfold State.recordOf
  iterate 4 refine prefix_setOcts ?_ _ _ (by simp)
  exact hprof

/-- Word i of a record. -/
def recWord (r : List Nat) (i : Nat) : Nat := natLE (ofOcts ((r.drop (4 * i)).take 4))

section
variable (s : State) (d : Nat) (r : List Nat)

theorem writesIn_setTrec : WritesIn (· ∈ (List.range 8).map (Reg.DMD_TREC d)) s (s.setTrec d r) :=
  .foldl (fun t _ hi => .wr t _ (List.mem_map_of_mem hi)) s

theorem rd_setTrec {i : Nat} (hi : i < 8) : (s.setTrec d r).rd (Reg.DMD_TREC d i) = word (recWord r i) := by
  have hother (t : State) (j : Nat) (hj : j ≠ i) :
      (t.wr (Reg.DMD_TREC d j) (word (recWord r j))).rd (Reg.DMD_TREC d i) = t.rd (Reg.DMD_TREC d i) :=
    State.rd_wr_of_ne _ _ (by simp only [Reg.DMD_TREC]; omega)
  obtain ⟨u, -, hend⟩ := foldl_visits (R := fun x y : State => y.rd (Reg.DMD_TREC d i) = x.rd (Reg.DMD_TREC d i)) (fun _ => rfl)
    (fun h g => g.trans h) List.nodup_range (List.mem_range.mpr hi) (fun t j _ => hother t j) s
  exact hend.trans (State.rd_wr_self ..)

end

theorem natLE_lt (l : List Byte) : natLE l < 256 ^ l.length := by
  induction l with
  | nil => decide
  | cons b l ih =>
    have hb : b.toNat < 256 := b.isLt
    rw [natLE, List.length_cons, Nat.pow_succ]
    omega

theorem recWord_lt (r : List Nat) (i : Nat) : recWord r i < 2 ^ 32 := by
  have hlen : (ofOcts ((r.drop (4 * i)).take 4)).length ≤ 4 := by simp [ofOcts]
  exact (natLE_lt _).trans_le (Nat.pow_le_pow_right (by decide) hlen)

theorem recWord_eq {r l : List Nat} {i : Nat} (hl : l.length = 4 * i) : recWord (l ++ r) i = natLE (ofOcts (r.take 4)) := by
  rw [recWord, ← hl, List.drop_left]

/-- The two words of the stamp. -/
theorem recWord_stamp (v : Nat) (l : List Nat) :
    recWord (octs (bytesLE 8 v) ++ l) 0 + 2 ^ 32 * recWord (octs (bytesLE 8 v) ++ l) 1 = v % 2 ^ 64 := by
  have hbytes : bytesLE 8 v = bytesLE 4 v ++ (bytesLE 8 v).drop 4 := rfl
  have hocts : octs (bytesLE 8 v) ++ l = octs (bytesLE 4 v) ++ (octs ((bytesLE 8 v).drop 4) ++ l) := by
    rw [hbytes, octs, List.map_append, List.append_assoc]; rfl
  have hlow : recWord (octs (bytesLE 8 v) ++ l) 0 = natLE (bytesLE 4 v) := by
    rw [hocts, ← List.nil_append (octs _ ++ _), recWord_eq rfl, List.take_left' (by simp), ofOcts_octs]
  have hhigh : recWord (octs (bytesLE 8 v) ++ l) 1 = natLE ((bytesLE 8 v).drop 4) := by
    rw [hocts, recWord_eq (by simp), List.take_left' (by simp), ofOcts_octs]
  have hsum := natLE_append (bytesLE 4 v) ((bytesLE 8 v).drop 4)
  rw [← hbytes, natLE_bytesLE, length_bytesLE] at hsum
  rw [hlow, hhigh]
  exact hsum.symm

/-- The word of chain, channel and profile. -/
theorem recWord_place (s c k p : Nat) (l : List Nat) :
    ∃ z, recWord (octs (bytesLE 8 s) ++ octs (bytesLE 1 c) ++ octs (bytesLE 1 k) ++ octs (bytesLE 1 p) ++ l) 2 =
      c % 256 + 256 * (k % 256 + 256 * (p % 256 + 256 * z)) := by
  refine ⟨natLE (ofOcts (l.take 1)), ?_⟩
  rw [List.append_assoc, List.append_assoc, List.append_assoc, recWord_eq (by simp)]
  simp [octs, ofOcts, bytesLE, byteOf, natLE]

theorem fld_word (n hi lo : Nat) (h32 : hi < 32) : fld (word n) hi lo = n / 2 ^ lo % 2 ^ (hi + 1 - lo) := by
  refine Nat.eq_of_testBit_eq fun i => ?_
  rw [fld_testBit, Nat.testBit_mod_two_pow, Nat.testBit_div_two_pow, word_toNat, Nat.testBit_mod_two_pow]
  by_cases hi' : i < hi + 1 - lo
  · simp [hi', show lo + i < 32 by omega, Nat.add_comm]
  · simp [hi']

/-! ### Allocation (R117-R119) -/

/-- The take of detection x at its allocation, were it not cut while it waited. -/
def State.takeOf (s : State) (x : Det) : Take :=
  { stamp := x.stamp, chain := x.chain, ch := x.ch, prof := x.prof, pw := s.profWords active x.prof, word := x.word,
    epoch := s.epochOf x.stamp }

/-- A take that a truncating cause at instant i ended before it began (R117). -/
def Take.cutAt (t : Take) (i : Nat) : Take := { t with outcome := some 8, endAt := i, eof := t.stamp }

/-- The state `u` with t beside the takes of `s`. -/
def withTake (s u : State) (d : Nat) (t : Take) : State := { u with lnk := { s.lnk with takes := s.lnk.takes.put d t } }

theorem mem_withTake (s u : State) (d : Nat) (t : Take) : (withTake s u d t).mem = u.mem := rfl

theorem ecc_withTake (s u : State) (d : Nat) (t : Take) : (withTake s u d t).ecc = u.ecc := rfl

/-- Detection x becomes a take of demodulator d. -/
def allotted (s : State) (d : Nat) (x : Det) : State :=
  withTake s ((s.setTrec d (s.recordOf d x)).putWord 12 (demodWord d) (x.stamp % 2 ^ 64)) d
    ((x.cut.map (s.takeOf x).cutAt).getD (s.takeOf x))

/-- HIWATER follows the takes in flight (R164). -/
def markHighWater (s : State) : State :=
  if s.rf Reg.DMD_STAT 23 16 < s.lnk.takes.length then s.wf Reg.DMD_STAT 23 16 s.lnk.takes.length else s

theorem allocate_eq (s : State) (d : Nat) (x : Det) : allocate s d x = markHighWater (allotted s d x) := by
  unfold allocate allotted
  cases x.cut <;> rfl

theorem writesIn_markHighWater (s : State) : WritesIn (· = Reg.DMD_STAT) s (markHighWater s) := by
  unfold markHighWater
  split
  · exact .wf s _ _ _ rfl
  · exact .refl _ s

section
variable (s : State) (d : Nat) (x : Det)

theorem allotted_frame : allotted s d x =
    { s with regs := (allotted s d x).regs, raised := (allotted s d x).raised, mem := (allotted s d x).mem, ecc := (allotted s d x).ecc,
             lnk := { s.lnk with takes := (allotted s d x).lnk.takes } } := by
  have hrec := (writesIn_setTrec s d (s.recordOf d x)).1
  unfold allotted withTake
  rw [State.putWord_frame]
  dsimp only
  rw [hrec]

theorem rd_allotted (a : Nat) : (allotted s d x).rd a = (s.setTrec d (s.recordOf d x)).rd a := by
  unfold allotted withTake State.rd
  rw [State.putWord_frame]

theorem raised_allotted : (allotted s d x).raised = (s.setTrec d (s.recordOf d x)).raised := by
  unfold allotted withTake
  rw [State.putWord_frame]

theorem keepsRegs_allocate : KeepsRegs ((List.range 8).map (Reg.DMD_TREC d) ++ [Reg.DMD_STAT]) s (allocate s d x) := by
  intro a ha
  obtain ⟨htrec, hstat⟩ : a ∉ (List.range 8).map (Reg.DMD_TREC d) ∧ a ≠ Reg.DMD_STAT := by simpa using ha
  obtain ⟨hrd, hraised⟩ := (writesIn_markHighWater (allotted s d x)).2 a hstat
  obtain ⟨hrd', hraised'⟩ := (writesIn_setTrec s d (s.recordOf d x)).2 a htrec
  rw [allocate_eq, hrd, hraised, rd_allotted, raised_allotted]
  exact ⟨hrd', hraised'⟩

theorem rd_trec_allocate {i : Nat} (hi : i < 8) : (allocate s d x).rd (Reg.DMD_TREC d i) = word (recWord (s.recordOf d x) i) := by
  have hne : Reg.DMD_TREC d i ≠ Reg.DMD_STAT := by simp only [Reg.DMD_TREC, Reg.DMD_STAT]; omega
  rw [allocate_eq, (writesIn_markHighWater _).rd hne, rd_allotted, rd_setTrec s d _ hi]

/-- The take record holds the stamp. -/
theorem stamp_allocate : (allocate s d x).rd64 (Reg.DMD_TREC d 0) = x.stamp % 2 ^ 64 := by
  obtain ⟨l, hl⟩ := prefix_recordOf s d x
  have hsum : recWord (s.recordOf d x) 0 + 2 ^ 32 * recWord (s.recordOf d x) 1 = x.stamp % 2 ^ 64 := by
    rw [← hl, List.append_assoc, List.append_assoc, List.append_assoc, recWord_stamp]
  have hnext : Reg.DMD_TREC d 0 + 4 = Reg.DMD_TREC d 1 := by simp only [Reg.DMD_TREC]
  rw [State.rd64, hnext, rd_trec_allocate s d x (by decide), rd_trec_allocate s d x (by decide), word_toNat, word_toNat,
    Nat.mod_eq_of_lt (recWord_lt ..), Nat.mod_eq_of_lt (recWord_lt ..), hsum]

/-- The take record names chain, channel and profile. -/
theorem place_allocate : let w := (allocate s d x).rd (Reg.DMD_TREC d 2)
    fld w 7 0 = x.chain % 256 ∧ fld w 15 8 = x.ch % 256 ∧ fld w 23 16 = x.prof % 256 := by
  obtain ⟨l, hl⟩ := prefix_recordOf s d x
  obtain ⟨z, hz⟩ := recWord_place x.stamp x.chain x.ch x.prof l
  rw [hl] at hz
  have h23 : 23 < 32 := by decide
  simp only [rd_trec_allocate s d x (i := 2) (by decide), hz, fld_word _ _ _ h23, fld_word _ 15 _ (by decide), fld_word _ 7 _ (by decide)]
  omega

end

theorem WordPut.congr {m i d : Nat} {u v u' v' : State} (h : WordPut m i d u v) (hum : u'.mem = u.mem) (hue : u'.ecc = u.ecc)
    (hvm : v'.mem = v.mem) (hve : v'.ecc = v.ecc) : WordPut m i d u' v' := by
  obtain ⟨hread, hout, hkeeps⟩ := h
  have hsame : v'.eccRead m i = v.eccRead m i := by
    simp only [State.eccRead, State.eccData, State.memByte, State.eccMark, hvm, hve]
  exact ⟨hsame.trans hread, by rwa [hum, hvm], by rwa [hue, hve]⟩

/-- The engine-state word of the demodulator holds the stamp (R444). -/
theorem wordPut_allocate (s : State) (d : Nat) (x : Det) : WordPut 12 (demodWord d) (x.stamp % 2 ^ 64) s (allocate s d x) := by
  have hput := wordPut_putWord (s.setTrec d (s.recordOf d x)) (m := 12) (by decide) (demodWord d)
    (d := x.stamp % 2 ^ 64) (Nat.mod_lt _ (by decide))
  have hmark := (writesIn_markHighWater (allotted s d x)).1
  have hrec := (writesIn_setTrec s d (s.recordOf d x)).1
  have hmem : (allocate s d x).mem = (allotted s d x).mem := by rw [allocate_eq, hmark]
  have hecc : (allocate s d x).ecc = (allotted s d x).ecc := by rw [allocate_eq, hmark]
  exact hput.congr (by rw [hrec]) (by rw [hrec]) (hmem.trans (mem_withTake ..)) (hecc.trans (ecc_withTake ..))

theorem takes_allocate (s : State) (d : Nat) (x : Det) :
    (allocate s d x).lnk.takes = s.lnk.takes.put d ((x.cut.map (s.takeOf x).cutAt).getD (s.takeOf x)) := by
  rw [allocate_eq, (writesIn_markHighWater _).1]
  rfl

theorem allocate_frame (s : State) (d : Nat) (x : Det) : allocate s d x =
    { s with regs := (allocate s d x).regs, raised := (allocate s d x).raised, mem := (allocate s d x).mem, ecc := (allocate s d x).ecc,
             lnk := { s.lnk with takes := (allocate s d x).lnk.takes } } := by
  rw [allocate_eq, (writesIn_markHighWater _).1, allotted_frame]

/-- A detection for which no demodulator is free is counted and told (R119). -/
def poolMissed (s : State) (x : Det) : State :=
  ((s.inc (Reg.DMD_CNT 6)).inc (Reg.DMD_POOL_MISS (64 * x.chain + x.ch))).emit [20, 220]

/-- The state without the first waiting detection. -/
def State.dropDet (s : State) : State := { s with chz := { s.chz with dets := s.chz.dets.tail } }

section
variable {s : State} {x : Det} (hhead : s.chz.dets.head? = some x) (hdue : x.stamp + 512 ≤ 8 * s.slate)
include hhead hdue

theorem allocateNext_of_free {m : Nat} (hm : m < 192) (hfree : s.demodFree m x.stamp = true)
    (hlow : ∀ j, j < m → s.demodFree j x.stamp = false) : allocateNext s = allocate s.dropDet m x := by
  obtain ⟨l, hl⟩ := List.head?_eq_some_iff.mp hhead
  have hlowest : lowest 192 (fun d => s.demodFree d x.stamp) = some m :=
    List.find?_range_eq_some.mpr ⟨hfree, List.mem_range.mpr hm, fun j hj => by rw [hlow j hj]; rfl⟩
  rw [State.dropDet, hl, List.tail_cons]
  simp only [allocateNext, hl, hlowest, if_neg (Nat.not_lt.mpr hdue)]

theorem allocateNext_of_none (hnone : ∀ j, j < 192 → s.demodFree j x.stamp = false) :
    allocateNext s = drainEpochs (poolMissed s.dropDet x) := by
  obtain ⟨l, hl⟩ := List.head?_eq_some_iff.mp hhead
  have hlowest : lowest 192 (fun d => s.demodFree d x.stamp) = none :=
    List.find?_range_eq_none.mpr fun j hj => by rw [hnone j hj]; rfl
  rw [State.dropDet, hl, List.tail_cons]
  simp only [allocateNext, hl, hlowest, if_neg (Nat.not_lt.mpr hdue), poolMissed]

end

theorem keepsRegs_poolMissed (s : State) (x : Det) :
    KeepsRegs [Reg.DMD_POOL_MISS (64 * x.chain + x.ch), Reg.DMD_CNT 6, Reg.CHZ_LASTDRN] s (poolMissed s x) :=
  (((KeepsRegs.refl _ s).inc _ (by simp)).inc _ (by simp)).emit _ _

theorem emit_frame (s : State) (l : List Nat) (n : Nat) : s.emit l n = { s with cue := (s.emit l n).cue } := rfl

theorem inc_frame (s : State) (a n : Nat) : s.inc a n = { s with regs := (s.inc a n).regs } := rfl

theorem poolMissed_frame (s : State) (x : Det) :
    poolMissed s x = { s with regs := (poolMissed s x).regs, cue := (poolMissed s x).cue } := by
  unfold poolMissed
  rw [emit_frame, inc_frame, inc_frame s]

theorem drainEpochs_poolMissed_frame (s : State) (x : Det) :
    let t := drainEpochs (poolMissed s x)
    t = { s with regs := t.regs, cue := t.cue, chz := { s.chz with epochs := t.chz.epochs, lastDrn := t.chz.lastDrn } } := by
  rw [poolMissed_frame]
  generalize (poolMissed s x).regs = regs, (poolMissed s x).cue = cue
  exact drainEpochs_frame _

theorem rd_poolMissed {s : State} {x : Det} (hne : Reg.DMD_POOL_MISS (64 * x.chain + x.ch) ≠ Reg.DMD_CNT 6) :
    (poolMissed s x).rd (Reg.DMD_POOL_MISS (64 * x.chain + x.ch)) = s.rd (Reg.DMD_POOL_MISS (64 * x.chain + x.ch)) + 1 ∧
    (poolMissed s x).rd (Reg.DMD_CNT 6) = s.rd (Reg.DMD_CNT 6) + 1 := by
  unfold poolMissed
  rw [State.rd_emit, State.rd_emit, State.rd_inc_self, State.rd_inc_of_ne _ _ hne, State.rd_inc_of_ne _ _ hne.symm, State.rd_inc_self]
  exact ⟨rfl, rfl⟩

theorem resumeSearch_of_due {s : State} {n k p r : Nat} (hr : s.lnk.parked.find (16 * (64 * n + k) + p) = some r) (hdue : r < s.slate) :
    resumeSearch s n k p = { s with lnk := { s.lnk with parked := s.lnk.parked.del (16 * (64 * n + k) + p) } } := by
  simp only [resumeSearch, hr, if_pos hdue]

theorem Completes.of_ok_search {i : Instr} {s t u : State} {P : State → Prop} {n k p : Nat} (h : n < 8 ∧ k < 64 ∧ p < 16)
    (he : exec i s = ok (n < 8 ∧ k < 64 ∧ p < 16) u) (hu : u = t) (hP : P t) : Completes i s P :=
  ⟨t, by rw [he, ok, if_pos (decide_eq_true h), hu], hP⟩

/-- Settles O28: a detection leaves the state or stands, and the first that waits is allotted the lowest free demodulator or missed. -/
theorem detectionsStandAndTakeTheLowestFreeDemodulator : Obligations.DetectionsStandAndTakeTheLowestFreeDemodulator := by
  intro d x m s hn hk hp key brb rate det mine rest waits pool take cut stands
  have hbounds : d.chain < 8 ∧ d.ch < 64 ∧ d.prof < 16 := ⟨hn, hk, hp⟩
  have hgoes {t : State} {P : State → Prop} (ht : detect s d = t) (hP : P t) : Completes (.detection d) s P :=
    .of_ok_search hbounds rfl ht hP
  refine ⟨fun h => hgoes (detect_of_not_matched h) rfl, fun y hy hbranch hframe hlater => ?_, fun hable hstands sync1 hsync => ?_,
    fun hwaits hm hfree hlow => ?_, fun hwaits hnone => ?_, fun r hr hdue => ?_⟩
  · by_cases hmatch : s.detectable d = false ∨ s.detectSync d = none
    · exact hgoes (detect_of_not_matched hmatch) rfl
    · obtain ⟨hable, hsome⟩ := not_or.mp hmatch
      obtain ⟨sync1, hsync⟩ := Option.ne_none_iff_exists'.mp hsome
      refine hgoes (detect_of_later (by simpa using hable) hsync hy ⟨hbranch, hframe, ?_⟩) rfl
      cases hb : d.onB <;> simp_all <;> omega
  · refine hgoes (detect_of_not_later hable hsync fun y hy hlater => ?_)
      ⟨rfl, SMap.find_put_self .., .put _ _ _, fun e he => ?_, ?_, fun e he hne => ?_⟩
    · obtain ⟨hbranch, hframe, hnot⟩ := hlater
      rcases hstands y hy with h | h | h
      · exact hbranch h
      · exact absurd (hframe.symm.trans h) (by decide)
      · exact hnot h
    · have := mem_dets_stood.mp he
      rwa [sameSearch_iff] at this
    · exact mem_dets_stood.mpr (.inl rfl)
    · exact mem_dets_stood.mpr (.inr ⟨he, fun h => hne (sameSearch_iff.mp h)⟩)
  · obtain ⟨hhead, hdue⟩ := hwaits
    refine ⟨_, congrArg Host.Outcome.next (allocateNext_of_free hhead hdue hm hfree hlow), ?_, ?_, ?_, ?_, ?_, ?_⟩
    · rw [allocate_frame]; rfl
    · exact (wordPut_allocate s.dropDet m x).congr rfl rfl rfl rfl
    · rw [takes_allocate]
      exact SMap.find_put_self ..
    · rw [takes_allocate]
      exact .put _ _ _
    · exact stamp_allocate ..
    · obtain ⟨hchain, hch, hprof⟩ := place_allocate s.dropDet m x
      exact ⟨hchain, hch, hprof, keepsRegs_allocate s.dropDet m x⟩
  · obtain ⟨hhead, hdue⟩ := hwaits
    refine ⟨_, congrArg Host.Outcome.next (allocateNext_of_none hhead hdue hnone), ?_, ?_, ?_, ?_, ?_, ?_⟩
    · rw [drainEpochs_poolMissed_frame]; rfl
    · rw [drainEpochs_poolMissed_frame]; rfl
    · intro c hc
      refine mem_pending_drainEpochs ?_
      rw [poolMissed, State.emit_cue]
      exact List.mem_append_right _ hc
    · intro hnil
      rw [drainEpochs_of_nil (s := poolMissed s.dropDet x) hnil]
      exact ⟨hnil, Fires.emit_after 1 rfl rfl⟩
    · intro hcnt hdrn
      have hcntdrn : Reg.DMD_CNT 6 ≠ Reg.CHZ_LASTDRN := by decide
      rw [(keepsRegs_drainEpochs _ pool (by simpa using hdrn)).1, (keepsRegs_drainEpochs _ (Reg.DMD_CNT 6) (by simpa using hcntdrn)).1]
      exact rd_poolMissed hcnt
    · exact (keepsRegs_poolMissed s.dropDet x).trans ((keepsRegs_drainEpochs _).mono (by simp))
  · exact .of_ok_search hbounds rfl (resumeSearch_of_due hr hdue) ⟨rfl, SMap.find_del_self .., fun i hi => SMap.find_del_of_ne _ hi⟩

end Sys2Proof.Machine

namespace Sys2Proof.Machine

/-! ### The validation of an apply (R104) -/

/-- Two states agree in the applies' epochs and in every register from CHZ.EPOCH on, among them the plans and profiles. -/
def SamePlans (s t : State) : Prop := t.chz.epochs = s.chz.epochs ∧ ∀ a, Reg.CHZ_EPOCH ≤ a → t.rd a = s.rd a

section
variable {s t : State} (h : SamePlans s t)
include h

theorem planC_congr (o n : Nat) : t.planC o n = s.planC o n := by
  rw [State.planC, State.planC, h.2 _ (by simp only [Reg.CHZ_EPOCH, Reg.CHZ_PCENTRE]; omega)]

theorem planS_congr (o n : Nat) : t.planS o n = s.planS o n := by
  rw [State.planS, State.planS, State.rf, State.rf, h.2 _ (by simp only [Reg.CHZ_EPOCH, Reg.CHZ_PCFG]; omega)]

theorem planD_congr (o n : Nat) : t.planD o n = s.planD o n := by
  rw [State.planD, State.planD, State.rf, State.rf, h.2 _ (by simp only [Reg.CHZ_EPOCH, Reg.CHZ_PCFG]; omega)]

theorem planN_congr (o n : Nat) : t.planN o n = s.planN o n := by
  rw [State.planN, State.planN, planS_congr h, planD_congr h]

theorem planMask_congr (o n : Nat) : t.planMask o n = s.planMask o n := by
  rw [State.planMask, State.planMask, h.2 _ (by simp only [Reg.CHZ_EPOCH, Reg.CHZ_PMASKLO]; omega),
    h.2 _ (by simp only [Reg.CHZ_EPOCH, Reg.CHZ_PMASKHI]; omega)]

theorem profWords_congr (o p : Nat) : t.profWords o p = s.profWords o p :=
  List.map_congr_left fun i _ => h.2 _ (by simp only [Reg.CHZ_EPOCH, Reg.CHZ_PROF_CFG]; omega)

theorem slotProf_congr (o n k i : Nat) : t.slotProf o n k i = s.slotProf o n k i := by
  rw [State.slotProf, State.slotProf, h.2 _ (by simp only [Reg.CHZ_EPOCH, Reg.CHZ_ASSIGN]; omega)]

theorem planOk_congr (n : Nat) : t.planOk n = s.planOk n := by
  simp only [State.planOk, State.chanHz, planC_congr h, planD_congr h, planN_congr h, planMask_congr h]
  rfl

theorem slotFault_congr (chains : Nat) (prof : Bool) (n k i : Nat) :
    t.slotFault chains prof n k i = s.slotFault chains prof n k i := by
  simp only [State.slotFault, slotProf_congr h, profWords_congr h, planD_congr h]

/-- The validation rests on the epochs, the plans and the profiles. -/
theorem applyFault_congr (chains : Nat) (prof : Bool) : t.applyFault chains prof = s.applyFault chains prof := by
  have hepoch : t.epoch = s.epoch := by rw [State.epoch, State.epoch, State.rf, State.rf, h.2 _ le_rfl]
  simp only [State.applyFault, h.1, hepoch, planOk_congr h, planN_congr h, slotFault_congr h, profWords_congr h]

end

theorem slotProf_lt {s : State} {o n k i p : Nat} (h : s.slotProf o n k i = some p) : p < 16 := by
  unfold State.slotProf at h
  dsimp only at h
  split at h
  · have hp : fld (s.rd (Reg.CHZ_ASSIGN (64 * n + k) + o)) (4 * i + 3) (4 * i) = p := Option.some.inj h
    rw [← hp, fld, nfld, show 4 * i + 3 + 1 - 4 * i = 4 by omega]
    exact Nat.mod_lt _ (by decide)
  · exact absurd h (by simp)

theorem slotFault_fits {s : State} {chains n k i : Nat} {prof : Bool} {f : Nat × Nat × Nat} (hn : n < 8)
    (h : s.slotFault chains prof n k i = some f) : f.1 < 16 ∧ f.2.1 < 16 ∧ f.2.2 < 16 := by
  unfold State.slotFault at h
  split at h
  · exact absurd h (by simp)
  · next p hp =>
    have hp16 := slotProf_lt hp
    dsimp only at h
    generalize s.profWords (if prof = true then 0 else active) p = w at h
    split_ifs at h <;> obtain rfl := Option.some.inj h
    · exact ⟨(by decide : 4 < 16), (by omega : n < 16), hp16⟩
    · exact ⟨(by decide : 3 < 16), (by omega : n < 16), hp16⟩

/-- What the validation finds fits the fields of CHZ.APPLYSTAT. -/
theorem applyFault_fits {s : State} {chains : Nat} {prof : Bool} {f : Nat × Nat × Nat} (h : s.applyFault chains prof = some f) :
    f.1 < 16 ∧ f.2.1 < 16 ∧ f.2.2 < 16 := by
  unfold State.applyFault at h
  split at h
  · obtain rfl := Option.some.inj h
    decide
  · split at h
    · next n hn =>
      have hn8 : n < 8 := List.mem_range.mp (List.mem_of_find?_eq_some hn)
      obtain rfl := Option.some.inj h
      exact ⟨(by decide : 2 < 16), (by omega : n < 16), (by decide : 0 < 16)⟩
    · dsimp only at h
      split at h
      · next g hg =>
        obtain rfl := Option.some.inj h
        obtain ⟨n, hn, hg⟩ := List.exists_of_findSome?_eq_some hg
        obtain ⟨k, -, hg⟩ := List.exists_of_findSome?_eq_some hg
        obtain ⟨i, -, hg⟩ := List.exists_of_findSome?_eq_some hg
        exact slotFault_fits (List.mem_range.mp hn) hg
      · split at h
        · obtain ⟨p, hp, rfl⟩ := Option.map_eq_some_iff.mp h
          have hp16 : p < 16 := List.mem_range.mp (List.mem_of_find?_eq_some hp)
          exact ⟨(by decide : 4 < 16), (by decide : 0 < 16), hp16⟩
        · exact absurd h (by simp)

/-! ### Refused applies (R104) -/

/-- An apply is refused with cause, chain and profile `f`: CHZ.APPLYSTAT shows them, APPLY_REFUSED fires, and nothing is copied. -/
def ApplyRefused (f : Nat × Nat × Nat) (s t : State) : Prop :=
  t = { s with regs := t.regs, raised := t.raised, cue := t.cue } ∧ Fires [16] 1 s t ∧ KeepsRegs [Reg.CHZ_APPLY, Reg.CHZ_APPLYSTAT] s t ∧
  t.rb Reg.CHZ_APPLYSTAT 0 = true ∧ t.rf Reg.CHZ_APPLYSTAT 11 8 = f.1 ∧ t.rf Reg.CHZ_APPLYSTAT 27 24 = f.2.1 ∧
  t.rf Reg.CHZ_APPLYSTAT 19 16 = f.2.2

/-- The bits above the one that is set. -/
theorem rf_wb_of_above (s : State) (a : Nat) {b hi lo : Nat} (v : Bool) (hb : b < 32) (h : b < lo) :
    (s.wb a b v).rf a hi lo = s.rf a hi lo := by
  rw [State.rf, State.rd_wb, State.rd_wf_self]
  exact fld_setFld_of_disjoint _ _ le_rfl hb (.inr h)

theorem rf_wf_of_disjoint (s : State) (a v : Nat) {hi lo hi' lo' : Nat} (h : lo ≤ hi) (h32 : hi < 32) (hd : hi' < lo ∨ hi < lo') :
    (s.wf a hi lo v).rf a hi' lo' = s.rf a hi' lo' := by
  rw [State.rf, State.rd_wf_self]
  exact fld_setFld_of_disjoint _ _ h h32 hd

theorem ApplyRefused.of_shown {s u : State} {f : Nat × Nat × Nat} (h : WritesOnly Reg.CHZ_APPLYSTAT s u)
    (hbit : u.rb Reg.CHZ_APPLYSTAT 0 = true) (hcause : u.rf Reg.CHZ_APPLYSTAT 11 8 = f.1)
    (hchain : u.rf Reg.CHZ_APPLYSTAT 27 24 = f.2.1) (hprof : u.rf Reg.CHZ_APPLYSTAT 19 16 = f.2.2) : ApplyRefused f s (u.emit [16]) :=
  ⟨h.frame_emit _ _, Fires.emit_after 1 h.cue h.slate, (h.2.mono (by simp)).emit _ _, hbit, hcause, hchain, hprof⟩

theorem applyRefused_refuses (s : State) {f : Nat × Nat × Nat} (hf : f.1 < 16 ∧ f.2.1 < 16 ∧ f.2.2 < 16) :
    ApplyRefused f s (applyRefused s f) := by
  obtain ⟨hcause, hchain, hprof⟩ := hf
  refine .of_shown ((((WritesOnly.wf ..).trans (.wf ..)).trans (.wf ..)).trans (.wb ..)) (State.rb_wb_self _ _ _ (by decide)) ?_ ?_ ?_
  all_goals rw [rf_wb_of_above _ _ _ (by decide) (by decide)]
  · rw [State.rf_wf_self _ _ _ (by decide) (by decide)]
    exact Nat.mod_eq_of_lt hcause
  · rw [rf_wf_of_disjoint _ _ _ (by decide) (by decide) (by decide), rf_wf_of_disjoint _ _ _ (by decide) (by decide) (by decide),
      State.rf_wf_self _ _ _ (by decide) (by decide)]
    exact Nat.mod_eq_of_lt hchain
  · rw [rf_wf_of_disjoint _ _ _ (by decide) (by decide) (by decide), State.rf_wf_self _ _ _ (by decide) (by decide)]
    exact Nat.mod_eq_of_lt hprof

/-! ### GO writes (R103, R104) -/

section
variable (s : State) (val : Word)

/-- The state in which a GO write is decided. -/
def goWritten : State := s.plainWrite Reg.CHZ_APPLY val

/-- The first failing cause of a GO write. -/
def State.goFault : Option (Nat × Nat × Nat) :=
  if s.chz.apply.isSome then some (1, 0, 0)
  else if fld val 7 0 = 0 ∧ !bit val 8 then some (6, 0, 0)
  else s.applyFault (fld val 7 0) (bit val 8)

/-- APPLYAT is 0 or past. -/
def State.applyPast : Bool := decide (s.rd64 (Reg.CHZ_APPLYAT 0) = 0 ∨ s.rd64 (Reg.CHZ_APPLYAT 0) < s.slate)

end

theorem exec_applyGo {s : State} {val : Word} (hon : s.mainOn = true) (hgo : bit val 31 = true) :
    exec (.applyGo val) s = .next (applyGo (goWritten s val)) := by
  simp only [exec, execApplyGo, ok, hgo, State.onMain, hon, if_true, chzBusWrite, goWritten]

theorem samePlans_goWritten (s : State) (val : Word) : SamePlans s (goWritten s val) := by
  refine ⟨rfl, fun a ha => State.rd_wr_of_ne _ _ ?_⟩
  simp only [Reg.CHZ_EPOCH, Reg.CHZ_APPLY] at ha ⊢
  omega

theorem chains_goWritten (s : State) (val : Word) : (goWritten s val).rf Reg.CHZ_APPLY 7 0 = fld val 7 0 :=
  rf_plainWrite_self s _ val (by decide) fun b _ hb => (by decide : ∀ b ≤ 7, (regRW Reg.CHZ_APPLY).testBit b = true) b hb

theorem prof_goWritten (s : State) (val : Word) : (goWritten s val).rb Reg.CHZ_APPLY 8 = bit val 8 :=
  (rb_plainWrite_self s _ val (by decide)).trans (if_pos (by decide))

theorem applyAt_goWritten (s : State) (val : Word) : (goWritten s val).rd64 (Reg.CHZ_APPLYAT 0) = s.rd64 (Reg.CHZ_APPLYAT 0) := by
  unfold State.rd64 goWritten State.plainWrite
  rw [State.rd_wr_of_ne _ _ (by decide), State.rd_wr_of_ne _ _ (by decide)]

theorem applyGo_of_fault {s : State} {val : Word} {f : Nat × Nat × Nat} (h : s.goFault val = some f) :
    applyGo (goWritten s val) = applyRefused (goWritten s val) f := by
  have hchz : (goWritten s val).chz = s.chz := rfl
  unfold State.goFault at h
  unfold applyGo
  dsimp only
  rw [chains_goWritten, prof_goWritten, hchz, applyFault_congr (samePlans_goWritten s val), h]

/-- An accepted apply pends for its instant. -/
def pendingApply (s : State) (val : Word) : State :=
  let u := if s.applyPast then (goWritten s val).wb Reg.CHZ_APPLYSTAT 3 true else goWritten s val
  let at_ := if s.applyPast then s.slate else s.rd64 (Reg.CHZ_APPLYAT 0)
  { u with chz := { s.chz with apply := some { chains := fld val 7 0, prof := bit val 8, at_ := at_ } } }

theorem applyGo_of_accepted {s : State} {val : Word} (h : s.goFault val = none) : applyGo (goWritten s val) = pendingApply s val := by
  have hchz : (goWritten s val).chz = s.chz := rfl
  have hslate : (goWritten s val).slate = s.slate := rfl
  unfold State.goFault at h
  unfold applyGo pendingApply State.applyPast
  dsimp only
  rw [chains_goWritten, prof_goWritten, hchz, applyFault_congr (samePlans_goWritten s val), h, applyAt_goWritten, hslate]
  dsimp only
  split <;> rfl

theorem ApplyRefused.of_goWritten {f : Nat × Nat × Nat} {s t : State} {val : Word} (h : ApplyRefused f (goWritten s val) t) :
    ApplyRefused f s t := by
  have hwrites : WritesOnly Reg.CHZ_APPLY s (goWritten s val) := .plainWrite s _ val
  obtain ⟨hframe, hfires, hkeeps, hshown⟩ := h
  exact ⟨hframe, hfires, (hwrites.2.mono (by simp)).trans hkeeps, hshown⟩

/-- A GO write with a failing cause is refused with it. -/
theorem completes_applyGo_refused {s : State} {val : Word} (hon : s.mainOn = true) (hgo : bit val 31 = true) {f : Nat × Nat × Nat}
    (hf : s.goFault val = some f) : Completes (.applyGo val) s (ApplyRefused f s) := by
  have hfits : f.1 < 16 ∧ f.2.1 < 16 ∧ f.2.2 < 16 := by
    unfold State.goFault at hf
    split_ifs at hf
    · obtain rfl := Option.some.inj hf
      decide
    · obtain rfl := Option.some.inj hf
      decide
    · exact applyFault_fits hf
  exact ⟨_, by rw [exec_applyGo hon hgo, applyGo_of_fault hf], (applyRefused_refuses _ hfits).of_goWritten⟩

theorem pendingApply_frame (s : State) (val : Word) : pendingApply s val =
    { s with regs := (pendingApply s val).regs, raised := (pendingApply s val).raised, chz := (pendingApply s val).chz } := by
  unfold pendingApply
  dsimp only
  split <;> rfl

theorem givesBits_pendingApply (s : State) (val : Word) :
    GivesBits Reg.CHZ_APPLYSTAT (if s.applyPast then [3] else []) true s (pendingApply s val) := by
  have hstat : (goWritten s val).rd Reg.CHZ_APPLYSTAT = s.rd Reg.CHZ_APPLYSTAT := State.rd_wr_of_ne _ _ (by decide)
  intro b hb
  have hbit : (goWritten s val).rb Reg.CHZ_APPLYSTAT b = s.rb Reg.CHZ_APPLYSTAT b := by rw [State.rb, hstat, State.rb]
  unfold pendingApply
  dsimp only
  split
  · rw [← hbit]; exact GivesBits.wb (goWritten s val) true (by decide) b hb
  · rw [if_neg List.not_mem_nil]; exact hbit

theorem keepsRegs_pendingApply (s : State) (val : Word) : KeepsRegs [Reg.CHZ_APPLY, Reg.CHZ_APPLYSTAT] s (pendingApply s val) := by
  have hwritten : KeepsRegs [Reg.CHZ_APPLY, Reg.CHZ_APPLYSTAT] s (goWritten s val) := (KeepsRegs.refl _ s).plainWrite val (by simp)
  unfold pendingApply
  dsimp only
  split
  · exact hwritten.wb 3 true (by simp)
  · exact hwritten

/-! ### The instant of an apply (R104, R105) -/

theorem applyInstant_of_fault {s : State} {p : PendApply} {f : Nat × Nat × Nat} (hp : s.chz.apply = some p) (hdue : p.at_ ≤ s.slate)
    (hf : s.applyFault p.chains p.prof = some f) :
    applyInstant s = applyRefused { s with chz := { s.chz with apply := none } } f := by
  simp only [applyInstant, hp, if_neg (Nat.not_lt.mpr hdue), hf]

theorem applyInstant_of_valid {s : State} {p : PendApply} (hp : s.chz.apply = some p) (hdue : p.at_ ≤ s.slate)
    (hf : s.applyFault p.chains p.prof = none) : applyInstant s = applyCommit s p := by
  simp only [applyInstant, hp, if_neg (Nat.not_lt.mpr hdue), hf]

end Sys2Proof.Machine

namespace Sys2Proof.Machine

/-! ### What an apply touches -/

/-- From `s` to `t` nothing changes but registers at the addresses of `A`, the chains of `C`, outages, and the takes and waiting
detections that a retune truncates, whose epochs stay. -/
structure Retunes (A C : Nat → Prop) (s t : State) : Prop where
  frame : t = { s with regs := t.regs, raised := t.raised, rfs := t.rfs, chz := { s.chz with dets := t.chz.dets },
                       lnk := { s.lnk with takes := t.lnk.takes } }
  dets : s.chz.dets = [] → t.chz.dets = []
  takes : ∀ e, (t.lnk.takes.any fun k => k.2.epoch == e) = s.lnk.takes.any fun k => k.2.epoch == e
  rd : ∀ a, ¬A a → t.rd a = s.rd a
  chain : ∀ m, ¬C m → t.chain m = s.chain m

section
variable {A C : Nat → Prop} {s t u : State}

theorem Retunes.refl (A C : Nat → Prop) (s : State) : Retunes A C s s := ⟨rfl, id, fun _ => rfl, fun _ _ => rfl, fun _ _ => rfl⟩

theorem Retunes.trans (h : Retunes A C s t) (g : Retunes A C t u) : Retunes A C s u :=
  ⟨by rw [g.frame, h.frame], fun hd => g.dets (h.dets hd), fun e => (g.takes e).trans (h.takes e),
    fun a ha => (g.rd a ha).trans (h.rd a ha), fun m hm => (g.chain m hm).trans (h.chain m hm)⟩

theorem Retunes.of_writesIn (h : WritesIn A s t) : Retunes A C s t := by
  obtain ⟨hframe, hrd⟩ := h
  obtain ⟨regs, raised, rfl⟩ : ∃ regs raised, t = { s with regs := regs, raised := raised } := ⟨_, _, hframe⟩
  exact ⟨rfl, id, fun _ => rfl, fun a ha => (hrd a ha).1, fun _ _ => rfl⟩

theorem Retunes.truncateChain (s : State) (n : Nat) : Retunes A C s (truncateChain s n) := by
  refine ⟨rfl, fun h => ?_, fun e => ?_, fun _ _ => rfl, fun _ _ => rfl⟩
  · simp [Machine.truncateChain, h]
  · have hepoch (k : Nat × Take) : ((if (n == 8 || k.2.chain == n) = true ∧ k.2.outcome = none then
        (k.1, { k.2 with outcome := some 8, endAt := 8 * s.slate, eof := 8 * s.slate }) else k).2.epoch == e) = (k.2.epoch == e) := by
      split <;> rfl
    simp only [Machine.truncateChain, List.any_map]
    exact congrArg (List.any s.lnk.takes) (funext hepoch)

theorem Retunes.addOut (s : State) (n : Nat) (k : OutKind) (till : Option Nat) : Retunes A C s (s.addOut n k till) :=
  ⟨rfl, id, fun _ => rfl, fun _ _ => rfl, fun _ _ => rfl⟩

theorem Retunes.setChain (s : State) {n : Nat} (c : Chain) (hn : C n) : Retunes A C s (s.setChain n c) :=
  ⟨rfl, id, fun _ => rfl, fun _ _ => rfl, fun _ hm => SMap.get_store_of_ne _ _ _ _ fun e => hm (e ▸ hn)⟩

theorem Retunes.gainReset (s : State) {n : Nat} (hn : C n) (hg : A (Reg.RFC_GAIN n)) : Retunes A C s (gainReset s n) :=
  (Retunes.setChain s _ hn).trans (.of_writesIn (.wr _ _ hg))

theorem Retunes.mono {B D : Nat → Prop} (h : Retunes A C s t) (hAB : ∀ a, A a → B a) (hCD : ∀ m, C m → D m) : Retunes B D s t :=
  ⟨h.frame, h.dets, h.takes, fun a ha => h.rd a fun hA => ha (hAB a hA), fun m hm => h.chain m fun hC => hm (hCD m hC)⟩

end

/-- RXLO once it is loaded, a retune writes no register but the gain. -/
theorem retunes_loadRxlo (s : State) (n : Nat) : Retunes (· = Reg.RFC_GAIN n) (· = n)
    (s.wr (Reg.RFC_RXLO n) (word (tuneWord (s.planC active n)))) (loadRxlo s n) := by
  unfold loadRxlo
  dsimp only
  split
  · refine (((Retunes.truncateChain _ n).trans (.addOut ..)).trans (.setChain _ _ ?_)).trans (.gainReset _ ?_ ?_) <;> rfl
  · exact .refl ..

theorem rxlo_loadRxlo (s : State) {n : Nat} : (loadRxlo s n).rd (Reg.RFC_RXLO n) = word (tuneWord (s.planC active n)) := by
  rw [(retunes_loadRxlo s n).rd _ (by simp only [Reg.RFC_RXLO, Reg.RFC_GAIN]; omega), State.rd_wr_self]

/-! ### Words copied from the staged to the active registers (R102, R105) -/

section
variable (s : State) (a b k : Nat)

theorem writesIn_copyWords : WritesIn (fun c => b ≤ c ∧ c < b + 4 * k) s (copyWords s a b k) :=
  .foldl (fun t i hi => .wr t _ (by have := List.mem_range.mp hi; omega)) s

theorem rd_copyWords {i : Nat} (hi : i < k) (hab : a + 4 * k ≤ b) : (copyWords s a b k).rd (b + 4 * i) = s.rd (a + 4 * i) := by
  obtain ⟨u, ⟨-, hsrc⟩, hend, -⟩ := foldl_visits
    (R := fun x y : State => y.rd (b + 4 * i) = x.rd (b + 4 * i) ∧ y.rd (a + 4 * i) = x.rd (a + 4 * i))
    (f := fun t j => t.wr (b + 4 * j) (t.rd (a + 4 * j))) (fun _ => ⟨rfl, rfl⟩) (fun h g => ⟨g.1.trans h.1, g.2.trans h.2⟩)
    List.nodup_range (List.mem_range.mpr hi)
    (fun t j hj hne => ⟨State.rd_wr_of_ne _ _ (by omega), State.rd_wr_of_ne _ _ (by omega)⟩) s
  rw [copyWords, hend, State.rd_wr_self, hsrc]

end

/-- The registers of the active plan of chain n. -/
def planReg (n a : Nat) : Prop := Reg.CHZ_PCENTRE_A n ≤ a ∧ a < Reg.CHZ_PCENTRE_A n + 16

/-- The registers of the active assignments of chain n. -/
def assignReg (n a : Nat) : Prop := Reg.CHZ_ASSIGN_A (64 * n) ≤ a ∧ a < Reg.CHZ_ASSIGN_A (64 * n) + 256

/-- The registers that an apply of chain n writes. -/
def chainReg (n a : Nat) : Prop := a = Reg.RFC_RXLO n ∨ a = Reg.RFC_GAIN n ∨ planReg n a ∨ assignReg n a

/-- Chain n's staged plan and assignments, copied. -/
def chainCopied (s : State) (n : Nat) : State :=
  let u := copyWords s (Reg.CHZ_PCENTRE n) (Reg.CHZ_PCENTRE_A n) 4
  let m := u.planMask active n % 2 ^ u.planN active n
  copyWords ((u.wr (Reg.CHZ_PMASKLO_A n) (word m)).wr (Reg.CHZ_PMASKHI_A n) (word (m / 2 ^ 32)))
    (Reg.CHZ_ASSIGN (64 * n)) (Reg.CHZ_ASSIGN_A (64 * n)) 64

/-- C, S or the raster of chain n change. -/
def State.replans (s : State) (n : Nat) : Prop :=
  s.planC 0 n ≠ s.planC active n ∨ s.planS 0 n ≠ s.planS active n ∨ s.planD 0 n ≠ s.planD active n

theorem applyChain_of_replans {s : State} {n : Nat} (h : s.replans n) : applyChain s n = loadRxlo (chainCopied s n) n :=
  if_pos (by simpa [State.replans, or_assoc] using h)

theorem applyChain_of_not_replans {s : State} {n : Nat} (h : ¬s.replans n) : applyChain s n = chainCopied s n :=
  if_neg (by simpa [State.replans, and_assoc] using h)

theorem writesIn_chainCopied (s : State) (n : Nat) : WritesIn (fun a => planReg n a ∨ assignReg n a) s (chainCopied s n) := by
  refine ((((writesIn_copyWords s _ _ 4).mono fun a ha => .inl ha).trans (.wr _ _ (.inl ?_))).trans (.wr _ _ (.inl ?_))).trans
    ((writesIn_copyWords _ _ _ 64).mono fun a ha => .inr ha)
  all_goals simp only [planReg, Reg.CHZ_PCENTRE_A, Reg.CHZ_PMASKLO_A, Reg.CHZ_PMASKHI_A]; omega

theorem retunes_applyChain (s : State) (n : Nat) : Retunes (chainReg n) (· = n) s (applyChain s n) := by
  have hcopied : Retunes (chainReg n) (· = n) s (chainCopied s n) :=
    .of_writesIn ((writesIn_chainCopied s n).mono fun _ ha => .inr (.inr ha))
  by_cases h : s.replans n
  · rw [applyChain_of_replans h]
    refine (hcopied.trans (.of_writesIn (.wr _ _ (.inl rfl)))).trans ((retunes_loadRxlo _ n).mono ?_ fun _ => id)
    rintro a rfl
    exact .inr (.inl rfl)
  · rwa [applyChain_of_not_replans h]

/-! ### The active plan of a chain after an apply (R105) -/

/-- The active plan and assignments of chain n in `t` are the staged ones in `s`, with the enables of the N channels. -/
structure PlanActive (n : Nat) (s t : State) : Prop where
  centre : t.rd (Reg.CHZ_PCENTRE n + active) = s.rd (Reg.CHZ_PCENTRE n)
  cfg : t.rd (Reg.CHZ_PCFG n + active) = s.rd (Reg.CHZ_PCFG n)
  mask : t.planMask active n = s.planMask 0 n % 2 ^ s.planN 0 n
  assign : ∀ k, k < 64 → t.rf (Reg.CHZ_ASSIGN_A (64 * n + k)) 19 0 = s.rf (Reg.CHZ_ASSIGN (64 * n + k)) 19 0

/-- The registers of CHZ before the active copies, among them the staged plans and profiles (R102). -/
def stagedReg (a : Nat) : Prop := Reg.CHZ_APPLY ≤ a ∧ a < Reg.CHZ_APPLY + active

/-- The registers that an apply of another chain than n writes. -/
def otherReg (n a : Nat) : Prop := ∃ m, m < 8 ∧ m ≠ n ∧ chainReg m a

theorem planMask_eq {s t : State} {o o' n : Nat} (hlo : t.rd (Reg.CHZ_PMASKLO n + o) = s.rd (Reg.CHZ_PMASKLO n + o'))
    (hhi : t.rd (Reg.CHZ_PMASKHI n + o) = s.rd (Reg.CHZ_PMASKHI n + o')) : t.planMask o n = s.planMask o' n := by
  rw [State.planMask, State.planMask, hlo, hhi]

theorem planN_eq {s t : State} {o o' n : Nat} (h : t.rd (Reg.CHZ_PCFG n + o) = s.rd (Reg.CHZ_PCFG n + o')) : t.planN o n = s.planN o' n := by
  simp only [State.planN, State.planS, State.planD, State.rf, h]

/-- The four words of a plan, copied. -/
theorem rd_copiedPlan (s : State) (n : Nat) :
    let u := copyWords s (Reg.CHZ_PCENTRE n) (Reg.CHZ_PCENTRE_A n) 4
    u.rd (Reg.CHZ_PCENTRE n + active) = s.rd (Reg.CHZ_PCENTRE n) ∧ u.rd (Reg.CHZ_PCFG n + active) = s.rd (Reg.CHZ_PCFG n) ∧
    u.rd (Reg.CHZ_PMASKLO n + active) = s.rd (Reg.CHZ_PMASKLO n) ∧ u.rd (Reg.CHZ_PMASKHI n + active) = s.rd (Reg.CHZ_PMASKHI n) := by
  have hcopied {i a : Nat} (hi : i < 4) (ha : a = Reg.CHZ_PCENTRE n + 4 * i) :
      (copyWords s (Reg.CHZ_PCENTRE n) (Reg.CHZ_PCENTRE_A n) 4).rd (a + active) = s.rd a := by
    have hcopy := rd_copyWords s (Reg.CHZ_PCENTRE n) (Reg.CHZ_PCENTRE_A n) 4 hi
      (by simp only [Reg.CHZ_PCENTRE, Reg.CHZ_PCENTRE_A]; omega)
    rwa [← ha, show Reg.CHZ_PCENTRE_A n + 4 * i = a + active by
      simp only [ha, Reg.CHZ_PCENTRE, Reg.CHZ_PCENTRE_A, active]; omega] at hcopy
  refine ⟨hcopied (i := 0) (by decide) rfl, hcopied (i := 1) (by decide) ?_, hcopied (i := 2) (by decide) ?_,
    hcopied (i := 3) (by decide) ?_⟩
  all_goals simp only [Reg.CHZ_PCENTRE, Reg.CHZ_PCFG, Reg.CHZ_PMASKLO, Reg.CHZ_PMASKHI]; omega

/-- The enable mask that is cut to the N channels. -/
theorem planMask_wr_wr (u : State) (n m : Nat) (hm : m < 2 ^ 64) :
    ((u.wr (Reg.CHZ_PMASKLO_A n) (word m)).wr (Reg.CHZ_PMASKHI_A n) (word (m / 2 ^ 32))).planMask active n = m := by
  have hlo : Reg.CHZ_PMASKLO n + active = Reg.CHZ_PMASKLO_A n := by
    simp only [Reg.CHZ_PMASKLO, Reg.CHZ_PMASKLO_A, active]; omega
  have hhi : Reg.CHZ_PMASKHI n + active = Reg.CHZ_PMASKHI_A n := by
    simp only [Reg.CHZ_PMASKHI, Reg.CHZ_PMASKHI_A, active]; omega
  have hne : Reg.CHZ_PMASKLO_A n ≠ Reg.CHZ_PMASKHI_A n := by
    simp only [Reg.CHZ_PMASKLO_A, Reg.CHZ_PMASKHI_A]; omega
  rw [State.planMask, hlo, hhi, State.rd_wr_of_ne _ _ hne, State.rd_wr_self, State.rd_wr_self, word_toNat, word_toNat]
  omega

theorem planActive_chainCopied (s : State) {n : Nat} (hn : n < 8) : PlanActive n s (chainCopied s n) := by
  obtain ⟨hcentre, hcfg, hlo, hhi⟩ := rd_copiedPlan s n
  have hplan := writesIn_copyWords s (Reg.CHZ_PCENTRE n) (Reg.CHZ_PCENTRE_A n) 4
  unfold chainCopied
  dsimp only
  generalize copyWords s (Reg.CHZ_PCENTRE n) (Reg.CHZ_PCENTRE_A n) 4 = u at hcentre hcfg hlo hhi hplan ⊢
  have hmask : u.planMask active n = s.planMask 0 n := planMask_eq hlo hhi
  have hcount : u.planN active n = s.planN 0 n := planN_eq hcfg
  rw [hmask, hcount]
  have hm : s.planMask 0 n % 2 ^ s.planN 0 n < 2 ^ 64 :=
    (Nat.mod_lt _ (by positivity)).trans_le (Nat.pow_le_pow_right (by decide) (s.planN_le 0 n))
  have hcut := planMask_wr_wr u n _ hm
  generalize hv : (u.wr (Reg.CHZ_PMASKLO_A n) _).wr (Reg.CHZ_PMASKHI_A n) _ = v at hcut ⊢
  have hwr : WritesIn (fun a => a = Reg.CHZ_PMASKLO_A n ∨ a = Reg.CHZ_PMASKHI_A n) u v :=
    hv ▸ (WritesIn.wr _ _ (.inl rfl)).trans (.wr _ _ (.inr rfl))
  have hassign := writesIn_copyWords v (Reg.CHZ_ASSIGN (64 * n)) (Reg.CHZ_ASSIGN_A (64 * n)) 64
  refine ⟨?_, ?_, ?_, fun k hk => ?_⟩
  · rw [hassign.rd, hwr.rd, hcentre]
    all_goals simp only [Reg.CHZ_PCENTRE, Reg.CHZ_PMASKLO_A, Reg.CHZ_PMASKHI_A, Reg.CHZ_ASSIGN_A, active]; omega
  · rw [hassign.rd, hwr.rd, hcfg]
    all_goals simp only [Reg.CHZ_PCFG, Reg.CHZ_PMASKLO_A, Reg.CHZ_PMASKHI_A, Reg.CHZ_ASSIGN_A, active]; omega
  · refine (planMask_eq (hassign.rd ?_) (hassign.rd ?_)).trans hcut
    all_goals simp only [Reg.CHZ_PMASKLO, Reg.CHZ_PMASKHI, Reg.CHZ_ASSIGN_A, active]; omega
  · have hto : Reg.CHZ_ASSIGN_A (64 * n + k) = Reg.CHZ_ASSIGN_A (64 * n) + 4 * k := by simp only [Reg.CHZ_ASSIGN_A]; omega
    have hfrom : Reg.CHZ_ASSIGN (64 * n + k) = Reg.CHZ_ASSIGN (64 * n) + 4 * k := by simp only [Reg.CHZ_ASSIGN]; omega
    rw [State.rf, State.rf, hto, hfrom, rd_copyWords _ _ _ _ hk, hwr.rd, hplan.rd]
    all_goals
      simp only [Reg.CHZ_ASSIGN, Reg.CHZ_ASSIGN_A, Reg.CHZ_PMASKLO_A, Reg.CHZ_PMASKHI_A, Reg.CHZ_PCENTRE_A]; omega

/-! ### The chains of an apply, one by one -/

/-- Every applied chain's staged plan and assignments are active. -/
def plansApplied (s : State) (chains : Nat) : State :=
  (List.range 8).foldl (fun s n => if chains.testBit n then applyChain s n else s) s

theorem retunes_plansApplied (s : State) (chains : Nat) :
    Retunes (fun a => ∃ m, m < 8 ∧ chainReg m a) (fun _ => True) s (plansApplied s chains) := by
  refine List.foldlRecOn _ _ (.refl _ _ s) fun t h n hn => h.trans ?_
  split
  · exact (retunes_applyChain t n).mono (fun a ha => ⟨n, List.mem_range.mp hn, ha⟩) fun _ _ => trivial
  · exact .refl _ _ t

theorem not_otherReg_of_staged {n a : Nat} (ha : stagedReg a) : ¬otherReg n a := by
  rintro ⟨m, hm, -, hreg⟩
  simp only [stagedReg, chainReg, Reg.CHZ_APPLY, active, Reg.RFC_RXLO, Reg.RFC_GAIN, planReg, assignReg, Reg.CHZ_PCENTRE_A,
    Reg.CHZ_ASSIGN_A] at ha hreg
  omega

theorem not_otherReg_of_own {n a : Nat} (hn : n < 8) (ha : chainReg n a) : ¬otherReg n a := by
  rintro ⟨m, hm, hne, hreg⟩
  simp only [chainReg, planReg, assignReg, Reg.RFC_RXLO, Reg.RFC_GAIN, Reg.CHZ_PCENTRE_A, Reg.CHZ_ASSIGN_A] at ha hreg
  omega

/-- The applies of the other chains leave chain n and its registers alone. -/
theorem plansApplied_visits (s : State) (chains : Nat) {n : Nat} (hn : n < 8) :
    ∃ u, Retunes (otherReg n) (· ≠ n) s u ∧
      Retunes (otherReg n) (· ≠ n) (if chains.testBit n then applyChain u n else u) (plansApplied s chains) := by
  refine foldl_visits (R := Retunes (otherReg n) (· ≠ n)) (f := fun s n => if chains.testBit n then applyChain s n else s)
    (.refl _ _) (fun h g => h.trans g) List.nodup_range (List.mem_range.mpr hn) (fun t m hm hne => ?_) s
  split
  · refine (retunes_applyChain t m).mono (fun a ha => ⟨m, List.mem_range.mp hm, hne, ha⟩) ?_
    rintro _ rfl
    exact hne
  · exact .refl _ _ t

theorem planReg_active (n : Nat) : planReg n (Reg.CHZ_PCENTRE n + active) ∧ planReg n (Reg.CHZ_PCFG n + active) ∧
    planReg n (Reg.CHZ_PMASKLO n + active) ∧ planReg n (Reg.CHZ_PMASKHI n + active) := by
  simp only [planReg, Reg.CHZ_PCENTRE_A, active, Reg.CHZ_PCENTRE, Reg.CHZ_PCFG, Reg.CHZ_PMASKLO, Reg.CHZ_PMASKHI]
  omega

theorem stagedReg_plan {n : Nat} (hn : n < 8) : stagedReg (Reg.CHZ_PCENTRE n) ∧ stagedReg (Reg.CHZ_PCFG n) ∧
    stagedReg (Reg.CHZ_PMASKLO n) ∧ stagedReg (Reg.CHZ_PMASKHI n) := by
  simp only [stagedReg, Reg.CHZ_APPLY, active, Reg.CHZ_PCENTRE, Reg.CHZ_PCFG, Reg.CHZ_PMASKLO, Reg.CHZ_PMASKHI]
  omega

theorem stagedReg_assign {c : Nat} (hc : c < 512) : stagedReg (Reg.CHZ_ASSIGN c) := by
  simp only [stagedReg, Reg.CHZ_APPLY, active, Reg.CHZ_ASSIGN]
  omega

/-- The active plan of chain n rests on what is staged, on its own registers, and on the part of its assignments without SHADOW. -/
theorem PlanActive.congr {n : Nat} {s t s' t' : State} (h : PlanActive n s t) (hn : n < 8)
    (hs : ∀ a, stagedReg a → s'.rd a = s.rd a) (ht : ∀ a, planReg n a → t'.rd a = t.rd a)
    (hassign : ∀ k, k < 64 → t'.rf (Reg.CHZ_ASSIGN_A (64 * n + k)) 19 0 = t.rf (Reg.CHZ_ASSIGN_A (64 * n + k)) 19 0) :
    PlanActive n s' t' := by
  obtain ⟨hcentre, hcfg, hlo, hhi⟩ := stagedReg_plan hn
  obtain ⟨hcentre', hcfg', hlo', hhi'⟩ := planReg_active n
  refine ⟨?_, ?_, ?_, fun k hk => ?_⟩
  · rw [ht _ hcentre', h.centre, hs _ hcentre]
  · rw [ht _ hcfg', h.cfg, hs _ hcfg]
  · rw [planMask_eq (ht _ hlo') (ht _ hhi'), h.mask, planMask_eq (o' := 0) (hs _ hlo) (hs _ hhi), planN_eq (o' := 0) (hs _ hcfg)]
  · rw [hassign k hk, h.assign k hk, State.rf, State.rf, hs _ (stagedReg_assign (by omega))]

theorem replans_congr {s t : State} {n : Nat} (hn : n < 8) (hs : ∀ a, stagedReg a → t.rd a = s.rd a)
    (ht : ∀ a, planReg n a → t.rd a = s.rd a) : t.replans n ↔ s.replans n := by
  obtain ⟨hcentre, hcfg, -, -⟩ := stagedReg_plan hn
  obtain ⟨hcentre', hcfg', -, -⟩ := planReg_active n
  simp only [State.replans, State.planC, State.planS, State.planD, State.rf, Nat.add_zero, hs _ hcentre, hs _ hcfg, ht _ hcentre',
    ht _ hcfg']

theorem rd_loadRxlo_of_copied (s : State) {n a : Nat} (ha : planReg n a ∨ assignReg n a) :
    (loadRxlo s n).rd a = s.rd a := by
  obtain ⟨hrxlo, hgain⟩ : a ≠ Reg.RFC_RXLO n ∧ a ≠ Reg.RFC_GAIN n := by
    simp only [planReg, assignReg, Reg.CHZ_PCENTRE_A, Reg.CHZ_ASSIGN_A] at ha
    simp only [Reg.RFC_RXLO, Reg.RFC_GAIN]
    omega
  rw [(retunes_loadRxlo s n).rd a hgain, State.rd_wr_of_ne _ _ hrxlo]

theorem assignReg_assign (n : Nat) {k : Nat} (hk : k < 64) : assignReg n (Reg.CHZ_ASSIGN_A (64 * n + k)) := by
  simp only [assignReg, Reg.CHZ_ASSIGN_A]
  omega

theorem planActive_applyChain (s : State) {n : Nat} (hn : n < 8) : PlanActive n s (applyChain s n) := by
  have hcopied := planActive_chainCopied s hn
  by_cases h : s.replans n
  · rw [applyChain_of_replans h]
    refine hcopied.congr hn (fun _ _ => rfl) (fun a ha => rd_loadRxlo_of_copied _ (.inl ha)) fun k hk => ?_
    rw [State.rf, State.rf, rd_loadRxlo_of_copied _ (.inr (assignReg_assign n hk))]
  · rwa [applyChain_of_not_replans h]

/-- What the applies leave of chain n where it is applied itself: the staged plan, tuned to its centre where it changed. -/
theorem plansApplied_of_testBit (s : State) {chains n : Nat} (hn : n < 8) (hbit : chains.testBit n = true) :
    let t := plansApplied s chains
    PlanActive n s t ∧ (s.replans n → t.rd (Reg.RFC_RXLO n) = word (tuneWord (s.planC 0 n))) ∧
    (¬s.replans n → t.rd (Reg.RFC_RXLO n) = s.rd (Reg.RFC_RXLO n) ∧ t.chain n = s.chain n) := by
  obtain ⟨u, hu, hend⟩ := plansApplied_visits s chains hn
  rw [if_pos hbit] at hend
  have hown {a : Nat} (ha : chainReg n a) : (plansApplied s chains).rd a = (applyChain u n).rd a := hend.rd a (not_otherReg_of_own hn ha)
  have hstaged (a : Nat) (ha : stagedReg a) : u.rd a = s.rd a := hu.rd a (not_otherReg_of_staged ha)
  have hu' {a : Nat} (ha : chainReg n a) : u.rd a = s.rd a := hu.rd a (not_otherReg_of_own hn ha)
  have hsame : u.replans n ↔ s.replans n := replans_congr hn hstaged fun a ha => hu' (.inr (.inr (.inl ha)))
  refine ⟨(planActive_applyChain u hn).congr hn (fun a ha => (hstaged a ha).symm) (fun a ha => hown (.inr (.inr (.inl ha))))
    fun k hk => ?_, fun h => ?_, fun h => ?_⟩
  · rw [State.rf, State.rf, hown (.inr (.inr (.inr (assignReg_assign n hk))))]
  · have hcentre : (chainCopied u n).planC active n = s.planC 0 n := by
      rw [State.planC, (planActive_chainCopied u hn).centre, hstaged _ (stagedReg_plan hn).1]
      rfl
    rw [hown (.inl rfl), applyChain_of_replans (hsame.mpr h), rxlo_loadRxlo, hcentre]
  · have hkept := writesIn_chainCopied u n
    have hcopied := applyChain_of_not_replans fun g => h (hsame.mp g)
    have hrxlo : ¬(planReg n (Reg.RFC_RXLO n) ∨ assignReg n (Reg.RFC_RXLO n)) := by
      simp only [planReg, assignReg, Reg.RFC_RXLO, Reg.CHZ_PCENTRE_A, Reg.CHZ_ASSIGN_A]
      omega
    constructor
    · rw [hown (.inl rfl), hcopied, hkept.rd hrxlo, hu' (.inl rfl)]
    · have hchain : (chainCopied u n).chain n = u.chain n := (Retunes.of_writesIn (C := fun _ => False) hkept).chain n id
      rw [hend.chain n (by simp), hcopied, hchain, hu.chain n (by simp)]

/-- What the applies leave of a chain that is not applied. -/
theorem plansApplied_of_not_testBit (s : State) {chains n : Nat} (hn : n < 8) (hbit : chains.testBit n = false) :
    (∀ a, chainReg n a → (plansApplied s chains).rd a = s.rd a) ∧ (plansApplied s chains).chain n = s.chain n := by
  obtain ⟨u, hu, hend⟩ := plansApplied_visits s chains hn
  rw [hbit, if_neg Bool.false_ne_true] at hend
  refine ⟨fun a ha => ?_, ?_⟩
  · rw [hend.rd a (not_otherReg_of_own hn ha), hu.rd a (not_otherReg_of_own hn ha)]
  · rw [hend.chain n (by simp), hu.chain n (by simp)]

/-! ### SHADOW bits (R100) -/

/-- From `s` to `t` only SHADOW bits change: those of the active assignments, and that of CHZ.APPLYSTAT. -/
def ShadowsOnly (s t : State) : Prop :=
  WritesIn (fun a => a = Reg.CHZ_APPLYSTAT ∨ (Reg.CHZ_ASSIGN_A 0 ≤ a ∧ a < Reg.CHZ_ASSIGN_A 512)) s t ∧
  ∀ c, t.rf (Reg.CHZ_ASSIGN_A c) 19 0 = s.rf (Reg.CHZ_ASSIGN_A c) 19 0

theorem ShadowsOnly.refl (s : State) : ShadowsOnly s s := ⟨.refl _ s, fun _ => rfl⟩

theorem ShadowsOnly.trans {s t u : State} (h : ShadowsOnly s t) (g : ShadowsOnly t u) : ShadowsOnly s u :=
  ⟨h.1.trans g.1, fun c => (g.2 c).trans (h.2 c)⟩

theorem ShadowsOnly.wf (s : State) {c : Nat} (v : Nat) (hc : c < 512) : ShadowsOnly s (s.wf (Reg.CHZ_ASSIGN_A c) 23 20 v) := by
  refine ⟨.wf s _ _ _ (.inr ?_), fun c' => ?_⟩
  · simp only [Reg.CHZ_ASSIGN_A]; omega
  · by_cases h : Reg.CHZ_ASSIGN_A c' = Reg.CHZ_ASSIGN_A c
    · rw [h, rf_wf_of_disjoint _ _ _ (by decide) (by decide) (by decide)]
    · rw [State.rf, State.rf, State.rd_wf_of_ne _ _ _ _ h]

theorem ShadowsOnly.wb (s : State) (b : Nat) (v : Bool) : ShadowsOnly s (s.wb Reg.CHZ_APPLYSTAT b v) := by
  refine ⟨.wb s _ _ (.inl rfl), fun c => ?_⟩
  rw [State.rf, State.rf, State.rd_wb_of_ne _ _ _ (by simp only [Reg.CHZ_ASSIGN_A, Reg.CHZ_APPLYSTAT]; omega)]

theorem ShadowsOnly.markShadows (s : State) (chains : Nat) : ShadowsOnly s (markShadows s chains) := by
  refine List.foldlRecOn _ _ (.refl s) fun t h n hn => h.trans ?_
  refine List.foldlRecOn _ _ (.refl t) fun u g k hk => g.trans ?_
  have hc : 64 * n + k < 512 := by
    have := List.mem_range.mp hn
    have := (List.mem_range.mp hk).trans_le (t.planN_le active n)
    omega
  split
  · exact .wf u _ hc
  · dsimp only
    split
    · exact (ShadowsOnly.wf u _ hc).trans (.wb ..)
    · exact .wf u _ hc

end Sys2Proof.Machine

namespace Sys2Proof.Machine

/-! ### The commit of an apply (R105, R121, R123) -/

/-- The registers of the active profiles. -/
def profReg (a : Nat) : Prop := Reg.CHZ_PROF_CFG_A 0 ≤ a ∧ a < Reg.CHZ_PROF_CFG_A 0 + 512

/-- The registers of SHADOW bits. -/
def shadowReg (a : Nat) : Prop := a = Reg.CHZ_APPLYSTAT ∨ (Reg.CHZ_ASSIGN_A 0 ≤ a ∧ a < Reg.CHZ_ASSIGN_A 512)

/-- The staged profiles active where PROF was set, and the SHADOW bits of the new copy. -/
def profApplied (s : State) (p : PendApply) : State :=
  markShadows (if p.prof then copyWords s (Reg.CHZ_PROF_CFG 0) (Reg.CHZ_PROF_CFG_A 0) 128 else s) p.chains

/-- The epoch that the apply supersedes. -/
def State.superseded (s : State) (p : PendApply) : OldEpoch :=
  { num := s.epoch, at_ := p.at_, fence := p.at_ + (s.rd Reg.CHZ_FENCE).toNat }

/-- The next epoch begins: `old` is superseded, APPLIED fires, and the survey count in progress is dropped. -/
def epochStepped (s : State) (old : OldEpoch) : State :=
  let s : State := { s with chz := { s.chz with apply := none, epochs := s.chz.epochs ++ [old] } }
  ((s.wf Reg.CHZ_EPOCH 15 0 (s.epoch + 1)).emit [15]).dropOcc

theorem applyCommit_eq (s : State) (p : PendApply) :
    applyCommit s p = drainEpochs (epochStepped (profApplied (plansApplied s p.chains) p) (s.superseded p)) := rfl

theorem writesIn_profApplied (s : State) (p : PendApply) : WritesIn (fun a => profReg a ∨ shadowReg a) s (profApplied s p) := by
  refine .trans ?_ ((ShadowsOnly.markShadows _ _).1.mono fun _ => .inr)
  split
  · exact (writesIn_copyWords s _ _ 128).mono fun _ => .inl
  · exact .refl _ s

theorem assign_profApplied (s : State) (p : PendApply) {c : Nat} (hc : c < 512) :
    (profApplied s p).rf (Reg.CHZ_ASSIGN_A c) 19 0 = s.rf (Reg.CHZ_ASSIGN_A c) 19 0 := by
  refine ((ShadowsOnly.markShadows _ _).2 c).trans ?_
  split
  · rw [State.rf, State.rf, (writesIn_copyWords s _ _ 128).rd]
    simp only [Reg.CHZ_ASSIGN_A, Reg.CHZ_PROF_CFG_A]
    omega
  · rfl

theorem profWords_profApplied (s : State) {p : PendApply} (hp : p.prof = true) {q : Nat} (hq : q < 16) :
    (profApplied s p).profWords active q = s.profWords 0 q := by
  refine List.map_congr_left fun i hi => ?_
  have hi8 := List.mem_range.mp hi
  have hto : Reg.CHZ_PROF_CFG q + active + 4 * i = Reg.CHZ_PROF_CFG_A 0 + 4 * (8 * q + i) := by
    simp only [Reg.CHZ_PROF_CFG, Reg.CHZ_PROF_CFG_A, active]; omega
  have hfrom : Reg.CHZ_PROF_CFG q + 0 + 4 * i = Reg.CHZ_PROF_CFG 0 + 4 * (8 * q + i) := by
    simp only [Reg.CHZ_PROF_CFG]; omega
  have hshadow : ¬shadowReg (Reg.CHZ_PROF_CFG_A 0 + 4 * (8 * q + i)) := by
    simp only [shadowReg, Reg.CHZ_PROF_CFG_A, Reg.CHZ_ASSIGN_A, Reg.CHZ_APPLYSTAT]; omega
  rw [hto, hfrom, profApplied, (ShadowsOnly.markShadows _ _).1.rd hshadow, if_pos hp,
    rd_copyWords _ _ _ _ (by omega) (by simp only [Reg.CHZ_PROF_CFG, Reg.CHZ_PROF_CFG_A]; omega)]

section
variable (s : State) (old : OldEpoch)

theorem epochStepped_frame : epochStepped s old =
    { s with regs := (epochStepped s old).regs, raised := (epochStepped s old).raised, cue := (epochStepped s old).cue,
             chz := { s.chz with apply := none, epochs := s.chz.epochs ++ [old], occ := [], occFrom := none } } := rfl

theorem keepsRegs_epochStepped : KeepsRegs [Reg.CHZ_EPOCH] s (epochStepped s old) :=
  (((KeepsRegs.of_regs rfl rfl).wf 15 0 _ (List.mem_singleton_self _)).emit [15] 1).trans (.of_regs rfl rfl)

theorem epoch_epochStepped : (epochStepped s old).epoch = (s.epoch + 1) % 65536 := by
  have hemit (u : State) : (u.emit [15]).dropOcc.epoch = u.epoch := rfl
  unfold epochStepped
  dsimp only
  rw [hemit, State.epoch, State.rf_wf_self _ _ _ (by decide) (by decide)]
  rfl

theorem pending_epochStepped : (epochStepped s old).cue.pending = s.cue.pending ++ s.cuesOf [15] 1 := by
  unfold epochStepped State.dropOcc
  dsimp only
  rw [State.emit_cue]
  rfl

end

section
variable (s : State) (p : PendApply)

/-- What an apply has copied when the next epoch begins. -/
def applyCopied : State := profApplied (plansApplied s p.chains) p

theorem retunes_applyCopied :
    Retunes (fun a => (∃ m, m < 8 ∧ chainReg m a) ∨ profReg a ∨ shadowReg a) (fun _ => True) s (applyCopied s p) :=
  ((retunes_plansApplied s p.chains).mono (fun _ => .inl) fun _ => id).trans
    (.of_writesIn ((writesIn_profApplied _ p).mono fun _ => .inr))

theorem rd_applyCopied {a : Nat} (ha : ¬(profReg a ∨ shadowReg a)) : (applyCopied s p).rd a = (plansApplied s p.chains).rd a :=
  (writesIn_profApplied _ p).rd ha

theorem chain_applyCopied (n : Nat) : (applyCopied s p).chain n = (plansApplied s p.chains).chain n :=
  (Retunes.of_writesIn (C := fun _ => False) (writesIn_profApplied _ p)).chain n id

theorem keepsRegs_applyCommit : KeepsRegs [Reg.CHZ_EPOCH, Reg.CHZ_LASTDRN] (applyCopied s p) (applyCommit s p) := by
  rw [applyCommit_eq]
  exact ((keepsRegs_epochStepped _ _).mono (by simp)).trans ((keepsRegs_drainEpochs _).mono (by simp))

theorem rd_applyCommit {a : Nat} (he : a ≠ Reg.CHZ_EPOCH) (hd : a ≠ Reg.CHZ_LASTDRN) :
    (applyCommit s p).rd a = (applyCopied s p).rd a :=
  (keepsRegs_applyCommit s p a (by simp [he, hd])).1

/-- Beside what is copied, an apply changes the epochs, drops the pending apply and the survey count, and fires. -/
theorem applyCommit_frame_copied : applyCommit s p = { applyCopied s p with
    regs := (applyCommit s p).regs, raised := (applyCommit s p).raised, cue := (applyCommit s p).cue,
    chz := { (applyCopied s p).chz with apply := none, epochs := (applyCommit s p).chz.epochs,
                                        lastDrn := (applyCommit s p).chz.lastDrn, occ := [], occFrom := none } } := by
  rw [applyCommit_eq, drainEpochs_frame, epochStepped_frame]
  rfl

theorem chain_applyCommit (n : Nat) : (applyCommit s p).chain n = (plansApplied s p.chains).chain n := by
  rw [applyCommit_frame_copied]
  exact chain_applyCopied s p n

theorem applyCommit_frame : applyCommit s p = { s with
    regs := (applyCommit s p).regs, raised := (applyCommit s p).raised, cue := (applyCommit s p).cue,
    rfs := (applyCommit s p).rfs, chz := (applyCommit s p).chz, lnk := { s.lnk with takes := (applyCommit s p).lnk.takes } } := by
  rw [applyCommit_frame_copied, (retunes_applyCopied s p).frame]

theorem epoch_applyCommit : (applyCommit s p).epoch = (s.epoch + 1) % 65536 := by
  have hcopied : (applyCopied s p).epoch = s.epoch := by
    rw [State.epoch, State.epoch, State.rf, State.rf, (retunes_applyCopied s p).rd]
    simp only [chainReg, planReg, assignReg, profReg, shadowReg, Reg.CHZ_EPOCH, Reg.RFC_RXLO, Reg.RFC_GAIN, Reg.CHZ_PCENTRE_A,
      Reg.CHZ_ASSIGN_A, Reg.CHZ_PROF_CFG_A, Reg.CHZ_APPLYSTAT]
    rintro (⟨m, hm, h⟩ | h) <;> omega
  rw [applyCommit_eq, State.epoch, State.rf, (keepsRegs_drainEpochs _ _ (by decide)).1]
  exact (epoch_epochStepped _ _).trans (by rw [← hcopied]; rfl)

theorem mem_pending_applyCommit {c : PendingCue} (hc : c ∈ s.cuesOf [15] 1) : c ∈ (applyCommit s p).cue.pending := by
  rw [applyCommit_eq]
  refine mem_pending_drainEpochs ?_
  rw [pending_epochStepped]
  refine List.mem_append_right _ ?_
  have hslate : (applyCopied s p).slate = s.slate := by rw [(retunes_applyCopied s p).frame]
  rw [State.cuesOf, ← hslate] at hc
  exact hc

/-- The epochs that are left: those superseded by now of which a take is in flight, or a detection waits. -/
theorem mem_epochs_applyCommit {e : OldEpoch} : e ∈ (applyCommit s p).chz.epochs ↔ e ∈ s.chz.epochs ++ [s.superseded p] ∧
    (epochStepped (applyCopied s p) (s.superseded p)).epochBusy e.num = true := by
  rw [applyCommit_eq, mem_epochs_drainEpochs]
  have hepochs : (applyCopied s p).chz.epochs = s.chz.epochs := by rw [(retunes_applyCopied s p).frame]
  rw [← hepochs]
  rfl

theorem epochBusy_applyCommit_of_take {e : Nat} (h : (s.lnk.takes.any fun k => k.2.epoch == e) = true) :
    (epochStepped (applyCopied s p) (s.superseded p)).epochBusy e = true := by
  rw [State.epochBusy, epochStepped_frame]
  dsimp only
  rw [(retunes_applyCopied s p).takes, h, Bool.true_or]

theorem epochBusy_applyCommit_of_no_det {e : Nat} (hd : s.chz.dets = []) :
    (epochStepped (applyCopied s p) (s.superseded p)).epochBusy e = s.lnk.takes.any fun k => k.2.epoch == e := by
  rw [State.epochBusy, epochStepped_frame]
  dsimp only
  rw [(retunes_applyCopied s p).takes, (retunes_applyCopied s p).dets hd, List.any_nil, Bool.or_false]

theorem profWords_applyCommit (hp : p.prof = true) {q : Nat} (hq : q < 16) :
    (applyCommit s p).profWords active q = s.profWords 0 q := by
  have hcommit : (applyCommit s p).profWords active q = (applyCopied s p).profWords active q :=
    List.map_congr_left fun i _ => rd_applyCommit s p
      (by simp only [Reg.CHZ_PROF_CFG, active, Reg.CHZ_EPOCH]; omega) (by simp only [Reg.CHZ_PROF_CFG, active, Reg.CHZ_LASTDRN]; omega)
  have hstaged : (plansApplied s p.chains).profWords 0 q = s.profWords 0 q := by
    refine List.map_congr_left fun i hi => (retunes_plansApplied s p.chains).rd _ ?_
    have hi8 := List.mem_range.mp hi
    rintro ⟨m, hm, h⟩
    simp only [chainReg, planReg, assignReg, Reg.CHZ_PROF_CFG, Reg.RFC_RXLO, Reg.RFC_GAIN, Reg.CHZ_PCENTRE_A, Reg.CHZ_ASSIGN_A] at h
    omega
  rw [hcommit, applyCopied, profWords_profApplied _ hp hq, hstaged]

end

section
variable (s : State) (p : PendApply) {n : Nat} (hn : n < 8)
include hn

/-- After the plans, an apply writes no register of a plan or of a retune. -/
theorem rd_applyCommit_of_plan {a : Nat} (ha : a = Reg.RFC_RXLO n ∨ planReg n a) :
    (applyCommit s p).rd a = (plansApplied s p.chains).rd a := by
  obtain ⟨hother, he, hd⟩ : ¬(profReg a ∨ shadowReg a) ∧ a ≠ Reg.CHZ_EPOCH ∧ a ≠ Reg.CHZ_LASTDRN := by
    simp only [planReg, Reg.RFC_RXLO, Reg.CHZ_PCENTRE_A] at ha
    simp only [profReg, shadowReg, Reg.CHZ_PROF_CFG_A, Reg.CHZ_APPLYSTAT, Reg.CHZ_ASSIGN_A, Reg.CHZ_EPOCH, Reg.CHZ_LASTDRN]
    omega
  rw [rd_applyCommit s p he hd, rd_applyCopied s p hother]

theorem planActive_applyCommit (hbit : p.chains.testBit n = true) : PlanActive n s (applyCommit s p) := by
  obtain ⟨hplan, -, -⟩ := plansApplied_of_testBit s hn hbit
  refine hplan.congr hn (fun _ _ => rfl) (fun a ha => rd_applyCommit_of_plan s p hn (.inr ha)) fun k hk => ?_
  have hc : 64 * n + k < 512 := by omega
  rw [State.rf, rd_applyCommit s p]
  · exact assign_profApplied _ p hc
  all_goals simp only [Reg.CHZ_ASSIGN_A, Reg.CHZ_EPOCH, Reg.CHZ_LASTDRN]; omega

theorem rxlo_applyCommit (hbit : p.chains.testBit n = true) :
    (s.replans n → (applyCommit s p).rd (Reg.RFC_RXLO n) = word (tuneWord (s.planC 0 n))) ∧
    (¬s.replans n → (applyCommit s p).rd (Reg.RFC_RXLO n) = s.rd (Reg.RFC_RXLO n)) := by
  obtain ⟨-, htuned, hkept⟩ := plansApplied_of_testBit s hn hbit
  rw [rd_applyCommit_of_plan s p hn (.inl rfl)]
  exact ⟨htuned, fun h => (hkept h).1⟩

end

end Sys2Proof.Machine

namespace Sys2Proof.Machine

/-! ### O27 -/

/-- An accepted GO write pends. -/
theorem completes_applyGo_pends {s : State} {val : Word} (hon : s.mainOn = true) (hgo : bit val 31 = true) (hf : s.goFault val = none) :
    Completes (.applyGo val) s (· = pendingApply s val) :=
  ⟨_, by rw [exec_applyGo hon hgo, applyGo_of_accepted hf], rfl⟩

theorem completes_applyInstant {s : State} {P : State → Prop} (h : P (applyInstant s)) : Completes .applyInstant s P := ⟨_, rfl, h⟩

theorem goFault_of_pending {s : State} (val : Word) (h : s.chz.apply.isSome = true) : s.goFault val = some (1, 0, 0) := if_pos h

theorem goFault_of_empty {s : State} {val : Word} (h : ¬s.chz.apply.isSome = true) (he : fld val 7 0 = 0 ∧ bit val 8 = false) :
    s.goFault val = some (6, 0, 0) := by
  rw [State.goFault, if_neg h, if_pos (by simpa using he)]

theorem goFault_of_valid {s : State} {val : Word} (h : ¬s.chz.apply.isSome = true) (he : ¬(fld val 7 0 = 0 ∧ bit val 8 = false)) :
    s.goFault val = s.applyFault (fld val 7 0) (bit val 8) := by
  rw [State.goFault, if_neg h, if_neg (by simpa using he)]

/-- What a refusal keeps, it keeps beside the pending apply that is dropped. -/
theorem ApplyRefused.of_chz {f : Nat × Nat × Nat} {s t : State} {c : ChzState} (h : ApplyRefused f { s with chz := c } t) :
    t.chz = c ∧ ApplyRefused f s { t with chz := s.chz } := by
  obtain ⟨hframe, hfires, hkeeps, hshown⟩ := h
  refine ⟨by rw [hframe], ?_, hfires, hkeeps, hshown⟩
  conv_lhs => rw [hframe]

/-- An apply that no longer validates at its instant. -/
theorem applyInstant_refuses {s : State} {p : PendApply} {f : Nat × Nat × Nat} (hp : s.chz.apply = some p) (hdue : p.at_ ≤ s.slate)
    (hf : s.applyFault p.chains p.prof = some f) :
    (applyInstant s).chz = { s.chz with apply := none } ∧ ApplyRefused f s { applyInstant s with chz := s.chz } := by
  rw [applyInstant_of_fault hp hdue hf]
  exact (applyRefused_refuses _ (applyFault_fits hf)).of_chz

/-- Settles O27: a GO write and an instant are decided by the first failing cause; what an apply copies is followed chain by chain,
each chain's plan resting on its own registers and the staged ones. -/
theorem appliesAreRefusedByCauseOrWaitForTheirInstant : Obligations.AppliesAreRefusedByCauseOrWaitForTheirInstant := by
  intro val n k p s hon hgo hn hk
  refine ⟨fun h => completes_applyGo_refused hon hgo (goFault_of_pending val h),
    fun h he => completes_applyGo_refused hon hgo (goFault_of_empty h he), fun f hf => ?_, fun h he hf => ?_,
    fun hp hdue f hf => completes_applyInstant (applyInstant_refuses hp hdue hf), fun hp hdue hf => ?_⟩
  · split at hf
    · exact absurd hf (by simp)
    · next h =>
      obtain ⟨hbusy, hempty⟩ := not_or.mp h
      exact completes_applyGo_refused hon hgo ((goFault_of_valid hbusy hempty).trans hf)
  · obtain ⟨t, ht, rfl⟩ := completes_applyGo_pends hon hgo ((goFault_of_valid h he).trans hf)
    refine ⟨_, ht, ?_, ?_, keepsRegs_pendingApply s val⟩
    · refine (pendingApply_frame s val).trans ?_
      simp only [pendingApply, State.applyPast, decide_eq_true_eq]
    · simpa only [State.applyPast, decide_eq_true_eq] using givesBits_pendingApply s val
  · refine completes_applyInstant ?_
    rw [applyInstant_of_valid hp hdue hf]
    refine ⟨applyCommit_frame s p, epoch_applyCommit s p, by rw [applyCommit_frame_copied], by rw [applyCommit_frame_copied],
      fun c hc => mem_pending_applyCommit s p hc, fun e he => ((mem_epochs_applyCommit s p).mp he).1,
      fun e he hb => (mem_epochs_applyCommit s p).mpr ⟨he, epochBusy_applyCommit_of_take s p hb⟩, fun e _ hd hb he => ?_,
      fun hq q hq16 => profWords_applyCommit s p hq hq16, fun hbit => ?_, fun hbit hsame => ?_, fun hbit => ?_⟩
    · rw [mem_epochs_applyCommit, epochBusy_applyCommit_of_no_det s p hd, hb] at he
      exact Bool.false_ne_true he.2
    · obtain ⟨hcentre, hcfg, hmask, hassign⟩ := planActive_applyCommit s p hn hbit
      obtain ⟨htuned, hkept⟩ := rxlo_applyCommit s p hn hbit
      refine ⟨?_, ?_, ?_, hmask, hassign k hk, ?_⟩
      · rw [State.planC, hcentre]; rfl
      · rw [State.planS, State.rf, hcfg]; rfl
      · rw [State.planD, State.rf, hcfg]; rfl
      · split
        · next h => exact htuned h
        · next h => exact hkept h
    · obtain ⟨-, -, hkept⟩ := plansApplied_of_testBit s hn hbit
      exact (chain_applyCommit s p n).trans (hkept hsame).2
    · obtain ⟨hregs, hchain⟩ := plansApplied_of_not_testBit s hn hbit
      obtain ⟨hcentre, -, hlo, hhi⟩ := planReg_active n
      have hplan {a : Nat} (ha : planReg n a) : (applyCommit s p).rd a = s.rd a :=
        (rd_applyCommit_of_plan s p hn (.inr ha)).trans (hregs a (.inr (.inr (.inl ha))))
      refine ⟨?_, planMask_eq (hplan hlo) (hplan hhi), (chain_applyCommit s p n).trans hchain,
        (rd_applyCommit_of_plan s p hn (.inl rfl)).trans (hregs _ (.inl rfl))⟩
      rw [State.planC, hplan hcentre, State.planC]

end Sys2Proof.Machine

/-! PROOFS. Schedule entries: arming, cancelling, dispatch and slack expiry (spec/07_link_timing_engine.md R205-R209). -/

namespace Sys2Proof.Machine

/-! ### What a write of octets leaves in the memories (R447, R449) -/

/-- Word i of memory m, data and mark, is in `t` as in `s`. -/
def SameWord (m i : Nat) (s t : State) : Prop := t.eccData m i = s.eccData m i ∧ t.eccMark m i = s.eccMark m i

theorem SameWord.trans {m i : Nat} {s t u : State} (h : SameWord m i s t) (g : SameWord m i t u) : SameWord m i s u :=
  ⟨g.1.trans h.1, g.2.trans h.2⟩

/-- Word i of memory m and word i' of memory m' have no cell and no mark in common. -/
def WordsApart (m i m' i' : Nat) : Prop :=
  memKey m' i' ≠ memKey m i ∧
  ∀ j j', j < eccOctets m → j' < eccOctets m' → memKey m' (i' * eccOctets m' + j') ≠ memKey m (i * eccOctets m + j)

theorem eccOctets_pos (m : Nat) : 0 < eccOctets m := by
  unfold eccOctets; split <;> decide

theorem mem_eccSpan {m o n i : Nat} : i ∈ eccSpan m o n ↔ 0 < n ∧ o / eccOctets m ≤ i ∧ i ≤ (o + n - 1) / eccOctets m := by
  unfold eccSpan
  split
  · next h => simp [h]
  · next h =>
    have hle : o / eccOctets m ≤ (o + n - 1) / eccOctets m := Nat.div_le_div_right (by omega)
    simp only [List.mem_map, List.mem_range]
    constructor
    · rintro ⟨j, hj, rfl⟩; omega
    · rintro ⟨-, hlo, hhi⟩; exact ⟨i - o / eccOctets m, by omega, by omega⟩

/-- The word of an octet that a span covers is one of the span's. -/
theorem div_mem_eccSpan (m o : Nat) {n j : Nat} (hj : j < n) : (o + j) / eccOctets m ∈ eccSpan m o n :=
  mem_eccSpan.mpr ⟨by omega, Nat.div_le_div_right (by omega), Nat.div_le_div_right (by omega)⟩

theorem SameWord.setBytes (s : State) {m o m' i' : Nat} (bs : List Byte)
    (h : ∀ j' k, j' < eccOctets m' → k < bs.length → memKey m' (i' * eccOctets m' + j') ≠ memKey m (o + k)) :
    SameWord m' i' s (s.setBytes m o bs) := by
  rw [State.setBytes_eq]
  constructor
  · unfold State.eccData State.memByte SMap.get
    refine congrArg natLE (List.map_congr_left fun j hj => ?_)
    rw [State.find_putBytes]
    rintro ⟨hlo, hhi⟩
    have hne := h j (memKey m' (i' * eccOctets m' + j) - memKey m o) (List.mem_range.mp hj)
    simp only [memKey] at hlo hhi hne
    omega
  · rw [State.putBytes_frame]; rfl

theorem SameWord.setMark (s : State) {m i m' i' : Nat} (k : EccMark) (h : memKey m' i' ≠ memKey m i) :
    SameWord m' i' s (s.setMark m i k) :=
  ⟨rfl, SMap.get_store_of_ne _ _ _ _ h⟩

/-- The mark of a word whose every octet has been written (R447). -/
def wholeMark (m : Nat) : EccMark := { syn := 0, v0 := 7, v1 := if m = 14 then 7 else 0 }

/-- Word i of memory m takes the data that `s` reads there, unless its mark says that they are what it holds. -/
def State.refillWord (s : State) (m : Nat) (t : State) (i : Nat) : State :=
  if s.eccMark m i = wholeMark m then t else t.setEccData m i (s.eccRead m i).data

/-- The mark of word i after a write of `n` octets from octet `o`, some of them the word's. -/
def State.writtenMark (s : State) (m o n i : Nat) : EccMark :=
  if m = 14 then
    { syn := 0, v0 := if decide (o < i * eccOctets m + 8) || majority (s.eccMark m i).v0 then 7 else 0,
      v1 := if decide (i * eccOctets m + 8 < o + n) || majority (s.eccMark m i).v1 then 7 else 0 }
  else { syn := 0, v0 := 7 }

/-- What `State.poke` does to word i before it stores the octets. -/
def State.mergeWord (s : State) (m o n : Nat) (t : State) (i : Nat) : State :=
  (s.refillWord m t i).setMark m i (s.writtenMark m o n i)

theorem State.poke_eq (s : State) (m o : Nat) (bs : List Byte) :
    s.poke m o bs = (((eccSpan m o bs.length).foldl (s.mergeWord m o bs.length) s).setBytes m o bs).settle m o bs.length := rfl

theorem State.refillWord_frame (s : State) (m : Nat) (t : State) (i : Nat) :
    s.refillWord m t i = { t with mem := (s.refillWord m t i).mem } := by
  unfold State.refillWord State.setEccData
  split
  · rfl
  · rw [State.setBytes_eq, State.putBytes_frame]

theorem State.mergeWord_frame (s : State) (m o n : Nat) (t : State) (i : Nat) :
    s.mergeWord m o n t i = { t with mem := (s.mergeWord m o n t i).mem, ecc := (s.mergeWord m o n t i).ecc } := by
  rw [State.mergeWord, State.setMark, State.refillWord_frame]

theorem SameWord.mergeWord (s : State) (m o n : Nat) (t : State) {i m' i' : Nat} (h : WordsApart m i m' i') :
    SameWord m' i' t (s.mergeWord m o n t i) := by
  refine SameWord.trans (t := s.refillWord m t i) ?_ (.setMark _ _ h.1)
  unfold State.refillWord
  split
  · exact ⟨rfl, rfl⟩
  · exact .setBytes t _ fun j' k hj' hk => h.2 k j' (by simpa using hk) hj'

/-- A write touches memory alone. -/
theorem State.poke_frame (s : State) (m o : Nat) (bs : List Byte) :
    s.poke m o bs = { s with mem := (s.poke m o bs).mem, ecc := (s.poke m o bs).ecc, undef := (s.poke m o bs).undef } := by
  have hfold : ∀ l : List Nat, l.foldl (s.mergeWord m o bs.length) s =
      { s with mem := (l.foldl (s.mergeWord m o bs.length) s).mem, ecc := (l.foldl (s.mergeWord m o bs.length) s).ecc } := fun l =>
    List.foldlRecOn l _ (motive := fun t : State => t = { s with mem := t.mem, ecc := t.ecc }) rfl fun t ht i _ => by
      rw [State.mergeWord_frame, ht]
  rw [State.poke_eq, State.settle, State.setBytes_eq, State.putBytes_frame, hfold]

/-- A word apart from those that a write touches stays. -/
theorem SameWord.poke (s : State) {m o m' i' : Nat} (bs : List Byte) (h : ∀ i ∈ eccSpan m o bs.length, WordsApart m i m' i') :
    SameWord m' i' s (s.poke m o bs) := by
  have hmerged : SameWord m' i' s ((eccSpan m o bs.length).foldl (s.mergeWord m o bs.length) s) :=
    List.foldlRecOn _ _ ⟨rfl, rfl⟩ fun t ht i hi => ht.trans (.mergeWord s m o _ t (h i hi))
  refine hmerged.trans (.setBytes _ bs fun j' k hj' hk => ?_)
  have hk' := (h _ (div_mem_eccSpan m o hk)).2 ((o + k) % eccOctets m) j' (Nat.mod_lt _ (eccOctets_pos m)) hj'
  rwa [Nat.div_add_mod'] at hk'

/-! #### Undefined contents -/

/-- Which free value octet `o` of memory `m` reads as, where its contents are undefined. -/
def State.undefSeed (s : State) (m o : Nat) : Option (Nat × Nat) := (s.undefAt m o).map fun u => (u.seed, u.off + (o - u.lo))

theorem State.readByte_eq (s : State) (m o : Nat) : s.readByte m o =
    match s.undefSeed m o with
    | some f => Config.freeByte f.1 f.2
    | none => byteOf (s.eccRead m (o / eccOctets m)).data (o % eccOctets m) := by
  unfold State.readByte State.undefSeed
  cases s.undefAt m o <;> rfl

/-- One stretch, as a write of `n` octets from octet `o` of memory `m` leaves it, at an octet that is not among them. -/
theorem find_cutUndef (m o n : Nat) (u : UndefRange) {m' o' : Nat} (h : m' ≠ m ∨ o' < o ∨ o + n ≤ o') :
    ((cutUndef m o n u).find? fun u => u.m == m' && decide (u.lo ≤ o') && decide (o' < u.lo + u.len)).map
        (fun u => (u.seed, u.off + (o' - u.lo))) =
      (Option.guard (fun u : UndefRange => u.m == m' && decide (u.lo ≤ o') && decide (o' < u.lo + u.len)) u).map
        fun u => (u.seed, u.off + (o' - u.lo)) := by
  unfold cutUndef Option.guard
  split
  · simp only [List.find?_cons, List.find?_nil]
    split <;> simp_all
  · next hcut =>
    simp only [Bool.or_eq_true, bne_iff_ne, decide_eq_true_eq, not_or, not_not, not_le] at hcut
    obtain ⟨⟨hm, hlo⟩, hhi⟩ := hcut
    by_cases hm' : u.m = m'
    · have ho : o' < o ∨ o + n ≤ o' := h.resolve_left fun hne => hne (hm'.symm.trans hm)
      split_ifs <;> simp_all [List.find?_cons] <;> grind
    · split_ifs <;> simp_all

theorem State.undefSeed_settle (s : State) (m o n : Nat) {m' o' : Nat} (h : m' ≠ m ∨ o' < o ∨ o + n ≤ o') :
    (s.settle m o n).undefSeed m' o' = s.undefSeed m' o' := by
  unfold State.undefSeed State.undefAt State.settle
  rw [List.find?_flatMap, List.map_findSome?, List.find?_eq_findSome?_guard, List.map_findSome?]
  congr 1
  funext u
  exact find_cutUndef m o n u h

theorem State.undefSeed_settle_self (s : State) (m o n : Nat) {o' : Nat} (hlo : o ≤ o') (hhi : o' < o + n) :
    (s.settle m o n).undefSeed m o' = none := by
  simp only [State.undefSeed, State.undefAt, State.settle, Option.map_eq_none_iff, List.find?_eq_none, List.mem_flatMap]
  rintro v ⟨u, -, hv⟩
  unfold cutUndef at hv
  split_ifs at hv with hcut <;> simp_all <;> grind

theorem State.undefSeed_poke (s : State) {m o m' o' : Nat} (bs : List Byte) (h : m' ≠ m ∨ o' < o ∨ o + bs.length ≤ o') :
    (s.poke m o bs).undefSeed m' o' = s.undefSeed m' o' := by
  have hfold : ((eccSpan m o bs.length).foldl (s.mergeWord m o bs.length) s).undef = s.undef :=
    List.foldlRecOn _ _ (motive := fun t : State => t.undef = s.undef) rfl fun t ht i _ => by rw [State.mergeWord_frame]; exact ht
  rw [State.poke_eq, State.undefSeed_settle _ _ _ _ h]
  simp only [State.undefSeed, State.undefAt]
  rw [State.setBytes_eq, State.putBytes_frame, hfold]

/-- An octet that a write does not touch reads as before, where its word is none of those touched or it stands in another memory. -/
theorem State.readByte_poke_of_apart (s : State) {m o m' o' : Nat} (bs : List Byte)
    (h : ∀ i ∈ eccSpan m o bs.length, WordsApart m i m' (o' / eccOctets m')) (ho : m' ≠ m ∨ o' < o ∨ o + bs.length ≤ o') :
    (s.poke m o bs).readByte m' o' = s.readByte m' o' := by
  obtain ⟨hdata, hmark⟩ := SameWord.poke s bs h
  rw [State.readByte_eq, State.readByte_eq, State.undefSeed_poke s bs ho, State.eccRead, State.eccRead, hdata, hmark]

/-! #### What was written reads back -/

theorem byteOf_natLE {l : List Byte} {k : Nat} (hk : k < l.length) : byteOf (natLE l) k = l[k] := by
  induction l generalizing k with
  | nil => simp at hk
  | cons b l ih =>
    have hb : b.toNat < 256 := b.isLt
    cases k with
    | zero =>
      refine BitVec.eq_of_toNat_eq ?_
      simp only [byteOf, natLE, BitVec.toNat_ofNat, List.getElem_cons_zero]
      omega
    | succ k =>
      rw [List.getElem_cons_succ, ← ih (by simpa using hk), byteOf, byteOf, natLE, Nat.mul_add, Nat.add_comm (8 * k), Nat.shiftRight_add]
      congr 2
      rw [Nat.shiftRight_eq_div_pow]
      omega

theorem State.eccMark_foldl_mergeWord (s : State) {m : Nat} (hm : m ≠ 14) (o n : Nat) (l : List Nat) (t : State)
    {i : Nat} (hi : i ∈ l) :
    (l.foldl (s.mergeWord m o n) t).eccMark m i = { syn := 0, v0 := 7 } := by
  have hstep (u : State) (k : Nat) (hk : i = k ∨ u.eccMark m i = { syn := 0, v0 := 7 }) :
      (s.mergeWord m o n u k).eccMark m i = { syn := 0, v0 := 7 } := by
    by_cases hik : i = k
    · rw [State.mergeWord, hik]
      exact (SMap.get_store_self (α := EccMark) ..).trans (if_neg hm)
    · have hne : memKey m i ≠ memKey m k := by simp only [memKey]; omega
      have hold : (s.mergeWord m o n u k).eccMark m i = u.eccMark m i := by
        rw [State.mergeWord, State.eccMark, State.setMark, SMap.get_store_of_ne _ _ _ _ hne, State.refillWord_frame]; rfl
      rw [hold, hk.resolve_left hik]
  induction l generalizing t with
  | nil => simp at hi
  | cons k l ih =>
    rw [List.foldl_cons]
    by_cases hl : i ∈ l
    · exact ih _ hl
    · have hik : i = k := (List.mem_cons.mp hi).resolve_right hl
      exact List.foldlRecOn l _ (motive := fun u : State => u.eccMark m i = { syn := 0, v0 := 7 }) (hstep t k (.inl hik))
        fun u hu j _ => hstep u j (.inr hu)

/-- An octet reads what was written to it. DRAM, whose halves have valid bits of their own, is not said. -/
theorem State.readByte_poke_self (s : State) {m : Nat} (hm : m ≠ 14) (o : Nat) (bs : List Byte) {j : Nat} (hj : j < bs.length) :
    (s.poke m o bs).readByte m (o + j) = bs[j] := by
  let u := (eccSpan m o bs.length).foldl (s.mergeWord m o bs.length) s
  let i := (o + j) / eccOctets m
  let t := s.poke m o bs
  have hk : (o + j) % eccOctets m < eccOctets m := Nat.mod_lt _ (eccOctets_pos m)
  have hmark : t.eccMark m i = { syn := 0, v0 := 7 } := by
    refine Eq.trans ?_ (State.eccMark_foldl_mergeWord s hm o bs.length (eccSpan m o bs.length) s (div_mem_eccSpan m o hj))
    show (u.setBytes m o bs).eccMark m i = u.eccMark m i
    rw [State.setBytes_eq, State.putBytes_frame]; rfl
  have hbyte : t.memByte m (o + j) = bs[j] := by
    have h := State.memByte_putBytes u m o 0 bs hj
    rwa [Nat.zero_add] at h
  have hread : t.eccRead m i = { cls := .good, data := t.eccData m i } := by
    have hgood : majority 7 = true ∧ disagree 7 = false := by decide
    rw [State.eccRead, hmark]
    simp [eccDecode, eccKept, hm, hgood]
  rw [State.readByte_eq, State.poke_eq, State.undefSeed_settle_self _ _ _ _ (by omega) (by omega), ← State.poke_eq]
  show byteOf (t.eccRead m i).data ((o + j) % eccOctets m) = bs[j]
  rw [hread, ← hbyte]
  show byteOf (natLE _) _ = _
  rw [byteOf_natLE (by simpa using hk), List.getElem_map, List.getElem_range]
  congr 1
  exact Nat.div_add_mod' ..

end Sys2Proof.Machine

namespace Sys2Proof.Machine

/-! ### The octets of a schedule entry (R205) -/

/-- Sixteen octets. -/
def Entry.wf (x : Entry) : Prop := x.length = 16 ∧ ∀ b ∈ x, b < 256

section
variable {x : Entry} (hx : Entry.wf x)
include hx

theorem Entry.wf.setOcts {o k : Nat} (v : Nat) (h : o + k ≤ 16) : Entry.wf (setOcts x o k v) := by
  refine ⟨?_, fun b hb => ?_⟩
  · have hlen := hx.1
    simp only [Machine.setOcts, List.length_append, List.length_take, List.length_drop, length_octs, length_bytesLE]
    omega
  · simp only [Machine.setOcts, List.mem_append] at hb
    rcases hb with (hb | hb) | hb
    · exact hx.2 b (List.mem_of_mem_take hb)
    · obtain ⟨c, -, rfl⟩ := List.mem_map.mp hb
      exact c.isLt
    · exact hx.2 b (List.mem_of_mem_drop hb)

/-- Octets that were set read the number that was set. -/
theorem Entry.wf.field_setOcts_self {o k : Nat} (v : Nat) (h : o + k ≤ 16) : field (Machine.setOcts x o k v) o k = v % 2 ^ (8 * k) := by
  have hlen : (x.take o).length = o := by rw [List.length_take, hx.1]; omega
  rw [field, Machine.setOcts, List.append_assoc, List.drop_left' hlen, List.take_left' (by simp), ofOcts_octs, natLE_bytesLE]

/-- Octets that were not set read as before. -/
theorem Entry.wf.field_setOcts_of_disjoint {o k o' n : Nat} (v : Nat) (h : o + k ≤ 16) (hd : o' + n ≤ o ∨ o + k ≤ o') :
    field (Machine.setOcts x o k v) o' n = field x o' n := by
  have hlen : (x.take o).length = o := by rw [List.length_take, hx.1]; omega
  unfold field
  refine congrArg (fun l => natLE (ofOcts l)) (List.ext_getElem? fun j => ?_)
  rw [Machine.setOcts, List.append_assoc, List.getElem?_take, List.getElem?_take]
  split
  · rw [List.getElem?_drop, List.getElem?_drop]
    rcases hd with hd | hd
    · rw [List.getElem?_append_left (by omega), List.getElem?_take_of_lt (by omega)]
    · rw [List.getElem?_append_right (by omega), List.getElem?_append_right (by simp; omega), List.getElem?_drop]
      congr 1
      simp only [hlen, length_octs, length_bytesLE]
      omega
  · rfl

theorem Entry.wf.setTime (t : Nat) : Entry.wf (x.setTime t) := hx.setOcts _ (by decide)

theorem Entry.wf.setCtrl (hi lo v : Nat) : Entry.wf (x.setCtrl hi lo v) := hx.setOcts _ (by decide)

theorem Entry.wf.time_setTime (t : Nat) : Entry.time (x.setTime t) = t % 2 ^ 64 :=
  (hx.field_setOcts_self _ (by decide)).trans (Nat.mod_mod ..)

theorem Entry.wf.route_setTime (t : Nat) : Entry.route (x.setTime t) = x.route :=
  congrArg word (hx.field_setOcts_of_disjoint _ (by decide) (by decide))

theorem Entry.wf.ctrl_setTime (t : Nat) : Entry.ctrl (x.setTime t) = x.ctrl :=
  congrArg word (hx.field_setOcts_of_disjoint _ (by decide) (by decide))

theorem Entry.wf.time_setCtrl (hi lo v : Nat) : Entry.time (x.setCtrl hi lo v) = x.time :=
  hx.field_setOcts_of_disjoint _ (by decide) (by decide)

theorem Entry.wf.route_setCtrl (hi lo v : Nat) : Entry.route (x.setCtrl hi lo v) = x.route :=
  congrArg word (hx.field_setOcts_of_disjoint _ (by decide) (by decide))

theorem Entry.wf.ctrl_setCtrl (hi lo v : Nat) : Entry.ctrl (x.setCtrl hi lo v) = setFld x.ctrl hi lo v := by
  rw [Entry.ctrl, Entry.setCtrl, hx.field_setOcts_self _ (by decide), Nat.mod_eq_of_lt (BitVec.isLt _), word_toNat_self]

end

theorem Entry.time_lt (x : Entry) : x.time < 2 ^ 64 := by
  have hlen : (ofOcts ((x.drop 0).take 8)).length ≤ 8 := by simp [ofOcts]
  exact (natLE_lt _).trans_le (Nat.pow_le_pow_right (by decide) hlen)

theorem Entry.chain_lt (x : Entry) : x.chain < 8 := Nat.mod_lt _ (by decide)

/-! ### The schedule table in memory 11 (R205, R444) -/

theorem State.wf_entry (s : State) (e : Nat) : Entry.wf (s.entry e) := by
  refine ⟨by simp [State.entry], fun b hb => ?_⟩
  obtain ⟨i, -, rfl⟩ := List.mem_map.mp hb
  exact BitVec.isLt _

theorem State.entry_congr {s t : State} {e : Nat} (h : ∀ j, j < 16 → t.readByte 11 (16 * e + j) = s.readByte 11 (16 * e + j)) :
    t.entry e = s.entry e :=
  List.map_congr_left fun j hj => congrArg BitVec.toNat (h j (List.mem_range.mp hj))

theorem State.entry_of_mem {s t : State} (e : Nat) (hmem : t.mem = s.mem) (hecc : t.ecc = s.ecc) (hundef : t.undef = s.undef) :
    t.entry e = s.entry e :=
  State.entry_congr fun _ _ => by
    refine readByte_congr ?_ ?_ ?_
    · rw [State.undefAt, hundef]; rfl
    · simp only [State.eccData, State.memByte, hmem]
    · simp only [State.eccMark, hecc]

@[simp] theorem length_ofOcts (l : List Nat) : (ofOcts l).length = l.length := List.length_map _

theorem State.entry_setEntry_self (s : State) (e : Nat) {x : Entry} (hx : x.wf) : (s.setEntry e x).entry e = x := by
  obtain ⟨hlen, hoct⟩ := hx
  refine List.ext_getElem (by simp [State.entry, hlen]) fun j hj hj' => ?_
  have hread := State.readByte_poke_self s (by decide : 11 ≠ 14) (16 * e) (ofOcts x) (j := j) (by simpa using hj')
  simp only [State.entry, List.getElem_map, List.getElem_range, State.setEntry, hread]
  simp only [ofOcts, List.getElem_map, BitVec.toNat_ofNat]
  exact Nat.mod_eq_of_lt (hoct _ (List.getElem_mem hj'))

/-- An entry stays where words apart from its own are written. -/
theorem State.entry_poke_of_apart (s : State) {m o e : Nat} (bs : List Byte)
    (h : ∀ i ∈ eccSpan m o bs.length, ∀ i', i' / 2 = e → WordsApart m i 11 i')
    (ho : 11 ≠ m ∨ ∀ j, j < 16 → 16 * e + j < o ∨ o + bs.length ≤ 16 * e + j) : (s.poke m o bs).entry e = s.entry e :=
  State.entry_congr fun j hj => State.readByte_poke_of_apart s bs
    (fun i hi => h i hi _ (by simp only [show eccOctets 11 = 8 from rfl]; omega)) (ho.imp_right fun ho => ho j hj)

theorem State.entry_setEntry_of_ne (s : State) {e e2 : Nat} {x : Entry} (hx : x.wf) (hne : e2 ≠ e) :
    (s.setEntry e x).entry e2 = s.entry e2 := by
  have hlen : (ofOcts x).length = 16 := (length_ofOcts x).trans hx.1
  refine State.entry_poke_of_apart s _ (fun i hi i' hi' => ?_) (.inr fun j hj => by rw [hlen]; omega)
  have hspan := mem_eccSpan.mp hi
  simp only [hlen, show eccOctets 11 = 8 from rfl] at hspan
  simp only [WordsApart, memKey, show eccOctets 11 = 8 from rfl]
  exact ⟨by omega, fun j j' hj hj' => by omega⟩

theorem State.entry_poke_dram (s : State) (o : Nat) (bs : List Byte) {e : Nat} (he : e < 4096) : (s.poke 14 o bs).entry e = s.entry e := by
  refine State.entry_poke_of_apart s bs (fun i _ i' hi' => ?_) (.inl (by decide))
  simp only [WordsApart, memKey, show eccOctets 11 = 8 from rfl, show eccOctets 14 = 16 from rfl]
  exact ⟨by omega, fun j j' hj hj' => by omega⟩

/-- A line of the hot cache is written. -/
theorem State.entry_poke_line (s : State) {a w : Nat} (hw : w < 4) {bs : List Byte} (hlen : bs.length = 64) {e : Nat} (he : e < 4096) :
    (s.poke 6 (lineOctet a w) bs).entry e = s.entry e := by
  refine State.entry_poke_of_apart s bs (fun i hi i' hi' => ?_) (.inl (by decide))
  have hspan := mem_eccSpan.mp hi
  have ha : a % 4096 < 4096 := Nat.mod_lt _ (by decide)
  simp only [hlen, show eccOctets 6 = 8 from rfl, lineOctet] at hspan
  simp only [WordsApart, memKey, show eccOctets 11 = 8 from rfl, show eccOctets 6 = 8 from rfl]
  exact ⟨by omega, fun j j' hj hj' => by omega⟩

/-! ### What leaves the schedule, the radio and the blocks between MEM and DCB alone -/

/-- From `s` to `t` the schedule and the radio stay, and every register from behind MEM's block to before DCB's. -/
def Aside (s t : State) : Prop :=
  t.lnk = s.lnk ∧ t.rfs = s.rfs ∧ t.slate = s.slate ∧ (∀ a, 0x40060000 ≤ a → a < 0x40500000 → t.rd a = s.rd a) ∧
  ∀ e, e < 4096 → t.entry e = s.entry e

/-- An address of MEM, or of DCB or a block behind it. -/
def asideAddr (a : Nat) : Prop := a < 0x40060000 ∨ 0x40500000 ≤ a

section
variable {s t u : State}

theorem Aside.refl (s : State) : Aside s s := ⟨rfl, rfl, rfl, fun _ _ _ => rfl, fun _ _ => rfl⟩

theorem Aside.trans (h : Aside s t) (g : Aside t u) : Aside s u := by
  obtain ⟨hlnk, hrfs, hslate, hrd, hentry⟩ := h
  obtain ⟨glnk, grfs, gslate, grd, gentry⟩ := g
  exact ⟨glnk.trans hlnk, grfs.trans hrfs, gslate.trans hslate, fun a h1 h2 => (grd a h1 h2).trans (hrd a h1 h2),
    fun e he => (gentry e he).trans (hentry e he)⟩

/-- Registers, memories, schedule, radio and slate aside, anything may differ. -/
theorem Aside.of_same (hlnk : t.lnk = s.lnk) (hrfs : t.rfs = s.rfs) (hslate : t.slate = s.slate) (hregs : t.regs = s.regs)
    (hmem : t.mem = s.mem) (hecc : t.ecc = s.ecc) (hundef : t.undef = s.undef) : Aside s t :=
  ⟨hlnk, hrfs, hslate, fun a _ _ => by rw [State.rd, State.rd, hregs], fun e _ => State.entry_of_mem e hmem hecc hundef⟩

theorem Aside.wr (s : State) {a : Nat} (v : Word) (ha : asideAddr a) : Aside s (s.wr a v) :=
  ⟨rfl, rfl, rfl, fun b hlo hhi => State.rd_wr_of_ne _ _ (by unfold asideAddr at ha; omega),
    fun e _ => State.entry_of_mem e rfl rfl rfl⟩

theorem Aside.wf (s : State) {a : Nat} (hi lo v : Nat) (ha : asideAddr a) : Aside s (s.wf a hi lo v) := .wr s _ ha

theorem Aside.inc (s : State) {a : Nat} (n : Nat) (ha : asideAddr a) : Aside s (s.inc a n) := .wr s _ ha

theorem Aside.wb (s : State) {a : Nat} (b : Nat) (v : Bool) (ha : asideAddr a) : Aside s (s.wb a b v) :=
  (Aside.wf s b b (b2n v) ha).trans (.of_same rfl rfl rfl rfl rfl rfl rfl)

theorem Aside.emit (s : State) (l : List Nat) (n : Nat) : Aside s (s.emit l n) := .of_same rfl rfl rfl rfl rfl rfl rfl

theorem Aside.foldl {α : Type} {f : State → α → State} (hf : ∀ s a, Aside s (f s a)) (l : List α) (s : State) :
    Aside s (l.foldl f s) :=
  foldl_keeps (P := Aside s) (fun t a h => h.trans (hf t a)) l s (.refl s)

theorem Aside.of_poke {m o : Nat} {bs : List Byte} (h : ∀ e, e < 4096 → (s.poke m o bs).entry e = s.entry e) :
    Aside s (s.poke m o bs) := by
  have hframe := State.poke_frame s m o bs
  refine ⟨?_, ?_, ?_, fun a _ _ => ?_, h⟩ <;> rw [hframe]
  rfl

theorem Aside.pokeDram (s : State) (o : Nat) (bs : List Byte) : Aside s (s.poke 14 o bs) :=
  .of_poke fun _ he => State.entry_poke_dram s o bs he

theorem asideAddr_mem {n : Nat} (hn : n < 16) :
    asideAddr (Reg.MEM_CECNT n) ∧ asideAddr (Reg.MEM_LEVEL n) ∧ asideAddr (Reg.MEM_UECNTM n) := by
  refine ⟨.inl ?_, .inl ?_, .inl ?_⟩
  · unfold Reg.MEM_CECNT; omega
  · unfold Reg.MEM_LEVEL; omega
  · unfold Reg.MEM_UECNTM; omega

theorem Aside.uncorrectable (s : State) (req : Nat) {m : Nat} (hm : m < 16) (o : Nat) : Aside s (s.uncorrectable req m o) := by
  obtain ⟨-, -, hcount⟩ := asideAddr_mem hm
  refine (Aside.trans ?_ (.wb _ 1 true (.inl (by decide)))).trans ((Aside.inc _ 1 (.inl (by decide))).trans ((Aside.inc _ 1 hcount).trans
    (.emit ..)))
  split
  · exact (Aside.wr s _ (.inl (by decide))).trans ((Aside.wr _ _ (.inl (by decide))).trans ((Aside.wr _ _ (.inl (by decide))).trans
      (.of_same rfl rfl rfl rfl rfl rfl rfl)))
  · exact .refl s

theorem Aside.correction (s : State) {m : Nat} (hm : m < 16) : Aside s (s.correction m) := by
  obtain ⟨hcount, hlevel, -⟩ := asideAddr_mem hm
  exact (Aside.inc s 1 hcount).trans (.wf _ _ _ _ hlevel)

theorem Aside.readReport (s : State) (req : Nat) {m : Nat} (hm : m < 16) (o n : Nat) : Aside s (s.readReport req m o n) := by
  refine Aside.foldl (fun t i => ?_) _ s
  unfold State.reportWord
  split
  · exact .refl t
  · exact .refl t
  · exact .correction t hm
  · exact .uncorrectable t req hm _

/-! #### Records of the registry (R263-R265, R287, R288) -/

theorem Aside.setCacheSet (s : State) (k : Nat) (l : List CacheLine) : Aside s (s.setCacheSet k l) := .of_same rfl rfl rfl rfl rfl rfl rfl

theorem Aside.touchRange (s : State) (a : Nat) : Aside s (s.touchRange a) := by
  unfold State.touchRange
  dsimp only
  split
  · exact .refl s
  · exact .of_same rfl rfl rfl rfl rfl rfl rfl

theorem Aside.lineLost (s : State) (l : CacheLine) : Aside s (lineLost s l) := by
  have hdrop : Aside s (s.dropLine l) := .setCacheSet ..
  have hread (t : State) : Aside t (t.readReport 7 14 (64 * l.addr) 64) := .readReport t 7 (by decide) _ _
  refine (hdrop.trans (Aside.trans ?_ (.wb _ 7 true (.inr (by decide))))).trans ((Aside.wr _ _ (.inr (by decide))).trans (.emit ..))
  split
  · exact (hread _).trans ((Aside.pokeDram _ _ _).trans (.touchRange ..))
  · exact hread _

theorem Aside.evict (s : State) (l : CacheLine) : Aside s (s.evict l) := by
  have hread : Aside s (s.readReport 7 6 (lineOctet l.addr l.way) 64) := .readReport s 7 (by decide) _ _
  unfold State.evict
  split
  · dsimp only
    split
    · exact hread.trans ((Aside.setCacheSet ..).trans ((Aside.pokeDram ..).trans (.inc _ 1 (.inr (by decide)))))
    · exact hread.trans (.lineLost ..)
  · exact .setCacheSet ..

theorem Aside.fill (s : State) (a : Nat) {b : List Byte} (hb : b.length = 64) (dirty : Bool) : Aside s (s.fill a b dirty) := by
  have hway (ls : List CacheLine) : (((List.range 4).find? fun w => ls.all fun l => l.way != w).getD 0) < 4 := by
    cases hf : (List.range 4).find? fun w => ls.all fun l => l.way != w with
    | none => exact Nat.zero_lt_succ _
    | some w => exact List.mem_range.mp (List.mem_of_find?_eq_some hf)
  refine (Aside.trans ?_ (.setCacheSet ..)).trans (.of_poke fun e he => State.entry_poke_line _ (hway _) hb he)
  split
  · exact .refl s
  · split
    · exact .evict ..
    · exact .refl s

theorem length_of_peek {m o n : Nat} {b : List Byte} (h : s.peek m o n = some b) : b.length = n := by
  unfold State.peek at h
  split at h
  · obtain rfl := Option.some.inj h
    simp
  · simp at h

theorem Aside.recAccess (s : State) (a : Nat) : Aside s (recAccess s a).1 := by
  have hdram (t : State) : Aside t (match t.peek 14 (64 * a) 64 with
      | some b => ((t.readReport 7 14 (64 * a) 64).fill a b false, RecGot.got (octs b))
      | none => ((t.readReport 7 14 (64 * a) 64).recordUe a, RecGot.ue)).1 := by
    have hread : Aside t (t.readReport 7 14 (64 * a) 64) := .readReport t 7 (by decide) _ _
    split
    · next b hb => exact hread.trans (.fill _ a (length_of_peek hb) false)
    · exact hread.trans ((Aside.wb _ 5 true (.inr (by decide))).trans (.wr _ _ (.inr (by decide))))
  unfold Machine.recAccess
  split
  · next l _ =>
    have hread : Aside s (s.readReport 7 6 (lineOctet a l.way) 64) := .readReport s 7 (by decide) _ _
    dsimp only
    split
    · exact hread.trans ((Aside.inc _ 1 (.inr (by decide))).trans (.setCacheSet ..))
    · split
      · exact hread.trans (.lineLost ..)
      · exact hread.trans ((Aside.setCacheSet ..).trans ((Aside.inc _ 1 (.inr (by decide))).trans (hdram _)))
  · exact (Aside.inc s 1 (.inr (by decide))).trans (hdram _)

/-- The fetch of a provisioned record. -/
theorem Aside.recFetch_got {a : Nat} {r : Rec} (h : recFetch s a = (u, .got r)) : Aside s u := by
  have haccess := Aside.recAccess s a
  unfold recFetch at h
  split at h
  · simp at h
  · next v r' hv =>
    rw [hv] at haccess
    split_ifs at h
    · simp at h
    · simp at h
    · obtain ⟨rfl, -⟩ := Prod.mk.inj h
      exact haccess

/-! #### The budget check (R241-R251, R454) -/

theorem Aside.bucketsLost (s : State) (k bin i : Nat) : Aside s (bucketsLost s k bin i) := by
  have hstored (t : State) (d : DcbState) : Aside t { t with dcb := d } := .of_same rfl rfl rfl rfl rfl rfl rfl
  exact (Aside.uncorrectable s 11 (by decide) (s.bucketWords k bin + 16 * i)).trans ((hstored ..).trans (.pokeDram ..))

theorem Aside.bucketsRead (s : State) (l : List (Nat × Nat)) : Aside s (bucketsRead s l) := by
  refine Aside.foldl (fun t x => Aside.foldl (fun t i => ?_) _ t) l s
  unfold bucketRead
  split
  · exact .bucketsLost t _ _ i
  · exact .correction t (by decide)
  · exact .refl t

theorem Aside.budgetCheck (s : State) (id w us : Nat) (kind : TxKind) : Aside s (budgetCheck s id w us kind).1 := by
  have hread := Aside.bucketsRead s (s.covering w)
  have hrefuse (t : State) : Aside t ((t.inc Reg.DCB_REFCNT).emit [31]) := (Aside.inc t 1 (.inr (by decide))).trans (.emit ..)
  have hreserve (t : State) (d : DcbState) : Aside t { t with dcb := d } := .of_same rfl rfl rfl rfl rfl rfl rfl
  refine hread.trans ?_
  unfold Machine.budgetCheck
  dsimp only
  split_ifs
  · exact (Aside.wb _ 1 true (.inr (by decide))).trans (hrefuse _)
  · exact .refl _
  · exact (hreserve _ _).trans (.inc _ 1 (.inr (by decide)))
  · exact hreserve _ _
  · split
    · split_ifs
      · exact (Aside.inc _ 1 (.inr (by decide))).trans (.emit ..)
      · exact hrefuse _
    · exact hrefuse _
  · exact hrefuse _

end

end Sys2Proof.Machine

namespace Sys2Proof.Machine

/-! ### An entry is written, placed or freed (R206, R207) -/

theorem State.setEntry_frame (s : State) (e : Nat) (x : Entry) :
    s.setEntry e x = { s with mem := (s.setEntry e x).mem, ecc := (s.setEntry e x).ecc, undef := (s.setEntry e x).undef } :=
  State.poke_frame ..

@[simp] theorem State.setEntry_lnk (s : State) (e : Nat) (x : Entry) : (s.setEntry e x).lnk = s.lnk := by rw [State.setEntry_frame]

@[simp] theorem State.setEntry_regs (s : State) (e : Nat) (x : Entry) : (s.setEntry e x).regs = s.regs := by rw [State.setEntry_frame]

@[simp] theorem State.setEntry_rfs (s : State) (e : Nat) (x : Entry) : (s.setEntry e x).rfs = s.rfs := by rw [State.setEntry_frame]

@[simp] theorem State.setEntry_cue (s : State) (e : Nat) (x : Entry) : (s.setEntry e x).cue = s.cue := by rw [State.setEntry_frame]

@[simp] theorem State.setEntry_slate (s : State) (e : Nat) (x : Entry) : (s.setEntry e x).slate = s.slate := by rw [State.setEntry_frame]

@[simp] theorem State.setEntry_epr (s : State) (e : Nat) (x : Entry) : (s.setEntry e x).epr = s.epr := by rw [State.setEntry_frame]

@[simp] theorem State.rd_setEntry (s : State) (e : Nat) (x : Entry) (a : Nat) : (s.setEntry e x).rd a = s.rd a := by
  rw [State.rd, State.rd, State.setEntry_regs]

/-- The table alone changes, and what LNK keeps for its entries. -/
def TableOnly (s t : State) : Prop :=
  t = { s with mem := t.mem, ecc := t.ecc, undef := t.undef, lnk := { s.lnk with arms := t.lnk.arms } }

/-- Entry e2 stays, and what LNK keeps for it. -/
def KeepsEntry (e2 : Nat) (s t : State) : Prop := t.entry e2 = s.entry e2 ∧ t.lnk.arms.find e2 = s.lnk.arms.find e2

/-- Entry `e` has ended in `t` with verdict v (R206): the state before is `s`, and `w` gives the cues that its accesses left. -/
def EntryEnded (e e2 v : Nat) (s w t : State) : Prop :=
  KeepsEntry e2 s t ∧ t.lnk.arms.find e = none ∧ (t.entry e).state = 0 ∧ fld (t.entry e).ctrl 31 24 = v ∧
  t.lnk.stats.get v 0 = s.lnk.stats.get v 0 + 1 ∧ t.lnk.queue = s.lnk.queue ∧
  t.lnk.notices = s.lnk.notices ++ [{ entry := e, octets := t.entry e, chain := (s.entry e).chain, prof := (s.entry e).prof }] ∧
  Fires [22, 217] 1 { s with cue := w.cue } t

section
variable {s w : State} {e e2 : Nat}

/-- An entry with its state and its verdict set. -/
def Entry.withVerdict (x : Entry) (st v : Nat) : Entry := (x.setCtrl 23 20 st).setCtrl 31 24 v

theorem Entry.wf.withVerdict {x : Entry} (hx : x.wf) (st v : Nat) : Entry.wf (x.withVerdict st v) := (hx.setCtrl ..).setCtrl ..

theorem Entry.wf.route_withVerdict {x : Entry} (hx : x.wf) (st v : Nat) : Entry.route (x.withVerdict st v) = x.route :=
  ((hx.setCtrl ..).route_setCtrl ..).trans (hx.route_setCtrl ..)

theorem Entry.wf.time_withVerdict {x : Entry} (hx : x.wf) (st v : Nat) : Entry.time (x.withVerdict st v) = x.time :=
  ((hx.setCtrl ..).time_setCtrl ..).trans (hx.time_setCtrl ..)

theorem Entry.wf.ctrl_withVerdict {x : Entry} (hx : x.wf) (st v : Nat) :
    Entry.ctrl (x.withVerdict st v) = setFld (setFld x.ctrl 23 20 st) 31 24 v :=
  ((hx.setCtrl ..).ctrl_setCtrl ..).trans (by rw [hx.ctrl_setCtrl])

theorem Entry.wf.state_withVerdict {x : Entry} (hx : x.wf) {st : Nat} (v : Nat) (hst : st < 16) :
    Entry.state (x.withVerdict st v) = st := by
  rw [Entry.state, hx.ctrl_withVerdict, fld_setFld_of_disjoint _ _ (by decide) (by decide) (by decide),
    fld_setFld_self _ _ (by decide) (by decide)]
  exact Nat.mod_eq_of_lt hst

theorem Entry.wf.verdict_withVerdict {x : Entry} (hx : x.wf) (st : Nat) {v : Nat} (hv : v < 256) :
    fld (Entry.ctrl (x.withVerdict st v)) 31 24 = v := by
  rw [hx.ctrl_withVerdict, fld_setFld_self _ _ (by decide) (by decide)]
  exact Nat.mod_eq_of_lt hv

/-- What `freeEntry` does once `u` holds the entry's octets x: `l` was LNK's state. -/
def endEntry (u : State) (l : LnkState) (e : Nat) (x : Entry) (v : Nat) : State :=
  let n : Notice := { entry := e, octets := x, chain := x.chain, prof := x.prof }
  (State.countTx { u with lnk := { l with arms := l.arms.del e, notices := l.notices ++ [n] } } v).emit [22, 217]

theorem freeEntry_eq (s : State) (e v : Nat) :
    freeEntry s e v = endEntry (s.setEntry e ((s.entry e).withVerdict 0 v)) s.lnk e ((s.entry e).withVerdict 0 v) v := rfl

theorem entry_endEntry (u : State) (l : LnkState) (e : Nat) (x : Entry) (v k : Nat) : (endEntry u l e x v).entry k = u.entry k :=
  State.entry_of_mem k rfl rfl rfl

theorem lnk_endEntry (u : State) (l : LnkState) (e : Nat) (x : Entry) (v : Nat) : (endEntry u l e x v).lnk =
    { l with arms := l.arms.del e, notices := l.notices ++ [{ entry := e, octets := x, chain := x.chain, prof := x.prof }],
             stats := l.stats.store 0 v (l.stats.get v 0 + 1) } := rfl

theorem fires_endEntry {s u : State} (l : LnkState) (e : Nat) (x : Entry) (v : Nat) (hc : u.cue = s.cue) (hs : u.slate = s.slate) :
    Fires [22, 217] 1 s (endEntry u l e x v) := Fires.emit_after 1 hc hs

theorem regs_endEntry (u : State) (l : LnkState) (e : Nat) (x : Entry) (v : Nat) : (endEntry u l e x v).regs = u.regs := rfl

theorem rfs_endEntry (u : State) (l : LnkState) (e : Nat) (x : Entry) (v : Nat) : (endEntry u l e x v).rfs = u.rfs := rfl

theorem regs_freeEntry (s : State) (e v : Nat) : (freeEntry s e v).regs = s.regs := by
  rw [freeEntry_eq, regs_endEntry, State.setEntry_regs]

theorem rfs_freeEntry (s : State) (e v : Nat) : (freeEntry s e v).rfs = s.rfs := by
  rw [freeEntry_eq, rfs_endEntry, State.setEntry_rfs]

/-- An entry that ends after accesses that leave the schedule but for its own TIME. -/
theorem entryEnded_freeEntry {v : Nat} (hv : v < 256) (hne : e2 ≠ e) (hlnk : w.lnk = s.lnk)
    (hslate : w.slate = s.slate) (hroute : (w.entry e).route = (s.entry e).route) (hother : w.entry e2 = s.entry e2) :
    EntryEnded e e2 v s w (freeEntry w e v) := by
  have hx := w.wf_entry e
  obtain ⟨x, hxdef⟩ : ∃ x, x = (w.entry e).withVerdict 0 v := ⟨_, rfl⟩
  have hwf : Entry.wf x := hxdef ▸ hx.withVerdict 0 v
  have hchain : Entry.chain x = (s.entry e).chain := by rw [hxdef, Entry.chain, hx.route_withVerdict, hroute]; rfl
  have hprof : Entry.prof x = (s.entry e).prof := by rw [hxdef, Entry.prof, hx.route_withVerdict, hroute]; rfl
  have hself : (freeEntry w e v).entry e = x := by
    rw [freeEntry_eq, entry_endEntry, ← hxdef, State.entry_setEntry_self w e hwf]
  have hkept : (freeEntry w e v).entry e2 = s.entry e2 := by
    rw [freeEntry_eq, entry_endEntry, ← hxdef, State.entry_setEntry_of_ne w hwf hne, hother]
  have hlnk' : (freeEntry w e v).lnk = { s.lnk with
      arms := s.lnk.arms.del e
      notices := s.lnk.notices ++ [{ entry := e, octets := x, chain := (s.entry e).chain, prof := (s.entry e).prof }]
      stats := s.lnk.stats.store 0 v (s.lnk.stats.get v 0 + 1) } := by
    rw [freeEntry_eq, lnk_endEntry, ← hxdef, hlnk, hchain, hprof]
  refine ⟨⟨hkept, ?_⟩, ?_, ?_, ?_, ?_, ?_, ?_, ?_⟩
  · rw [hlnk']; exact SMap.find_del_of_ne _ hne
  · rw [hlnk']; exact SMap.find_del_self ..
  · rw [hself, hxdef, hx.state_withVerdict _ (by decide)]
  · rw [hself, hxdef, hx.verdict_withVerdict _ hv]
  · rw [hlnk']; exact SMap.get_store_self ..
  · rw [hlnk']
  · rw [hlnk', hself]
  · rw [freeEntry_eq]
    refine fires_endEntry _ _ _ _ ?_ ?_
    · rw [State.setEntry_cue]
    · rw [State.setEntry_slate, hslate]

/-- An entry that ends where it could not be read, or was read to be dispatched. -/
theorem entryEnded_of_read (he : e < 4096) (he2 : e2 < 4096) (hne : e2 ≠ e) :
    let read := s.readReport 6 11 (16 * e) 16
    EntryEnded e e2 0x22 s read (freeEntry read e 0x22) ∧ (freeEntry read e 0x22).regs = read.regs ∧
      (freeEntry read e 0x22).rfs = s.rfs := by
  obtain ⟨hlnk, hrfs, hslate, -, hentry⟩ := Aside.readReport s 6 (by decide : 11 < 16) (16 * e) 16
  exact ⟨entryEnded_freeEntry (by decide) hne hlnk hslate (congrArg _ (hentry e he)) (hentry e2 he2), regs_freeEntry ..,
    (rfs_freeEntry ..).trans hrfs⟩

end

/-! ### Schedule commands (R206, R207, R223) -/

/-- A schedule command was refused with cause c. -/
def SchedRefused (c : Nat) (s t : State) : Prop :=
  t = { s with regs := t.regs, raised := t.raised } ∧ t.rb Reg.LNK_SSTAT 0 = true ∧ t.rf Reg.LNK_SSTAT 11 8 = c ∧
  GivesBits Reg.LNK_STAT [0] true s t ∧ KeepsRegs [Reg.LNK_SSTAT, Reg.LNK_STAT] s t

theorem schedRefused_refuses (s : State) {c : Nat} (hc : c < 16) : SchedRefused c s (schedRefused s c).1 := by
  have hne : Reg.LNK_SSTAT ≠ Reg.LNK_STAT := by decide
  have hwrites : WritesIn (· ∈ [Reg.LNK_SSTAT, Reg.LNK_STAT]) s (schedRefused s c).1 :=
    ((WritesIn.wb s 0 true (by decide)).trans (.wf _ 11 8 c (by decide))).trans (.wb _ 0 true (by decide))
  refine ⟨hwrites.1, ?_, ?_, fun b hb => ?_, hwrites.2⟩
  · rw [State.rb, schedRefused, State.rd_wb_of_ne _ _ _ hne, ← State.rb, rb_wf_of_outside _ _ _ (by decide) (by decide) (by decide),
      State.rb_wb_self _ _ _ (by decide)]
  · rw [State.rf, schedRefused, State.rd_wb_of_ne _ _ _ hne, ← State.rf, State.rf_wf_self _ _ _ (by decide) (by decide),
      Nat.mod_eq_of_lt (by omega)]
  · refine (GivesBits.wb _ true (by decide) b hb).trans ?_
    rw [State.rb, State.rd_wf_of_ne _ _ _ _ hne.symm, State.rd_wb_of_ne _ _ _ hne.symm, ← State.rb]

theorem entry_schedRefused (s : State) (c k : Nat) : (schedRefused s c).1.entry k = s.entry k := by
  refine State.entry_of_mem k ?_ ?_ ?_ <;> simp [schedRefused]

theorem lnk_schedRefused (s : State) (c : Nat) : (schedRefused s c).1.lnk = s.lnk := by simp [schedRefused]

theorem exec_scheduleArm {s : State} (hon : s.mainOn = true) :
    exec (.scheduleArm 1) s = .next (armEntry s (s.rf Reg.LNK_SIDX 11 0)).1 := by
  show ok (bit 1 0) (s.onMain (scmdWrite s 1)) = _
  rw [State.onMain, if_pos hon, scmdWrite, if_pos (by decide), ok, if_pos (by decide)]

theorem exec_scheduleCancel {s : State} (hon : s.mainOn = true) :
    exec (.scheduleCancel 2) s = .next (cancelEntry s (s.rf Reg.LNK_SIDX 11 0)).1 := by
  show ok (bit 2 1 && !bit 2 0) (s.onMain (scmdWrite s 2)) = _
  rw [State.onMain, if_pos hon, scmdWrite, if_neg (by decide), if_pos (by decide), ok, if_pos (by decide)]

/-- What LNK keeps for entry `e` of the table, with PMODE 0 or 1, when it is armed. -/
def State.armInfo (s : State) (e : Nat) : ArmInfo :=
  { setup := s.setup (s.entry e).chain, pmode := (s.entry e).pmode, nrep := (s.entry e).nrep }

section
variable {s : State} {e : Nat} {q : QSlot}

theorem entryFree_of_none (h : s.lnk.arms.find e = none) : s.entryFree e = true := by rw [State.entryFree, h]; rfl

theorem armEntry_of_armed (h : ¬s.lnk.arms.find e = none) : armEntry s e = schedRefused s 1 := by
  have hentry : s.entryFree e = false := Option.isNone_eq_false_iff.mpr (Option.ne_none_iff_isSome.mp h)
  simp only [armEntry, hentry, Bool.not_false, if_true]

theorem armEntry_of_bad (h : s.lnk.arms.find e = none) (hbad : s.entryBad e = true) :
    armEntry s e = (freeEntry (s.readReport 6 11 (16 * e) 16) e 0x22, 0) := by
  simp only [armEntry, entryFree_of_none h, hbad, Bool.not_true, Bool.false_eq_true, if_true, if_false]

variable (hfree : s.lnk.arms.find e = none ∧ s.entryBad e = false)
include hfree

theorem armEntry_of_unqueued (h : s.queued (s.entry e).slot = none ∨ s.slotHeld (s.entry e).slot = true) :
    armEntry s e = schedRefused s 6 := by
  have hentry := entryFree_of_none hfree.1
  cases hq : s.queued (s.entry e).slot with
  | none => simp only [armEntry, hentry, hfree.2, hq, Bool.not_true, Bool.false_eq_true, if_false]
  | some q =>
    have hheld := h.resolve_left (by simp [hq])
    simp only [armEntry, hentry, hfree.2, hq, hheld, Bool.not_true, Bool.false_eq_true, if_true, if_false]

variable (hq : s.queued (s.entry e).slot = some q) (hheld : ¬s.slotHeld (s.entry e).slot = true)
include hq hheld

theorem armEntry_of_short (h1 : (s.entry e).pmode = 1) (h : (s.entry e).prelen < pwPmin (s.profWords active (s.entry e).prof)) :
    armEntry s e = schedRefused s 3 := by
  have hentry := entryFree_of_none hfree.1
  simp only [armEntry, hentry, hfree.2, hq, hheld, h1, h, Bool.not_true, Bool.false_eq_true, and_self, if_true, if_false]

theorem armEntry_of_single (h3 : (s.entry e).pmode = 3) (h : (s.entry e).nrep = 1) : armEntry s e = schedRefused s 4 := by
  have hentry := entryFree_of_none hfree.1
  simp only [armEntry, hentry, hfree.2, hq, hheld, h3, h, show ¬3 = 1 by decide, false_and, Bool.not_true, Bool.false_eq_true, and_self,
    if_true, if_false]

theorem armEntry_of_plain (h : (s.entry e).pmode = 0 ∨
      ((s.entry e).pmode = 1 ∧ pwPmin (s.profWords active (s.entry e).prof) ≤ (s.entry e).prelen)) :
    armEntry s e = armPlace s e (s.entry e) (s.armInfo e) := by
  have hentry := entryFree_of_none hfree.1
  have hshort : ¬((s.entry e).pmode = 1 ∧ (s.entry e).prelen < pwPmin (s.profWords active (s.entry e).prof)) := by omega
  have hsingle : ¬((s.entry e).pmode = 3 ∧ (s.entry e).nrep = 1) := by omega
  have hplain : (s.entry e).pmode < 2 := by omega
  simp only [armEntry, hentry, hfree.2, hq, hheld, hshort, hsingle, hplain, Bool.not_true, Bool.false_eq_true, if_true, if_false,
    State.armInfo]

end

/-- Λ of R207. -/
def State.armLate (s : State) (e : Nat) : Int := (s.slate + 1 + s.setup (s.entry e).chain : Nat) - ((s.entry e).time : Int)

theorem armPlace_of_lt {s : State} {e : Nat} {x : Entry} (a : ArmInfo)
    (h : (s.rf Reg.LNK_SLACK 15 0 : Int) < (s.slate + 1 + a.setup : Nat) - (x.time : Int)) :
    armPlace s e x a = schedRefused (s.setEntry e ((s.entry e).setCtrl 31 24 0x22)) 2 := by
  simp only [armPlace, h, if_true]

theorem armPlace_of_le {s : State} {e : Nat} {x : Entry} (a : ArmInfo)
    (h : (s.slate + 1 + a.setup : Nat) - (x.time : Int) ≤ s.rf Reg.LNK_SLACK 15 0) :
    (armPlace s e x a).1 = placeEntry s e
      ((if 1 ≤ (s.slate + 1 + a.setup : Nat) - (x.time : Int) then x.setTime (s.slate + 1 + a.setup) else x).setCtrl 17 17 0) a := by
  simp only [armPlace, not_lt.mpr h, if_false]

section
variable {s : State} {e e2 : Nat}

/-- An ARM too late for SLACK. -/
theorem armPlace_of_late (hne : e2 ≠ e) (h : (s.rf Reg.LNK_SLACK 15 0 : Int) < s.armLate e) :
    let t := (armPlace s e (s.entry e) (s.armInfo e)).1
    KeepsEntry e2 s t ∧ t.lnk = s.lnk ∧ t.rf Reg.LNK_SSTAT 11 8 = 2 ∧ fld (t.entry e).ctrl 31 24 = 0x22 := by
  have hx := (s.wf_entry e).setCtrl 31 24 0x22
  obtain ⟨u, hu⟩ : ∃ u, u = s.setEntry e ((s.entry e).setCtrl 31 24 0x22) := ⟨_, rfl⟩
  have heq : armPlace s e (s.entry e) (s.armInfo e) = schedRefused u 2 := by
    rw [armPlace_of_lt (s.armInfo e) h, hu]
  have hlnk : u.lnk = s.lnk := by rw [hu, State.setEntry_lnk]
  obtain ⟨-, -, hcause, -, -⟩ := schedRefused_refuses u (by decide : 2 < 16)
  simp only [heq, KeepsEntry, entry_schedRefused, lnk_schedRefused, hlnk]
  refine ⟨⟨?_, trivial⟩, trivial, hcause, ?_⟩
  · rw [hu, State.entry_setEntry_of_ne _ hx hne]
  · rw [hu, State.entry_setEntry_self _ _ hx, (s.wf_entry e).ctrl_setCtrl, fld_setFld_self _ _ (by decide) (by decide)]
    rfl

/-- The entry with the earliest TIME that can be met (R207). -/
def State.metEntry (s : State) (e : Nat) : Entry :=
  if 1 ≤ s.armLate e then (s.entry e).setTime (s.slate + 1 + s.setup (s.entry e).chain) else s.entry e

theorem wf_metEntry (s : State) (e : Nat) : Entry.wf (s.metEntry e) := by
  unfold State.metEntry
  split
  · exact (s.wf_entry e).setTime _
  · exact s.wf_entry e

theorem route_metEntry (s : State) (e : Nat) : (s.metEntry e).route = (s.entry e).route := by
  unfold State.metEntry
  split
  · exact (s.wf_entry e).route_setTime _
  · rfl

theorem time_metEntry {s : State} {e : Nat} (h64 : s.slate + 1 + s.setup (s.entry e).chain < 2 ^ 64) :
    (s.metEntry e).time = if 1 ≤ s.armLate e then s.slate + 1 + s.setup (s.entry e).chain else (s.entry e).time := by
  unfold State.metEntry
  split
  · rw [(s.wf_entry e).time_setTime, Nat.mod_eq_of_lt h64]
  · rfl

/-- The entry as an ARM in time places it. -/
def State.placed (s : State) (e : Nat) : Entry := ((s.metEntry e).setCtrl 17 17 0).withVerdict 1 0

theorem wf_placed (s : State) (e : Nat) : Entry.wf (s.placed e) := ((wf_metEntry s e).setCtrl ..).withVerdict ..

theorem placed_fields {s : State} {e : Nat} (h64 : s.slate + 1 + s.setup (s.entry e).chain < 2 ^ 64) :
    (s.placed e).state = 1 ∧ (s.placed e).origin = false ∧ (s.placed e).route = (s.entry e).route ∧
    (s.placed e).time = if 1 ≤ s.armLate e then s.slate + 1 + s.setup (s.entry e).chain else (s.entry e).time := by
  have hy := wf_metEntry s e
  have hz := hy.setCtrl 17 17 0
  refine ⟨hz.state_withVerdict _ (by decide), ?_, ?_, ?_⟩
  · rw [Entry.origin, State.placed, hz.ctrl_withVerdict, bit_setFld_of_lt _ _ (by decide) (by decide) (by decide),
      bit_setFld_of_lt _ _ (by decide) (by decide) (by decide), hy.ctrl_setCtrl]
    exact bit_setFld_self _ false (by decide)
  · rw [State.placed, hz.route_withVerdict, hy.route_setCtrl, route_metEntry]
  · rw [State.placed, hz.time_withVerdict, hy.time_setCtrl, time_metEntry h64]

/-- The state with `arms` as what LNK keeps for its entries. -/
def State.withArms (s : State) (arms : SMap ArmInfo) : State := { s with lnk := { s.lnk with arms := arms } }

theorem tableOnly_withArms (s : State) (e : Nat) (x : Entry) (arms : SMap ArmInfo) : TableOnly s ((s.setEntry e x).withArms arms) := by
  rw [State.setEntry_frame]; rfl

theorem entry_withArms (s : State) (arms : SMap ArmInfo) (k : Nat) : (s.withArms arms).entry k = s.entry k :=
  State.entry_of_mem k rfl rfl rfl

theorem arms_withArms (s : State) (arms : SMap ArmInfo) : (s.withArms arms).lnk.arms = arms := rfl

theorem placeEntry_eq (s : State) (e : Nat) (x : Entry) (a : ArmInfo) : placeEntry s e x a =
    (s.setEntry e (x.withVerdict 1 0)).withArms ((s.setEntry e (x.withVerdict 1 0)).lnk.arms.put e a) := rfl

/-- An ARM in time. -/
theorem armPlace_of_met (hne : e2 ≠ e) (h : s.armLate e ≤ s.rf Reg.LNK_SLACK 15 0) : let t := (armPlace s e (s.entry e) (s.armInfo e)).1
    TableOnly s t ∧ KeepsEntry e2 s t ∧ t.lnk.arms.find e = some (s.armInfo e) ∧ t.entry e = s.placed e := by
  have hx := wf_placed s e
  have heq : (armPlace s e (s.entry e) (s.armInfo e)).1 = (s.setEntry e (s.placed e)).withArms (s.lnk.arms.put e (s.armInfo e)) := by
    rw [armPlace_of_le (s.armInfo e) h, placeEntry_eq, State.setEntry_lnk]
    rfl
  simp only [heq, KeepsEntry, entry_withArms, arms_withArms]
  exact ⟨tableOnly_withArms .., ⟨State.entry_setEntry_of_ne _ hx hne, SMap.find_put_of_ne _ _ hne⟩, SMap.find_put_self ..,
    State.entry_setEntry_self _ _ hx⟩

/-- CANCEL of an ARMED entry. -/
theorem cancelEntry_of_armed (hne : e2 ≠ e) {a : ArmInfo} (ha : s.lnk.arms.find e = some a) (h1 : (s.entry e).state = 1) :
    let t := (cancelEntry s e).1
    TableOnly s t ∧ KeepsEntry e2 s t ∧ t.lnk.arms.find e = none ∧ (t.entry e).state = 0 ∧ (t.entry e).time = (s.entry e).time := by
  have hx := s.wf_entry e
  have hy := hx.withVerdict 0 0
  have heq : (cancelEntry s e).1 = (s.setEntry e ((s.entry e).withVerdict 0 0)).withArms (s.lnk.arms.del e) := by
    rw [cancelEntry, if_neg (by simp [State.entryFree, ha]), if_pos h1, ← State.setEntry_lnk s e ((s.entry e).withVerdict 0 0)]
    rfl
  simp only [heq, KeepsEntry, entry_withArms, arms_withArms, State.entry_setEntry_self _ _ hy]
  exact ⟨tableOnly_withArms .., ⟨State.entry_setEntry_of_ne _ hy hne, SMap.find_del_of_ne _ hne⟩, SMap.find_del_self ..,
    hx.state_withVerdict _ (by decide), hx.time_withVerdict ..⟩

end

end Sys2Proof.Machine

namespace Sys2Proof.Machine

/-! ### The dispatch of an entry (R208, R209) -/

theorem exec_scheduleDispatch {e : Nat} (he : e < 4096) (s : State) : exec (.scheduleDispatch e) s = .next (dispatchEntry s e) := by
  show ok (decide (e < 4096)) (dispatchEntry s e) = _
  rw [ok, if_pos (decide_eq_true he)]

theorem exec_dispatchSlackExpiry {e : Nat} (he : e < 4096) (s : State) : exec (.dispatchSlackExpiry e) s = .next (slackExpiry s e) := by
  show ok (decide (e < 4096)) (slackExpiry s e) = _
  rw [ok, if_pos (decide_eq_true he)]

/-- An armed entry that can be read, on its instant D and no later than SLACK after it, of a provisioned destination's slot. -/
def DispatchDue (s : State) (e : Nat) (a : ArmInfo) (q : QSlot) : Prop :=
  (s.lnk.arms.find e = some a ∧ (s.entry e).state = 1) ∧ (s.entry e).dispatchAt a ≤ s.slate ∧
  (s.slate : Int) ≤ (s.entry e).dispatchAt a + (s.rf Reg.LNK_SLACK 15 0 : Nat) ∧ s.operating = true ∧ s.draining = none ∧
  s.readReport 6 11 (16 * e) 16 = s ∧ s.readable 11 (16 * e) 16 = true ∧ s.queued (s.entry e).slot = some q ∧
  q.dest ≤ s.eprLimit ∧ s.rangeLoaded q.dest = true

/-- The table once the TIME of entry e is that of a transmission that starts now (R208). -/
def State.timed (s : State) (e : Nat) (a : ArmInfo) : State := s.setEntry e ((s.entry e).setTime (s.slate + a.setup))

section
variable {s u v : State} {e : Nat} {a : ArmInfo} {q : QSlot} {r : Rec} {h : SlotHead}

theorem slackExpiry_of_due (ha : s.lnk.arms.find e = some a ∧ (s.entry e).state = 1) (hbad : s.entryBad e = false)
    (hpast : (s.entry e).dispatchAt a + (s.rf Reg.LNK_SLACK 15 0 : Nat) < s.slate) :
    slackExpiry s e = freeEntry (s.readReport 6 11 (16 * e) 16) e 0x22 := by
  simp only [slackExpiry, ha.1, ha.2, hbad, hpast, Bool.not_false, and_self, if_true]

theorem dispatchEntry_of_bad (ha : s.lnk.arms.find e = some a) (hbad : s.entryBad e = true) (hair : s.inAir e = false)
    (hdue : (s.entry e).dispatchAt a ≤ s.slate) : dispatchEntry s e = freeEntry (s.readReport 6 11 (16 * e) 16) e 0x22 := by
  simp only [dispatchEntry, ha, hbad, hair, not_lt.mpr hdue, if_true, if_false, Bool.false_eq_true, or_self]

/-- The dispatch of a due entry goes on to the checks that follow those of its record. -/
theorem dispatchEntry_of_due (hdue : DispatchDue s e a q) (hfetch : recFetch (s.timed e a) q.dest = (u, .got r))
    (hsusp : recSusp r = false) : dispatchEntry s e = entryCommit u e ((s.entry e).dispatchAt a) a q r := by
  obtain ⟨⟨ha, hstate⟩, hD, hslack, hop, hdrain, hread, hgood, hq, hlimit, hloaded⟩ := hdue
  have hbad : s.entryBad e = false := by rw [State.entryBad, hgood]; rfl
  have hqueued : (s.timed e a).queued (s.entry e).slot = some q := by rw [State.queued, State.timed, State.setEntry_lnk]; exact hq
  have hlimit' : ¬(s.timed e a).eprLimit < q.dest := by
    rw [State.eprLimit, State.rf, State.timed, State.rd_setEntry]; exact not_lt.mpr hlimit
  have hloaded' : (s.timed e a).rangeLoaded q.dest = true := by
    rw [State.rangeLoaded, State.range, State.timed, State.setEntry_epr]; exact hloaded
  have hwait : ¬((s.entry e).state ≠ 1 ∨ (s.slate : Int) < (s.entry e).dispatchAt a ∨
      (s.entry e).dispatchAt a + (s.rf Reg.LNK_SLACK 15 0 : Nat) < s.slate ∨ (!s.operating) = true ∨ s.draining.isSome = true) := by
    simp only [hstate, hop, hdrain, not_lt.mpr hD, not_lt.mpr hslack]; decide
  unfold dispatchEntry
  simp only [ha, hbad, hwait, if_false, Bool.false_eq_true, hread]
  rw [← State.timed, hqueued]
  simp only [hlimit', hloaded', hfetch, hsusp, Bool.not_true, Bool.false_eq_true, or_self, if_false]

/-- After the fetch of its record the entry is as it was but for TIME. -/
theorem entry_timed (he : e < 4096) (hfetch : recFetch (s.timed e a) q.dest = (u, .got r)) :
    u.entry e = (s.entry e).setTime (s.slate + a.setup) := by
  obtain ⟨-, -, -, -, hentry⟩ := Aside.recFetch_got hfetch
  rw [hentry e he]
  exact State.entry_setEntry_self s e ((s.wf_entry e).setTime _)

/-- The fetch of a due entry's record leaves the schedule but for the entry's TIME. -/
theorem fetched_aside (hfetch : recFetch (s.timed e a) q.dest = (u, .got r)) :
    u.lnk = s.lnk ∧ u.rfs = s.rfs ∧ u.slate = s.slate ∧ (∀ b, 0x40060000 ≤ b → b < 0x40500000 → u.rd b = s.rd b) ∧
      ∀ e2, e2 < 4096 → e2 ≠ e → u.entry e2 = s.entry e2 := by
  obtain ⟨hlnk, hrfs, hslate, hrd, hentry⟩ := Aside.recFetch_got hfetch
  refine ⟨?_, ?_, ?_, fun b hlo hhi => ?_, fun e2 he2 hne => ?_⟩
  · rw [hlnk, State.timed, State.setEntry_lnk]
  · rw [hrfs, State.timed, State.setEntry_rfs]
  · rw [hslate, State.timed, State.setEntry_slate]
  · rw [hrd b hlo hhi, State.timed, State.rd_setEntry]
  · rw [hentry e2 he2]
    exact State.entry_setEntry_of_ne s ((s.wf_entry e).setTime _) hne

theorem entryCommit_of_refusing (d : Int) (h : u.chainRefuses (u.entry e).chain = true) : entryCommit u e d a q r = freeEntry u e 0x24 := by
  unfold entryCommit
  exact if_pos h

/-- The transmission that a dispatch of entry e asks for, its number `id`. -/
def State.entryTx (u : State) (e id : Nat) (a : ArmInfo) (q : QSlot) (h : SlotHead) (r : Rec) : Tx :=
  let x := u.entry e
  let pw := u.profWords active x.prof
  let pre := if x.pmode = 1 ∨ x.pmode = 2 then x.prelen else pwPmin pw
  let pend := u.entryPend q h r
  { u.mkTx id (.entry e q.slot q.dest pend false) x.chain x.ch x.prof (tuneWord (u.chanHz active x.chain x.ch))
      (x.dispatchAt a).toNat x.time (x.time + airTicks pw pre h.len x.copies) with
    mhr := u.entryMhr q h pend, copies := x.copies, pre := pre }

/-- An entry that passes checks 3 to 8 of R208 goes to the latch. -/
theorem entryCommit_of_approved (d : Int) (hchain : u.chainRefuses (u.entry e).chain = false)
    (hplan : u.txPlanOk (u.entry e).chain (u.entry e).ch (u.entry e).prof = true) (hhold : u.holdExpiry = none)
    (hleft : u.counterLeft = true) (hhead : u.slotHead q.slot = some h)
    (hconflict : u.txConflict (u.entry e).chain ((u.entry e).dispatchAt a).toNat
      (u.backOf (u.entry e).chain (u.entryTx e u.lnk.seq a q h r).t1) true = false)
    (hbudget : budgetCheck { u with lnk := { u.lnk with seq := u.lnk.seq + 1 } } u.lnk.seq
      (tuneWord (u.chanHz active (u.entry e).chain (u.entry e).ch)) (u.entryTx e u.lnk.seq a q h r).us (u.entry e).kind = (v, .approved)) :
    entryCommit u e d a q r = entryLatch v e (u.entryTx e u.lnk.seq a q h r) a q r := by
  have hsized : u.sizedHead q.slot = h := by rw [State.sizedHead, hhead]; rfl
  unfold entryCommit
  simp only [hchain, hplan, hhold, hleft, hsized, Bool.false_eq_true, Bool.not_true, if_false]
  refine (if_neg (Bool.eq_false_iff.mp hconflict)).trans ?_
  show (match budgetCheck { u with lnk := { u.lnk with seq := u.lnk.seq + 1 } } u.lnk.seq
      (tuneWord (u.chanHz active (u.entry e).chain (u.entry e).ch)) (u.entryTx e u.lnk.seq a q h r).us (u.entry e).kind with
    | (s, .approved) => entryLatch s e (u.entryTx e u.lnk.seq a q h r) a q r
    | (s, .deferred at_) => deferEntry s e (u.entry e) a q at_
    | (s, .refused) => freeEntry s e 0x21) = _
  rw [hbudget]

/-! ### The latch (R175, R209) -/

theorem Aside.laneWork (s : State) (n : Nat) : Aside s (laneWork s n) := by
  have hwork (f : Nat) (c : CipState) : Aside s { s.wr64 (Reg.CIP_FREE 2 0) f with cip := c } :=
    ((Aside.wr s _ (.inr (by decide))).trans (.wr _ _ (.inr (by decide)))).trans (.of_same rfl rfl rfl rfl rfl rfl rfl)
  unfold Machine.laneWork State.queueHigh
  dsimp only
  split
  · exact (hwork ..).trans (.wf _ _ _ _ (.inr (by decide)))
  · exact hwork ..

/-- The tuning word of the synthesizer, and the mark of a drive that was limited (R74, R78). -/
def tuneTx (s : State) (t : Tx) : State :=
  let s := s.wr (Reg.RFC_TXLO t.chain) (word t.word)
  if (s.drive t.chain).2 then s.wb (Reg.RFC_STAT t.chain) 13 true else s

theorem latchTx_eq (s : State) (t : Tx) :
    let u := tuneTx ((truncateChain s t.chain).addOut t.chain .own (some t.back)) t
    latchTx s t = { u with rfs := { u.rfs with txs := u.rfs.txs ++ [t] } } := rfl

theorem writesIn_tuneTx (s : State) {t : Tx} (ht : t.chain < 8) : WritesIn (· < 0x40400000) s (tuneTx s t) := by
  have hlo : Reg.RFC_TXLO t.chain < 0x40400000 := by unfold Reg.RFC_TXLO; omega
  have hstat : Reg.RFC_STAT t.chain < 0x40400000 := by unfold Reg.RFC_STAT; omega
  have htuned := WritesIn.wr (A := (· < 0x40400000)) s (word t.word) hlo
  unfold tuneTx
  dsimp only
  split
  · exact htuned.trans (.wb _ 13 true hstat)
  · exact htuned

/-- What latching a transmission leaves (R74, R84): registers of RFC differ, and its chain's takes, detections and outages. -/
theorem latchTx_frame (s : State) {t : Tx} (ht : t.chain < 8) :
    (∃ regs raised takes chz outs, latchTx s t = { s with
      regs := regs, raised := raised, chz := chz, lnk := { s.lnk with takes := takes }
      rfs := { s.rfs with txs := s.rfs.txs ++ [t], outs := outs } }) ∧
    ∀ a, 0x40400000 ≤ a → (latchTx s t).rd a = s.rd a := by
  obtain ⟨v, hv⟩ : ∃ v, v = (truncateChain s t.chain).addOut t.chain .own (some t.back) := ⟨_, rfl⟩
  have hvframe : ∃ takes chz outs, v = { s with chz := chz, lnk := { s.lnk with takes := takes }, rfs := { s.rfs with outs := outs } } :=
    hv ▸ ⟨_, _, _, rfl⟩
  obtain ⟨hwrites, hrd⟩ := writesIn_tuneTx v ht
  obtain ⟨u, hu⟩ : ∃ u, u = tuneTx v t := ⟨_, rfl⟩
  have hlatch : latchTx s t = { u with rfs := { u.rfs with txs := u.rfs.txs ++ [t] } } := by rw [latchTx_eq, ← hv, ← hu]
  rw [← hu] at hwrites hrd
  obtain ⟨takes, chz, outs, rfl⟩ := hvframe
  refine ⟨⟨u.regs, u.raised, takes, chz, outs, ?_⟩, fun a ha => ?_⟩
  · rw [hlatch, hwrites]
  · rw [hlatch]
    exact (hrd a (not_lt.mpr ha)).1

/-- The first transmission that takes a counter value in the tick. -/
theorem takeCounter_first {t : Tx} (htx : s.rfs.txs = [t]) (hlatch : s.lnk.latchAt ≠ s.slate) (t0 n : Nat) :
    takeCounter s t0 n t.id = { s with
      regs := (takeCounter s t0 n t.id).regs, raised := (takeCounter s t0 n t.id).raised
      lnk := { s.lnk with latches := [(t0, n, t.id)], latchAt := s.slate }
      rfs := { s.rfs with txs := [{ t with counter := some (s.rd Reg.LNK_TXCTR).toNat,
                                           mhr := setCounter t.mhr (s.rd Reg.LNK_TXCTR).toNat }] } } := by
  simp [takeCounter, hlatch, insertBy, htx, State.wb, State.wf, State.wr]

theorem txctr_takeCounter (s : State) (t0 n id : Nat) :
    (takeCounter s t0 n id).rd Reg.LNK_TXCTR = s.rd Reg.LNK_TXCTR + 1 := by
  have hnext (w : Word) : word (w.toNat + 1) = w + 1 := by
    rw [word, BitVec.ofNat_add, BitVec.ofNat_toNat, BitVec.setWidth_eq]; rfl
  unfold takeCounter
  dsimp only
  rw [State.rd_wb_of_ne _ _ _ (by decide), State.rd_wr_self, hnext]

/-- The transmission as it is latched, with the slot's octets b. -/
def Tx.carrying (t : Tx) (b : List Nat) (r : Rec) : Tx := { t with payload := b.drop 8, key := [], long := recLong r }

/-- What the latch of an approved entry e does for an unprotected downlink of slot header h and octets b (R209). -/
def State.latchDownlink (s : State) (e : Nat) (t : Tx) (h : SlotHead) (b : List Nat) (r : Rec) : State :=
  let u := laneWork s (40 + 2 * cdiv h.len 16)
  takeCounter (latchTx (u.setEntry e ((u.entry e).setCtrl 23 20 3)) (t.carrying b r)) t.t0 t.chain t.id

theorem entryKey_of_downlink (s : State) (q : QSlot) (r : Rec) (htype : h.type = 1) (hsec : h.sec = 0) :
    entryKey s q h r = (s, .key [], recLong r) := by
  simp [entryKey, htype, hsec]

theorem entryLatch_of_downlink {b : List Nat} {t : Tx} (hread : s.readReport 6 14 (s.slotAt q.slot) 512 = s)
    (hslot : s.slotRead q.slot = some (h, b)) (hsetup : s.setup t.chain ≤ a.setup) (htype : h.type = 1) (hsec : h.sec = 0) :
    entryLatch s e t a q r = s.latchDownlink e t h b r := by
  -- `entryLatch` is unfolded before it is applied: applied, the kernel would first evaluate the read of 512 octets.
  have hlatch : ∀ f, f = entryLatch → f s e t a q r = s.latchDownlink e t h b r := by
    delta entryLatch
    rintro _ rfl
    simp only [hread, hslot, not_lt.mpr hsetup, if_false, entryKey_of_downlink s q r htype hsec, State.latchDownlink, Tx.carrying]
  exact hlatch _ rfl

/-- What the latch of an unprotected downlink leaves (R175, R209, R222): `s` is the state that the budget check leaves. -/
theorem entryLatch_latches {b : List Nat} {t : Tx} {e2 : Nat} (he2 : e2 < 4096) (hne : e2 ≠ e) (htx : s.rfs.txs = [])
    (hlatch : s.lnk.latchAt ≠ s.slate) (hchain : t.chain < 8) (hread : s.readReport 6 14 (s.slotAt q.slot) 512 = s)
    (hslot : s.slotRead q.slot = some (h, b)) (hsetup : s.setup t.chain ≤ a.setup) (htype : h.type = 1) (hsec : h.sec = 0) :
    let x := entryLatch s e t a q r
    KeepsEntry e2 s x ∧ (x.entry e).state = 3 ∧ x.lnk.arms = s.lnk.arms ∧ x.lnk.stats = s.lnk.stats ∧
    x.rd Reg.LNK_TXCTR = s.rd Reg.LNK_TXCTR + 1 ∧
    x.rfs.txs = [{ t.carrying b r with
      counter := some (s.rd Reg.LNK_TXCTR).toNat, mhr := setCounter t.mhr (s.rd Reg.LNK_TXCTR).toNat }] := by
  have heq := entryLatch_of_downlink (e := e) (r := r) hread hslot hsetup htype hsec
  obtain ⟨hlnk, hrfs, hslate, hrd, hentry⟩ := Aside.laneWork s (40 + 2 * cdiv h.len 16)
  obtain ⟨u, hu⟩ : ∃ u, u = laneWork s (40 + 2 * cdiv h.len 16) := ⟨_, rfl⟩
  rw [← hu] at hlnk hrfs hslate hrd hentry
  have hwf := (u.wf_entry e).setCtrl 23 20 3
  obtain ⟨w, hw⟩ : ∃ w, w = u.setEntry e ((u.entry e).setCtrl 23 20 3) := ⟨_, rfl⟩
  have hself : w.entry e = (u.entry e).setCtrl 23 20 3 := by rw [hw]; exact State.entry_setEntry_self _ _ hwf
  have hother : w.entry e2 = s.entry e2 := by rw [hw, State.entry_setEntry_of_ne _ hwf hne, hentry e2 he2]
  have hwlnk : w.lnk = s.lnk := by rw [hw, State.setEntry_lnk, hlnk]
  have hwslate : w.slate = s.slate := by rw [hw, State.setEntry_slate, hslate]
  have hwtxs : w.rfs.txs = [] := by rw [hw, State.setEntry_rfs, hrfs, htx]
  obtain ⟨⟨regs, raised, takes, chz, outs, hframe⟩, hlrd⟩ := latchTx_frame w (t := t.carrying b r) hchain
  have hctr : (latchTx w (t.carrying b r)).rd Reg.LNK_TXCTR = s.rd Reg.LNK_TXCTR := by
    rw [hlrd _ (by decide), hw, State.rd_setEntry, hrd _ (by decide) (by decide)]
  obtain ⟨y, hy⟩ : ∃ y, y = latchTx w (t.carrying b r) := ⟨_, rfl⟩
  rw [← hy] at hctr hframe
  have htaken := takeCounter_first (s := y) (t := t.carrying b r) (by rw [hframe, hwtxs]; rfl)
    (by rw [hframe]; show w.lnk.latchAt ≠ w.slate; rw [hwlnk, hwslate]; exact hlatch) t.t0 t.chain
  have hx : entryLatch s e t a q r = takeCounter y t.t0 t.chain (t.carrying b r).id := by
    rw [heq, State.latchDownlink, hy, hw, hu]; rfl
  have hxctr := txctr_takeCounter y t.t0 t.chain (t.carrying b r).id
  obtain ⟨x, hxdef⟩ : ∃ x, x = takeCounter y t.t0 t.chain (t.carrying b r).id := ⟨_, rfl⟩
  rw [← hxdef] at htaken hxctr hx
  have hxentry (k : Nat) : x.entry k = w.entry k := by
    refine State.entry_of_mem k ?_ ?_ ?_ <;> rw [htaken, hframe]
  have hxlnk : x.lnk.arms = s.lnk.arms ∧ x.lnk.stats = s.lnk.stats := by
    rw [htaken, hframe, hwlnk]; exact ⟨rfl, rfl⟩
  simp only [hx, KeepsEntry]
  refine ⟨⟨(hxentry e2).trans hother, by rw [hxlnk.1]⟩, ?_, hxlnk.1, hxlnk.2, hxctr.trans (by rw [hctr]), ?_⟩
  · rw [hxentry, hself, Entry.state, (u.wf_entry e).ctrl_setCtrl, fld_setFld_self _ _ (by decide) (by decide)]
    rfl
  · rw [htaken, hctr]; rfl

end

end Sys2Proof.Machine

namespace Sys2Proof.Machine

/-! ### A dispatch that is latched (R208, R209) -/

/-- What an entry's last two words say does not rest on TIME. -/
theorem Entry.fields_congr {x y : Entry} (hroute : y.route = x.route) (hctrl : y.ctrl = x.ctrl) :
    y.chain = x.chain ∧ y.ch = x.ch ∧ y.prof = x.prof ∧ y.pmode = x.pmode ∧
      y.prelen = x.prelen ∧ y.copies = x.copies ∧ y.kind = x.kind := by
  unfold Entry.chain Entry.ch Entry.prof Entry.copies Entry.pmode Entry.prelen Entry.nrep Entry.kind Entry.origin
  rw [hroute, hctrl]
  exact ⟨rfl, rfl, rfl, rfl, rfl, rfl, rfl⟩

theorem Entry.prof_lt (x : Entry) : x.prof < 16 := Nat.mod_lt _ (by decide)

section
variable {s u v : State} {e e2 : Nat} {a : ArmInfo} {q : QSlot} {r : Rec} {h : SlotHead} {b : List Nat}

theorem fields_timed (he : e < 4096) (hfetch : recFetch (s.timed e a) q.dest = (u, .got r)) :
    (u.entry e).route = (s.entry e).route ∧ (u.entry e).ctrl = (s.entry e).ctrl := by
  rw [entry_timed he hfetch]
  exact ⟨(s.wf_entry e).route_setTime _, (s.wf_entry e).ctrl_setTime _⟩

/-- At its instant D the entry's TIME stays. -/
theorem time_timed (he : e < 4096) (hfetch : recFetch (s.timed e a) q.dest = (u, .got r)) (hnow : (s.entry e).dispatchAt a = s.slate) :
    (u.entry e).time = s.slate + a.setup ∧ ((u.entry e).dispatchAt a).toNat = s.slate := by
  have hlt := (s.entry e).time_lt
  have htime : (u.entry e).time = s.slate + a.setup := by
    rw [entry_timed he hfetch, (s.wf_entry e).time_setTime]
    unfold Entry.dispatchAt at hnow
    omega
  refine ⟨htime, ?_⟩
  rw [Entry.dispatchAt, htime]
  omega

theorem profWords_fetched (hfetch : recFetch (s.timed e a) q.dest = (u, .got r)) {p : Nat} (hp : p < 16) :
    u.profWords active p = s.profWords active p := by
  obtain ⟨-, -, -, hrd, -⟩ := fetched_aside hfetch
  refine List.map_congr_left fun i hi => hrd _ ?_ ?_ <;>
  · have := List.mem_range.mp hi
    simp only [Reg.CHZ_PROF_CFG, active]
    omega

theorem holdExpiry_fetched (hfetch : recFetch (s.timed e a) q.dest = (u, .got r)) : u.holdExpiry = s.holdExpiry := by
  obtain ⟨-, -, -, hrd, -⟩ := fetched_aside hfetch
  unfold State.holdExpiry State.pstate State.rf State.rd64
  rw [hrd Reg.LNK_PSTAT (by decide) (by decide), hrd (Reg.LNK_HSTART 0) (by decide) (by decide),
    hrd (Reg.LNK_HSTART 0 + 4) (by decide) (by decide), hrd Reg.LNK_HOLD (by decide) (by decide)]

/-- The transmission of a downlink that is dispatched at its instant D. -/
theorem entryTx_of_downlink (he : e < 4096) (hfetch : recFetch (s.timed e a) q.dest = (u, .got r))
    (hnow : (s.entry e).dispatchAt a = s.slate) (htype : h.type = 1) (id : Nat) :
    let x := s.entry e
    let pw := s.profWords active x.prof
    let pre := if x.pmode = 1 ∨ x.pmode = 2 then x.prelen else pwPmin pw
    let pend := decide (1 < recPending r)
    u.entryTx e id a q h r = { u.mkTx id (.entry e q.slot q.dest pend false) x.chain x.ch x.prof
      (tuneWord (u.chanHz active x.chain x.ch)) s.slate (s.slate + a.setup) (s.slate + a.setup + airTicks pw pre h.len x.copies) with
      mhr := u.entryMhr q h pend, copies := x.copies, pre := pre } := by
  obtain ⟨hroute, hctrl⟩ := fields_timed he hfetch
  obtain ⟨hchain, hch, hprof, hpmode, hprelen, hcopies, -⟩ := Entry.fields_congr hroute hctrl
  obtain ⟨htime, hsince⟩ := time_timed he hfetch hnow
  have hpend : u.entryPend q h r = decide (1 < recPending r) := by rw [State.entryPend, if_neg (by omega)]
  simp only [State.entryTx, hchain, hch, hprof, hpmode, hprelen, hcopies, htime, hsince, hpend,
    profWords_fetched hfetch (s.entry e).prof_lt]

/-- A due entry of an unprotected downlink passes every check of R208, and can be latched: `u` is the state after the fetch of its
record r, `v` that after the budget check, and b are the slot's octets. -/
structure Latchable (s u v : State) (e : Nat) (a : ArmInfo) (q : QSlot) (r : Rec) (h : SlotHead) (b : List Nat) : Prop where
  due : DispatchDue s e a q
  fetch : recFetch (s.timed e a) q.dest = (u, .got r)
  susp : recSusp r = false
  chain : u.chainRefuses (s.entry e).chain = false
  plan : u.txPlanOk (s.entry e).chain (s.entry e).ch (s.entry e).prof = true
  hold : s.holdExpiry = none
  left : u.counterLeft = true
  head : u.slotHead q.slot = some h
  type : h.type = 1
  sec : h.sec = 0
  now : (s.entry e).dispatchAt a = s.slate
  conflict : u.txConflict (s.entry e).chain s.slate (u.backOf (s.entry e).chain (u.entryTx e s.lnk.seq a q h r).t1) true = false
  budget : budgetCheck { u with lnk := { u.lnk with seq := s.lnk.seq + 1 } } s.lnk.seq
    (tuneWord (u.chanHz active (s.entry e).chain (s.entry e).ch)) (u.entryTx e s.lnk.seq a q h r).us (s.entry e).kind = (v, .approved)
  read : v.readReport 6 14 (v.slotAt q.slot) 512 = v
  slot : v.slotRead q.slot = some (h, b)
  setup : v.setup (s.entry e).chain ≤ a.setup
  latch : s.lnk.latchAt ≠ s.slate
  idle : s.rfs.txs = []

theorem Latchable.dispatch_eq (hl : Latchable s u v e a q r h b) (he : e < 4096) :
    dispatchEntry s e = entryLatch v e (u.entryTx e s.lnk.seq a q h r) a q r := by
  obtain ⟨hroute, hctrl⟩ := fields_timed he hl.fetch
  obtain ⟨hchain, hch, hprof, -, -, -, hkind⟩ := Entry.fields_congr hroute hctrl
  obtain ⟨-, hsince⟩ := time_timed he hl.fetch hl.now
  obtain ⟨hlnk, -, -, -, -⟩ := fetched_aside hl.fetch
  have hseq : u.lnk.seq = s.lnk.seq := by rw [hlnk]
  rw [dispatchEntry_of_due hl.due hl.fetch hl.susp, ← hseq]
  refine entryCommit_of_approved _ ?_ ?_ ((holdExpiry_fetched hl.fetch).trans hl.hold) hl.left hl.head ?_ ?_
  · rw [hchain]; exact hl.chain
  · rw [hchain, hch, hprof]; exact hl.plan
  · rw [hchain, hsince, hseq]; exact hl.conflict
  · rw [hchain, hch, hkind, hseq]; exact hl.budget

/-- The budget check of a due entry leaves the schedule but for the entry's TIME and the number given to its transmission. -/
theorem Latchable.budget_aside (hl : Latchable s u v e a q r h b) : v.lnk = { s.lnk with seq := s.lnk.seq + 1 } ∧ v.rfs = s.rfs ∧
    v.slate = s.slate ∧ v.rd Reg.LNK_TXCTR = s.rd Reg.LNK_TXCTR ∧ ∀ e2, e2 < 4096 → e2 ≠ e → v.entry e2 = s.entry e2 := by
  obtain ⟨hlnk, hrfs, hslate, hrd, hentry⟩ := fetched_aside hl.fetch
  have haside := Aside.budgetCheck { u with lnk := { u.lnk with seq := s.lnk.seq + 1 } } s.lnk.seq
    (tuneWord (u.chanHz active (s.entry e).chain (s.entry e).ch)) (u.entryTx e s.lnk.seq a q h r).us (s.entry e).kind
  rw [hl.budget] at haside
  obtain ⟨glnk, grfs, gslate, grd, gentry⟩ := haside
  refine ⟨glnk.trans (by rw [hlnk]), grfs.trans hrfs, gslate.trans hslate, ?_, fun e2 he2 hne => ?_⟩
  · exact (grd _ (by decide) (by decide)).trans (hrd _ (by decide) (by decide))
  · exact (gentry e2 he2).trans ((State.entry_of_mem e2 rfl rfl rfl).trans (hentry e2 he2 hne))

/-- The dispatch of an entry that can be latched. -/
theorem Latchable.dispatches (hl : Latchable s u v e a q r h b) (he : e < 4096) (he2 : e2 < 4096) (hne : e2 ≠ e) :
    let t := dispatchEntry s e
    KeepsEntry e2 s t ∧ (t.entry e).state = 3 ∧ t.lnk.arms.find e = some a ∧ t.rd Reg.LNK_TXCTR = s.rd Reg.LNK_TXCTR + 1 ∧
    t.lnk.stats = s.lnk.stats ∧
    t.rfs.txs = [{ (u.entryTx e s.lnk.seq a q h r).carrying b r with
      counter := some (s.rd Reg.LNK_TXCTR).toNat, mhr := setCounter (u.entryTx e s.lnk.seq a q h r).mhr (s.rd Reg.LNK_TXCTR).toNat }] := by
  obtain ⟨hlnk, hrfs, hslate, hctr, hentry⟩ := hl.budget_aside
  obtain ⟨hroute, hctrl⟩ := fields_timed he hl.fetch
  obtain ⟨hchain, -⟩ := Entry.fields_congr hroute hctrl
  obtain ⟨⟨ha, -⟩, -⟩ := hl.due
  have htxchain : (u.entryTx e s.lnk.seq a q h r).chain = (s.entry e).chain := hchain
  obtain ⟨hkept, hstate, harms, hstats, hnext, htxs⟩ := entryLatch_latches (s := v) (e := e) (a := a) (q := q) (r := r)
    (t := u.entryTx e s.lnk.seq a q h r) he2 hne (by rw [hrfs]; exact hl.idle) (by rw [hlnk, hslate]; exact hl.latch)
    (Entry.chain_lt _) hl.read hl.slot (by rw [htxchain]; exact hl.setup) hl.type hl.sec
  simp only [hl.dispatch_eq he]
  refine ⟨⟨hkept.1.trans (hentry e2 he2 hne), hkept.2.trans (by rw [hlnk])⟩, hstate, ?_, by rw [hnext, hctr], by rw [hstats, hlnk], ?_⟩
  · rw [harms, hlnk]; exact ha
  · rw [htxs, hctr]

/-- A due entry whose chain cannot transmit. -/
theorem dispatch_of_refusing (he : e < 4096) (he2 : e2 < 4096) (hne : e2 ≠ e) (hdue : DispatchDue s e a q)
    (hfetch : recFetch (s.timed e a) q.dest = (u, .got r)) (hsusp : recSusp r = false)
    (hrefuse : u.chainRefuses (s.entry e).chain = true) :
    EntryEnded e e2 0x24 s u (dispatchEntry s e) ∧ (dispatchEntry s e).rfs = s.rfs := by
  obtain ⟨hlnk, hrfs, hslate, -, hentry⟩ := fetched_aside hfetch
  obtain ⟨hroute, hctrl⟩ := fields_timed he hfetch
  obtain ⟨hchain, -⟩ := Entry.fields_congr hroute hctrl
  rw [dispatchEntry_of_due hdue hfetch hsusp, entryCommit_of_refusing _ (by rw [hchain]; exact hrefuse)]
  exact ⟨entryEnded_freeEntry (by decide) hne hlnk hslate hroute (hentry e2 he2 hne), (rfs_freeEntry ..).trans hrfs⟩

theorem completes_scheduleArm {P : State → Prop} (hon : s.mainOn = true) (he : e = s.rf Reg.LNK_SIDX 11 0) (hP : P (armEntry s e).1) :
    Completes (.scheduleArm 1) s P :=
  ⟨_, exec_scheduleArm hon, he ▸ hP⟩

theorem completes_scheduleCancel {P : State → Prop} (hon : s.mainOn = true) (he : e = s.rf Reg.LNK_SIDX 11 0)
    (hP : P (cancelEntry s e).1) : Completes (.scheduleCancel 2) s P :=
  ⟨_, exec_scheduleCancel hon, he ▸ hP⟩

end

/-- Settles O33: an ARM is decided by its first failing check, and an entry that ends does so by `freeEntry`; the accesses before
it (a read of the table, the fetch of a record, the budget check) leave the schedule, and every other entry stays since no write
to another entry or to another memory touches its words. -/
theorem scheduleEntriesArmDispatchCancelAndExpire : Obligations.ScheduleEntriesArmDispatchCancelAndExpire := by
  unfold Obligations.ScheduleEntriesArmDispatchCancelAndExpire
  intro e e2 id q a r h b u v s hon hidx he2 hne
  have he : e < 4096 := hidx ▸ Nat.mod_lt _ (by decide)
  obtain ⟨hended, hregs, hrfs⟩ := entryEnded_of_read (s := s) he he2 hne
  refine ⟨fun harmed => completes_scheduleArm hon hidx ?_, fun hempty hbad => completes_scheduleArm hon hidx ?_,
    fun ha hbad hair hdue => ⟨_, exec_scheduleDispatch he s, ?_⟩, fun hfree hq => completes_scheduleArm hon hidx ?_,
    fun hfree hq hheld h1 hshort => completes_scheduleArm hon hidx ?_, fun hfree hq hheld h3 hone => completes_scheduleArm hon hidx ?_,
    fun hfree hq hheld hplain hlate => completes_scheduleArm hon hidx ?_,
    fun hfree hq hheld hplain hmet h64 => completes_scheduleArm hon hidx ?_, fun ha => completes_scheduleCancel hon hidx ?_,
    fun ha hbad hpast => ⟨_, exec_dispatchSlackExpiry he s, ?_⟩,
    fun hdue hfetch hsusp hrefuse => ⟨_, exec_scheduleDispatch he s, dispatch_of_refusing he he2 hne hdue hfetch hsusp hrefuse⟩, ?_⟩
  · rw [armEntry_of_armed harmed]
    exact schedRefused_refuses s (by decide)
  · rw [armEntry_of_bad hempty hbad]
    exact ⟨hended, hrfs⟩
  · rw [dispatchEntry_of_bad ha hbad hair hdue]
    exact ⟨hended, hrfs⟩
  · rw [armEntry_of_unqueued hfree hq]
    exact schedRefused_refuses s (by decide)
  · rw [armEntry_of_short hfree hq hheld h1 hshort]
    exact schedRefused_refuses s (by decide)
  · rw [armEntry_of_single hfree hq hheld h3 hone]
    exact schedRefused_refuses s (by decide)
  · have hlate : (s.rf Reg.LNK_SLACK 15 0 : Int) < s.armLate e := hlate
    rw [armEntry_of_plain hfree hq hheld hplain]
    exact armPlace_of_late hne hlate
  · have hmet : s.armLate e ≤ s.rf Reg.LNK_SLACK 15 0 := hmet
    rw [armEntry_of_plain hfree hq hheld hplain]
    obtain ⟨htable, hkept, harms, hentry⟩ := armPlace_of_met hne hmet
    obtain ⟨hstate, horigin, hroute, htime⟩ := placed_fields h64
    rw [← hentry] at hstate horigin hroute htime
    exact ⟨htable, hkept, harms, hstate, horigin, hroute, htime⟩
  · exact cancelEntry_of_armed hne ha.1 ha.2
  · rw [slackExpiry_of_due ha hbad hpast]
    exact ⟨hended, hregs, hrfs⟩
  · intro hdue hfetch hsusp hchain hplan hhold hleft hhead htype hsec _ hnow hconflict hid hbudget hread hslot hsetup hlatch hidle
    have htx := entryTx_of_downlink he hfetch hnow htype (h := h) s.lnk.seq
    have hl : Latchable s u v e a q r h b := ⟨hdue, hfetch, hsusp, hchain, hplan, hhold, hleft, hhead, htype, hsec, hnow,
      by rw [htx]; exact hconflict, by rw [htx]; exact hid ▸ hbudget, hread, hslot, hsetup, hlatch, hidle⟩
    obtain ⟨hkept, hstate, harms, hctr, hstats, htxs⟩ := hl.dispatches he he2 hne
    refine ⟨_, exec_scheduleDispatch he s, hkept, hstate, harms, ?_, ?_, hctr, hstats⟩
    · rw [htxs, htx, hid]; rfl
    · rw [htxs]; rfl

end Sys2Proof.Machine
